-- ==== Sys2Proof/Word.lean ====
section
/-!
DEFINITION. The word types of the block: a register word (R6: 32 bits), a byte of a memory or a frame (R7), and a time-base
count of 64 bits (R100).
-/
namespace Sys2Proof

/-- A 32-bit register or memory word (R6). -/
abbrev Word := BitVec 32

/-- One byte of a device memory, of the NOR or of a serial frame (R7). -/
abbrev Byte := BitVec 8

/-- A 64-bit count of 10 ns ticks (TB0, TB1, TB3; R100). -/
abbrev Tick := BitVec 64

end Sys2Proof
end

