-- ==== Sys2Proof/Syntax.lean ====
section
/-!
DEFINITION. The commands of the block: one constructor per row of the table of operations and events, with the operands the
event brings from outside (which instance it concerns, what a pin, a bus or a port carries, what a measurement reads).
-/
namespace Sys2Proof

/-- The three identifier formats a channel handles (R334, R345 FMT). -/
inductive CanFmt where
  | ext | base | xl
  deriving DecidableEq, Repr

/-- A CAN frame as the bus carries it (R334, R335). `id` is the 11-bit or 29-bit identifier, or the priority identifier of
an XL frame; `af` to `sec` are the XL fields; `rawDlc` is the DLC of a classical frame that carries one above 8 (R343). -/
structure CanFrame where
  fmt : CanFmt
  fdf : Bool := false
  brs : Bool := false
  esi : Bool := false
  rtr : Bool := false
  id : Nat
  af : Nat := 0
  sdt : Nat := 0
  vcid : Nat := 0
  sec : Bool := false
  rawDlc : Nat := 0
  data : List Byte
  deriving DecidableEq, Repr

/-- The parties that write (chapter 15): the HOST port, the SERVICE port, the NET requester at an address, and the runtime
(with the sequence interpreter and the initialisation list), which always writes and is never judged as a port. -/
inductive PortId where
  | host | service | net (addr : Nat) | runtime
  deriving DecidableEq, Repr

/-- What an error frame does to a channel's error counters under ISO 11898-1 (R357): a receiver's error (REC + 1), a dominant
bit after its flag or a bit error in the flag (REC + 8), a transmitter's error flag (TEC + 8), a bit error in a transmitter's
flag (TEC + 8), or one of the standard's exceptions (no change). -/
inductive CanErrRule where
  | rxError | rxAfterFlag | txFlag | txInFlag | exempt
  deriving DecidableEq, Repr

/-- How an attempt to send a frame failed (R353): the loop delay measured in it (R339), whether it lost arbitration, and whether it
ended in a bit error of the data or CRC field after arbitration was won (R359). -/
structure TxFail where
  meas : Option Nat
  arb : Bool
  data : Bool
  deriving DecidableEq, Repr

/-- What a start finds outside the part: BOOT_MODE[1:0] (R68), whether the REF_CLK check passes (R488), the NOR address of a read that
fails or times out, the first four identification bytes, log2 of the size and of the SFDP erase sector, and the interface clock in MHz
(SV_NVM_STAT), and whether the header writes of this start fail (R74). -/
structure StartPins where
  mode : Nat
  refOk : Bool
  norFail : Option Nat
  jedec : Word
  size : Nat
  sector : Nat
  mhz : Nat
  hdrFail : Bool
  deriving DecidableEq, Repr


/-- The commands, in the order of the table of operations and events. -/
inductive Instr where
  /-- POWER_ON (R49): VIO, V5 and VCORE become good with RST_N high, and the dies leave reset to begin a start. Operands: what the start finds. -/
  | powerOn (r : StartPins)
  /-- RAIL_BAD (R46): A rail stays below its falling threshold for its fall filter time and becomes bad, and the action in Table 02-2 is taken. Operands: the rail (0 VIN, 1 V5, 2 VIO, 3 VCORE, 4 VBAT) and its monitor in mV. -/
  | railBad (r : Nat) (mv : Nat)
  /-- RAIL_GOOD (R46): A rail stays above its rising threshold for its rise filter time and becomes good again. Operands: the rail, its monitor, and the lowest reading since it became bad, in mV. -/
  | railGood (r : Nat) (mv : Nat) (low : Nat)
  /-- RAIL_FAULT_HANDOVER (R48): A VIN or V5 RAIL_FAULT record is handed to the recorder when the rail becomes good again or 1 s after it became bad, carrying the lowest reading. Operands: the rail and its lowest reading in mV. -/
  | railFaultHandover (r : Nat) (low : Nat)
  /-- HIB_REQ (R54): An owner write of SV_PWR_CTRL with the key and HIB_REQ requests HIBERNATE, which is refused or entered through the steps of Table 02-5. Operands: the writing port. -/
  | hibReq (p : PortId)
  /-- WAKE_EDGE (R56): An enabled edge on WAKE0 or WAKE1, filtered for 1 ms, wakes the device or is latched during hibernate entry. Operands: the pin, and whether the edge rises. -/
  | wakeEdge (k : Nat) (rising : Bool)
  /-- RTC_ALARM (R56): TB2 seconds reach SV_PWR_ALARM with alarms enabled; the alarm fires once and clears its enable. -/
  | rtcAlarm
  /-- LATCHED_WAKE (R55): A wake source latched after step 1 of hibernate entry causes a wake 100 ms after step 5. -/
  | latchedWake
  /-- WAKE_RELEASE (R57): After a wake, once all rails are good, the island releases the dies from reset 10 ms later and a start proceeds. Operands: what the start finds. -/
  | wakeRelease (r : StartPins)
  /-- WAKE_RAIL_TIMEOUT (R57): The rails are not all good within 500 ms of a wake, so the island drives PWR_EN low and sets WAKE_SRC.RAIL_TO. -/
  | wakeRailTimeout
  /-- RESET_ASSERT (R496): RST_N stays low for 1 µs, starting a warm restart that holds the dies in reset and brings outputs to their reset states. -/
  | resetAssert
  /-- RESET_RELEASE (R89): RST_N is released, BOOT_MODE is sampled, and the start proceeds through the steps of Table 03-12. Operands: what the start finds. -/
  | resetRelease (r : StartPins)
  /-- INIT_END (R81): An END entry stops execution of the initialisation list. -/
  | initEnd
  /-- INIT_WRITE (R81): A WRITE entry performs a masked read-modify-write of one device word. -/
  | initWrite
  /-- INIT_FILL (R81): A FILL entry writes VALUE to ARG consecutive words from ADDR. -/
  | initFill
  /-- INIT_LOAD (R84): A LOAD entry copies a MEMORY section into device memory at ADDR. -/
  | initLoad
  /-- INIT_POLL (R81): A POLL entry waits until the masked word equals VALUE, re-reading throughout. -/
  | initPoll
  /-- INIT_POLL_TIMEOUT (R81): A POLL entry reaches its timeout, and the image is rejected with INIT_POLL. -/
  | initPollTimeout
  /-- INIT_BARRIER (R82): A BARRIER entry waits until every earlier write is acknowledged by its die. -/
  | initBarrier
  /-- INIT_DELAY (R81): A DELAY entry waits ARG µs. -/
  | initDelay
  /-- REFCLK_LOSS (R488): REF_CLK has no edge for 10 µs; every channel is taken off and the island starts a warm restart. -/
  | refclkLoss
  /-- REFCLK_CHECK (R488): A start waiting at step 2 with REFCLK_ABSENT repeats its REF_CLK check every 10 ms. Operands: whether the check passes. -/
  | refclkCheck (ok : Bool)
  /-- SAFE_REQ (R94): An owner write of SV_BOOT_CTRL.SAFE_REQ sets the SAFE cause OWNER. Operands: the writing port. -/
  | safeReq (p : PortId)
  /-- RESUME (R96): An owner write of SV_BOOT_CTRL.RESUME requests leaving SAFE, and is judged against the causes present. Operands: the writing port. -/
  | resume (p : PortId)
  /-- AUTO_RESUME (R96): Every cause has been absent for RESUME_DELAY seconds and all were marked in AUTO_MASK, so the device resumes automatically. -/
  | autoResume
  /-- RESTART (R98): An owner write of SV_BOOT_CTRL.RESTART schedules a warm restart. Operands: the writing port. -/
  | restart (p : PortId)
  /-- OWNER_RESTART_EXEC (R98): A warm restart is performed 10 ms after the owner's RESTART write was acknowledged. -/
  | ownerRestartExec
  /-- LOCKSTEP_FAULT (R94): The SV cores disagree; safe values are forced in hardware and the cause LOCKSTEP is set. Operands: the program counter that the event records. -/
  | lockstepFault (pc : Nat)
  /-- TIME_CHANGE_APPLY (R101): A rate-word change or hard step of TB1 takes effect on all dies at its announced TB0 tick. -/
  | timeChangeApply
  /-- PPS_EDGE (R110): A rising edge on PPS_IN is timestamped, accepted or rejected, and fed to the PPS servo. -/
  | ppsEdge
  /-- PPS_MISSING (R110): No PPS edge is accepted within 1 s plus 100 µs of the last, counting a missing measurement towards loss of lock. -/
  | ppsMissing
  /-- SYNC_SEND (R113): At each sync interval a master queues SYNC on each channel in MASTER_MASK. -/
  | syncSend
  /-- FOLLOW_UP_SEND (R113): Once SYNC is reported SENT, FOLLOW_UP carrying its SOF timestamp is queued. Operands: the channel whose SYNC was SENT. -/
  | followUpSend (n : Nat)
  /-- SYNC_RX (R114): A worker accepts a SYNC from its manager on UP_CH and keeps its SOF timestamp. Operands: channel, source address, payload, and the TB1 of the SOF. -/
  | syncRx (n : Nat) (src : Nat) (data : List Byte) (t2 : Tick)
  /-- FOLLOW_UP_RX (R114): A matching FOLLOW_UP completes a valid pair whose offset drives the NET servo and may correct TB2. Operands: channel, source address and payload. -/
  | followUpRx (n : Nat) (src : Nat) (data : List Byte)
  /-- NET_MISSING (R106): An expected synchronisation measurement is missing; after four, the source loses lock and TB1 enters holdover. -/
  | netMissing
  /-- SET_TB2 (R117): An owner write of SV_TIME_CTRL.SET_TB2 sets TB2 from SV_TIME_SET_S and SET_F, raising the era if backward. Operands: the writing port. -/
  | setTb2 (p : PortId)
  /-- RTC_FAIL (R121): The RTC crystal stops for more than 10 ms and the island sets RTC_FAIL. -/
  | rtcFail
  /-- TIME_LO_READ (R123): A read of a TB LO word or SV_TIME_TB2_S latches the matching HI word for the reading port. Operands: the reading port and the word read. -/
  | timeLoRead (p : PortId) (addr : Nat)
  /-- TB1_WRAP (R344): TB1 bit 31 wraps to 0 and sets TSW in every enabled channel's NW_CH_IR. -/
  | tb1Wrap
  /-- AIN_SAMPLE (R125): An analog input's sample instant begins a conversion. Operands: the analog input, 0 to 63. -/
  | ainSample (x : Nat)
  /-- AIN_DELIVERY (R126): At the delivery instant the conversion is checked for faults, formed into a value and written to its entry. Operands: the input, the measurement in the units of LP_AIN_RAW (RTD2: with its lead), whether the excitation is overloaded, whether the circuit is open. -/
  | ainDelivery (x : Nat) (meas : Int) (overload : Bool) (opened : Bool)
  /-- CJ_MEASURE (R133): The cold-junction sensor of a loop die is measured every 10 ms. Operands: the loop die 0 to 3 and the reading, Q16.16 degrees C. -/
  | cjMeasure (i : Nat) (w : Word)
  /-- PRB_SCAN (R136): A probe's sample instant starts a scan of reference and frequency measurements. Operands: the probe, 0 to 15. -/
  | prbScan (x : Nat)
  /-- PRB_DELIVERY (R143): A probe scan completes; the feature and calibrated moisture are formed, checked and written. Operands: the probe, its reference gain in Q16.16, whether the excitation limit was reached, whether the sense amplitude was too low, and B and G of each frequency as measured in uS, Q16.16. -/
  | prbDelivery (x : Nat) (ref : Int) (exc : Bool) (sense : Bool) (ys : List (Int × Int))
  /-- PLS_EDGE (R144): A pulse input edge is accepted after its filter time or rejected, and is timestamped in TB0. Operands: the pulse input, the direction, the TB0 tick of the crossing, whether the filter rejects it. -/
  | plsEdge (x : Nat) (rise : Bool) (t : Tick) (rejected : Bool)
  /-- PLS_SAMPLE (R146): At a pulse input's sample instant the count or rate is computed and published 50 µs later. Operands: the pulse input, 0 to 31. -/
  | plsSample (x : Nat)
  /-- CLR_ACC (R147): An owner write of LP_PLS_CTRL.CLR_ACC clears ACC of a COUNT-mode input. Operands: the writing port and the pulse input. -/
  | clrAcc (p : PortId) (x : Nat)
  /-- STR_POWER_UP (R162): A string port powers up at step 10 or when V5 recovers, and waits 100 ms. Operands: the string port, 0 to 7. -/
  | strPowerUp (x : Nat)
  /-- STR_POWERUP_WAIT_DONE (R162): The 100 ms power-up wait ends; the port sends a broadcast RESET_ADDR and marks every entry unassigned. Operands: the string port, and its line as measured (LP_STR_LINE). -/
  | strPowerupWaitDone (x : Nat) (line : Word)
  /-- STR_SCAN_START (R163): At a port's sample instant the port starts a scan with CONVERT. Operands: the string port, and its line as measured. -/
  | strScanStart (x : Nat) (line : Word)
  /-- STR_READ_SLOT (R163): A scan slot starts a READ of its entry, or a retry in a spare slot. Operands: the string port. -/
  | strReadSlot (x : Nat)
  /-- STR_REPLY (R164): A reply frame is received and judged for SYNC, address, CRC and flags. Operands: the string port, the bytes received from SYNC to CRC, and whether a framing error ended the frame. -/
  | strReply (x : Nat) (bytes : List Byte) (framing : Bool)
  /-- STR_REPLY_TIMEOUT (R164): No reply starts within 6 bit times, recording NO_REPLY. Operands: the string port. -/
  | strReplyTimeout (x : Nat)
  /-- STR_DELIVERY (R164): At the scan's delivery instant the successful values are written and missing entries counted. Operands: the string port. -/
  | strDelivery (x : Nat)
  /-- STR_READ (R164): The READ command asks one node for its VALUE and SFLAGS. Operands: the string port. -/
  | strRead (x : Nat)
  /-- STR_CONVERT (R156): The broadcast CONVERT command makes every sensor start a conversion. Operands: the string port. -/
  | strConvert (x : Nat)
  /-- STR_SEARCH (R158): The broadcast SEARCH command asks matching unaddressed sensors for a presence pulse. Operands: the string port, and whether a sensor shows presence. -/
  | strSearch (x : Nat) (present : Bool)
  /-- STR_ASSIGN (R160): The ASSIGN command gives a sensor with a given ID a node address and confirms it by reply. Operands: the string port. -/
  | strAssign (x : Nat)
  /-- STR_RESET_ADDR (R156): The RESET_ADDR command makes one node, or every node, unaddressed. Operands: the string port. -/
  | strResetAddr (x : Nat)
  /-- STR_PARK (R160): The PARK command stops an unknown sensor from answering SEARCH. Operands: the string port. -/
  | strPark (x : Nat)
  /-- STR_ENUM_PASS (R161): An enumeration pass begins when an entry is unassigned and ENUM_S seconds have passed. Operands: the string port. -/
  | strEnumPass (x : Nat)
  /-- STR_OVERCURRENT (R168): Line current sits at the 150 mA limit for more than 1 ms and the port switches the line off. Operands: the string port, and its line as measured. -/
  | strOvercurrent (x : Nat) (line : Word)
  /-- STR_OC_RETRY (R168): 10 s after an OVERCURRENT the port powers up again. Operands: the string port. -/
  | strOcRetry (x : Nat)
  /-- STR_LOW_LINE (R168): The SPACE level is below 11.0 V for more than 10 ms and the port takes LOW_LINE. Operands: the string port, and its line as measured. -/
  | strLowLine (x : Nat) (line : Word)
  /-- STR_BUS_NOISE (R168): Current over baseline outside any window for 2 bit times counts towards BUS_NOISE. Operands: the string port, and its line as measured. -/
  | strBusNoise (x : Nat) (line : Word)
  /-- REENUM (R161): A write of LP_STR_CTRL.REENUM resets all addresses in the next gap and starts a pass. Operands: the writing port and the string port. -/
  | reenum (p : PortId) (x : Nat)
  /-- STR_NODE_ID_WRITE (R169): A write of both NODE_ID words changes an entry's ID and schedules a RESET_ADDR to that node. Operands: the writing port, the string port, the entry and both words. -/
  | strNodeIdWrite (p : PortId) (x : Nat) (k : Nat) (lo : Word) (hi : Word)
  /-- TRK_LATCH (R176): At a column's sample instant its signals and pulse edges are latched and its update is computed. Operands: the column, 0 to 15. -/
  | trkLatch (c : Nat)
  /-- TRK_UPDATE_DONE (R178): A column's update work completes and its slack is recorded. Operands: the column. -/
  | trkUpdateDone (c : Nat)
  /-- TRK_COMMIT (R176): At a column's commit instant its barges, biases and predictions are committed. Operands: the column. -/
  | trkCommit (c : Nat)
  /-- PRESET (R204): LP_TRK_CTRL.PRESET makes every barge a new level at the next sample instant. Operands: the writing port and the column. -/
  | trkPreset (p : PortId) (c : Nat)
  /-- CLEAR (R204): LP_TRK_CTRL.CLEAR invalidates every barge at the next sample instant. Operands: the writing port and the column. -/
  | trkClear (p : PortId) (c : Nat)
  /-- CLR_BIAS (R204): LP_TRK_CTRL.CLR_BIAS sets every pound bias to 0 at the next sample instant. Operands: the writing port and the column. -/
  | trkClrBias (p : PortId) (c : Nat)
  /-- BARGE_READ (R175): A port's read of a barge's w0 latches w1 to w7 of that barge for the port. Operands: the reading port, the loop die 0 to 3 and the barge slot 0 to 511. -/
  | bargeRead (p : PortId) (i : Nat) (n : Nat)
  /-- LOOP_LATCH (R236): At a loop's sample instant its inputs are latched, supervision and the pending request are judged, and its period becomes pending. Operands: the loop, 0 to 255. -/
  | loopLatch (g : Nat)
  /-- LOOP_PERIOD_COMPLETE (R218): A loop period finishes its charged steps and its slack is recorded. Operands: the loop. -/
  | loopPeriodComplete (g : Nat)
  /-- LOOP_COMMIT (R213): At a loop's commit instant its pending outputs, state, learning, region and flags take effect, with balancing and limiting. Operands: the loop, and the charged steps outside the program done when its period did not complete. -/
  | loopCommit (g : Nat) (extra : Nat)
  /-- STEP_NOP (R212): NOP does nothing. Operands: the loop, 0 to 255. -/
  | stepNop (g : Nat)
  /-- STEP_LDI (R212): LDI loads a latched input into a register. Operands: the loop, 0 to 255. -/
  | stepLdi (g : Nat)
  /-- STEP_LDK (R212): LDK loads a 32-bit constant. Operands: the loop, 0 to 255. -/
  | stepLdk (g : Nat)
  /-- STEP_LDZ (R212): LDZ loads a committed state word. Operands: the loop, 0 to 255. -/
  | stepLdz (g : Nat)
  /-- STEP_STZ (R212): STZ writes a pending state word. Operands: the loop, 0 to 255. -/
  | stepStz (g : Nat)
  /-- STEP_LDC (R212): LDC loads a coefficient value word. Operands: the loop, 0 to 255. -/
  | stepLdc (g : Nat)
  /-- STEP_OUT (R212): OUT writes a pending output. Operands: the loop, 0 to 255. -/
  | stepOut (g : Nat)
  /-- STEP_LDF (R212): LDF loads a loop status word. Operands: the loop, 0 to 255. -/
  | stepLdf (g : Nat)
  /-- STEP_ADD (R212): ADD forms a saturating sum. Operands: the loop, 0 to 255. -/
  | stepAdd (g : Nat)
  /-- STEP_SUB (R212): SUB forms a saturating difference. Operands: the loop, 0 to 255. -/
  | stepSub (g : Nat)
  /-- STEP_MULC (R212): MULC multiplies by a coefficient with its shift. Operands: the loop, 0 to 255. -/
  | stepMulc (g : Nat)
  /-- STEP_MUL (R212): MUL forms the Q16.16 product of two registers. Operands: the loop, 0 to 255. -/
  | stepMul (g : Nat)
  /-- STEP_DIV (R212): DIV forms a rounded Q16.16 quotient, saturating on division by zero. Operands: the loop, 0 to 255. -/
  | stepDiv (g : Nat)
  /-- STEP_ABS (R212): ABS forms a saturating absolute value. Operands: the loop, 0 to 255. -/
  | stepAbs (g : Nat)
  /-- STEP_NEG (R212): NEG forms a saturating negation. Operands: the loop, 0 to 255. -/
  | stepNeg (g : Nat)
  /-- STEP_MIN (R212): MIN takes the smaller operand. Operands: the loop, 0 to 255. -/
  | stepMin (g : Nat)
  /-- STEP_MAX (R212): MAX takes the larger operand. Operands: the loop, 0 to 255. -/
  | stepMax (g : Nat)
  /-- STEP_CLAMP (R212): CLAMP limits an operand between two registers. Operands: the loop, 0 to 255. -/
  | stepClamp (g : Nat)
  /-- STEP_SEL (R212): SEL selects one of two registers on a condition. Operands: the loop, 0 to 255. -/
  | stepSel (g : Nat)
  /-- STEP_CMP (R212): CMP yields 1.0 or 0 from a comparison. Operands: the loop, 0 to 255. -/
  | stepCmp (g : Nat)
  /-- STEP_PWL (R212): PWL evaluates a piecewise-linear function of 2 to 16 points. Operands: the loop, 0 to 255. -/
  | stepPwl (g : Nat)
  /-- STEP_INTEG (R248): INTEG integrates with limits, under the native or 5200 rule, as PLAIN or BAL. Operands: the loop, 0 to 255. -/
  | stepInteg (g : Nat)
  /-- STEP_LAG (R212): LAG updates a first-order lag. Operands: the loop, 0 to 255. -/
  | stepLag (g : Nat)
  /-- STEP_RATE (R212): RATE applies a rate limit to a ramp state. Operands: the loop, 0 to 255. -/
  | stepRate (g : Nat)
  /-- STEP_DIFF (R212): DIFF forms a first difference. Operands: the loop, 0 to 255. -/
  | stepDiff (g : Nat)
  /-- STEP_HYST (R246): HYST steps a multi-level hysteretic switch once its dwell is served. Operands: the loop, 0 to 255. -/
  | stepHyst (g : Nat)
  /-- STEP_REGION (R250): REGION selects the pending operating region with hysteresis. Operands: the loop, 0 to 255. -/
  | stepRegion (g : Nat)
  /-- STEP_REP (R252): REP outputs and updates a repetitive learning word. Operands: the loop, 0 to 255. -/
  | stepRep (g : Nat)
  /-- STEP_TIMER (R260): TIMER counts seconds while its condition holds and may make a following-error alarm due. Operands: the loop, 0 to 255. -/
  | stepTimer (g : Nat)
  /-- MODE_REQ_MANUAL (R235): A MANUAL request to LP_LOOP_MODE_REQ acts at the loop's next latch. Operands: the writing port and the loop. -/
  | modeReqManual (p : PortId) (g : Nat)
  /-- MODE_REQ_AUTO (R235): An AUTO request to LP_LOOP_MODE_REQ is judged at the loop's next latch. Operands: the writing port and the loop. -/
  | modeReqAuto (p : PortId) (g : Nat)
  /-- MODE_REQ_REARM (R235): A REARM request to LP_LOOP_MODE_REQ leaves HOLD at the loop's next latch if no input is stale. Operands: the writing port and the loop. -/
  | modeReqRearm (p : PortId) (g : Nat)
  /-- COEF_WRITE (R231): An owner write of coefficient memory goes to the staged copy. Operands: the writing port, the address and the word. -/
  | coefWrite (p : PortId) (addr : Nat) (w : Word)
  /-- COEF_APPLY (R231): LP_ENG_CTRL.COEF_APPLY makes the staged coefficients live at each loop's next latch. Operands: the writing port and the loop die LPi, 0 to 3. -/
  | coefApply (p : PortId) (i : Nat)
  /-- SIGNAL_ENTRY_READ (R221): A port's read of a signal entry's w0 latches w1 and w2 for that port. Operands: the reading port, the die and the entry. -/
  | signalEntryRead (p : PortId) (d : Nat) (e : Nat)
  /-- LOOP_Z_READ (R213): A port's read of LP_LOOP_Z Z0 latches Z1 to Z15 for that port. Operands: the reading port and the loop. -/
  | loopZRead (p : PortId) (g : Nat)
  /-- EXPORT_APPLY (R222): A value exported from one die is applied in the importing entry one producer period after it was written. Operands: destination die and entry; the lateness in ticks when it arrives late. -/
  | exportApply (d : Nat) (e : Nat) (late : Option Nat)
  /-- SYSSIG_SAMPLE (R223): On the 10 ms grid the SV die samples every system signal that a loop die imports. -/
  | syssigSample
  /-- SYSSIG_IMPORT_APPLY (R223): A sampled system signal is applied in its importing entry 10 ms after the grid instant. Operands: destination die and entry; the lateness in ticks when it arrives late. -/
  | syssigImportApply (d : Nat) (e : Nat) (late : Option Nat)
  /-- DRIVE_ACTUATION (R34): At commit plus 20 µs a drive die applies a loop output to its bound valve or motion channel. Operands: whether a motion channel, the channel, and the 10 ns ticks by which the output edge came late where it did. -/
  | driveActuation (mot : Bool) (x : Nat) (late : Option Nat)
  /-- SEQ_EVALUATE (R267): At an evaluation instant a sequence latches signals, updates term counts and chooses at most one transition. Operands: the sequence, and the margin measured in µs. -/
  | seqEvaluate (n : Nat) (slack : Nat)
  /-- SEQ_TRANSITION (R270): At the transition instant the chosen transition's actions run, the target state is entered and its entry actions run. Operands: the sequence, with which those of every sequence are made (log entry 35), and whether the evaluations' work is late. -/
  | seqTransition (n : Nat) (late : Bool)
  /-- WRITE_SIG (R266): A WRITE_SIG action writes VALUE to a SEQUENCE or HOST_PARAM entry. Operands: the sequence and the action record. -/
  | writeSig (n : Nat) (a : Nat)
  /-- COPY_SIG (R266): A COPY_SIG action writes a latched system signal into an entry. Operands: the sequence and the action record. -/
  | copySig (n : Nat) (a : Nat)
  /-- LOOP_REQ (R266): A LOOP_REQ action makes a mode request to a loop. Operands: the sequence and the action record. -/
  | loopReq (n : Nat) (a : Nat)
  /-- LOOP_MANVAL (R266): A LOOP_MANVAL action writes a loop's MANVAL. Operands: the sequence and the action record. -/
  | loopManval (n : Nat) (a : Nat)
  /-- CHAN (R274): A CHAN action sets the sequence enable of a valve or motion channel. Operands: the sequence and the action record. -/
  | seqChan (n : Nat) (a : Nat)
  /-- TRK_CMD (R266): A TRK_CMD action issues PRESET, CLEAR or CLR_BIAS to a column. Operands: the sequence and the action record. -/
  | trkCmd (n : Nat) (a : Nat)
  /-- PLS_CLR (R266): A PLS_CLR action clears ACC of a COUNT-mode pulse input. Operands: the sequence and the action record. -/
  | plsClr (n : Nat) (a : Nat)
  /-- SEQ_ACT_SAFE (R276): A SAFE action sets the cause SEQUENCE, optionally with a resume term. Operands: the sequence and the action record. -/
  | seqActSafe (n : Nat) (a : Nat)
  /-- SEQ_ACT_HIBERNATE (R266): A HIBERNATE action requests hibernate under R54. Operands: the sequence and the action record. -/
  | seqActHibernate (n : Nat) (a : Nat)
  /-- SEQ_ACT_LOG (R266): A LOG action logs SEQ_MARK with VALUE. Operands: the sequence and the action record. -/
  | seqActLog (n : Nat) (a : Nat)
  /-- SEQ_CTL (R266): A SEQ_CTL action stops another sequence now or starts it at its next transition instant. Operands: the sequence and the action record. -/
  | seqCtl (n : Nat) (a : Nat)
  /-- SEQ_START (R277): SV_SEQ_CMD.START restarts a sequence at INIT at its next transition instant. Operands: the writing port and the sequence. -/
  | seqStart (p : PortId) (n : Nat)
  /-- SEQ_GOTO (R277): SV_SEQ_CMD.GOTO enters a named state at the sequence's next transition instant. Operands: the writing port, the sequence and the state. -/
  | seqGoto (p : PortId) (n : Nat) (st : Nat)
  /-- SEQ_STOP (R277): SV_SEQ_CMD.STOP stops a sequence at the acknowledgement. Operands: the writing port and the sequence. -/
  | seqStop (p : PortId) (n : Nat)
  /-- UC_END (R287): The END word recovers the coil current and ends the profile. Operands: the valve channel. -/
  | ucEnd (x : Nat)
  /-- UC_RISE (R287): The RISE word drives the coil from its source until the current reaches I. Operands: the valve channel. -/
  | ucRise (x : Nat)
  /-- UC_REG (R287): The REG word regulates current in a band for T µs or until OFF. Operands: the valve channel. -/
  | ucReg (x : Nat)
  /-- UC_RECOV (R287): The RECOV word recovers coil energy until the current falls to I. Operands: the valve channel. -/
  | ucRecov (x : Nat)
  /-- UC_JMP (R287): The JMP word continues at another microcode word. Operands: the valve channel. -/
  | ucJmp (x : Nat)
  /-- COIL_CURRENT_CROSSING (R288): The coil current crosses a word's threshold, changing path or advancing the word. Operands: the valve channel, and its coil current in 0.1 mA as measured. -/
  | coilCurrentCrossing (x : Nat) (i : Nat)
  /-- VALVE_WORD_TIMEOUT (R287): A RISE, RECOV or END word reaches its T before its current condition, faulting the channel. Operands: the valve channel. -/
  | valveWordTimeout (x : Nat)
  /-- VALVE_OVERCURRENT (R286): Channel current stays above IMAX for 2 µs and the channel faults into LOCKOUT. Operands: the valve channel, and the coil current as measured. -/
  | valveOvercurrent (x : Nat) (i : Nat)
  /-- BANK_GRANT (R302): A deferred boost claim or start is granted when the bank can grant it. Operands: the valve bank. -/
  | bankGrant (b : Nat)
  /-- DEFER_TIMEOUT (R302): A deferral reaches DEFER_MAX and the request is aborted with DEFER_TO. Operands: the valve channel. -/
  | deferTimeout (x : Nat)
  /-- BOOST_RECHARGE (R294): VCAP falls below VSET minus 1 V and the converter starts switching. Operands: the converter 0 to 3, and VCAP in millivolts. -/
  | boostRecharge (k : Nat) (mv : Nat)
  /-- BOOST_RECHARGE_DONE (R299): VCAP reaches VSET, switching stops and the recharge duration and ESR estimate are updated. Operands: the converter 0 to 3, VCAP in millivolts, its rise, and the mean current of the recharge. -/
  | boostRechargeDone (k : Nat) (mv : Nat) (dv : Nat) (ma : Nat)
  /-- BOOST_ABS (R296): VCAP rises above 80.0 V, so no boost claim is granted and BOOST_FAULT is logged. Operands: the converter 0 to 3, and VCAP in millivolts. -/
  | boostAbs (k : Nat) (mv : Nat)
  /-- BOOST_NO_CHARGE (R296): The converter switches for 100 ms without reaching VMIN and stops. Operands: the converter 0 to 3, and VCAP in millivolts. -/
  | boostNoCharge (k : Nat) (mv : Nat)
  /-- COIL_THERMAL_UPDATE (R306): Every 10 ms the two-node coil model updates and derating or overtemperature is judged. Operands: the valve channel, its current, its mean square, and the energies drawn and recovered. -/
  | coilThermalUpdate (x : Nat) (ma : Nat) (i2 : Int) (drawn : Nat) (recov : Nat)
  /-- RMEAS_WINDOW (R293): A 100 ms window of valid hold yields a coil resistance measurement. Operands: the valve channel, the window means of duty, VIN and current, and whether VIN stayed in range. -/
  | rmeasWindow (x : Nat) (d : Int) (vin : Int) (i : Int) (vinOk : Bool)
  /-- ILK_OPEN (R310): An interlock input has been low for 5 µs; its group's channels are forced and gates taken off. Operands: the interlock group. -/
  | ilkOpen (b : Nat)
  /-- ILK_CLOSED (R311): An interlock input closes and ILK_CLOSED is logged, re-enabling nothing. Operands: the interlock group. -/
  | ilkClosed (b : Nat)
  /-- DRIVE_ITEM_PUBLISH (R312): On the 10 ms grid a drive die publishes its channel and converter items. Operands: the drive die. -/
  | driveItemPublish (k : Nat)
  /-- KICK_TIMEOUT (R318): KICK_MS expires before KICK_RPM is reached, and the channel stalls with KICK_TO. Operands: the motion channel. -/
  | kickTimeout (x : Nat)
  /-- TACH_EDGE (R319): A tach edge is accepted and timestamped. Operands: the motion channel, and the time of the edge. -/
  | tachEdge (x : Nat) (t : Tick)
  /-- TACH_SPEED_UPDATE (R319): At each 10 ms instant the speed is formed and kick or tach-loss recovery is judged. Operands: the motion channel, and its mean current. -/
  | tachSpeedUpdate (x : Nat) (ma : Nat)
  /-- MOT_STALL (R324): A SLOW or LOCKED condition lasts STALL_MS, so the channel stalls and enters RETRY_WAIT or FAILED. Operands: the motion channel. -/
  | motStall (x : Nat)
  /-- TACH_TIMEOUT (R325): No tach edge for TACH_TO in RUN, so the loss is classified as a stall or TACH_LOST. Operands: the motion channel, and its mean current. -/
  | tachTimeout (x : Nat) (ma : Nat)
  /-- RETRY_KICK (R327): A retry wait ends and a new kick starts. Operands: the motion channel. -/
  | retryKick (x : Nat)
  /-- RETRY_COUNT_CLEAR (R327): 600 s of continuous RUN clear the retry counter. Operands: the motion channel. -/
  | retryCountClear (x : Nat)
  /-- MOT_RESET (R328): An owner write of DR_MOT_CTRL.RESET takes a FAILED channel to IDLE. Operands: the writing port and the motion channel. -/
  | motReset (p : PortId) (x : Nat)
  /-- CAN_FRAME_RX (R345): A received frame is checked for clash, filtered and acted on by its matching element. Operands: channel, frame, TB1 of its SOF, and whether the result of an ACCESS request in it takes too long. -/
  | canFrameRx (n : Nat) (f : CanFrame) (sof : Tick) (slow : Bool)
  /-- CAN_PROTOCOL_EXC (R336): A bit announcing an unaccepted format triggers a protocol exception event or form error. Operands: channel, identifier as far as received. -/
  | canProtocolExc (n : Nat) (id : Nat)
  /-- CAN_TX_COMPLETE (R352): A transmitted frame completes and its buffer gains its outcome. Operands: channel, buffer (32 the XL TX buffer), TB1 of the SOF, loop delay measured. -/
  | canTxComplete (n : Nat) (b : Nat) (sof : Tick) (meas : Option Nat)
  /-- CAN_TX_ATTEMPT_FAIL (R353): An attempt loses arbitration or ends in an error frame, so it is retried, aborted or cancelled. Operands: channel, buffer (32 the XL TX buffer), TB1 of the SOF, how it ended. -/
  | canTxAttemptFail (n : Nat) (b : Nat) (sof : Tick) (how : TxFail)
  /-- CAN_ERROR_FRAME (R357): An error frame is seen and TEC or REC change under ISO rules, possibly changing error state. Operands: channel, last error code, and the counter rule that applies. -/
  | canErrorFrame (n : Nat) (lec : Nat) (rules : List CanErrRule)
  /-- CAN_RECOVERY_DONE (R358): Bus-off recovery completes after 128 recessive sequences and pending buffers are offered again. Operands: the channel. -/
  | canRecoveryDone (n : Nat)
  /-- RECOVER (R358): NW_CH_CTRL.RECOVER starts bus-off recovery. Operands: the writing port or the runtime, and the channel. -/
  | canRecover (p : PortId) (n : Nat)
  /-- RD_RESTART (R341): NW_CH_CTRL.RD_RESTART restarts rate detection at candidate 0. Operands: the writing port and the channel. -/
  | rdRestart (p : PortId) (n : Nat)
  /-- RATE_DWELL_TIMEOUT (R341): A rate candidate's DWELL_MS expires and the channel moves to the next candidate. Operands: the channel. -/
  | rateDwellTimeout (n : Nat)
  /-- TXREQ (R353): The owner sets a bit of NW_CH_TXREQ to request a port TX buffer. Operands: the writing port, channel, bits written. -/
  | txreq (p : PortId) (n : Nat) (mask : Nat)
  /-- TXCAN (R355): A write to NW_CH_TXCAN cancels a buffer, or leaves the cancel pending past the lock point. Operands: the writing port, channel, bits written, buffers at or past their lock point. -/
  | txcan (p : PortId) (n : Nat) (mask : Nat) (locked : Nat)
  /-- LAUNCH_INSTANT (R354): TB1 reaches a buffer's LAUNCH and the buffer becomes eligible. Operands: channel and buffer. -/
  | launchInstant (n : Nat) (b : Nat)
  /-- Q_REL (R347): A write of NW_CH_Q0_REL or Q1_REL releases the oldest unacknowledged FIFO slots. Operands: the writing port or the runtime, channel, FIFO, slots. -/
  | qRel (p : PortId) (n : Nat) (q : Nat) (count : Nat)
  /-- C0S_RELEASE (R347): Writing 1 to NEW bits of NW_CH_C0S frees class-0 buffer slots. Operands: the writing port or the runtime, channel, bits written. -/
  | c0sRelease (p : PortId) (n : Nat) (mask : Nat)
  /-- XL_RX_RELEASE (R350): Writing 1 to NW_CH_XLS.RX_FULL frees the XL RX buffer. Operands: the writing port or the runtime, channel. -/
  | xlRxRelease (p : PortId) (n : Nat)
  /-- IMPORT_APPLY (R361): An on-time imported value is applied at its visibility instant. Operands: destination die and entry. -/
  | importApply (d : Nat) (e : Nat)
  /-- JOIN_START (R368): A join begins at step 11, on a clash, or on an owner REJOIN. -/
  | joinStart
  /-- JOIN_RETRY (R370): An attempt has no JOIN_ACK within 100 ms and the next JOIN_REQ is sent after its back-off. -/
  | joinRetry
  /-- JOIN_REQ_RX (R371): A manager receives a JOIN_REQ and answers with a grant or refusal in JOIN_ACK. Operands: arrival channel and payload. -/
  | joinReqRx (n : Nat) (data : List Byte)
  /-- JOIN_ACK_RX (R372): A joining device receives a JOIN_ACK with its SERIAL and takes its address or keeps retrying. Operands: arrival channel, the manager's address, payload. -/
  | joinAckRx (n : Nat) (src : Nat) (data : List Byte)
  /-- REJOIN (R368): NW_HIER_CTRL.REJOIN starts a join. Operands: the writing port. -/
  | hierRejoin (p : PortId)
  /-- FREE (R371): NW_HIER_CTRL.FREE removes the selected binding. Operands: the writing port. -/
  | hierFree (p : PortId)
  /-- HIER_ADDR_WRITE (R373): An owner write of NW_HIER_ADDR sets the address and clears CLASH. Operands: the writing port and the word. -/
  | hierAddrWrite (p : PortId) (w : Word)
  /-- CENSUS_SEND (R374): At its census instant a device sends CENSUS on UP_CH. -/
  | censusSend
  /-- CENSUS_RX (R375): A CENSUS from a downstream source updates the branch counts. Operands: arrival channel, source address, payload. -/
  | censusRx (n : Nat) (src : Nat) (data : List Byte)
  /-- CENSUS_LOST (R375): A census source is silent for 25 s and leaves the branch sum. -/
  | censusLost
  /-- PROXY_DATA_RX (R376): A manager receives PROXY_DATA matching an ACTIVE entry and re-sends it under the original identifier. Operands: arrival channel and payload. -/
  | proxyDataRx (n : Nat) (data : List Byte)
  /-- PROXY_TIMEOUT (R377): 10 s pass after the last PROXY_DATA and the proxy entry ends. -/
  | proxyTimeout
  /-- BRIDGE_FORWARD (R382): When a TX buffer frees, the bridge takes the next queued frame by class and deficit round robin. Operands: the output channel. -/
  | bridgeForward (o : Nat)
  /-- READ (R390): A READ transaction is judged all-or-nothing and returns data, WAIT or an error status. Operands: port, CMD (0x01, or a value that Table 15-2 does not define), TAG, ADDR, COUNT, whether the CRC is right, and whether the result is not known in time. -/
  | read (p : PortId) (cmd : Nat) (tag : Nat) (addr : Nat) (count : Nat) (crcOk : Bool) (slow : Bool)
  /-- WRITE (R390): A WRITE transaction is judged all-or-nothing and its words are performed in ascending order. Operands: port, TAG, ADDR, DATA (COUNT is its length), whether the CRC is right, and whether the result is not known in time. -/
  | write (p : PortId) (tag : Nat) (addr : Nat) (data : List Word) (crcOk : Bool) (slow : Bool)
  /-- POLL (R392): A POLL fetches the result of the port's pending or held transaction with its TAG. Operands: port, TAG, ADDR, COUNT, and whether the CRC is right. -/
  | poll (p : PortId) (tag : Nat) (addr : Nat) (count : Nat) (crcOk : Bool)
  /-- FRAME_ENDED_EARLY (R389): A request frame ends early and is only counted, with no response. Operands: the port. -/
  | frameEndedEarly (p : PortId)
  /-- TRANSACTION_COMPLETE (R392): A transaction answered with WAIT completes and its result is held for POLL. Operands: the port. -/
  | transactionComplete (p : PortId)
  /-- RESULT_DISCARD (R392): A held result not fetched within 1 s is discarded. -/
  | resultDiscard
  /-- SV_OWN_CLAIM (R399): A claim write is judged against Table 15-4 and grants or refuses ownership. Operands: the claimant and the word. -/
  | svOwnClaim (p : PortId) (w : Word)
  /-- SV_OWN_TKO (R400): A write of SV_OWN_TKO stages the takeover code for the writing port. Operands: the writing port and the code. -/
  | svOwnTko (p : PortId) (w : Word)
  /-- SV_OWN_REL (R402): The owner releases ownership, optionally reserving it for another claimant for 2 s. Operands: the writing port and the word. -/
  | svOwnRel (p : PortId) (w : Word)
  /-- LEASE_EXPIRY (R401): 10 s pass without renewal and ownership ends with cause EXPIRED. -/
  | leaseExpiry
  /-- RESERVATION_LAPSE (R402): A handover reservation lapses after 2 s. -/
  | reservationLapse
  /-- EVENT_RAISED (R412): An event reaches the recorder and is numbered and placed in the drawer, coalesced or dropped. -/
  | eventRaised
  /-- RUN_CLOSE (R421): A REPEAT run's window passes without another occurrence and a RUN record is written. -/
  | runClose
  /-- RECORD_PROGRAM_DONE (R417): A pending record's NOR program completes and the next pending record is programmed. -/
  | recordProgramDone
  /-- LOG_MEDIA_FAIL (R423): A log program or erase fails or times out; the sector is marked bad and the log becomes DEGRADED. Operands: whether the failed operation is an erase, and whether it timed out. -/
  | logMediaFail (erase : Bool) (timeout : Bool)
  /-- LOG_RETRY (R424): Every 60 s while DEGRADED the recorder erases the next good sector and programs the oldest pending record. Operands: 0 success, 1 a failed erase, 2 a failed program; whether it timed out. -/
  | logRetry (fail : Nat) (timeout : Bool)
  /-- LOG_WINDOW_READ (R426): A read of w0 of a log slot latches w1 to w7 for the reading port. Operands: the reading port, whether the drawer, and the slot. -/
  | logWindowRead (p : PortId) (drawer : Bool) (k : Nat)
  /-- SNAPSHOT_READ (R427): A read of SV_LOG_SNAP_TAIL_SEQ latches a snapshot of tail, slot and head for the port. Operands: the reading port. -/
  | snapshotRead (p : PortId)
  /-- UPLOAD_START (R428): SV_LOG_UPL_CTRL.START begins a bulk log upload. Operands: the writing port and DEST. -/
  | uploadStart (p : PortId) (dest : Nat)
  /-- UPLOAD_ABORT (R428): SV_LOG_UPL_CTRL.ABORT ends an upload as ABORTED. Operands: the writing port. -/
  | uploadAbort (p : PortId)
  /-- UPLOAD_FRAME (R428): Every 50 ms an upload sends its next CAN XL frame of records. -/
  | uploadFrame
  /-- XL_RELAY (R428): A manager's runtime relays an upload or update frame for another address. Operands: the frame. -/
  | xlRelay (f : CanFrame)
  /-- LOG_CLEAR (R432): An authorised SV_LOG_CLR moves the tail, writes LOG_CLEAR and starts a background erase. Operands: the writing port. -/
  | logClear (p : PortId)
  /-- LOG_CLEAR_ERASE_DONE (R433): The background erase of a clear completes and ERASING returns to 0. -/
  | logClearEraseDone
  /-- BEGIN (R441): SV_UPD_CTRL.BEGIN opens an update session and marks the target slot EMPTY. Operands: the writing port. -/
  | updBegin (p : PortId)
  /-- CHUNK (R442): A write of SV_UPD_CHUNK places a chunk of package bytes in the slot. Operands: the writing port and the byte count. -/
  | updChunk (p : PortId) (n : Nat)
  /-- CHUNK_PROGRAM_DONE (R442): A chunk's program completes and held DATA or CHUNK writes proceed. Operands: the NOR address of a failed program. -/
  | chunkProgramDone (fail : Option Nat)
  /-- UPDATE_FRAME_RX (R443): A CAN XL update frame with the session source and matching OFFSET is written to the slot. Operands: the source address and the payload. -/
  | updateFrameRx (src : Nat) (data : List Byte)
  /-- ABORT (R444): SV_UPD_CTRL.ABORT ends the session as ABORTED with the target EMPTY. Operands: the writing port. -/
  | updAbort (p : PortId)
  /-- SESSION_IDLE_TIMEOUT (R444): 600 s pass with no accepted chunk or frame and the session is aborted. -/
  | sessionIdleTimeout
  /-- VERIFY_DONE (R444): Read-back verification of the slot ends in READY or REJECTED. -/
  | verifyDone
  /-- ACTIVATE (R445): SV_UPD_CTRL.ACTIVATE is judged against the guards and, if accepted, marks the slot TRIAL_PENDING. Operands: the writing port, and VIN in mV at the acknowledgement. -/
  | updActivate (p : PortId) (mv : Nat)
  /-- ACTIVATION_RESTART (R446): A warm restart is performed 10 ms after the activation header write completes. -/
  | activationRestart
  /-- CONFIRM (R450): SV_UPD_CTRL.CONFIRM confirms the trial slot and promotes the shadow journal. Operands: the writing port. -/
  | updConfirm (p : PortId)
  /-- TRIAL_TIMER_EXPIRY (R450): TSEC reaches CONFIRM_S, confirming the trial if AUTO is 1 or failing it with TIMEOUT otherwise. -/
  | trialTimerExpiry
  /-- REJECT_TRIAL (R451): SV_UPD_CTRL.REJECT_TRIAL fails the trial with cause OWNER. Operands: the writing port. -/
  | rejectTrial (p : PortId)
  /-- COMMIT (R455): SV_UPD_CTRL.COMMIT commits the changed stored words now. Operands: the writing port, the programs that fail, and whether they time out. -/
  | updCommit (p : PortId) (fails : Nat) (timeout : Bool)
  /-- SETTINGS_COMMIT_TIMER (R455): 1 s after the first uncommitted write, the changed stored words are committed to the journal. Operands: the programs that fail, and whether they time out. -/
  | settingsCommitTimer (fails : Nat) (timeout : Bool)
  /-- SETTINGS_RESET (R458): SV_UPD_CTRL.SETTINGS_RESET compacts the values in force into a new journal. Operands: the writing port. -/
  | settingsReset (p : PortId)
  /-- SITEKEY (R437): SV_UPD_CTRL.SITEKEY programs SITE_KEY once. Operands: the writing port. -/
  | siteKey (p : PortId)
  /-- DIODE_READING (R461): Every 10 ms a die reads its diode, selects its band and may change the thermal SAFE cause. Operands: the die, and its reading in Q16.16 °C. -/
  | diodeReading (d : Nat) (t : Int)
  /-- CANARY_RUN (R466): Every 10 minutes each die runs its canary for 100 µs, and the ageing factor and a re-plan follow. Operands: the die, its laps, VCORE in mV, and whether VCORE or the band changed during the window. -/
  | canaryRun (d : Nat) (laps : Nat) (mv : Nat) (moved : Bool)
  /-- CANARY_RETRY (R466): A discarded canary run is repeated 10 s later. Operands: as CANARY_RUN. -/
  | canaryRetry (d : Nat) (laps : Nat) (mv : Nat) (moved : Bool)
  /-- DRIFT_CHECK (R471): Hourly and daily fan and probe averages are compared with their baselines. Operands: whether a probe or a motion channel, its number, and the mean in Q16.16. -/
  | driftCheck (probe : Bool) (x : Nat) (mean : Nat)
  /-- NVM_RESET (R479): SV_NVM_CTRL.RESET resets and re-identifies the NOR. Operands: the writing port. -/
  | nvmReset (p : PortId)
  /-- NVM_RESET_DONE (R479): A NOR reset completes and waiting log, journal or update operations proceed. Operands: whether the NOR identifies. -/
  | nvmResetDone (ok : Bool)
  /-- RC_FIELD_READ (R15): A read of an RC field by the owner or runtime returns the value and resets it. Operands: the reading port and the address. -/
  | rcFieldRead (p : PortId) (a : Nat)
  /-- REGISTER_WRITE (R12): A write to a register word without a row of its own updates its writable fields or returns LOCKED. Operands: the writing port, the address and the word. -/
  | registerWrite (p : PortId) (a : Nat) (w : Word)
  /-- BUS_INTEGRATION (R340): A CAN channel in INTEGRATING sees the bus idle and completes bus integration, after which it receives and, where allowed, transmits. Operands: the channel. -/
  | busIntegration (n : Nat)
  /-- VCAP_THRESHOLD_CROSSING (R296): VCAP falls below VOV, ending the ABS lock-out on boost claims, or rises through VMIN, releasing boost words waiting under R298. Operands: the converter 0 to 3, and VCAP in millivolts. -/
  | vcapThresholdCrossing (k : Nat) (mv : Nat)
  /-- SPACE_LEVEL_RESTORED (R168): The SPACE level of a string port in LOW_LINE returns to 11.0 V or above, and the port code returns to NONE with STR_LINE_FAULT logged. Operands: the string port, and its line as measured. -/
  | spaceLevelRestored (x : Nat) (line : Word)
  /-- HS_CS_N_RISING (R491): HS_CS_N rises after the request CRC but before the response ends, and the transaction's result is held for POLL or stays pending. -/
  | hsCsNRising
  /-- PREAMBLE_OUT_OF_RANGE (R396): A SERVICE preamble yields a bit rate outside 9,600 to 3,000,000 baud, so it is counted in SV_OWN_ERR_CNT and the port discards what follows. -/
  | preambleOutOfRange
  /-- SU_RXD_IDLE (R396): After a rejected preamble, SU_RXD has been idle high for 2 ms, and the port again waits for a 0x55 preamble. -/
  | suRxdIdle
  /-- CLEAR_BACKOFF_END (R432): 60 s pass after three wrong clear codes, the clear back-off ends, and SV_LOG_STAT.CLR_WAIT returns to 0. -/
  | clearBackoffEnd
  deriving DecidableEq, Repr

end Sys2Proof
end

