-- ==== Sys2Proof/Config.lean ====
section
/-!
DEFINITION. What a part fixes and the spec does not number, and the free values. Every constant here is opaque: Lean can
evaluate none of them, so a statement holds for every value they might have. notes/assumptions names each.
-/
namespace Sys2Proof

/-- The free values of the model: value number `n`, for the counter State.free. DESIGN CHOICE (log entry 1). -/
opaque Config.freeValue : Nat → Word

/-- The fuses of the part: the STEP byte of die `d` (R478, SV_ID_STEPS; "Fuse"). Log entry 2. -/
opaque Config.fuseStep : Nat → Byte

/-- The fuse byte PKG_REV of SV_ID_DEV (R478; "Fuse"). Log entry 2. -/
opaque Config.fusePkgRev : Byte

/-- The fuse value k of the voltage derating and other fuse words of R467 and R468, where the spec gives the fuse no number.
Log entry 2. -/
opaque Config.fuse : Nat → Nat

/-- The thermocouple reference function of R131 outside the temperatures for which the standard gives one: mode and temperature, Q16.16
°C in, nanovolts out. Log entry 4. -/
opaque Config.tcEmf : Nat → Int → Int

/-- The error of the device's inversion of the thermocouple reference function (R131: at most 0.02 °C): mode and EMF. Log entry 4. -/
opaque Config.tcErr : Nat → Int → Int

/-- LP_ENG_BUSY of loop die `d` at TB0 tick `t` (the share of the last second a clockless engine spent executing steps, which
follows VCORE, temperature and age; the spec gives it no value). Log entry 1. -/
opaque Config.engBusy : Nat → Nat → Word

/-- A quotient by zero in the tracker's arithmetic (R187, R188, R202 state none), for the dividend: bits [31:0] the value, bit 32
whether it counts as saturated. Log entry 1. -/
opaque Config.divZero : Int → BitVec 33

/-- otp_ref of R466: the laps of a new die `d` at a VCORE in mV and a reading in Q16.16 °C (factory table). Log entry 2. -/
opaque Config.otpRef : Nat → Nat → Int → Nat

/-- BASE[b] of die `d` (Table 18-1; factory value). Log entry 2. -/
opaque Config.dlyBase : Nat → Nat → Nat

/-- A_EOL of die `d` in Q16.16 (R467; factory value). Log entry 2. -/
opaque Config.aEol : Nat → Nat

/-- The OTP fields of Table 17-1 at delivery: the word SV_UPD_OTP shows (only bits [10:0] exist). Log entry 2. -/
opaque Config.otpWord : Word
/-- SERIAL (Table 17-1), 64 bits. Log entry 2. -/
opaque Config.otpSerial : BitVec 64
/-- SITE_KEY as programmed before delivery (Table 17-1). Log entry 2. -/
opaque Config.otpSiteKey : List Byte
/-- PKG_KEY (Table 17-1). Log entry 2. -/
opaque Config.otpPkgKey : List Byte
/-- PUB_HASH (Table 17-1). Log entry 2. -/
opaque Config.otpPubHash : BitVec 256
/-- The Viroth public key in SV die ROM (R439). Log entry 2. -/
opaque Config.virothKey : List Byte
/-- Migration of a settings entry by the loaded runtime (R457): from and to version, address and value; `none` where it can be neither
placed nor declared obsolete, `some none` where it is obsolete, else the address and value it becomes. Log entry 1. -/
opaque Config.migrate : Nat → Nat → Word → Word → Option (Option (Word × Word))

end Sys2Proof
end

