-- ==== Sys2Proof/Machine/Operands.lean ====
section
/-!
DEFINITION. The operand forms of the block's commands: where every register word lies (Tables 19-1 to 19-4, R2, R474, R475,
R481), which of its bits carry which access code (R11), reset class (R17) and reset value, and the bit-field helpers.
Each row of the table is one register table of spec/; the comment after a row is the register's name in the spec.
-/
namespace Sys2Proof.Machine

/-- One register table of the manual: `off` is its offset in the die window (block offset + word offset), `n` instances at
stride `s`, `m` words at stride `t` inside an instance. The masks say which bits carry which access code (Table 00-5; a bit
in none of `rw w1c w1s rc wo cfg rws` is RO or reserved) and which reset class (Table 00-6; a bit in none of
`ao por set` is WARM). `ovf` is the sticky overflow bit whose write of 1 clears itself and the counter bits `cnt` (R23). -/
structure RegRow where
  off : Nat
  n : Nat := 1
  s : Nat := 0
  m : Nat := 1
  t : Nat := 0
  rw : Nat := 0
  w1c : Nat := 0
  w1s : Nat := 0
  rc : Nat := 0
  wo : Nat := 0
  cfg : Nat := 0
  rws : Nat := 0
  ao : Nat := 0
  por : Nat := 0
  set : Nat := 0
  ovf : Nat := 0
  cnt : Nat := 0
  rst : Nat := 0
  deriving DecidableEq, Repr

/-- Registers of block 0x0_0000 of the SV die: SV_DIE (spec/19_address_map.md). -/
def rowsSv0 : List RegRow := [
  { off := 0x0, por := 0xFFFFFF00 }, -- SV_DIE_ID
  { off := 0x4, por := 0xFFFFFFFF, rst := 0x73100008 }, -- SV_ID_DEV
  { off := 0x8, por := 0xFFFFFFFF }, -- SV_ID_STEPS_LO
  { off := 0xC, por := 0xFFFFFFFF } -- SV_ID_STEPS_HI
  ]

/-- Registers of block 0x1_0000 of the SV die: SV_PWR (spec/02_package_rails_balls.md). -/
def rowsSv1 : List RegRow := [
  { off := 0x10000, w1c := 0x30000, ao := 0x30000, rst := 0x20000 }, -- SV_PWR_STAT
  { off := 0x10004, wo := 0xFFFF0001 }, -- SV_PWR_CTRL
  { off := 0x10008, rws := 0x1F, set := 0x1F, rst := 0x1 }, -- SV_PWR_WAKE_CFG
  { off := 0x1000C, w1c := 0xF, ao := 0xF }, -- SV_PWR_WAKE_SRC
  { off := 0x10010, rw := 0xFFFFFFFF, ao := 0xFFFFFFFF }, -- SV_PWR_ALARM
  { off := 0x10014 }, -- SV_PWR_VMON0
  { off := 0x10018 }, -- SV_PWR_VMON1
  { off := 0x1001C }, -- SV_PWR_VBAT
  { off := 0x10020, ao := 0xFFFFFFFF }, -- SV_PWR_LOSS_TIME
  { off := 0x10024, w1c := 0x80000000, ao := 0x8000FFFF, ovf := 0x80000000, cnt := 0xFFFF } -- SV_PWR_FAULT_CNT
  ]

/-- Registers of block 0x2_0000 of the SV die: SV_BOOT (spec/03_start_image_states.md). -/
def rowsSv2 : List RegRow := [
  { off := 0x20000, rst := 0x1 }, -- SV_BOOT_STAT
  { off := 0x20004, wo := 0xFFFF0007 }, -- SV_BOOT_CTRL
  { off := 0x20008 }, -- SV_BOOT_SAFE_CAUSE
  { off := 0x2000C, w1c := 0x1FF, ao := 0x1FF }, -- SV_BOOT_SAFE_HIST
  { off := 0x20010, cfg := 0x1FF03FF }, -- SV_BOOT_RESUME_CFG
  { off := 0x20014 }, -- SV_BOOT_IMG_ID_LO
  { off := 0x20018 }, -- SV_BOOT_IMG_ID_HI
  { off := 0x2001C }, -- SV_BOOT_IMG_INFO
  { off := 0x20020 }, -- SV_BOOT_HDR_GEN
  { off := 0x20024 }, -- SV_BOOT_ERR_ADDR
  { off := 0x20028 }, -- SV_BOOT_TIME
  { off := 0x2002C, w1c := 0x80000000, ao := 0x8000FFFF, ovf := 0x80000000, cnt := 0xFFFF } -- SV_BOOT_RESTART_CNT
  ]

/-- Registers of block 0x3_0000 of the SV die: SV_TIME (spec/04_time_bases.md). -/
def rowsSv3 : List RegRow := [
  { off := 0x30000 }, -- SV_TIME_TB0_LO
  { off := 0x30004 }, -- SV_TIME_TB0_HI
  { off := 0x30008 }, -- SV_TIME_TB1_LO
  { off := 0x3000C }, -- SV_TIME_TB1_HI
  { off := 0x30010 }, -- SV_TIME_TB3_LO
  { off := 0x30014 }, -- SV_TIME_TB3_HI
  { off := 0x30018, ao := 0xFFFFFFFF }, -- SV_TIME_TB2_S
  { off := 0x3001C, ao := 0xFFFF00FF }, -- SV_TIME_TB2_F
  { off := 0x30020, cfg := 0xFFFF001B, rst := 0x640000 }, -- SV_TIME_CFG
  { off := 0x30024 }, -- SV_TIME_RATE
  { off := 0x30028, w1c := 0x80000080, ao := 0xE0, ovf := 0x80000000, cnt := 0x7FFF0000 }, -- SV_TIME_STAT
  { off := 0x3002C, rw := 0xFFFFFFFF }, -- SV_TIME_SET_S
  { off := 0x30030, rw := 0xFFFF0000 }, -- SV_TIME_SET_F
  { off := 0x30034, wo := 0xFFFF0001 }, -- SV_TIME_CTRL
  { off := 0x30038 }, -- SV_TIME_PPS_TS_LO
  { off := 0x3003C }, -- SV_TIME_PPS_TS_HI
  { off := 0x30040, w1c := 0x80000000, ao := 0x8000FFFF, ovf := 0x80000000, cnt := 0xFFFF } -- SV_TIME_STEP_CNT
  ]

/-- Registers of block 0x4_0000 of the SV die: SV_OWN (spec/15_host_ports_ownership.md). -/
def rowsSv4 : List RegRow := [
  { off := 0x40000 }, -- SV_OWN_STAT
  { off := 0x40004, wo := 0xFFFFFFFF }, -- SV_OWN_TKO
  { off := 0x40008, wo := 0xFFFFFFFF }, -- SV_OWN_CLAIM
  { off := 0x4000C, wo := 0xFFFFCFFF }, -- SV_OWN_REL
  { off := 0x40010, rw := 0x1 }, -- SV_OWN_CTRL
  { off := 0x40014 }, -- SV_OWN_LEASE
  { off := 0x40018, wo := 0xFFFFFFFF, set := 0xFFFFFFFF }, -- SV_OWN_TKO_SET
  { off := 0x4001C, w1c := 0xD5 }, -- SV_OWN_ATTN
  { off := 0x40020, rws := 0xFF, set := 0xFF, rst := 0xDF }, -- SV_OWN_ATTN_EN
  { off := 0x40024 }, -- SV_VIOL_ADDR
  { off := 0x40028 }, -- SV_VIOL_INFO
  { off := 0x4002C, w1c := 0x80000000, ao := 0xFFFFFFFF, ovf := 0x80000000, cnt := 0x7FFFFFFF }, -- SV_VIOL_CNT
  { off := 0x40030, w1c := 0x80000000, ao := 0xFFFFFFFF, ovf := 0x80000000, cnt := 0x7FFFFFFF }, -- SV_OWN_CHG_CNT
  { off := 0x40034, w1c := 0x80000000, ao := 0xFFFFFFFF, ovf := 0x80000000, cnt := 0x7FFFFFFF } -- SV_OWN_ERR_CNT
  ]

/-- Registers of block 0x5_0000 of the SV die: SV_LOG (spec/16_event_recorder.md). -/
def rowsSv5 : List RegRow := [
  { off := 0x50000, ao := 0xFF007F30 }, -- SV_LOG_STAT
  { off := 0x50004, cfg := 0xF0, rst := 0x50 }, -- SV_LOG_CFG
  { off := 0x50008, ao := 0xFFFFFFFF }, -- SV_LOG_HEAD_SEQ
  { off := 0x5000C, ao := 0xFFFFFFFF }, -- SV_LOG_OPSEC
  { off := 0x50010, ao := 0xFFFFFF00 }, -- SV_LOG_PCYC
  { off := 0x50014 }, -- SV_LOG_SNAP_TAIL_SEQ
  { off := 0x50018 }, -- SV_LOG_SNAP_TAIL_SLOT
  { off := 0x5001C }, -- SV_LOG_SNAP_NOR_SLOT
  { off := 0x50020 }, -- SV_LOG_SNAP_HEAD_SEQ
  { off := 0x50024 }, -- SV_LOG_NONCE
  { off := 0x50028, m := 4, t := 0x4, wo := 0xFFFFFFFF }, -- SV_LOG_AUTH
  { off := 0x50038, wo := 0xFFFF0001 }, -- SV_LOG_CLR
  { off := 0x5003C, w1c := 0x80000000, ao := 0xFFFFFFFF, ovf := 0x80000000, cnt := 0x7FFFFFFF }, -- SV_LOG_DROP_CNT
  { off := 0x50040, w1c := 0x80000000, ao := 0xFFFFFFFF, ovf := 0x80000000, cnt := 0x7FFFFFFF }, -- SV_LOG_LOST_CNT
  { off := 0x50044, ao := 0xFFFFFFFF }, -- SV_LOG_BAD_LO
  { off := 0x50048, ao := 0xFFFFFFFF }, -- SV_LOG_BAD_HI
  { off := 0x5004C, wo := 0xFFFFFFFF }, -- SV_LOG_UPL_CTRL
  { off := 0x50050, rw := 0xFFFFFFFF }, -- SV_LOG_UPL_FROM
  { off := 0x50054 }, -- SV_LOG_UPL_STAT
  { off := 0x50100, m := 64, t := 0x4, cfg := 0xFFFFFFFF } -- SV_LOG_POLICY
  ]

/-- Registers of block 0x6_0000 of the SV die: SV_UPD (spec/17_update_settings.md). -/
def rowsSv6 : List RegRow := [
  { off := 0x60000 }, -- SV_UPD_STAT
  { off := 0x60004, wo := 0xFFFF00FF }, -- SV_UPD_CTRL
  { off := 0x60008, rw := 0xFFFFFFFF }, -- SV_UPD_LEN
  { off := 0x6000C }, -- SV_UPD_NEXT
  { off := 0x60010, wo := 0xFFFFFFFF }, -- SV_UPD_CHUNK
  { off := 0x60014 }, -- SV_UPD_SRC
  { off := 0x60018 }, -- SV_UPD_GUARD
  { off := 0x6001C, cfg := 0xFFFFFF00, rst := 0x3C1200 }, -- SV_UPD_CFG
  { off := 0x60020, cfg := 0x80FFFFFF, rst := 0x15180 }, -- SV_UPD_TCFG
  { off := 0x60024, cfg := 0xFFFF }, -- SV_UPD_HOLD
  { off := 0x60028, ao := 0xF0000 }, -- SV_UPD_TRIAL
  { off := 0x6002C }, -- SV_UPD_TSEC
  { off := 0x60030, por := 0x7FF }, -- SV_UPD_OTP
  { off := 0x60034 }, -- SV_UPD_JRNL
  { off := 0x60038 }, -- SV_UPD_JGEN
  { off := 0x6003C }, -- SV_UPD_PKG_ID_LO
  { off := 0x60040 }, -- SV_UPD_PKG_ID_HI
  { off := 0x60044, w1c := 0x80000000, ao := 0xFFFFFFFF, ovf := 0x80000000, cnt := 0x7FFFFFFF }, -- SV_UPD_CFAIL_CNT
  { off := 0x60060, m := 8, t := 0x4, wo := 0xFFFFFFFF }, -- SV_UPD_SITEKEY
  { off := 0x60100, m := 64, t := 0x4, wo := 0xFFFFFFFF } -- SV_UPD_DATA
  ]

/-- Registers of block 0x7_0000 of the SV die: SV_THM (spec/18_thermal_ageing.md). -/
def rowsSv7 : List RegRow := [
  { off := 0x70000 }, -- SV_THM_TEMP
  { off := 0x70004 }, -- SV_THM_STAT
  { off := 0x70008 }, -- SV_THM_CANARY
  { off := 0x7000C, rc := 0xFFFFFFFF, rst := 0x80000000 }, -- SV_THM_TMAX
  { off := 0x70010 }, -- SV_THM_BANDS
  { off := 0x70014, cfg := 0x80FFFFFF, rst := 0x7DE000 }, -- SV_THM_CFG
  { off := 0x70018, cfg := 0xFFFFFF00, rst := 0xF140300 }, -- SV_THM_DRIFT
  { off := 0x7001C, cfg := 0xFFFFFFFF, rst := 0x500186A0 }, -- SV_THM_WEAR
  { off := 0x70020, m := 8, t := 0x4, rst := 0x10000 }, -- SV_THM_MARGIN
  { off := 0x70040, m := 8, t := 0x4, rws := 0xFFFFFFFF, set := 0xFFFFFFFF, rst := 0x10000 }, -- SV_THM_AGE
  { off := 0x70060, m := 7, t := 0x4, w1c := 0x80000000, rws := 0x7FFFFFFF, set := 0xFFFFFFFF, ovf := 0x80000000, cnt := 0x7FFFFFFF }, -- SV_THM_NOR_ERASE
  { off := 0x70080, w1c := 0x80000000, ao := 0xFFFFFFFF, ovf := 0x80000000, cnt := 0x7FFFFFFF } -- SV_THM_REPLAN_CNT
  ]

/-- Registers of block 0x8_0000 of the SV die: SV_SEQ (spec/10_sequences.md). -/
def rowsSv8 : List RegRow := [
  { off := 0x80000, n := 8, s := 0x20 }, -- SV_SEQ_STAT
  { off := 0x80004, n := 8, s := 0x20, w1c := 0x80000000, ovf := 0x80000000, cnt := 0x7FFFFFFF }, -- SV_SEQ_TIME
  { off := 0x80008, n := 8, s := 0x20, w1c := 0x80000000, ao := 0x8000FFFF, ovf := 0x80000000, cnt := 0xFFFF }, -- SV_SEQ_TRANS_CNT
  { off := 0x8000C, n := 8, s := 0x20, ao := 0xFF, rst := 0xFF }, -- SV_SEQ_LAST
  { off := 0x80010, n := 8, s := 0x20, wo := 0xFFFF3F07 }, -- SV_SEQ_CMD
  { off := 0x80100 }, -- SV_SEQ_SLACK
  { off := 0x80104, rc := 0xFFFFFFFF, rst := 0xFFFFFFFF } -- SV_SEQ_MIN_SLACK
  ]

/-- Registers of block 0x9_0000 of the SV die: SV_NVM (spec/19_address_map.md). -/
def rowsSv9 : List RegRow := [
  { off := 0x90000 }, -- SV_NVM_STAT
  { off := 0x90004 }, -- SV_NVM_ID
  { off := 0x90008, wo := 0xFFFF0001 }, -- SV_NVM_CTRL
  { off := 0x9000C, w1c := 0x80000000, ao := 0xFFFFFFFF, ovf := 0x80000000, cnt := 0x7FFFFFFF } -- SV_NVM_ERR_CNT
  ]

/-- Registers of block 0x0_0000 of the LP die: LP_DIE (spec/19_address_map.md). -/
def rowsLp0 : List RegRow := [
  { off := 0x0, por := 0xFFFFFF00 } -- LP_DIE_ID
  ]

/-- Registers of block 0x1_0000 of the LP die: LP_ENG (spec/08_loop_engine.md). -/
def rowsLp1 : List RegRow := [
  { off := 0x10000 }, -- LP_ENG_STAT
  { off := 0x10004 }, -- LP_ENG_LOAD
  { off := 0x10008, rst := 0x10000 }, -- LP_ENG_MARGIN
  { off := 0x1000C }, -- LP_ENG_BUSY
  { off := 0x10010, rc := 0xFFFFFFFF, rst := 0xFFFFFFFF }, -- LP_ENG_MIN_SLACK
  { off := 0x10014, w1c := 0x80000000, ovf := 0x80000000, cnt := 0xFFFF }, -- LP_ENG_OVR_CNT
  { off := 0x10018, w1c := 0xFFFFFFFF }, -- LP_ENG_OVR_LO
  { off := 0x1001C, w1c := 0xFFFFFFFF }, -- LP_ENG_OVR_HI
  { off := 0x10020 }, -- LP_ENG_HALT_LO
  { off := 0x10024 }, -- LP_ENG_HALT_HI
  { off := 0x10028, wo := 0xFFFF0001 } -- LP_ENG_CTRL
  ]

/-- Registers of block 0x2_0000 of the LP die: LP_LOOP (spec/08_loop_engine.md). -/
def rowsLp2 : List RegRow := [
  { off := 0x20000, n := 64, s := 0x100, cfg := 0xF0FF1FFF }, -- LP_LOOP_CFG
  { off := 0x20004, n := 64, s := 0x100, cfg := 0xFFFFFFFF, rst := 0xF4240 }, -- LP_LOOP_PERIOD
  { off := 0x20008, n := 64, s := 0x100, cfg := 0xFFFFFFFF, rst := 0x7A120 }, -- LP_LOOP_PHASE
  { off := 0x2000C, n := 64, s := 0x100, cfg := 0xFFFF1FFF }, -- LP_LOOP_COEF
  { off := 0x20010, n := 64, s := 0x100, cfg := 0x7FFF3FFF }, -- LP_LOOP_LRN
  { off := 0x20014, n := 64, s := 0x100, m := 8, t := 0x4, cfg := 0x80FF07FF }, -- LP_LOOP_IN
  { off := 0x20034, n := 64, s := 0x100, m := 4, t := 0x4, cfg := 0x800007FF }, -- LP_LOOP_OUT
  { off := 0x20044, n := 64, s := 0x100, cfg := 0xFFFFFFFF, rst := 0x80000000 }, -- LP_LOOP_LIM_LO
  { off := 0x20048, n := 64, s := 0x100, cfg := 0xFFFFFFFF, rst := 0x7FFFFFFF }, -- LP_LOOP_LIM_HI
  { off := 0x2004C, n := 64, s := 0x100, cfg := 0xFFFFFFFF }, -- LP_LOOP_SAFE_VAL
  { off := 0x20050, n := 64, s := 0x100, cfg := 0x87FF0000 }, -- LP_LOOP_FRZ
  { off := 0x20054, n := 64, s := 0x100, cfg := 0xFFFFFFFF }, -- LP_LOOP_FRZ_DIN
  { off := 0x20058, n := 64, s := 0x100, cfg := 0xFFFFFFFF }, -- LP_LOOP_FRZ_DOUT
  { off := 0x2005C, n := 64, s := 0x100, wo := 0xFFFF0007 }, -- LP_LOOP_MODE_REQ
  { off := 0x20060, n := 64, s := 0x100, rw := 0xFFFFFFFF }, -- LP_LOOP_MANVAL
  { off := 0x20064, n := 64, s := 0x100 }, -- LP_LOOP_STAT
  { off := 0x20068, n := 64, s := 0x100, w1c := 0x1FF }, -- LP_LOOP_FLAGS
  { off := 0x2006C, n := 64, s := 0x100 }, -- LP_LOOP_SLACK
  { off := 0x20070, n := 64, s := 0x100, rc := 0xFFFFFFFF, rst := 0xFFFFFFFF }, -- LP_LOOP_MIN_SLACK
  { off := 0x20074, n := 64, s := 0x100, w1c := 0x80000000, ovf := 0x80000000, cnt := 0xFFFF }, -- LP_LOOP_OVR_CNT
  { off := 0x20078, n := 64, s := 0x100 }, -- LP_LOOP_FAULT_ADDR
  { off := 0x20080, n := 64, s := 0x100, m := 16, t := 0x4 } -- LP_LOOP_Z
  ]

/-- Registers of block 0x3_0000 of the LP die, part 0: LP_TRK (spec/07_column_tracker.md). -/
def rowsLp3p0 : List RegRow := [
  { off := 0x30000, n := 4, s := 0x100, cfg := 0xFFFFDFE0 }, -- LP_TRK_CFG
  { off := 0x30004, n := 4, s := 0x100, cfg := 0x3FF01FF, rst := 0x10000 }, -- LP_TRK_GEOM
  { off := 0x30008, n := 4, s := 0x100, cfg := 0xFFFFFFFF, rst := 0xF4240 }, -- LP_TRK_PERIOD
  { off := 0x3000C, n := 4, s := 0x100, cfg := 0xFFFFFFFF, rst := 0x7A120 }, -- LP_TRK_PHASE
  { off := 0x30010, n := 4, s := 0x100, cfg := 0xFFFFFFFF }, -- LP_TRK_LPP
  { off := 0x30014, n := 4, s := 0x100, cfg := 0xFFFFFFFF }, -- LP_TRK_KW
  { off := 0x30018, n := 4, s := 0x100, cfg := 0xFFFFFFFF }, -- LP_TRK_HK
  { off := 0x3001C, n := 4, s := 0x100, cfg := 0xFFFFFFFF }, -- LP_TRK_EV
  { off := 0x30020, n := 4, s := 0x100, cfg := 0xFFFFFFFF }, -- LP_TRK_CAP
  { off := 0x30024, n := 4, s := 0x100, cfg := 0xFFFFFFFF, rst := 0x655333 }, -- LP_TRK_PATM
  { off := 0x30028, n := 4, s := 0x100, cfg := 0xFFFFFFFF }, -- LP_TRK_QNOM
  { off := 0x3002C, n := 4, s := 0x100, cfg := 0x7FF07FF }, -- LP_TRK_SIG_IN
  { off := 0x30030, n := 4, s := 0x100, cfg := 0x7FF07FF }, -- LP_TRK_SIG_AUX
  { off := 0x30034, n := 4, s := 0x100, m := 4, t := 0x8, cfg := 0xE7FF07FF }, -- LP_TRK_ZONE_SIG
  { off := 0x30038, n := 4, s := 0x100, m := 4, t := 0x8, cfg := 0x3FF }, -- LP_TRK_ZONE_START
  { off := 0x30054, n := 4, s := 0x100, m := 8, t := 0x4, cfg := 0x73FF07FF, rst := 0x70000000 }, -- LP_TRK_STN
  { off := 0x30074, n := 4, s := 0x100, cfg := 0xFFFFFFFF }, -- LP_TRK_AGAIN
  { off := 0x30078, n := 4, s := 0x100, cfg := 0xFFFFFFFF }, -- LP_TRK_BGAIN
  { off := 0x3007C, n := 4, s := 0x100, cfg := 0xFFFFFFFF }, -- LP_TRK_BMAX
  { off := 0x30080, n := 4, s := 0x100, m := 8, t := 0x4, rws := 0xFFFFFFFF, set := 0xFFFFFFFF }, -- LP_TRK_BIAS
  { off := 0x300A0, n := 4, s := 0x100, m := 4, t := 0x4, cfg := 0xFFFF03FF }, -- LP_TRK_PRED
  { off := 0x300B0, n := 4, s := 0x100, cfg := 0xFFFFFFFF, rst := 0x10000 }, -- LP_TRK_HZN
  { off := 0x300B4, n := 4, s := 0x100, cfg := 0xFFFFFFFF, rst := 0x4000 }, -- LP_TRK_VF
  { off := 0x300B8, n := 4, s := 0x100, cfg := 0xFFFFFFFF, rst := 0x8000 } -- LP_TRK_VMIN
  ]

/-- Registers of block 0x3_0000 of the LP die, part 1: LP_TRK (spec/07_column_tracker.md). -/
def rowsLp3p1 : List RegRow := [
  { off := 0x300BC, n := 4, s := 0x100, cfg := 0xFFFFFFFF }, -- LP_TRK_MLO
  { off := 0x300C0, n := 4, s := 0x100, cfg := 0xFFFFFFFF, rst := 0x3C0000 }, -- LP_TRK_MHI
  { off := 0x300C4, n := 4, s := 0x100, cfg := 0xFFF00000 }, -- LP_TRK_VOUT
  { off := 0x300C8, n := 4, s := 0x100, w1c := 0x3FE0 }, -- LP_TRK_STAT
  { off := 0x300CC, n := 4, s := 0x100 }, -- LP_TRK_ADV
  { off := 0x300D0, n := 4, s := 0x100 }, -- LP_TRK_VRATE
  { off := 0x300D4, n := 4, s := 0x100 }, -- LP_TRK_TOP
  { off := 0x300D8, n := 4, s := 0x100 }, -- LP_TRK_SLACK
  { off := 0x300DC, n := 4, s := 0x100, rc := 0xFFFFFFFF, rst := 0xFFFFFFFF }, -- LP_TRK_MIN_SLACK
  { off := 0x300E0, n := 4, s := 0x100, w1c := 0x80000000, ovf := 0x80000000, cnt := 0xFFFF }, -- LP_TRK_OVR_CNT
  { off := 0x300E4, n := 4, s := 0x100, w1c := 0x80000000, ovf := 0x80000000, cnt := 0xFFFF }, -- LP_TRK_EDGE_CNT
  { off := 0x300E8, n := 4, s := 0x100 }, -- LP_TRK_LEVELS_OUT
  { off := 0x300EC, n := 4, s := 0x100, wo := 0x7 }, -- LP_TRK_CTRL
  { off := 0x300F0, n := 4, s := 0x100, m := 4, t := 0x4 }, -- LP_TRK_PRED_VAL
  { off := 0x30800, cfg := 0x1 }, -- LP_TRK_SURF_MODE
  { off := 0x30810, n := 2, s := 0x20, m := 6, t := 0x4, cfg := 0xFFFFFFFF }, -- LP_TRK_SURF_AX
  { off := 0x30850, m := 4, t := 0x4, cfg := 0xFFFFFFFF }, -- LP_TRK_EMC_AX
  { off := 0x30860, m := 2, t := 0x4, cfg := 0xFFFFFFFF }, -- LP_TRK_SVP_AX
  { off := 0x30870 } -- LP_TRK_LOAD
  ]

/-- All registers of that block. -/
def rowsLp3 : List RegRow := rowsLp3p0 ++ rowsLp3p1

/-- Registers of block 0x4_0000 of the LP die: LP_AIN (spec/05_sensing_front_end.md). -/
def rowsLp4 : List RegRow := [
  { off := 0x40000, n := 16, s := 0x40, cfg := 0xFFFFFFE0, rst := 0x200 }, -- LP_AIN_CFG
  { off := 0x40004, n := 16, s := 0x40, cfg := 0xFFFFFFFF, rst := 0x186A0 }, -- LP_AIN_PERIOD
  { off := 0x40008, n := 16, s := 0x40, cfg := 0xFFFFFFFF }, -- LP_AIN_PHASE
  { off := 0x4000C, n := 16, s := 0x40, cfg := 0xFFFFFFFF, rst := 0x186A0 }, -- LP_AIN_RTD
  { off := 0x40010, n := 16, s := 0x40, cfg := 0xFFFFFFFF }, -- LP_AIN_LO
  { off := 0x40014, n := 16, s := 0x40, cfg := 0xFFFFFFFF }, -- LP_AIN_HI
  { off := 0x40018, n := 16, s := 0x40, cfg := 0xFFFFFFFF, rst := 0x10000 }, -- LP_AIN_SCALE
  { off := 0x4001C, n := 16, s := 0x40, cfg := 0xFFFFFFFF }, -- LP_AIN_OFFSET
  { off := 0x40020, n := 16, s := 0x40, w1c := 0xC0 }, -- LP_AIN_STAT
  { off := 0x40024, n := 16, s := 0x40 }, -- LP_AIN_VALUE
  { off := 0x40028, n := 16, s := 0x40 }, -- LP_AIN_RAW
  { off := 0x4002C, n := 16, s := 0x40, w1c := 0x80000000, ovf := 0x80000000, cnt := 0xFFFF }, -- LP_AIN_FAULT_CNT
  { off := 0x40400 } -- LP_AIN_CJ
  ]

/-- Registers of block 0x5_0000 of the LP die: LP_PRB (spec/05_sensing_front_end.md). -/
def rowsLp5 : List RegRow := [
  { off := 0x50000, n := 4, s := 0x200, cfg := 0xFFFFFFC0, rst := 0x200 }, -- LP_PRB_CFG
  { off := 0x50004, n := 4, s := 0x200, cfg := 0xFFFFF7FF, rst := 0x3000 }, -- LP_PRB_CFG2
  { off := 0x50008, n := 4, s := 0x200, cfg := 0xFFFFFFFF, rst := 0x989680 }, -- LP_PRB_PERIOD
  { off := 0x5000C, n := 4, s := 0x200, cfg := 0xFFFFFFFF }, -- LP_PRB_PHASE
  { off := 0x50010, n := 4, s := 0x200, cfg := 0xFFFF, rst := 0x3E8 }, -- LP_PRB_DWELL
  { off := 0x50014, n := 4, s := 0x200, cfg := 0xFFFFFFFF, rst := 0x20000 }, -- LP_PRB_C0
  { off := 0x50018, n := 4, s := 0x200, cfg := 0xFFFFFFFF, rst := 0x140000 }, -- LP_PRB_TDEF
  { off := 0x5001C, n := 4, s := 0x200, cfg := 0xFFFFFFFF, rst := 0x14000 }, -- LP_PRB_EMPTY
  { off := 0x50020, n := 4, s := 0x200, m := 8, t := 0x4, cfg := 0xFFFFFFFF }, -- LP_PRB_FTW
  { off := 0x50040, n := 4, s := 0x200, m := 8, t := 0x4, rws := 0xFFFFFFFF, set := 0xFFFFFFFF }, -- LP_PRB_BOPEN
  { off := 0x50060, n := 4, s := 0x200, m := 8, t := 0x4, rws := 0xFFFFFFFF, set := 0xFFFFFFFF }, -- LP_PRB_GOPEN
  { off := 0x50080, n := 4, s := 0x200, m := 8, t := 0x4 }, -- LP_PRB_EPS_RE
  { off := 0x500A0, n := 4, s := 0x200, m := 8, t := 0x4 }, -- LP_PRB_EPS_IM
  { off := 0x500C0, n := 4, s := 0x200 }, -- LP_PRB_FEATURE
  { off := 0x500C4, n := 4, s := 0x200 }, -- LP_PRB_MOIST
  { off := 0x500C8, n := 4, s := 0x200 }, -- LP_PRB_TUSED
  { off := 0x500CC, n := 4, s := 0x200 }, -- LP_PRB_REFGAIN
  { off := 0x500D0, n := 4, s := 0x200, w1c := 0xE0 }, -- LP_PRB_STAT
  { off := 0x500D4, n := 4, s := 0x200, w1c := 0x80000000, ovf := 0x80000000, cnt := 0xFFFF }, -- LP_PRB_FAULT_CNT
  { off := 0x50800, cfg := 0x1 }, -- LP_PRB_CAL_CFG
  { off := 0x50810, m := 4, t := 0x4, cfg := 0xFFFFFFFF }, -- LP_PRB_FMIN
  { off := 0x50820, m := 4, t := 0x4, cfg := 0xFFFFFFFF }, -- LP_PRB_FSTEP
  { off := 0x50830, m := 4, t := 0x4, cfg := 0xFFFFFFFF }, -- LP_PRB_TMIN
  { off := 0x50840, m := 4, t := 0x4, cfg := 0xFFFFFFFF } -- LP_PRB_TSTEP
  ]

/-- Registers of block 0x6_0000 of the LP die: LP_PLS (spec/05_sensing_front_end.md). -/
def rowsLp6 : List RegRow := [
  { off := 0x60000, n := 8, s := 0x40, cfg := 0xFFFFFFFF, rst := 0x14 }, -- LP_PLS_CFG
  { off := 0x60004, n := 8, s := 0x40, cfg := 0xFFFFFFFF, rst := 0xF4240 }, -- LP_PLS_PERIOD
  { off := 0x60008, n := 8, s := 0x40, cfg := 0xFFFFFFFF }, -- LP_PLS_PHASE
  { off := 0x6000C, n := 8, s := 0x40, cfg := 0xFFFFFFFF, rst := 0x10000 }, -- LP_PLS_WEIGHT
  { off := 0x60010, n := 8, s := 0x40, cfg := 0xFFFFFFFF, rst := 0x1388 }, -- LP_PLS_ZERO
  { off := 0x60014, n := 8, s := 0x40 }, -- LP_PLS_COUNT
  { off := 0x60018, n := 8, s := 0x40 }, -- LP_PLS_LAST_TS
  { off := 0x6001C, n := 8, s := 0x40 }, -- LP_PLS_VALUE
  { off := 0x60020, n := 8, s := 0x40, w1c := 0x3C }, -- LP_PLS_STAT
  { off := 0x60024, n := 8, s := 0x40, w1c := 0x80000000, ovf := 0x80000000, cnt := 0xFFFF }, -- LP_PLS_REJ_CNT
  { off := 0x60028, n := 8, s := 0x40, wo := 0x1 } -- LP_PLS_CTRL
  ]

/-- Registers of block 0x7_0000 of the LP die: LP_STR (spec/06_sensor_strings.md). -/
def rowsLp7 : List RegRow := [
  { off := 0x70000, n := 2, s := 0x1000, cfg := 0xFFFF007F, rst := 0x130A004B }, -- LP_STR_CFG
  { off := 0x70004, n := 2, s := 0x1000, cfg := 0xFFFFFFFF, rst := 0x989680 }, -- LP_STR_PERIOD
  { off := 0x70008, n := 2, s := 0x1000, cfg := 0xFFFFFFFF }, -- LP_STR_PHASE
  { off := 0x7000C, n := 2, s := 0x1000 }, -- LP_STR_STAT
  { off := 0x70010, n := 2, s := 0x1000 }, -- LP_STR_LINE
  { off := 0x70014, n := 2, s := 0x1000, w1c := 0x80000000, ovf := 0x80000000, cnt := 0xFFFF }, -- LP_STR_ERR_CNT
  { off := 0x70018, n := 2, s := 0x1000, wo := 0x1 }, -- LP_STR_CTRL
  { off := 0x70100, n := 2, s := 0x1000, m := 64, t := 0x10, rws := 0xFFFFFFFF, set := 0xFFFFFFFF }, -- LP_STR_NODE_ID_LO
  { off := 0x70104, n := 2, s := 0x1000, m := 64, t := 0x10, rws := 0xFFFF, set := 0xFFFF }, -- LP_STR_NODE_ID_HI
  { off := 0x70108, n := 2, s := 0x1000, m := 64, t := 0x10, cfg := 0xFFF00000 }, -- LP_STR_NODE_CFG
  { off := 0x7010C, n := 2, s := 0x1000, m := 64, t := 0x10, w1c := 0xC }, -- LP_STR_NODE_STAT
  { off := 0x70500, n := 2, s := 0x1000, m := 64, t := 0x4, rws := 0xFFFFFFFF, set := 0xFFFFFFFF }, -- LP_STR_NODE_OFFSET
  { off := 0x70600, n := 2, s := 0x1000, m := 64, t := 0x4 } -- LP_STR_NODE_VALUE
  ]

/-- Registers of block 0x8_0000 of the LP die: LP_THM (spec/18_thermal_ageing.md). -/
def rowsLp8 : List RegRow := [
  { off := 0x80000 }, -- LP_THM_TEMP
  { off := 0x80004 }, -- LP_THM_STAT
  { off := 0x80008 }, -- LP_THM_CANARY
  { off := 0x8000C, rc := 0xFFFFFFFF, rst := 0x80000000 }, -- LP_THM_TMAX
  { off := 0x80010, m := 5, t := 0x4, cfg := 0xFFFFFFFF }, -- LP_THM_KREF
  { off := 0x80030, m := 4, t := 0x4, rws := 0xFFFFFFFF, set := 0xFFFFFFFF } -- LP_THM_GBASE
  ]

/-- Registers of block 0x0_0000 of the DR die: DR_DIE (spec/19_address_map.md). -/
def rowsDr0 : List RegRow := [
  { off := 0x0, por := 0xFFFFFF00 } -- DR_DIE_ID
  ]

/-- Registers of block 0x1_0000 of the DR die: DR_SEQ (spec/11_valve_drive.md). -/
def rowsDr1 : List RegRow := [
  { off := 0x10000 }, -- DR_SEQ_STAT
  { off := 0x10004 } -- DR_SEQ_FAULT_ADDR
  ]

/-- Registers of block 0x2_0000 of the DR die, part 0: DR_VCH (spec/11_valve_drive.md). -/
def rowsDr2p0 : List RegRow := [
  { off := 0x20000, n := 12, s := 0x100, cfg := 0xF9F0FFFF, rst := 0xBB8 }, -- DR_VCH_CFG
  { off := 0x20004, n := 12, s := 0x100, cfg := 0x870007FF, rst := 0x1000000 }, -- DR_VCH_BIND
  { off := 0x20008, n := 12, s := 0x100, cfg := 0xFFFFFFFF }, -- DR_VCH_HOLD
  { off := 0x2000C, n := 12, s := 0x100, cfg := 0xFFFF0000, rst := 0x3E80000 }, -- DR_VCH_DUTY
  { off := 0x20010, n := 12, s := 0x100, cfg := 0xFFFFFFFF }, -- DR_VCH_RCOLD
  { off := 0x20014, n := 12, s := 0x100, cfg := 0xFFFFFFFF, rst := 0x101 }, -- DR_VCH_ALPHA
  { off := 0x20018, n := 12, s := 0x100, cfg := 0xFFFFFFFF }, -- DR_VCH_RWC
  { off := 0x2001C, n := 12, s := 0x100, cfg := 0xFFFFFFFF }, -- DR_VCH_RCA
  { off := 0x20020, n := 12, s := 0x100, cfg := 0xFFFFFFFF }, -- DR_VCH_CW
  { off := 0x20024, n := 12, s := 0x100, cfg := 0xFFFFFFFF }, -- DR_VCH_CC
  { off := 0x20028, n := 12, s := 0x100, cfg := 0xFFFFFFFF }, -- DR_VCH_RPATH
  { off := 0x2002C, n := 12, s := 0x100, cfg := 0xFFFFFFFF, rst := 0x4000 }, -- DR_VCH_KR
  { off := 0x20030, n := 12, s := 0x100, cfg := 0xFFFFFFFF }, -- DR_VCH_TW_DERATE
  { off := 0x20034, n := 12, s := 0x100, cfg := 0xFFFFFFFF }, -- DR_VCH_TW_MAX
  { off := 0x20038, n := 12, s := 0x100, cfg := 0xFFFFFFFF }, -- DR_VCH_TW_START
  { off := 0x2003C, n := 12, s := 0x100, rw := 0xFFFFFFFF, rst := 0x280000 }, -- DR_VCH_TA
  { off := 0x20040, n := 12, s := 0x100, w1c := 0x40 }, -- DR_VCH_STAT
  { off := 0x20044, n := 12, s := 0x100 }, -- DR_VCH_I
  { off := 0x20048, n := 12, s := 0x100 }, -- DR_VCH_TW
  { off := 0x2004C, n := 12, s := 0x100 }, -- DR_VCH_TC
  { off := 0x20050, n := 12, s := 0x100 }, -- DR_VCH_RMEAS
  { off := 0x20054, n := 12, s := 0x100 }, -- DR_VCH_RCOLD_EST
  { off := 0x20058, n := 12, s := 0x100 }, -- DR_VCH_DEFER
  { off := 0x2005C, n := 12, s := 0x100, rc := 0xFFFFFFFF } -- DR_VCH_DEFER_MAX
  ]

/-- Registers of block 0x2_0000 of the DR die, part 1: DR_VCH (spec/11_valve_drive.md). -/
def rowsDr2p1 : List RegRow := [
  { off := 0x20060, n := 12, s := 0x100, w1c := 0x80000000, ao := 0xFFFFFFFF, ovf := 0x80000000, cnt := 0x7FFFFFFF }, -- DR_VCH_START_CNT
  { off := 0x20064, n := 12, s := 0x100, w1c := 0x80000000, ao := 0xFFFFFFFF, ovf := 0x80000000, cnt := 0x7FFFFFFF } -- DR_VCH_FAULT_CNT
  ]

/-- All registers of that block. -/
def rowsDr2 : List RegRow := rowsDr2p0 ++ rowsDr2p1

/-- Registers of block 0x3_0000 of the DR die: DR_BNK (spec/11_valve_drive.md). -/
def rowsDr3 : List RegRow := [
  { off := 0x30000, n := 6, s := 0x80, cfg := 0xC000FFFF, rst := 0x7D0 }, -- DR_BNK_CFG
  { off := 0x30004, n := 6, s := 0x80, cfg := 0xFFFFFFFF, rst := 0xC350 }, -- DR_BNK_DEFER_MAX
  { off := 0x30008, n := 6, s := 0x80 }, -- DR_BNK_STAT
  { off := 0x3000C, n := 6, s := 0x80, w1c := 0x80000000, ao := 0xFFFFFFFF, ovf := 0x80000000, cnt := 0x7FFFFFFF }, -- DR_BNK_DEFER_CNT
  { off := 0x30010, n := 6, s := 0x80, w1c := 0x80000000, ao := 0xFFFFFFFF, ovf := 0x80000000, cnt := 0x7FFFFFFF } -- DR_BNK_ABORT_CNT
  ]

/-- Registers of block 0x4_0000 of the DR die: DR_BST (spec/11_valve_drive.md). -/
def rowsDr4 : List RegRow := [
  { off := 0x40000, n := 2, s := 0x100, cfg := 0xC0FFFFFF, rst := 0x3007D0 }, -- DR_BST_CFG
  { off := 0x40004, n := 2, s := 0x100, cfg := 0xFFFF, rst := 0x3628 }, -- DR_BST_LIM
  { off := 0x40008, n := 2, s := 0x100 }, -- DR_BST_STAT
  { off := 0x4000C, n := 2, s := 0x100, w1c := 0x80000000, ao := 0xFFFFFFFF, ovf := 0x80000000, cnt := 0x7FFFFFFF }, -- DR_BST_ERECOV
  { off := 0x40010, n := 2, s := 0x100, w1c := 0x80000000, ao := 0xFFFFFFFF, ovf := 0x80000000, cnt := 0x7FFFFFFF }, -- DR_BST_EDRAW
  { off := 0x40014, n := 2, s := 0x100 }, -- DR_BST_ESR
  { off := 0x40018, n := 2, s := 0x100 } -- DR_BST_RECHG
  ]

/-- Registers of block 0x5_0000 of the DR die: DR_MOT (spec/12_motion_channels.md). -/
def rowsDr5 : List RegRow := [
  { off := 0x50000, n := 8, s := 0x100, cfg := 0xFFBFFFFF, rst := 0x203E8 }, -- DR_MOT_CFG
  { off := 0x50004, n := 8, s := 0x100, cfg := 0x870007FF, rst := 0x1000000 }, -- DR_MOT_BIND
  { off := 0x50008, n := 8, s := 0x100, cfg := 0x870007FF, rst := 0x1000000 }, -- DR_MOT_AUX
  { off := 0x5000C, n := 8, s := 0x100, cfg := 0xFFFFFFFF, rst := 0x6400 }, -- DR_MOT_DUTY
  { off := 0x50010, n := 8, s := 0x100, cfg := 0xFFFFFFFF, rst := 0x12C1388 }, -- DR_MOT_KICK
  { off := 0x50014, n := 8, s := 0x100, cfg := 0xFFFFFFFF, rst := 0xC807D0 }, -- DR_MOT_STALL
  { off := 0x50018, n := 8, s := 0x100, cfg := 0xFFFFFFFF, rst := 0x1F40014 }, -- DR_MOT_TACH
  { off := 0x5001C, n := 8, s := 0x100, cfg := 0xFFFFFFFF, rst := 0x1E2003 }, -- DR_MOT_RETRY
  { off := 0x50020, n := 8, s := 0x100, cfg := 0xFFFF0000, rst := 0xA0000 }, -- DR_MOT_CS
  { off := 0x50024, n := 8, s := 0x100, cfg := 0xFFFFFFFF }, -- DR_MOT_IBAND
  { off := 0x50040, n := 8, s := 0x100 }, -- DR_MOT_STAT
  { off := 0x50044, n := 8, s := 0x100 }, -- DR_MOT_SPEED
  { off := 0x50048, n := 8, s := 0x100 }, -- DR_MOT_I
  { off := 0x5004C, n := 8, s := 0x100 }, -- DR_MOT_NEXT
  { off := 0x50050, n := 8, s := 0x100, w1c := 0x80000000, ao := 0xFFFFFFFF, ovf := 0x80000000, cnt := 0x7FFFFFFF }, -- DR_MOT_STALL_CNT
  { off := 0x50054, n := 8, s := 0x100, w1c := 0x80000000, ao := 0xFFFFFFFF, ovf := 0x80000000, cnt := 0x7FFFFFFF }, -- DR_MOT_TL_CNT
  { off := 0x50058, n := 8, s := 0x100, wo := 0xFFFF0001 } -- DR_MOT_CTRL
  ]

/-- Registers of block 0x6_0000 of the DR die: DR_ILK (spec/11_valve_drive.md). -/
def rowsDr6 : List RegRow := [
  { off := 0x60000, cfg := 0xFFF0FFF }, -- DR_ILK_CFG
  { off := 0x60004, cfg := 0xFF00FF }, -- DR_ILK_CFG2
  { off := 0x60008, w1c := 0x30 }, -- DR_ILK_STAT
  { off := 0x6000C, w1c := 0x80000000, ao := 0xFFFFFFFF, ovf := 0x80000000, cnt := 0x7FFFFFFF }, -- DR_ILK_TRIP_CNT
  { off := 0x60010 } -- DR_ILK_TS
  ]

/-- Registers of block 0x7_0000 of the DR die: DR_THM (spec/18_thermal_ageing.md). -/
def rowsDr7 : List RegRow := [
  { off := 0x70000 }, -- DR_THM_TEMP
  { off := 0x70004 }, -- DR_THM_STAT
  { off := 0x70008 }, -- DR_THM_CANARY
  { off := 0x7000C, rc := 0xFFFFFFFF, rst := 0x80000000 }, -- DR_THM_TMAX
  { off := 0x70010, rst := 0x10000 }, -- DR_THM_DERATE
  { off := 0x70014, cfg := 0xFFFFFFFF, rst := 0x1F401F4 }, -- DR_THM_ESRMAX
  { off := 0x70020, m := 8, t := 0x4, rws := 0xFFFFFFFF, set := 0xFFFFFFFF } -- DR_THM_FANBASE
  ]

/-- Registers of block 0x0_0000 of the NW die: NW_DIE (spec/19_address_map.md). -/
def rowsNw0 : List RegRow := [
  { off := 0x0, por := 0xFFFFFF00 } -- NW_DIE_ID
  ]

/-- Registers of block 0x1_0000 of the NW die, part 0: NW_CH (spec/13_bus_controllers.md). -/
def rowsNw1p0 : List RegRow := [
  { off := 0x10000, n := 8, s := 0x1000, cfg := 0xFFC0FF00, rst := 0x800000 }, -- NW_CH_CFG
  { off := 0x10004, n := 8, s := 0x1000, cfg := 0xFFFFFE1F }, -- NW_CH_NBT
  { off := 0x10008, n := 8, s := 0x1000, cfg := 0xFFFF001F }, -- NW_CH_DBT
  { off := 0x1000C, n := 8, s := 0x1000, cfg := 0xFFFF001F }, -- NW_CH_XBT
  { off := 0x10010, n := 8, s := 0x1000, cfg := 0x807F007F }, -- NW_CH_LDC
  { off := 0x10014, n := 8, s := 0x1000, cfg := 0xBBFFFFFF }, -- NW_CH_XLCFG
  { off := 0x10018, n := 8, s := 0x1000, cfg := 0x7FF03FF }, -- NW_CH_FLT
  { off := 0x1001C, n := 8, s := 0x1000, cfg := 0xE0000703 }, -- NW_CH_RXCFG
  { off := 0x10020, n := 8, s := 0x1000 }, -- NW_CH_STAT
  { off := 0x10024, n := 8, s := 0x1000 }, -- NW_CH_ECNT
  { off := 0x10028, n := 8, s := 0x1000 }, -- NW_CH_LDV
  { off := 0x1002C, n := 8, s := 0x1000, wo := 0xFFFF0003 }, -- NW_CH_CTRL
  { off := 0x10030, n := 8, s := 0x1000, w1s := 0xFF000000 }, -- NW_CH_TXREQ
  { off := 0x10034, n := 8, s := 0x1000, w1s := 0xFF000000 }, -- NW_CH_TXCAN
  { off := 0x10038, n := 8, s := 0x1000 }, -- NW_CH_TXPEND
  { off := 0x10040, n := 8, s := 0x1000, w1c := 0x3FBF }, -- NW_CH_IR
  { off := 0x10044, n := 8, s := 0x1000, rw := 0x3FBF }, -- NW_CH_IE
  { off := 0x10048, n := 8, s := 0x1000 }, -- NW_CH_Q0_STAT
  { off := 0x1004C, n := 8, s := 0x1000 }, -- NW_CH_Q1_STAT
  { off := 0x10050, n := 8, s := 0x1000, wo := 0x7F }, -- NW_CH_Q0_REL
  { off := 0x10054, n := 8, s := 0x1000, wo := 0x7F }, -- NW_CH_Q1_REL
  { off := 0x10058, n := 8, s := 0x1000, w1c := 0xF }, -- NW_CH_C0S
  { off := 0x1005C, n := 8, s := 0x1000, w1c := 0x1 }, -- NW_CH_XLS
  { off := 0x10060, n := 8, s := 0x1000, w1c := 0x80000000, ao := 0xFFFFFFFF, ovf := 0x80000000, cnt := 0x7FFFFFFF } -- NW_CH_ERR_CNT
  ]

/-- Registers of block 0x1_0000 of the NW die, part 1: NW_CH (spec/13_bus_controllers.md). -/
def rowsNw1p1 : List RegRow := [
  { off := 0x10064, n := 8, s := 0x1000, w1c := 0x80000000, ao := 0xFFFFFFFF, ovf := 0x80000000, cnt := 0x7FFFFFFF }, -- NW_CH_BO_CNT
  { off := 0x10068, n := 8, s := 0x1000, w1c := 0x80000000, ao := 0xFFFFFFFF, ovf := 0x80000000, cnt := 0x7FFFFFFF }, -- NW_CH_OVR_CNT
  { off := 0x1006C, n := 8, s := 0x1000, w1c := 0x80000000, ao := 0xFFFFFFFF, ovf := 0x80000000, cnt := 0x7FFFFFFF }, -- NW_CH_PSKIP_CNT
  { off := 0x10100, n := 8, s := 0x1000, m := 16, t := 0x8, cfg := 0xFFFFFFFF }, -- NW_CH_RATE_N
  { off := 0x10104, n := 8, s := 0x1000, m := 16, t := 0x8, cfg := 0xFFFFFFFF }, -- NW_CH_RATE_D
  { off := 0x10180, n := 8, s := 0x1000, cfg := 0x800FFFFF, rst := 0x203E8 } -- NW_CH_RD
  ]

/-- All registers of that block. -/
def rowsNw1 : List RegRow := rowsNw1p0 ++ rowsNw1p1

/-- Registers of block 0x2_0000 of the NW die: NW_FLT (spec/13_bus_controllers.md). -/
def rowsNw2 : List RegRow := [
  { off := 0x20000 }, -- NW_FLT_CHK
  { off := 0x20010, m := 8, t := 0x4, w1c := 0x80000000, ovf := 0x80000000, cnt := 0x7FFFFFFF } -- NW_FLT_NOMATCH_CNT
  ]

/-- Registers of block 0x3_0000 of the NW die: NW_BRG (spec/14_hierarchy_latency.md). -/
def rowsNw3 : List RegRow := [
  { off := 0x30000, cfg := 0x80FFFFFF, rst := 0x40 }, -- NW_BRG_CFG
  { off := 0x30004, cfg := 0xFF00FF, rst := 0x100020 }, -- NW_BRG_QLIM
  { off := 0x30008 }, -- NW_BRG_STAT
  { off := 0x3000C, w1c := 0x80000000, ovf := 0x80000000, cnt := 0x7FFFFFFF }, -- NW_BRG_NOROUTE_CNT
  { off := 0x30010, m := 8, t := 0x4 }, -- NW_BRG_ACTIVE
  { off := 0x30030, m := 8, t := 0x4, w1c := 0x80000000, ao := 0xFFFFFFFF, ovf := 0x80000000, cnt := 0x7FFFFFFF }, -- NW_BRG_DROP_CNT
  { off := 0x30050, m := 8, t := 0x4, w1c := 0x80000000, ao := 0xFFFFFFFF, ovf := 0x80000000, cnt := 0x7FFFFFFF }, -- NW_BRG_C0_DROP_CNT
  { off := 0x30070, m := 8, t := 0x4, rc := 0xFFFFFFFF } -- NW_BRG_C0_LAT_MAX
  ]

/-- Registers of block 0x4_0000 of the NW die: NW_SYN (spec/04_time_bases.md). -/
def rowsNw4 : List RegRow := [
  { off := 0x40000, cfg := 0x70FFF, rst := 0x20000 }, -- NW_SYN_CFG
  { off := 0x40004, w1c := 0x80000000, ovf := 0x80000000, cnt := 0xFF0000 }, -- NW_SYN_STAT
  { off := 0x40008 }, -- NW_SYN_OFFSET
  { off := 0x4000C }, -- NW_SYN_MASTER
  { off := 0x40010, m := 8, t := 0x4, cfg := 0xFFF } -- NW_SYN_COMP
  ]

/-- Registers of block 0x5_0000 of the NW die: NW_HIER (spec/14_hierarchy_latency.md). -/
def rowsNw5 : List RegRow := [
  { off := 0x50000, cfg := 0xC7FF0000 }, -- NW_HIER_CFG
  { off := 0x50004, cfg := 0xFFF0FFF }, -- NW_HIER_BLOCK
  { off := 0x50008, rws := 0x8FFF0FFF, set := 0x8FFF0FFF }, -- NW_HIER_ADDR
  { off := 0x5000C, por := 0xFFFFFFFF }, -- NW_HIER_SERIAL_LO
  { off := 0x50010, por := 0xFFFFFFFF }, -- NW_HIER_SERIAL_HI
  { off := 0x50014 }, -- NW_HIER_STAT
  { off := 0x50018 }, -- NW_HIER_CENSUS
  { off := 0x5001C, w1c := 0x80000000, ao := 0xFFFFFFFF, ovf := 0x80000000, cnt := 0x7FFFFFFF }, -- NW_HIER_JOIN_CNT
  { off := 0x50020, rw := 0x1FF }, -- NW_HIER_BIND_IDX
  { off := 0x50024 }, -- NW_HIER_BIND_SER_LO
  { off := 0x50028 }, -- NW_HIER_BIND_SER_HI
  { off := 0x5002C }, -- NW_HIER_BIND_ADDR
  { off := 0x50030, wo := 0xFFFF0003 }, -- NW_HIER_CTRL
  { off := 0x50034, cfg := 0xFFF, rst := 0xFFF }, -- NW_HIER_POOL
  { off := 0x50100, m := 32, t := 0x4, cfg := 0x80FF0FFF } -- NW_HIER_PROXY
  ]

/-- Registers of block 0x6_0000 of the NW die: NW_THM (spec/18_thermal_ageing.md). -/
def rowsNw6 : List RegRow := [
  { off := 0x60000 }, -- NW_THM_TEMP
  { off := 0x60004 }, -- NW_THM_STAT
  { off := 0x60008 }, -- NW_THM_CANARY
  { off := 0x6000C, rc := 0xFFFFFFFF, rst := 0x80000000 } -- NW_THM_TMAX
  ]

/-- The four classes of die (Table 00-1; SV_ID CLASS of Table 19). -/
inductive DieClass where
  | sv | lp | dr | nw
  deriving DecidableEq, Repr

/-- The class of die `d` (Table 00-1): 0 SV, 1 to 4 LP, 5 and 6 DR, 7 NW. -/
def dieClass (d : Nat) : DieClass :=
  if d = 0 then .sv else if d ≤ 4 then .lp else if d ≤ 6 then .dr else .nw

/-- The rows of the register block at offset `blk`·0x1_0000 of a die of class `c` (Table 19-3). -/
def blockRows (c : DieClass) (blk : Nat) : List RegRow :=
  match c, blk with
  | .sv, 0x0 => rowsSv0
  | .sv, 0x1 => rowsSv1
  | .sv, 0x2 => rowsSv2
  | .sv, 0x3 => rowsSv3
  | .sv, 0x4 => rowsSv4
  | .sv, 0x5 => rowsSv5
  | .sv, 0x6 => rowsSv6
  | .sv, 0x7 => rowsSv7
  | .sv, 0x8 => rowsSv8
  | .sv, 0x9 => rowsSv9
  | .lp, 0x0 => rowsLp0
  | .lp, 0x1 => rowsLp1
  | .lp, 0x2 => rowsLp2
  | .lp, 0x3 => rowsLp3
  | .lp, 0x4 => rowsLp4
  | .lp, 0x5 => rowsLp5
  | .lp, 0x6 => rowsLp6
  | .lp, 0x7 => rowsLp7
  | .lp, 0x8 => rowsLp8
  | .dr, 0x0 => rowsDr0
  | .dr, 0x1 => rowsDr1
  | .dr, 0x2 => rowsDr2
  | .dr, 0x3 => rowsDr3
  | .dr, 0x4 => rowsDr4
  | .dr, 0x5 => rowsDr5
  | .dr, 0x6 => rowsDr6
  | .dr, 0x7 => rowsDr7
  | .nw, 0x0 => rowsNw0
  | .nw, 0x1 => rowsNw1
  | .nw, 0x2 => rowsNw2
  | .nw, 0x3 => rowsNw3
  | .nw, 0x4 => rowsNw4
  | .nw, 0x5 => rowsNw5
  | .nw, 0x6 => rowsNw6
  | _, _ => []

/-- Does the row hold the word at window offset `off`? (R475: block offset + instance · stride + word offset) -/
def RegRow.covers (r : RegRow) (off : Nat) : Bool :=
  if off < r.off then false
  else
    let rel := off - r.off
    let i := if r.s = 0 then 0 else rel / r.s
    let rem := if r.s = 0 then rel else rel % r.s
    let j := if r.t = 0 then 0 else rem / r.t
    let low := if r.t = 0 then rem else rem % r.t
    i < r.n && j < r.m && low = 0

/-- Size of a die window (R474). -/
def winSize : Nat := 0x01000000

/-- The die whose window holds `addr` (R474). -/
def dieOf (addr : Nat) : Nat := addr / winSize

/-- The register table row that maps `addr`, if one does (R475). -/
def findRow (addr : Nat) : Option RegRow :=
  if addr ≥ 8 * winSize then none
  else
    let off := addr % winSize
    (blockRows (dieClass (dieOf addr)) (off / 0x10000)).find? (fun r => r.covers off)

/-- Address of word `off` of instance `g` (a global number, R2) of a loop-die block with `k` instances per die. -/
def lpAt (k s off g : Nat) : Nat := (1 + g / k) * winSize + off + (g % k) * s
/-- Address of word `off` of instance `g` of a drive-die block with `k` instances per die (R2). -/
def drAt (k s off g : Nat) : Nat := (5 + g / k) * winSize + off + (g % k) * s
/-- Address of word `off` of the window of die `d` (R474). -/
def dieAt (d off : Nat) : Nat := d * winSize + off

/-- SV_PWR_STAT (spec/02_package_rails_balls.md). -/
def Reg.SV_PWR_STAT : Nat := 0x10000
/-- SV_PWR_CTRL (spec/02_package_rails_balls.md). -/
def Reg.SV_PWR_CTRL : Nat := 0x10004
/-- SV_PWR_WAKE_CFG (spec/02_package_rails_balls.md). -/
def Reg.SV_PWR_WAKE_CFG : Nat := 0x10008
/-- SV_PWR_WAKE_SRC (spec/02_package_rails_balls.md). -/
def Reg.SV_PWR_WAKE_SRC : Nat := 0x1000C
/-- SV_PWR_ALARM (spec/02_package_rails_balls.md). -/
def Reg.SV_PWR_ALARM : Nat := 0x10010
/-- SV_PWR_VMON0 (spec/02_package_rails_balls.md). -/
def Reg.SV_PWR_VMON0 : Nat := 0x10014
/-- SV_PWR_VMON1 (spec/02_package_rails_balls.md). -/
def Reg.SV_PWR_VMON1 : Nat := 0x10018
/-- SV_PWR_VBAT (spec/02_package_rails_balls.md). -/
def Reg.SV_PWR_VBAT : Nat := 0x1001C
/-- SV_PWR_LOSS_TIME (spec/02_package_rails_balls.md). -/
def Reg.SV_PWR_LOSS_TIME : Nat := 0x10020
/-- SV_PWR_FAULT_CNT (spec/02_package_rails_balls.md). -/
def Reg.SV_PWR_FAULT_CNT : Nat := 0x10024
/-- SV_BOOT_STAT (spec/03_start_image_states.md). -/
def Reg.SV_BOOT_STAT : Nat := 0x20000
/-- SV_BOOT_CTRL (spec/03_start_image_states.md). -/
def Reg.SV_BOOT_CTRL : Nat := 0x20004
/-- SV_BOOT_SAFE_CAUSE (spec/03_start_image_states.md). -/
def Reg.SV_BOOT_SAFE_CAUSE : Nat := 0x20008
/-- SV_BOOT_SAFE_HIST (spec/03_start_image_states.md). -/
def Reg.SV_BOOT_SAFE_HIST : Nat := 0x2000C
/-- SV_BOOT_RESUME_CFG (spec/03_start_image_states.md). -/
def Reg.SV_BOOT_RESUME_CFG : Nat := 0x20010
/-- SV_BOOT_IMG_ID_LO (spec/03_start_image_states.md). -/
def Reg.SV_BOOT_IMG_ID_LO : Nat := 0x20014
/-- SV_BOOT_IMG_ID_HI (spec/03_start_image_states.md). -/
def Reg.SV_BOOT_IMG_ID_HI : Nat := 0x20018
/-- SV_BOOT_IMG_INFO (spec/03_start_image_states.md). -/
def Reg.SV_BOOT_IMG_INFO : Nat := 0x2001C
/-- SV_BOOT_HDR_GEN (spec/03_start_image_states.md). -/
def Reg.SV_BOOT_HDR_GEN : Nat := 0x20020
/-- SV_BOOT_ERR_ADDR (spec/03_start_image_states.md). -/
def Reg.SV_BOOT_ERR_ADDR : Nat := 0x20024
/-- SV_BOOT_TIME (spec/03_start_image_states.md). -/
def Reg.SV_BOOT_TIME : Nat := 0x20028
/-- SV_BOOT_RESTART_CNT (spec/03_start_image_states.md). -/
def Reg.SV_BOOT_RESTART_CNT : Nat := 0x2002C
/-- SV_TIME_TB0_LO (spec/04_time_bases.md). -/
def Reg.SV_TIME_TB0_LO : Nat := 0x30000
/-- SV_TIME_TB0_HI (spec/04_time_bases.md). -/
def Reg.SV_TIME_TB0_HI : Nat := 0x30004
/-- SV_TIME_TB1_LO (spec/04_time_bases.md). -/
def Reg.SV_TIME_TB1_LO : Nat := 0x30008
/-- SV_TIME_TB1_HI (spec/04_time_bases.md). -/
def Reg.SV_TIME_TB1_HI : Nat := 0x3000C
/-- SV_TIME_TB3_LO (spec/04_time_bases.md). -/
def Reg.SV_TIME_TB3_LO : Nat := 0x30010
/-- SV_TIME_TB3_HI (spec/04_time_bases.md). -/
def Reg.SV_TIME_TB3_HI : Nat := 0x30014
/-- SV_TIME_TB2_S (spec/04_time_bases.md). -/
def Reg.SV_TIME_TB2_S : Nat := 0x30018
/-- SV_TIME_TB2_F (spec/04_time_bases.md). -/
def Reg.SV_TIME_TB2_F : Nat := 0x3001C
/-- SV_TIME_CFG (spec/04_time_bases.md). -/
def Reg.SV_TIME_CFG : Nat := 0x30020
/-- SV_TIME_RATE (spec/04_time_bases.md). -/
def Reg.SV_TIME_RATE : Nat := 0x30024
/-- SV_TIME_STAT (spec/04_time_bases.md). -/
def Reg.SV_TIME_STAT : Nat := 0x30028
/-- SV_TIME_SET_S (spec/04_time_bases.md). -/
def Reg.SV_TIME_SET_S : Nat := 0x3002C
/-- SV_TIME_SET_F (spec/04_time_bases.md). -/
def Reg.SV_TIME_SET_F : Nat := 0x30030
/-- SV_TIME_CTRL (spec/04_time_bases.md). -/
def Reg.SV_TIME_CTRL : Nat := 0x30034
/-- SV_TIME_PPS_TS_LO (spec/04_time_bases.md). -/
def Reg.SV_TIME_PPS_TS_LO : Nat := 0x30038
/-- SV_TIME_PPS_TS_HI (spec/04_time_bases.md). -/
def Reg.SV_TIME_PPS_TS_HI : Nat := 0x3003C
/-- SV_TIME_STEP_CNT (spec/04_time_bases.md). -/
def Reg.SV_TIME_STEP_CNT : Nat := 0x30040
/-- NW_SYN_CFG (spec/04_time_bases.md). -/
def Reg.NW_SYN_CFG : Nat := 0x7040000
/-- NW_SYN_STAT (spec/04_time_bases.md). -/
def Reg.NW_SYN_STAT : Nat := 0x7040004
/-- NW_SYN_OFFSET (spec/04_time_bases.md). -/
def Reg.NW_SYN_OFFSET : Nat := 0x7040008
/-- NW_SYN_MASTER (spec/04_time_bases.md). -/
def Reg.NW_SYN_MASTER : Nat := 0x704000C
/-- NW_SYN_COMP (spec/04_time_bases.md). -/
def Reg.NW_SYN_COMP (j : Nat) : Nat := 0x7040010 + j * 0x4
/-- LP_AIN_CFG (spec/05_sensing_front_end.md). -/
def Reg.LP_AIN_CFG (g : Nat) : Nat := lpAt 16 0x40 0x40000 g
/-- LP_AIN_PERIOD (spec/05_sensing_front_end.md). -/
def Reg.LP_AIN_PERIOD (g : Nat) : Nat := lpAt 16 0x40 0x40004 g
/-- LP_AIN_PHASE (spec/05_sensing_front_end.md). -/
def Reg.LP_AIN_PHASE (g : Nat) : Nat := lpAt 16 0x40 0x40008 g
/-- LP_AIN_RTD (spec/05_sensing_front_end.md). -/
def Reg.LP_AIN_RTD (g : Nat) : Nat := lpAt 16 0x40 0x4000C g
/-- LP_AIN_LO (spec/05_sensing_front_end.md). -/
def Reg.LP_AIN_LO (g : Nat) : Nat := lpAt 16 0x40 0x40010 g
/-- LP_AIN_HI (spec/05_sensing_front_end.md). -/
def Reg.LP_AIN_HI (g : Nat) : Nat := lpAt 16 0x40 0x40014 g
/-- LP_AIN_SCALE (spec/05_sensing_front_end.md). -/
def Reg.LP_AIN_SCALE (g : Nat) : Nat := lpAt 16 0x40 0x40018 g
/-- LP_AIN_OFFSET (spec/05_sensing_front_end.md). -/
def Reg.LP_AIN_OFFSET (g : Nat) : Nat := lpAt 16 0x40 0x4001C g
/-- LP_AIN_STAT (spec/05_sensing_front_end.md). -/
def Reg.LP_AIN_STAT (g : Nat) : Nat := lpAt 16 0x40 0x40020 g
/-- LP_AIN_VALUE (spec/05_sensing_front_end.md). -/
def Reg.LP_AIN_VALUE (g : Nat) : Nat := lpAt 16 0x40 0x40024 g
/-- LP_AIN_RAW (spec/05_sensing_front_end.md). -/
def Reg.LP_AIN_RAW (g : Nat) : Nat := lpAt 16 0x40 0x40028 g
/-- LP_AIN_FAULT_CNT (spec/05_sensing_front_end.md). -/
def Reg.LP_AIN_FAULT_CNT (g : Nat) : Nat := lpAt 16 0x40 0x4002C g
/-- LP_AIN_CJ (spec/05_sensing_front_end.md). -/
def Reg.LP_AIN_CJ (d : Nat) : Nat := dieAt d 0x40400
/-- LP_PRB_CFG (spec/05_sensing_front_end.md). -/
def Reg.LP_PRB_CFG (g : Nat) : Nat := lpAt 4 0x200 0x50000 g
/-- LP_PRB_CFG2 (spec/05_sensing_front_end.md). -/
def Reg.LP_PRB_CFG2 (g : Nat) : Nat := lpAt 4 0x200 0x50004 g
/-- LP_PRB_PERIOD (spec/05_sensing_front_end.md). -/
def Reg.LP_PRB_PERIOD (g : Nat) : Nat := lpAt 4 0x200 0x50008 g
/-- LP_PRB_PHASE (spec/05_sensing_front_end.md). -/
def Reg.LP_PRB_PHASE (g : Nat) : Nat := lpAt 4 0x200 0x5000C g
/-- LP_PRB_DWELL (spec/05_sensing_front_end.md). -/
def Reg.LP_PRB_DWELL (g : Nat) : Nat := lpAt 4 0x200 0x50010 g
/-- LP_PRB_C0 (spec/05_sensing_front_end.md). -/
def Reg.LP_PRB_C0 (g : Nat) : Nat := lpAt 4 0x200 0x50014 g
/-- LP_PRB_TDEF (spec/05_sensing_front_end.md). -/
def Reg.LP_PRB_TDEF (g : Nat) : Nat := lpAt 4 0x200 0x50018 g
/-- LP_PRB_EMPTY (spec/05_sensing_front_end.md). -/
def Reg.LP_PRB_EMPTY (g : Nat) : Nat := lpAt 4 0x200 0x5001C g
/-- LP_PRB_FTW (spec/05_sensing_front_end.md). -/
def Reg.LP_PRB_FTW (g : Nat) (j : Nat) : Nat := lpAt 4 0x200 0x50020 g + j * 0x4
/-- LP_PRB_BOPEN (spec/05_sensing_front_end.md). -/
def Reg.LP_PRB_BOPEN (g : Nat) (j : Nat) : Nat := lpAt 4 0x200 0x50040 g + j * 0x4
/-- LP_PRB_GOPEN (spec/05_sensing_front_end.md). -/
def Reg.LP_PRB_GOPEN (g : Nat) (j : Nat) : Nat := lpAt 4 0x200 0x50060 g + j * 0x4
/-- LP_PRB_EPS_RE (spec/05_sensing_front_end.md). -/
def Reg.LP_PRB_EPS_RE (g : Nat) (j : Nat) : Nat := lpAt 4 0x200 0x50080 g + j * 0x4
/-- LP_PRB_EPS_IM (spec/05_sensing_front_end.md). -/
def Reg.LP_PRB_EPS_IM (g : Nat) (j : Nat) : Nat := lpAt 4 0x200 0x500A0 g + j * 0x4
/-- LP_PRB_FEATURE (spec/05_sensing_front_end.md). -/
def Reg.LP_PRB_FEATURE (g : Nat) : Nat := lpAt 4 0x200 0x500C0 g
/-- LP_PRB_MOIST (spec/05_sensing_front_end.md). -/
def Reg.LP_PRB_MOIST (g : Nat) : Nat := lpAt 4 0x200 0x500C4 g
/-- LP_PRB_TUSED (spec/05_sensing_front_end.md). -/
def Reg.LP_PRB_TUSED (g : Nat) : Nat := lpAt 4 0x200 0x500C8 g
/-- LP_PRB_REFGAIN (spec/05_sensing_front_end.md). -/
def Reg.LP_PRB_REFGAIN (g : Nat) : Nat := lpAt 4 0x200 0x500CC g
/-- LP_PRB_STAT (spec/05_sensing_front_end.md). -/
def Reg.LP_PRB_STAT (g : Nat) : Nat := lpAt 4 0x200 0x500D0 g
/-- LP_PRB_FAULT_CNT (spec/05_sensing_front_end.md). -/
def Reg.LP_PRB_FAULT_CNT (g : Nat) : Nat := lpAt 4 0x200 0x500D4 g
/-- LP_PRB_CAL_CFG (spec/05_sensing_front_end.md). -/
def Reg.LP_PRB_CAL_CFG (d : Nat) : Nat := dieAt d 0x50800
/-- LP_PRB_FMIN (spec/05_sensing_front_end.md). -/
def Reg.LP_PRB_FMIN (d : Nat) (j : Nat) : Nat := dieAt d 0x50810 + j * 0x4
/-- LP_PRB_FSTEP (spec/05_sensing_front_end.md). -/
def Reg.LP_PRB_FSTEP (d : Nat) (j : Nat) : Nat := dieAt d 0x50820 + j * 0x4
/-- LP_PRB_TMIN (spec/05_sensing_front_end.md). -/
def Reg.LP_PRB_TMIN (d : Nat) (j : Nat) : Nat := dieAt d 0x50830 + j * 0x4
/-- LP_PRB_TSTEP (spec/05_sensing_front_end.md). -/
def Reg.LP_PRB_TSTEP (d : Nat) (j : Nat) : Nat := dieAt d 0x50840 + j * 0x4
/-- LP_PLS_CFG (spec/05_sensing_front_end.md). -/
def Reg.LP_PLS_CFG (g : Nat) : Nat := lpAt 8 0x40 0x60000 g
/-- LP_PLS_PERIOD (spec/05_sensing_front_end.md). -/
def Reg.LP_PLS_PERIOD (g : Nat) : Nat := lpAt 8 0x40 0x60004 g
/-- LP_PLS_PHASE (spec/05_sensing_front_end.md). -/
def Reg.LP_PLS_PHASE (g : Nat) : Nat := lpAt 8 0x40 0x60008 g
/-- LP_PLS_WEIGHT (spec/05_sensing_front_end.md). -/
def Reg.LP_PLS_WEIGHT (g : Nat) : Nat := lpAt 8 0x40 0x6000C g
/-- LP_PLS_ZERO (spec/05_sensing_front_end.md). -/
def Reg.LP_PLS_ZERO (g : Nat) : Nat := lpAt 8 0x40 0x60010 g
/-- LP_PLS_COUNT (spec/05_sensing_front_end.md). -/
def Reg.LP_PLS_COUNT (g : Nat) : Nat := lpAt 8 0x40 0x60014 g
/-- LP_PLS_LAST_TS (spec/05_sensing_front_end.md). -/
def Reg.LP_PLS_LAST_TS (g : Nat) : Nat := lpAt 8 0x40 0x60018 g
/-- LP_PLS_VALUE (spec/05_sensing_front_end.md). -/
def Reg.LP_PLS_VALUE (g : Nat) : Nat := lpAt 8 0x40 0x6001C g
/-- LP_PLS_STAT (spec/05_sensing_front_end.md). -/
def Reg.LP_PLS_STAT (g : Nat) : Nat := lpAt 8 0x40 0x60020 g
/-- LP_PLS_REJ_CNT (spec/05_sensing_front_end.md). -/
def Reg.LP_PLS_REJ_CNT (g : Nat) : Nat := lpAt 8 0x40 0x60024 g
/-- LP_PLS_CTRL (spec/05_sensing_front_end.md). -/
def Reg.LP_PLS_CTRL (g : Nat) : Nat := lpAt 8 0x40 0x60028 g
/-- LP_STR_CFG (spec/06_sensor_strings.md). -/
def Reg.LP_STR_CFG (g : Nat) : Nat := lpAt 2 0x1000 0x70000 g
/-- LP_STR_PERIOD (spec/06_sensor_strings.md). -/
def Reg.LP_STR_PERIOD (g : Nat) : Nat := lpAt 2 0x1000 0x70004 g
/-- LP_STR_PHASE (spec/06_sensor_strings.md). -/
def Reg.LP_STR_PHASE (g : Nat) : Nat := lpAt 2 0x1000 0x70008 g
/-- LP_STR_STAT (spec/06_sensor_strings.md). -/
def Reg.LP_STR_STAT (g : Nat) : Nat := lpAt 2 0x1000 0x7000C g
/-- LP_STR_LINE (spec/06_sensor_strings.md). -/
def Reg.LP_STR_LINE (g : Nat) : Nat := lpAt 2 0x1000 0x70010 g
/-- LP_STR_ERR_CNT (spec/06_sensor_strings.md). -/
def Reg.LP_STR_ERR_CNT (g : Nat) : Nat := lpAt 2 0x1000 0x70014 g
/-- LP_STR_CTRL (spec/06_sensor_strings.md). -/
def Reg.LP_STR_CTRL (g : Nat) : Nat := lpAt 2 0x1000 0x70018 g
/-- LP_STR_NODE_ID_LO (spec/06_sensor_strings.md). -/
def Reg.LP_STR_NODE_ID_LO (g : Nat) (j : Nat) : Nat := lpAt 2 0x1000 0x70100 g + j * 0x10
/-- LP_STR_NODE_ID_HI (spec/06_sensor_strings.md). -/
def Reg.LP_STR_NODE_ID_HI (g : Nat) (j : Nat) : Nat := lpAt 2 0x1000 0x70104 g + j * 0x10
/-- LP_STR_NODE_CFG (spec/06_sensor_strings.md). -/
def Reg.LP_STR_NODE_CFG (g : Nat) (j : Nat) : Nat := lpAt 2 0x1000 0x70108 g + j * 0x10
/-- LP_STR_NODE_STAT (spec/06_sensor_strings.md). -/
def Reg.LP_STR_NODE_STAT (g : Nat) (j : Nat) : Nat := lpAt 2 0x1000 0x7010C g + j * 0x10
/-- LP_STR_NODE_OFFSET (spec/06_sensor_strings.md). -/
def Reg.LP_STR_NODE_OFFSET (g : Nat) (j : Nat) : Nat := lpAt 2 0x1000 0x70500 g + j * 0x4
/-- LP_STR_NODE_VALUE (spec/06_sensor_strings.md). -/
def Reg.LP_STR_NODE_VALUE (g : Nat) (j : Nat) : Nat := lpAt 2 0x1000 0x70600 g + j * 0x4
/-- LP_TRK_CFG (spec/07_column_tracker.md). -/
def Reg.LP_TRK_CFG (g : Nat) : Nat := lpAt 4 0x100 0x30000 g
/-- LP_TRK_GEOM (spec/07_column_tracker.md). -/
def Reg.LP_TRK_GEOM (g : Nat) : Nat := lpAt 4 0x100 0x30004 g
/-- LP_TRK_PERIOD (spec/07_column_tracker.md). -/
def Reg.LP_TRK_PERIOD (g : Nat) : Nat := lpAt 4 0x100 0x30008 g
/-- LP_TRK_PHASE (spec/07_column_tracker.md). -/
def Reg.LP_TRK_PHASE (g : Nat) : Nat := lpAt 4 0x100 0x3000C g
/-- LP_TRK_LPP (spec/07_column_tracker.md). -/
def Reg.LP_TRK_LPP (g : Nat) : Nat := lpAt 4 0x100 0x30010 g
/-- LP_TRK_KW (spec/07_column_tracker.md). -/
def Reg.LP_TRK_KW (g : Nat) : Nat := lpAt 4 0x100 0x30014 g
/-- LP_TRK_HK (spec/07_column_tracker.md). -/
def Reg.LP_TRK_HK (g : Nat) : Nat := lpAt 4 0x100 0x30018 g
/-- LP_TRK_EV (spec/07_column_tracker.md). -/
def Reg.LP_TRK_EV (g : Nat) : Nat := lpAt 4 0x100 0x3001C g
/-- LP_TRK_CAP (spec/07_column_tracker.md). -/
def Reg.LP_TRK_CAP (g : Nat) : Nat := lpAt 4 0x100 0x30020 g
/-- LP_TRK_PATM (spec/07_column_tracker.md). -/
def Reg.LP_TRK_PATM (g : Nat) : Nat := lpAt 4 0x100 0x30024 g
/-- LP_TRK_QNOM (spec/07_column_tracker.md). -/
def Reg.LP_TRK_QNOM (g : Nat) : Nat := lpAt 4 0x100 0x30028 g
/-- LP_TRK_SIG_IN (spec/07_column_tracker.md). -/
def Reg.LP_TRK_SIG_IN (g : Nat) : Nat := lpAt 4 0x100 0x3002C g
/-- LP_TRK_SIG_AUX (spec/07_column_tracker.md). -/
def Reg.LP_TRK_SIG_AUX (g : Nat) : Nat := lpAt 4 0x100 0x30030 g
/-- LP_TRK_ZONE_SIG (spec/07_column_tracker.md). -/
def Reg.LP_TRK_ZONE_SIG (g : Nat) (j : Nat) : Nat := lpAt 4 0x100 0x30034 g + j * 0x8
/-- LP_TRK_ZONE_START (spec/07_column_tracker.md). -/
def Reg.LP_TRK_ZONE_START (g : Nat) (j : Nat) : Nat := lpAt 4 0x100 0x30038 g + j * 0x8
/-- LP_TRK_STN (spec/07_column_tracker.md). -/
def Reg.LP_TRK_STN (g : Nat) (j : Nat) : Nat := lpAt 4 0x100 0x30054 g + j * 0x4
/-- LP_TRK_AGAIN (spec/07_column_tracker.md). -/
def Reg.LP_TRK_AGAIN (g : Nat) : Nat := lpAt 4 0x100 0x30074 g
/-- LP_TRK_BGAIN (spec/07_column_tracker.md). -/
def Reg.LP_TRK_BGAIN (g : Nat) : Nat := lpAt 4 0x100 0x30078 g
/-- LP_TRK_BMAX (spec/07_column_tracker.md). -/
def Reg.LP_TRK_BMAX (g : Nat) : Nat := lpAt 4 0x100 0x3007C g
/-- LP_TRK_BIAS (spec/07_column_tracker.md). -/
def Reg.LP_TRK_BIAS (g : Nat) (j : Nat) : Nat := lpAt 4 0x100 0x30080 g + j * 0x4
/-- LP_TRK_PRED (spec/07_column_tracker.md). -/
def Reg.LP_TRK_PRED (g : Nat) (j : Nat) : Nat := lpAt 4 0x100 0x300A0 g + j * 0x4
/-- LP_TRK_HZN (spec/07_column_tracker.md). -/
def Reg.LP_TRK_HZN (g : Nat) : Nat := lpAt 4 0x100 0x300B0 g
/-- LP_TRK_VF (spec/07_column_tracker.md). -/
def Reg.LP_TRK_VF (g : Nat) : Nat := lpAt 4 0x100 0x300B4 g
/-- LP_TRK_VMIN (spec/07_column_tracker.md). -/
def Reg.LP_TRK_VMIN (g : Nat) : Nat := lpAt 4 0x100 0x300B8 g
/-- LP_TRK_MLO (spec/07_column_tracker.md). -/
def Reg.LP_TRK_MLO (g : Nat) : Nat := lpAt 4 0x100 0x300BC g
/-- LP_TRK_MHI (spec/07_column_tracker.md). -/
def Reg.LP_TRK_MHI (g : Nat) : Nat := lpAt 4 0x100 0x300C0 g
/-- LP_TRK_VOUT (spec/07_column_tracker.md). -/
def Reg.LP_TRK_VOUT (g : Nat) : Nat := lpAt 4 0x100 0x300C4 g
/-- LP_TRK_STAT (spec/07_column_tracker.md). -/
def Reg.LP_TRK_STAT (g : Nat) : Nat := lpAt 4 0x100 0x300C8 g
/-- LP_TRK_ADV (spec/07_column_tracker.md). -/
def Reg.LP_TRK_ADV (g : Nat) : Nat := lpAt 4 0x100 0x300CC g
/-- LP_TRK_VRATE (spec/07_column_tracker.md). -/
def Reg.LP_TRK_VRATE (g : Nat) : Nat := lpAt 4 0x100 0x300D0 g
/-- LP_TRK_TOP (spec/07_column_tracker.md). -/
def Reg.LP_TRK_TOP (g : Nat) : Nat := lpAt 4 0x100 0x300D4 g
/-- LP_TRK_SLACK (spec/07_column_tracker.md). -/
def Reg.LP_TRK_SLACK (g : Nat) : Nat := lpAt 4 0x100 0x300D8 g
/-- LP_TRK_MIN_SLACK (spec/07_column_tracker.md). -/
def Reg.LP_TRK_MIN_SLACK (g : Nat) : Nat := lpAt 4 0x100 0x300DC g
/-- LP_TRK_OVR_CNT (spec/07_column_tracker.md). -/
def Reg.LP_TRK_OVR_CNT (g : Nat) : Nat := lpAt 4 0x100 0x300E0 g
/-- LP_TRK_EDGE_CNT (spec/07_column_tracker.md). -/
def Reg.LP_TRK_EDGE_CNT (g : Nat) : Nat := lpAt 4 0x100 0x300E4 g
/-- LP_TRK_LEVELS_OUT (spec/07_column_tracker.md). -/
def Reg.LP_TRK_LEVELS_OUT (g : Nat) : Nat := lpAt 4 0x100 0x300E8 g
/-- LP_TRK_CTRL (spec/07_column_tracker.md). -/
def Reg.LP_TRK_CTRL (g : Nat) : Nat := lpAt 4 0x100 0x300EC g
/-- LP_TRK_PRED_VAL (spec/07_column_tracker.md). -/
def Reg.LP_TRK_PRED_VAL (g : Nat) (j : Nat) : Nat := lpAt 4 0x100 0x300F0 g + j * 0x4
/-- LP_TRK_SURF_MODE (spec/07_column_tracker.md). -/
def Reg.LP_TRK_SURF_MODE (d : Nat) : Nat := dieAt d 0x30800
/-- LP_TRK_SURF_AX (spec/07_column_tracker.md). -/
def Reg.LP_TRK_SURF_AX (d h j : Nat) : Nat := dieAt d 0x30810 + h * 0x20 + j * 4
/-- LP_TRK_EMC_AX (spec/07_column_tracker.md). -/
def Reg.LP_TRK_EMC_AX (d : Nat) (j : Nat) : Nat := dieAt d 0x30850 + j * 0x4
/-- LP_TRK_SVP_AX (spec/07_column_tracker.md). -/
def Reg.LP_TRK_SVP_AX (d : Nat) (j : Nat) : Nat := dieAt d 0x30860 + j * 0x4
/-- LP_TRK_LOAD (spec/07_column_tracker.md). -/
def Reg.LP_TRK_LOAD (d : Nat) : Nat := dieAt d 0x30870
/-- LP_ENG_STAT (spec/08_loop_engine.md). -/
def Reg.LP_ENG_STAT (d : Nat) : Nat := dieAt d 0x10000
/-- LP_ENG_LOAD (spec/08_loop_engine.md). -/
def Reg.LP_ENG_LOAD (d : Nat) : Nat := dieAt d 0x10004
/-- LP_ENG_MARGIN (spec/08_loop_engine.md). -/
def Reg.LP_ENG_MARGIN (d : Nat) : Nat := dieAt d 0x10008
/-- LP_ENG_BUSY (spec/08_loop_engine.md). -/
def Reg.LP_ENG_BUSY (d : Nat) : Nat := dieAt d 0x1000C
/-- LP_ENG_MIN_SLACK (spec/08_loop_engine.md). -/
def Reg.LP_ENG_MIN_SLACK (d : Nat) : Nat := dieAt d 0x10010
/-- LP_ENG_OVR_CNT (spec/08_loop_engine.md). -/
def Reg.LP_ENG_OVR_CNT (d : Nat) : Nat := dieAt d 0x10014
/-- LP_ENG_OVR_LO (spec/08_loop_engine.md). -/
def Reg.LP_ENG_OVR_LO (d : Nat) : Nat := dieAt d 0x10018
/-- LP_ENG_OVR_HI (spec/08_loop_engine.md). -/
def Reg.LP_ENG_OVR_HI (d : Nat) : Nat := dieAt d 0x1001C
/-- LP_ENG_HALT_LO (spec/08_loop_engine.md). -/
def Reg.LP_ENG_HALT_LO (d : Nat) : Nat := dieAt d 0x10020
/-- LP_ENG_HALT_HI (spec/08_loop_engine.md). -/
def Reg.LP_ENG_HALT_HI (d : Nat) : Nat := dieAt d 0x10024
/-- LP_ENG_CTRL (spec/08_loop_engine.md). -/
def Reg.LP_ENG_CTRL (d : Nat) : Nat := dieAt d 0x10028
/-- LP_LOOP_CFG (spec/08_loop_engine.md). -/
def Reg.LP_LOOP_CFG (g : Nat) : Nat := lpAt 64 0x100 0x20000 g
/-- LP_LOOP_PERIOD (spec/08_loop_engine.md). -/
def Reg.LP_LOOP_PERIOD (g : Nat) : Nat := lpAt 64 0x100 0x20004 g
/-- LP_LOOP_PHASE (spec/08_loop_engine.md). -/
def Reg.LP_LOOP_PHASE (g : Nat) : Nat := lpAt 64 0x100 0x20008 g
/-- LP_LOOP_COEF (spec/08_loop_engine.md). -/
def Reg.LP_LOOP_COEF (g : Nat) : Nat := lpAt 64 0x100 0x2000C g
/-- LP_LOOP_LRN (spec/08_loop_engine.md). -/
def Reg.LP_LOOP_LRN (g : Nat) : Nat := lpAt 64 0x100 0x20010 g
/-- LP_LOOP_IN (spec/08_loop_engine.md). -/
def Reg.LP_LOOP_IN (g : Nat) (j : Nat) : Nat := lpAt 64 0x100 0x20014 g + j * 0x4
/-- LP_LOOP_OUT (spec/08_loop_engine.md). -/
def Reg.LP_LOOP_OUT (g : Nat) (j : Nat) : Nat := lpAt 64 0x100 0x20034 g + j * 0x4
/-- LP_LOOP_LIM_LO (spec/08_loop_engine.md). -/
def Reg.LP_LOOP_LIM_LO (g : Nat) : Nat := lpAt 64 0x100 0x20044 g
/-- LP_LOOP_LIM_HI (spec/08_loop_engine.md). -/
def Reg.LP_LOOP_LIM_HI (g : Nat) : Nat := lpAt 64 0x100 0x20048 g
/-- LP_LOOP_SAFE_VAL (spec/08_loop_engine.md). -/
def Reg.LP_LOOP_SAFE_VAL (g : Nat) : Nat := lpAt 64 0x100 0x2004C g
/-- LP_LOOP_FRZ (spec/08_loop_engine.md). -/
def Reg.LP_LOOP_FRZ (g : Nat) : Nat := lpAt 64 0x100 0x20050 g
/-- LP_LOOP_FRZ_DIN (spec/08_loop_engine.md). -/
def Reg.LP_LOOP_FRZ_DIN (g : Nat) : Nat := lpAt 64 0x100 0x20054 g
/-- LP_LOOP_FRZ_DOUT (spec/08_loop_engine.md). -/
def Reg.LP_LOOP_FRZ_DOUT (g : Nat) : Nat := lpAt 64 0x100 0x20058 g
/-- LP_LOOP_MODE_REQ (spec/08_loop_engine.md). -/
def Reg.LP_LOOP_MODE_REQ (g : Nat) : Nat := lpAt 64 0x100 0x2005C g
/-- LP_LOOP_MANVAL (spec/08_loop_engine.md). -/
def Reg.LP_LOOP_MANVAL (g : Nat) : Nat := lpAt 64 0x100 0x20060 g
/-- LP_LOOP_STAT (spec/08_loop_engine.md). -/
def Reg.LP_LOOP_STAT (g : Nat) : Nat := lpAt 64 0x100 0x20064 g
/-- LP_LOOP_FLAGS (spec/08_loop_engine.md). -/
def Reg.LP_LOOP_FLAGS (g : Nat) : Nat := lpAt 64 0x100 0x20068 g
/-- LP_LOOP_SLACK (spec/08_loop_engine.md). -/
def Reg.LP_LOOP_SLACK (g : Nat) : Nat := lpAt 64 0x100 0x2006C g
/-- LP_LOOP_MIN_SLACK (spec/08_loop_engine.md). -/
def Reg.LP_LOOP_MIN_SLACK (g : Nat) : Nat := lpAt 64 0x100 0x20070 g
/-- LP_LOOP_OVR_CNT (spec/08_loop_engine.md). -/
def Reg.LP_LOOP_OVR_CNT (g : Nat) : Nat := lpAt 64 0x100 0x20074 g
/-- LP_LOOP_FAULT_ADDR (spec/08_loop_engine.md). -/
def Reg.LP_LOOP_FAULT_ADDR (g : Nat) : Nat := lpAt 64 0x100 0x20078 g
/-- LP_LOOP_Z (spec/08_loop_engine.md). -/
def Reg.LP_LOOP_Z (g : Nat) (j : Nat) : Nat := lpAt 64 0x100 0x20080 g + j * 0x4
/-- SV_SEQ_STAT (spec/10_sequences.md). -/
def Reg.SV_SEQ_STAT (n : Nat) : Nat := 0x80000 + n * 0x20
/-- SV_SEQ_TIME (spec/10_sequences.md). -/
def Reg.SV_SEQ_TIME (n : Nat) : Nat := 0x80004 + n * 0x20
/-- SV_SEQ_TRANS_CNT (spec/10_sequences.md). -/
def Reg.SV_SEQ_TRANS_CNT (n : Nat) : Nat := 0x80008 + n * 0x20
/-- SV_SEQ_LAST (spec/10_sequences.md). -/
def Reg.SV_SEQ_LAST (n : Nat) : Nat := 0x8000C + n * 0x20
/-- SV_SEQ_CMD (spec/10_sequences.md). -/
def Reg.SV_SEQ_CMD (n : Nat) : Nat := 0x80010 + n * 0x20
/-- SV_SEQ_SLACK (spec/10_sequences.md). -/
def Reg.SV_SEQ_SLACK : Nat := 0x80100
/-- SV_SEQ_MIN_SLACK (spec/10_sequences.md). -/
def Reg.SV_SEQ_MIN_SLACK : Nat := 0x80104
/-- DR_SEQ_STAT (spec/11_valve_drive.md). -/
def Reg.DR_SEQ_STAT (d : Nat) : Nat := dieAt d 0x10000
/-- DR_SEQ_FAULT_ADDR (spec/11_valve_drive.md). -/
def Reg.DR_SEQ_FAULT_ADDR (d : Nat) : Nat := dieAt d 0x10004
/-- DR_VCH_CFG (spec/11_valve_drive.md). -/
def Reg.DR_VCH_CFG (g : Nat) : Nat := drAt 12 0x100 0x20000 g
/-- DR_VCH_BIND (spec/11_valve_drive.md). -/
def Reg.DR_VCH_BIND (g : Nat) : Nat := drAt 12 0x100 0x20004 g
/-- DR_VCH_HOLD (spec/11_valve_drive.md). -/
def Reg.DR_VCH_HOLD (g : Nat) : Nat := drAt 12 0x100 0x20008 g
/-- DR_VCH_DUTY (spec/11_valve_drive.md). -/
def Reg.DR_VCH_DUTY (g : Nat) : Nat := drAt 12 0x100 0x2000C g
/-- DR_VCH_RCOLD (spec/11_valve_drive.md). -/
def Reg.DR_VCH_RCOLD (g : Nat) : Nat := drAt 12 0x100 0x20010 g
/-- DR_VCH_ALPHA (spec/11_valve_drive.md). -/
def Reg.DR_VCH_ALPHA (g : Nat) : Nat := drAt 12 0x100 0x20014 g
/-- DR_VCH_RWC (spec/11_valve_drive.md). -/
def Reg.DR_VCH_RWC (g : Nat) : Nat := drAt 12 0x100 0x20018 g
/-- DR_VCH_RCA (spec/11_valve_drive.md). -/
def Reg.DR_VCH_RCA (g : Nat) : Nat := drAt 12 0x100 0x2001C g
/-- DR_VCH_CW (spec/11_valve_drive.md). -/
def Reg.DR_VCH_CW (g : Nat) : Nat := drAt 12 0x100 0x20020 g
/-- DR_VCH_CC (spec/11_valve_drive.md). -/
def Reg.DR_VCH_CC (g : Nat) : Nat := drAt 12 0x100 0x20024 g
/-- DR_VCH_RPATH (spec/11_valve_drive.md). -/
def Reg.DR_VCH_RPATH (g : Nat) : Nat := drAt 12 0x100 0x20028 g
/-- DR_VCH_KR (spec/11_valve_drive.md). -/
def Reg.DR_VCH_KR (g : Nat) : Nat := drAt 12 0x100 0x2002C g
/-- DR_VCH_TW_DERATE (spec/11_valve_drive.md). -/
def Reg.DR_VCH_TW_DERATE (g : Nat) : Nat := drAt 12 0x100 0x20030 g
/-- DR_VCH_TW_MAX (spec/11_valve_drive.md). -/
def Reg.DR_VCH_TW_MAX (g : Nat) : Nat := drAt 12 0x100 0x20034 g
/-- DR_VCH_TW_START (spec/11_valve_drive.md). -/
def Reg.DR_VCH_TW_START (g : Nat) : Nat := drAt 12 0x100 0x20038 g
/-- DR_VCH_TA (spec/11_valve_drive.md). -/
def Reg.DR_VCH_TA (g : Nat) : Nat := drAt 12 0x100 0x2003C g
/-- DR_VCH_STAT (spec/11_valve_drive.md). -/
def Reg.DR_VCH_STAT (g : Nat) : Nat := drAt 12 0x100 0x20040 g
/-- DR_VCH_I (spec/11_valve_drive.md). -/
def Reg.DR_VCH_I (g : Nat) : Nat := drAt 12 0x100 0x20044 g
/-- DR_VCH_TW (spec/11_valve_drive.md). -/
def Reg.DR_VCH_TW (g : Nat) : Nat := drAt 12 0x100 0x20048 g
/-- DR_VCH_TC (spec/11_valve_drive.md). -/
def Reg.DR_VCH_TC (g : Nat) : Nat := drAt 12 0x100 0x2004C g
/-- DR_VCH_RMEAS (spec/11_valve_drive.md). -/
def Reg.DR_VCH_RMEAS (g : Nat) : Nat := drAt 12 0x100 0x20050 g
/-- DR_VCH_RCOLD_EST (spec/11_valve_drive.md). -/
def Reg.DR_VCH_RCOLD_EST (g : Nat) : Nat := drAt 12 0x100 0x20054 g
/-- DR_VCH_DEFER (spec/11_valve_drive.md). -/
def Reg.DR_VCH_DEFER (g : Nat) : Nat := drAt 12 0x100 0x20058 g
/-- DR_VCH_DEFER_MAX (spec/11_valve_drive.md). -/
def Reg.DR_VCH_DEFER_MAX (g : Nat) : Nat := drAt 12 0x100 0x2005C g
/-- DR_VCH_START_CNT (spec/11_valve_drive.md). -/
def Reg.DR_VCH_START_CNT (g : Nat) : Nat := drAt 12 0x100 0x20060 g
/-- DR_VCH_FAULT_CNT (spec/11_valve_drive.md). -/
def Reg.DR_VCH_FAULT_CNT (g : Nat) : Nat := drAt 12 0x100 0x20064 g
/-- DR_BNK_CFG (spec/11_valve_drive.md). -/
def Reg.DR_BNK_CFG (g : Nat) : Nat := drAt 6 0x80 0x30000 g
/-- DR_BNK_DEFER_MAX (spec/11_valve_drive.md). -/
def Reg.DR_BNK_DEFER_MAX (g : Nat) : Nat := drAt 6 0x80 0x30004 g
/-- DR_BNK_STAT (spec/11_valve_drive.md). -/
def Reg.DR_BNK_STAT (g : Nat) : Nat := drAt 6 0x80 0x30008 g
/-- DR_BNK_DEFER_CNT (spec/11_valve_drive.md). -/
def Reg.DR_BNK_DEFER_CNT (g : Nat) : Nat := drAt 6 0x80 0x3000C g
/-- DR_BNK_ABORT_CNT (spec/11_valve_drive.md). -/
def Reg.DR_BNK_ABORT_CNT (g : Nat) : Nat := drAt 6 0x80 0x30010 g
/-- DR_BST_CFG (spec/11_valve_drive.md). -/
def Reg.DR_BST_CFG (g : Nat) : Nat := drAt 2 0x100 0x40000 g
/-- DR_BST_LIM (spec/11_valve_drive.md). -/
def Reg.DR_BST_LIM (g : Nat) : Nat := drAt 2 0x100 0x40004 g
/-- DR_BST_STAT (spec/11_valve_drive.md). -/
def Reg.DR_BST_STAT (g : Nat) : Nat := drAt 2 0x100 0x40008 g
/-- DR_BST_ERECOV (spec/11_valve_drive.md). -/
def Reg.DR_BST_ERECOV (g : Nat) : Nat := drAt 2 0x100 0x4000C g
/-- DR_BST_EDRAW (spec/11_valve_drive.md). -/
def Reg.DR_BST_EDRAW (g : Nat) : Nat := drAt 2 0x100 0x40010 g
/-- DR_BST_ESR (spec/11_valve_drive.md). -/
def Reg.DR_BST_ESR (g : Nat) : Nat := drAt 2 0x100 0x40014 g
/-- DR_BST_RECHG (spec/11_valve_drive.md). -/
def Reg.DR_BST_RECHG (g : Nat) : Nat := drAt 2 0x100 0x40018 g
/-- DR_ILK_CFG (spec/11_valve_drive.md). -/
def Reg.DR_ILK_CFG (d : Nat) : Nat := dieAt d 0x60000
/-- DR_ILK_CFG2 (spec/11_valve_drive.md). -/
def Reg.DR_ILK_CFG2 (d : Nat) : Nat := dieAt d 0x60004
/-- DR_ILK_STAT (spec/11_valve_drive.md). -/
def Reg.DR_ILK_STAT (d : Nat) : Nat := dieAt d 0x60008
/-- DR_ILK_TRIP_CNT (spec/11_valve_drive.md). -/
def Reg.DR_ILK_TRIP_CNT (d : Nat) : Nat := dieAt d 0x6000C
/-- DR_ILK_TS (spec/11_valve_drive.md). -/
def Reg.DR_ILK_TS (d : Nat) : Nat := dieAt d 0x60010
/-- DR_MOT_CFG (spec/12_motion_channels.md). -/
def Reg.DR_MOT_CFG (g : Nat) : Nat := drAt 8 0x100 0x50000 g
/-- DR_MOT_BIND (spec/12_motion_channels.md). -/
def Reg.DR_MOT_BIND (g : Nat) : Nat := drAt 8 0x100 0x50004 g
/-- DR_MOT_AUX (spec/12_motion_channels.md). -/
def Reg.DR_MOT_AUX (g : Nat) : Nat := drAt 8 0x100 0x50008 g
/-- DR_MOT_DUTY (spec/12_motion_channels.md). -/
def Reg.DR_MOT_DUTY (g : Nat) : Nat := drAt 8 0x100 0x5000C g
/-- DR_MOT_KICK (spec/12_motion_channels.md). -/
def Reg.DR_MOT_KICK (g : Nat) : Nat := drAt 8 0x100 0x50010 g
/-- DR_MOT_STALL (spec/12_motion_channels.md). -/
def Reg.DR_MOT_STALL (g : Nat) : Nat := drAt 8 0x100 0x50014 g
/-- DR_MOT_TACH (spec/12_motion_channels.md). -/
def Reg.DR_MOT_TACH (g : Nat) : Nat := drAt 8 0x100 0x50018 g
/-- DR_MOT_RETRY (spec/12_motion_channels.md). -/
def Reg.DR_MOT_RETRY (g : Nat) : Nat := drAt 8 0x100 0x5001C g
/-- DR_MOT_CS (spec/12_motion_channels.md). -/
def Reg.DR_MOT_CS (g : Nat) : Nat := drAt 8 0x100 0x50020 g
/-- DR_MOT_IBAND (spec/12_motion_channels.md). -/
def Reg.DR_MOT_IBAND (g : Nat) : Nat := drAt 8 0x100 0x50024 g
/-- DR_MOT_STAT (spec/12_motion_channels.md). -/
def Reg.DR_MOT_STAT (g : Nat) : Nat := drAt 8 0x100 0x50040 g
/-- DR_MOT_SPEED (spec/12_motion_channels.md). -/
def Reg.DR_MOT_SPEED (g : Nat) : Nat := drAt 8 0x100 0x50044 g
/-- DR_MOT_I (spec/12_motion_channels.md). -/
def Reg.DR_MOT_I (g : Nat) : Nat := drAt 8 0x100 0x50048 g
/-- DR_MOT_NEXT (spec/12_motion_channels.md). -/
def Reg.DR_MOT_NEXT (g : Nat) : Nat := drAt 8 0x100 0x5004C g
/-- DR_MOT_STALL_CNT (spec/12_motion_channels.md). -/
def Reg.DR_MOT_STALL_CNT (g : Nat) : Nat := drAt 8 0x100 0x50050 g
/-- DR_MOT_TL_CNT (spec/12_motion_channels.md). -/
def Reg.DR_MOT_TL_CNT (g : Nat) : Nat := drAt 8 0x100 0x50054 g
/-- DR_MOT_CTRL (spec/12_motion_channels.md). -/
def Reg.DR_MOT_CTRL (g : Nat) : Nat := drAt 8 0x100 0x50058 g
/-- NW_CH_CFG (spec/13_bus_controllers.md). -/
def Reg.NW_CH_CFG (n : Nat) : Nat := 0x7010000 + n * 0x1000
/-- NW_CH_NBT (spec/13_bus_controllers.md). -/
def Reg.NW_CH_NBT (n : Nat) : Nat := 0x7010004 + n * 0x1000
/-- NW_CH_DBT (spec/13_bus_controllers.md). -/
def Reg.NW_CH_DBT (n : Nat) : Nat := 0x7010008 + n * 0x1000
/-- NW_CH_XBT (spec/13_bus_controllers.md). -/
def Reg.NW_CH_XBT (n : Nat) : Nat := 0x701000C + n * 0x1000
/-- NW_CH_LDC (spec/13_bus_controllers.md). -/
def Reg.NW_CH_LDC (n : Nat) : Nat := 0x7010010 + n * 0x1000
/-- NW_CH_XLCFG (spec/13_bus_controllers.md). -/
def Reg.NW_CH_XLCFG (n : Nat) : Nat := 0x7010014 + n * 0x1000
/-- NW_CH_FLT (spec/13_bus_controllers.md). -/
def Reg.NW_CH_FLT (n : Nat) : Nat := 0x7010018 + n * 0x1000
/-- NW_CH_RXCFG (spec/13_bus_controllers.md). -/
def Reg.NW_CH_RXCFG (n : Nat) : Nat := 0x701001C + n * 0x1000
/-- NW_CH_STAT (spec/13_bus_controllers.md). -/
def Reg.NW_CH_STAT (n : Nat) : Nat := 0x7010020 + n * 0x1000
/-- NW_CH_ECNT (spec/13_bus_controllers.md). -/
def Reg.NW_CH_ECNT (n : Nat) : Nat := 0x7010024 + n * 0x1000
/-- NW_CH_LDV (spec/13_bus_controllers.md). -/
def Reg.NW_CH_LDV (n : Nat) : Nat := 0x7010028 + n * 0x1000
/-- NW_CH_CTRL (spec/13_bus_controllers.md). -/
def Reg.NW_CH_CTRL (n : Nat) : Nat := 0x701002C + n * 0x1000
/-- NW_CH_TXREQ (spec/13_bus_controllers.md). -/
def Reg.NW_CH_TXREQ (n : Nat) : Nat := 0x7010030 + n * 0x1000
/-- NW_CH_TXCAN (spec/13_bus_controllers.md). -/
def Reg.NW_CH_TXCAN (n : Nat) : Nat := 0x7010034 + n * 0x1000
/-- NW_CH_TXPEND (spec/13_bus_controllers.md). -/
def Reg.NW_CH_TXPEND (n : Nat) : Nat := 0x7010038 + n * 0x1000
/-- NW_CH_IR (spec/13_bus_controllers.md). -/
def Reg.NW_CH_IR (n : Nat) : Nat := 0x7010040 + n * 0x1000
/-- NW_CH_IE (spec/13_bus_controllers.md). -/
def Reg.NW_CH_IE (n : Nat) : Nat := 0x7010044 + n * 0x1000
/-- NW_CH_Q0_STAT (spec/13_bus_controllers.md). -/
def Reg.NW_CH_Q0_STAT (n : Nat) : Nat := 0x7010048 + n * 0x1000
/-- NW_CH_Q1_STAT (spec/13_bus_controllers.md). -/
def Reg.NW_CH_Q1_STAT (n : Nat) : Nat := 0x701004C + n * 0x1000
/-- NW_CH_Q0_REL (spec/13_bus_controllers.md). -/
def Reg.NW_CH_Q0_REL (n : Nat) : Nat := 0x7010050 + n * 0x1000
/-- NW_CH_Q1_REL (spec/13_bus_controllers.md). -/
def Reg.NW_CH_Q1_REL (n : Nat) : Nat := 0x7010054 + n * 0x1000
/-- NW_CH_C0S (spec/13_bus_controllers.md). -/
def Reg.NW_CH_C0S (n : Nat) : Nat := 0x7010058 + n * 0x1000
/-- NW_CH_XLS (spec/13_bus_controllers.md). -/
def Reg.NW_CH_XLS (n : Nat) : Nat := 0x701005C + n * 0x1000
/-- NW_CH_ERR_CNT (spec/13_bus_controllers.md). -/
def Reg.NW_CH_ERR_CNT (n : Nat) : Nat := 0x7010060 + n * 0x1000
/-- NW_CH_BO_CNT (spec/13_bus_controllers.md). -/
def Reg.NW_CH_BO_CNT (n : Nat) : Nat := 0x7010064 + n * 0x1000
/-- NW_CH_OVR_CNT (spec/13_bus_controllers.md). -/
def Reg.NW_CH_OVR_CNT (n : Nat) : Nat := 0x7010068 + n * 0x1000
/-- NW_CH_PSKIP_CNT (spec/13_bus_controllers.md). -/
def Reg.NW_CH_PSKIP_CNT (n : Nat) : Nat := 0x701006C + n * 0x1000
/-- NW_CH_RATE_N (spec/13_bus_controllers.md). -/
def Reg.NW_CH_RATE_N (n : Nat) (j : Nat) : Nat := 0x7010100 + n * 0x1000 + j * 0x8
/-- NW_CH_RATE_D (spec/13_bus_controllers.md). -/
def Reg.NW_CH_RATE_D (n : Nat) (j : Nat) : Nat := 0x7010104 + n * 0x1000 + j * 0x8
/-- NW_CH_RD (spec/13_bus_controllers.md). -/
def Reg.NW_CH_RD (n : Nat) : Nat := 0x7010180 + n * 0x1000
/-- NW_FLT_CHK (spec/13_bus_controllers.md). -/
def Reg.NW_FLT_CHK : Nat := 0x7020000
/-- NW_FLT_NOMATCH_CNT (spec/13_bus_controllers.md). -/
def Reg.NW_FLT_NOMATCH_CNT (j : Nat) : Nat := 0x7020010 + j * 0x4
/-- NW_BRG_CFG (spec/14_hierarchy_latency.md). -/
def Reg.NW_BRG_CFG : Nat := 0x7030000
/-- NW_BRG_QLIM (spec/14_hierarchy_latency.md). -/
def Reg.NW_BRG_QLIM : Nat := 0x7030004
/-- NW_BRG_STAT (spec/14_hierarchy_latency.md). -/
def Reg.NW_BRG_STAT : Nat := 0x7030008
/-- NW_BRG_NOROUTE_CNT (spec/14_hierarchy_latency.md). -/
def Reg.NW_BRG_NOROUTE_CNT : Nat := 0x703000C
/-- NW_BRG_ACTIVE (spec/14_hierarchy_latency.md). -/
def Reg.NW_BRG_ACTIVE (j : Nat) : Nat := 0x7030010 + j * 0x4
/-- NW_BRG_DROP_CNT (spec/14_hierarchy_latency.md). -/
def Reg.NW_BRG_DROP_CNT (j : Nat) : Nat := 0x7030030 + j * 0x4
/-- NW_BRG_C0_DROP_CNT (spec/14_hierarchy_latency.md). -/
def Reg.NW_BRG_C0_DROP_CNT (j : Nat) : Nat := 0x7030050 + j * 0x4
/-- NW_BRG_C0_LAT_MAX (spec/14_hierarchy_latency.md). -/
def Reg.NW_BRG_C0_LAT_MAX (j : Nat) : Nat := 0x7030070 + j * 0x4
/-- NW_HIER_CFG (spec/14_hierarchy_latency.md). -/
def Reg.NW_HIER_CFG : Nat := 0x7050000
/-- NW_HIER_BLOCK (spec/14_hierarchy_latency.md). -/
def Reg.NW_HIER_BLOCK : Nat := 0x7050004
/-- NW_HIER_ADDR (spec/14_hierarchy_latency.md). -/
def Reg.NW_HIER_ADDR : Nat := 0x7050008
/-- NW_HIER_SERIAL_LO (spec/14_hierarchy_latency.md). -/
def Reg.NW_HIER_SERIAL_LO : Nat := 0x705000C
/-- NW_HIER_SERIAL_HI (spec/14_hierarchy_latency.md). -/
def Reg.NW_HIER_SERIAL_HI : Nat := 0x7050010
/-- NW_HIER_STAT (spec/14_hierarchy_latency.md). -/
def Reg.NW_HIER_STAT : Nat := 0x7050014
/-- NW_HIER_CENSUS (spec/14_hierarchy_latency.md). -/
def Reg.NW_HIER_CENSUS : Nat := 0x7050018
/-- NW_HIER_JOIN_CNT (spec/14_hierarchy_latency.md). -/
def Reg.NW_HIER_JOIN_CNT : Nat := 0x705001C
/-- NW_HIER_BIND_IDX (spec/14_hierarchy_latency.md). -/
def Reg.NW_HIER_BIND_IDX : Nat := 0x7050020
/-- NW_HIER_BIND_SER_LO (spec/14_hierarchy_latency.md). -/
def Reg.NW_HIER_BIND_SER_LO : Nat := 0x7050024
/-- NW_HIER_BIND_SER_HI (spec/14_hierarchy_latency.md). -/
def Reg.NW_HIER_BIND_SER_HI : Nat := 0x7050028
/-- NW_HIER_BIND_ADDR (spec/14_hierarchy_latency.md). -/
def Reg.NW_HIER_BIND_ADDR : Nat := 0x705002C
/-- NW_HIER_CTRL (spec/14_hierarchy_latency.md). -/
def Reg.NW_HIER_CTRL : Nat := 0x7050030
/-- NW_HIER_POOL (spec/14_hierarchy_latency.md). -/
def Reg.NW_HIER_POOL : Nat := 0x7050034
/-- NW_HIER_PROXY (spec/14_hierarchy_latency.md). -/
def Reg.NW_HIER_PROXY (j : Nat) : Nat := 0x7050100 + j * 0x4
/-- SV_OWN_STAT (spec/15_host_ports_ownership.md). -/
def Reg.SV_OWN_STAT : Nat := 0x40000
/-- SV_OWN_TKO (spec/15_host_ports_ownership.md). -/
def Reg.SV_OWN_TKO : Nat := 0x40004
/-- SV_OWN_CLAIM (spec/15_host_ports_ownership.md). -/
def Reg.SV_OWN_CLAIM : Nat := 0x40008
/-- SV_OWN_REL (spec/15_host_ports_ownership.md). -/
def Reg.SV_OWN_REL : Nat := 0x4000C
/-- SV_OWN_CTRL (spec/15_host_ports_ownership.md). -/
def Reg.SV_OWN_CTRL : Nat := 0x40010
/-- SV_OWN_LEASE (spec/15_host_ports_ownership.md). -/
def Reg.SV_OWN_LEASE : Nat := 0x40014
/-- SV_OWN_TKO_SET (spec/15_host_ports_ownership.md). -/
def Reg.SV_OWN_TKO_SET : Nat := 0x40018
/-- SV_OWN_ATTN (spec/15_host_ports_ownership.md). -/
def Reg.SV_OWN_ATTN : Nat := 0x4001C
/-- SV_OWN_ATTN_EN (spec/15_host_ports_ownership.md). -/
def Reg.SV_OWN_ATTN_EN : Nat := 0x40020
/-- SV_VIOL_ADDR (spec/15_host_ports_ownership.md). -/
def Reg.SV_VIOL_ADDR : Nat := 0x40024
/-- SV_VIOL_INFO (spec/15_host_ports_ownership.md). -/
def Reg.SV_VIOL_INFO : Nat := 0x40028
/-- SV_VIOL_CNT (spec/15_host_ports_ownership.md). -/
def Reg.SV_VIOL_CNT : Nat := 0x4002C
/-- SV_OWN_CHG_CNT (spec/15_host_ports_ownership.md). -/
def Reg.SV_OWN_CHG_CNT : Nat := 0x40030
/-- SV_OWN_ERR_CNT (spec/15_host_ports_ownership.md). -/
def Reg.SV_OWN_ERR_CNT : Nat := 0x40034
/-- SV_LOG_STAT (spec/16_event_recorder.md). -/
def Reg.SV_LOG_STAT : Nat := 0x50000
/-- SV_LOG_CFG (spec/16_event_recorder.md). -/
def Reg.SV_LOG_CFG : Nat := 0x50004
/-- SV_LOG_HEAD_SEQ (spec/16_event_recorder.md). -/
def Reg.SV_LOG_HEAD_SEQ : Nat := 0x50008
/-- SV_LOG_OPSEC (spec/16_event_recorder.md). -/
def Reg.SV_LOG_OPSEC : Nat := 0x5000C
/-- SV_LOG_PCYC (spec/16_event_recorder.md). -/
def Reg.SV_LOG_PCYC : Nat := 0x50010
/-- SV_LOG_SNAP_TAIL_SEQ (spec/16_event_recorder.md). -/
def Reg.SV_LOG_SNAP_TAIL_SEQ : Nat := 0x50014
/-- SV_LOG_SNAP_TAIL_SLOT (spec/16_event_recorder.md). -/
def Reg.SV_LOG_SNAP_TAIL_SLOT : Nat := 0x50018
/-- SV_LOG_SNAP_NOR_SLOT (spec/16_event_recorder.md). -/
def Reg.SV_LOG_SNAP_NOR_SLOT : Nat := 0x5001C
/-- SV_LOG_SNAP_HEAD_SEQ (spec/16_event_recorder.md). -/
def Reg.SV_LOG_SNAP_HEAD_SEQ : Nat := 0x50020
/-- SV_LOG_NONCE (spec/16_event_recorder.md). -/
def Reg.SV_LOG_NONCE : Nat := 0x50024
/-- SV_LOG_AUTH (spec/16_event_recorder.md). -/
def Reg.SV_LOG_AUTH (j : Nat) : Nat := 0x50028 + j * 0x4
/-- SV_LOG_CLR (spec/16_event_recorder.md). -/
def Reg.SV_LOG_CLR : Nat := 0x50038
/-- SV_LOG_DROP_CNT (spec/16_event_recorder.md). -/
def Reg.SV_LOG_DROP_CNT : Nat := 0x5003C
/-- SV_LOG_LOST_CNT (spec/16_event_recorder.md). -/
def Reg.SV_LOG_LOST_CNT : Nat := 0x50040
/-- SV_LOG_BAD_LO (spec/16_event_recorder.md). -/
def Reg.SV_LOG_BAD_LO : Nat := 0x50044
/-- SV_LOG_BAD_HI (spec/16_event_recorder.md). -/
def Reg.SV_LOG_BAD_HI : Nat := 0x50048
/-- SV_LOG_UPL_CTRL (spec/16_event_recorder.md). -/
def Reg.SV_LOG_UPL_CTRL : Nat := 0x5004C
/-- SV_LOG_UPL_FROM (spec/16_event_recorder.md). -/
def Reg.SV_LOG_UPL_FROM : Nat := 0x50050
/-- SV_LOG_UPL_STAT (spec/16_event_recorder.md). -/
def Reg.SV_LOG_UPL_STAT : Nat := 0x50054
/-- SV_LOG_POLICY (spec/16_event_recorder.md). -/
def Reg.SV_LOG_POLICY (j : Nat) : Nat := 0x50100 + j * 0x4
/-- SV_UPD_STAT (spec/17_update_settings.md). -/
def Reg.SV_UPD_STAT : Nat := 0x60000
/-- SV_UPD_CTRL (spec/17_update_settings.md). -/
def Reg.SV_UPD_CTRL : Nat := 0x60004
/-- SV_UPD_LEN (spec/17_update_settings.md). -/
def Reg.SV_UPD_LEN : Nat := 0x60008
/-- SV_UPD_NEXT (spec/17_update_settings.md). -/
def Reg.SV_UPD_NEXT : Nat := 0x6000C
/-- SV_UPD_CHUNK (spec/17_update_settings.md). -/
def Reg.SV_UPD_CHUNK : Nat := 0x60010
/-- SV_UPD_SRC (spec/17_update_settings.md). -/
def Reg.SV_UPD_SRC : Nat := 0x60014
/-- SV_UPD_GUARD (spec/17_update_settings.md). -/
def Reg.SV_UPD_GUARD : Nat := 0x60018
/-- SV_UPD_CFG (spec/17_update_settings.md). -/
def Reg.SV_UPD_CFG : Nat := 0x6001C
/-- SV_UPD_TCFG (spec/17_update_settings.md). -/
def Reg.SV_UPD_TCFG : Nat := 0x60020
/-- SV_UPD_HOLD (spec/17_update_settings.md). -/
def Reg.SV_UPD_HOLD : Nat := 0x60024
/-- SV_UPD_TRIAL (spec/17_update_settings.md). -/
def Reg.SV_UPD_TRIAL : Nat := 0x60028
/-- SV_UPD_TSEC (spec/17_update_settings.md). -/
def Reg.SV_UPD_TSEC : Nat := 0x6002C
/-- SV_UPD_OTP (spec/17_update_settings.md). -/
def Reg.SV_UPD_OTP : Nat := 0x60030
/-- SV_UPD_JRNL (spec/17_update_settings.md). -/
def Reg.SV_UPD_JRNL : Nat := 0x60034
/-- SV_UPD_JGEN (spec/17_update_settings.md). -/
def Reg.SV_UPD_JGEN : Nat := 0x60038
/-- SV_UPD_PKG_ID_LO (spec/17_update_settings.md). -/
def Reg.SV_UPD_PKG_ID_LO : Nat := 0x6003C
/-- SV_UPD_PKG_ID_HI (spec/17_update_settings.md). -/
def Reg.SV_UPD_PKG_ID_HI : Nat := 0x60040
/-- SV_UPD_CFAIL_CNT (spec/17_update_settings.md). -/
def Reg.SV_UPD_CFAIL_CNT : Nat := 0x60044
/-- SV_UPD_SITEKEY (spec/17_update_settings.md). -/
def Reg.SV_UPD_SITEKEY (j : Nat) : Nat := 0x60060 + j * 0x4
/-- SV_UPD_DATA (spec/17_update_settings.md). -/
def Reg.SV_UPD_DATA (j : Nat) : Nat := 0x60100 + j * 0x4
/-- SV_THM_TEMP (spec/18_thermal_ageing.md). -/
def Reg.SV_THM_TEMP : Nat := 0x70000
/-- SV_THM_STAT (spec/18_thermal_ageing.md). -/
def Reg.SV_THM_STAT : Nat := 0x70004
/-- LP_THM_TEMP (spec/18_thermal_ageing.md). -/
def Reg.LP_THM_TEMP (d : Nat) : Nat := dieAt d 0x80000
/-- LP_THM_STAT (spec/18_thermal_ageing.md). -/
def Reg.LP_THM_STAT (d : Nat) : Nat := dieAt d 0x80004
/-- DR_THM_TEMP (spec/18_thermal_ageing.md). -/
def Reg.DR_THM_TEMP (d : Nat) : Nat := dieAt d 0x70000
/-- DR_THM_STAT (spec/18_thermal_ageing.md). -/
def Reg.DR_THM_STAT (d : Nat) : Nat := dieAt d 0x70004
/-- NW_THM_TEMP (spec/18_thermal_ageing.md). -/
def Reg.NW_THM_TEMP : Nat := 0x7060000
/-- NW_THM_STAT (spec/18_thermal_ageing.md). -/
def Reg.NW_THM_STAT : Nat := 0x7060004
/-- SV_THM_CANARY (spec/18_thermal_ageing.md). -/
def Reg.SV_THM_CANARY : Nat := 0x70008
/-- SV_THM_TMAX (spec/18_thermal_ageing.md). -/
def Reg.SV_THM_TMAX : Nat := 0x7000C
/-- LP_THM_CANARY (spec/18_thermal_ageing.md). -/
def Reg.LP_THM_CANARY (d : Nat) : Nat := dieAt d 0x80008
/-- LP_THM_TMAX (spec/18_thermal_ageing.md). -/
def Reg.LP_THM_TMAX (d : Nat) : Nat := dieAt d 0x8000C
/-- DR_THM_CANARY (spec/18_thermal_ageing.md). -/
def Reg.DR_THM_CANARY (d : Nat) : Nat := dieAt d 0x70008
/-- DR_THM_TMAX (spec/18_thermal_ageing.md). -/
def Reg.DR_THM_TMAX (d : Nat) : Nat := dieAt d 0x7000C
/-- NW_THM_CANARY (spec/18_thermal_ageing.md). -/
def Reg.NW_THM_CANARY : Nat := 0x7060008
/-- NW_THM_TMAX (spec/18_thermal_ageing.md). -/
def Reg.NW_THM_TMAX : Nat := 0x706000C
/-- LP_THM_KREF (spec/18_thermal_ageing.md). -/
def Reg.LP_THM_KREF (d : Nat) (j : Nat) : Nat := dieAt d 0x80010 + j * 0x4
/-- LP_THM_GBASE (spec/18_thermal_ageing.md). -/
def Reg.LP_THM_GBASE (d : Nat) (j : Nat) : Nat := dieAt d 0x80030 + j * 0x4
/-- DR_THM_DERATE (spec/18_thermal_ageing.md). -/
def Reg.DR_THM_DERATE (d : Nat) : Nat := dieAt d 0x70010
/-- DR_THM_ESRMAX (spec/18_thermal_ageing.md). -/
def Reg.DR_THM_ESRMAX (d : Nat) : Nat := dieAt d 0x70014
/-- DR_THM_FANBASE (spec/18_thermal_ageing.md). -/
def Reg.DR_THM_FANBASE (d : Nat) (j : Nat) : Nat := dieAt d 0x70020 + j * 0x4
/-- SV_THM_BANDS (spec/18_thermal_ageing.md). -/
def Reg.SV_THM_BANDS : Nat := 0x70010
/-- SV_THM_CFG (spec/18_thermal_ageing.md). -/
def Reg.SV_THM_CFG : Nat := 0x70014
/-- SV_THM_DRIFT (spec/18_thermal_ageing.md). -/
def Reg.SV_THM_DRIFT : Nat := 0x70018
/-- SV_THM_WEAR (spec/18_thermal_ageing.md). -/
def Reg.SV_THM_WEAR : Nat := 0x7001C
/-- SV_THM_MARGIN (spec/18_thermal_ageing.md). -/
def Reg.SV_THM_MARGIN (j : Nat) : Nat := 0x70020 + j * 0x4
/-- SV_THM_AGE (spec/18_thermal_ageing.md). -/
def Reg.SV_THM_AGE (j : Nat) : Nat := 0x70040 + j * 0x4
/-- SV_THM_NOR_ERASE (spec/18_thermal_ageing.md). -/
def Reg.SV_THM_NOR_ERASE (j : Nat) : Nat := 0x70060 + j * 0x4
/-- SV_THM_REPLAN_CNT (spec/18_thermal_ageing.md). -/
def Reg.SV_THM_REPLAN_CNT : Nat := 0x70080
/-- DIE_ID (spec/19_address_map.md). -/
def Reg.DIE_ID (d : Nat) : Nat := dieAt d 0
/-- SV_ID_DEV (spec/19_address_map.md). -/
def Reg.SV_ID_DEV : Nat := 0x4
/-- SV_ID_STEPS_LO (spec/19_address_map.md). -/
def Reg.SV_ID_STEPS_LO : Nat := 0x8
/-- SV_ID_STEPS_HI (spec/19_address_map.md). -/
def Reg.SV_ID_STEPS_HI : Nat := 0xC
/-- SV_NVM_STAT (spec/19_address_map.md). -/
def Reg.SV_NVM_STAT : Nat := 0x90000
/-- SV_NVM_ID (spec/19_address_map.md). -/
def Reg.SV_NVM_ID : Nat := 0x90004
/-- SV_NVM_CTRL (spec/19_address_map.md). -/
def Reg.SV_NVM_CTRL : Nat := 0x90008
/-- SV_NVM_ERR_CNT (spec/19_address_map.md). -/
def Reg.SV_NVM_ERR_CNT : Nat := 0x9000C

end Sys2Proof.Machine
end

