-- ==== Sys2Proof/Machine/State.lean ====
section
/-!
DEFINITION. The state of the block, as plain data, and the state after reset.
-/
namespace Sys2Proof.Machine

/-- The ways a command can stop the block. -/
inductive Fault where
  /-- Raised by a meaning whose operand names an instance the part does not have (R2, Table 00-2). Safe. -/
  | noSuchResource
  deriving DecidableEq, Repr

/-- The reasons a command is refused by the model. -/
inductive Refusal where
  /-- Raised by an arm of exec whose command has no meaning yet. Safe. -/
  | notModelled (mnemonic : String)
  deriving DecidableEq, Repr

/-- The time bases (R100). `acc` is the fraction accumulator of TB1 in 2^-40 tick (R104), `rate` the rate word in force,
`sub` the part of TB2 below 2^-16 s, in units of 2^-16 s / 10^11, `slew` the TB2 difference still to be removed in the same
units (R116), of which `slewSum` was set at TB1 `slewAt`, `opsAcc` the TB0 ticks of the current operating second (R411). -/
structure Clock where
  tb0 : Tick
  tb1 : Tick
  acc : Nat
  rate : Int
  sec : Word
  frac : BitVec 16
  sub : Nat
  era : Byte
  slew : Int
  slewAt : Tick
  slewSum : Int
  ops : Word
  opsAcc : Nat
  deriving DecidableEq, Repr

/-- A requested change of TB1 not yet in effect (R101): the TB0 tick of its effect, a new rate word or a hard step in ticks,
and its source (1 PPS, 2 NET). -/
structure TimeChange where
  at0 : Tick
  rate : Option Int
  step : Option Int
  src : Nat
  deriving DecidableEq, Repr

/-- One servo (R105, R106): `f` is the frequency estimate in units of 2^-31 ppb, `good` the consecutive measurements within
1,000 ns, `miss` the consecutive missing measurements, `held` whether lock was lost through missing
measurements and none has returned. -/
structure Servo where
  f : Int
  good : Nat
  miss : Nat
  held : Bool
  deriving DecidableEq, Repr

/-- A SYNC kept until its FOLLOW_UP (R114): sequence, source, TB1 and TB0 of its SOF. -/
structure SyncRx where
  seq : Nat
  src : Nat
  t2 : Tick
  at0 : Tick
  itv : Nat
  deriving DecidableEq, Repr

/-- A SYNC this device sends (R113): channel, buffer, sequence, and once SENT the TB1 of the completed attempt's SOF and TB2 there. -/
structure SyncTx where
  ch : Nat
  buf : Nat
  seq : Nat
  flags : Nat
  depth : Nat
  sof : Option (Tick × Nat)
  deriving DecidableEq, Repr

/-- The time engine beside the registers (R101 to R117). -/
structure TimeSt where
  pps : Servo
  net : Servo
  ppsLast : Option Tick
  ppsFree : Bool
  changes : List TimeChange
  syncRx : Option SyncRx
  syncTx : List SyncTx
  syncSeq : Nat
  syncAt : Option Tick
  rxDepth : Nat
  rxPps : Bool
  lastCorr : Option Tick
  rtcAbsent : Bool
  deriving DecidableEq, Repr

/-- A record of the log (R409), its eight words. -/
structure Rec where
  seq : Word
  w1 : Word
  w2 : Word
  w3 : Word
  w4 : Word
  w5 : Word
  w6 : Word
  w7 : Word
  deriving DecidableEq, Repr

/-- An event raised and on its way to the recorder (R411, R412): the fields of its instant. -/
structure Ev where
  tick : Tick
  code : Nat
  unit : Nat
  p0 : Word
  p1 : Word
  ops : Word
  pcyc : Nat
  era : Byte
  sec : Word
  frac : BitVec 16
  inv : Bool
  preboot : Bool
  trial : Bool
  deriving DecidableEq, Repr

/-- An open REPEAT run (R421): its last occurrence, its count and its window in seconds. -/
structure Run where
  last : Ev
  count : Nat
  win : Nat
  deriving DecidableEq, Repr

/-- A bulk log upload in progress (R428): destination, next and last sequence numbers, records sent. -/
structure Upload where
  dest : Nat
  next : Word
  last : Word
  sent : Nat
  due : Tick
  deriving DecidableEq, Repr

/-- A drawer slot (R417): its record and whether the record is pending. -/
structure DrawerSlot where
  r : Rec
  pend : Bool
  deriving DecidableEq, Repr

/-- The event recorder beside its registers (chapter 16). `next` is the next sequence number, `head` the next NOR slot to
program, `tailSlot`/`tailSeq` the tail, `norLast` the slot of the newest NOR record; `lostEp` and `dropEp`
count an episode of DEGRADED, `wrong` are the wrong clear codes. -/
structure LogSt where
  raised : List Ev
  runs : List Run
  drawer : List (Nat × DrawerSlot)
  next : Word
  lastEra : Byte
  head : Nat
  tailSlot : Nat
  tailSeq : Word
  norLast : Option Nat
  lostEp : Nat
  dropEp : Nat
  retryAt : Option Tick
  wrong : List Tick
  upl : Option Upload
  deriving DecidableEq, Repr

/-- A CAN channel beside its registers and message RAM (chapter 13): the failed attempts of each TX buffer, the bit errors of
R359 (TB0 and identifier), the receive number, rate detection, the buffers that hold forwarded frames of classes 1 to 3, the
receptions of forwarded class-0 frames, the buffers whose launch instant has come and since when (TB0, R354), the last instant a class 1
to 3 frame with the own address was sent (R375), and the TB0 tick of each pending buffer's request (R353). -/
structure CanSt where
  tries : List (Nat × Nat)
  bitErrs : List (Tick × Nat)
  rxseq : BitVec 16
  rdConf : Nat
  rdDwell : Tick
  fwd : List Nat
  c0rx : List (Nat × Tick)
  launched : List (Nat × Tick)
  lastOwn : Option Tick
  reqAt : List (Nat × Tick)
  deriving DecidableEq, Repr

/-- An import waiting for its visibility instant (R361). -/
structure PendImport where
  v : Tick
  die : Nat
  entry : Nat
  value : Word
  instant : Word
  deriving DecidableEq, Repr

/-- A forwarded frame in the bridge store (R380): output and arrival channels, class, TB0 of its reception. -/
structure BrgFrame where
  frame : CanFrame
  out : Nat
  arr : Nat
  cls : Nat
  rx0 : Tick
  deriving DecidableEq, Repr

/-- The deficit round robin of one output and class (R382): current branch, and per branch deficit and visited flag. -/
structure Drr where
  cur : Nat
  dc : List (Nat × Nat)
  visited : List Nat
  deriving DecidableEq, Repr

/-- A binding of a serial to an address and a channel (R371). -/
structure Binding where
  serial : Nat
  addr : Nat
  ch : Nat
  deriving DecidableEq, Repr

/-- The last CENSUS of a source (R375). -/
structure CensusSrc where
  src : Nat
  ch : Nat
  active : Nat
  devices : Nat
  at0 : Tick
  deriving DecidableEq, Repr

/-- An ACTIVE proxy entry (R376): serial, TB0 of the last PROXY_DATA, frames proxied, and the PROXY_DATA of that tick with their
arrival channels (Table 14-7). -/
structure ProxySt where
  serial : Nat
  last : Tick
  count : Nat
  same : List (Nat × List Byte)
  deriving DecidableEq, Repr

/-- A join in progress (R370): attempt number j, failed attempts k, and the TB0 instant at which, with no
JOIN_ACK, the next attempt is sent; an attempt for which no TX buffer was free has not been `sent`. -/
structure JoinSt where
  j : Nat
  k : Nat
  due : Tick
  sent : Bool
  deriving DecidableEq, Repr

/-- The network side beside its registers: bridge and hierarchy (chapter 14). -/
structure NetSt where
  store : List BrgFrame
  drr : List (Nat × Drr)
  imports : List PendImport
  join : Option JoinSt
  bindings : List (Nat × Binding)
  proxies : List (Nat × ProxySt)
  census : List CensusSrc
  censusSeq : Nat
  deriving DecidableEq, Repr

/-- A value exported to another die, waiting for its instant (R32, R222): TB1 instant, destination, value and INSTANT. -/
structure PendExport where
  at1 : Tick
  die : Nat
  entry : Nat
  value : Word
  instant : Word
  deriving DecidableEq, Repr

/-- A system signal sampled for a loop-die entry (R223): TB1 instant of application, destination, value, INSTANT, whether the
signal was VALID and whether its UPD had changed. -/
structure SysSample where
  at1 : Tick
  die : Nat
  entry : Nat
  value : Word
  instant : Word
  valid : Bool
  fresh : Bool
  deriving DecidableEq, Repr

/-- What a sequence does at its transition instant (R267, R270, R273, R275 to R277): `kind` is 0 to 15 for a transition, 16 for an entry
on resume, 17 for INIT at the start, 18 for a SEQ_CTL start, 19 and 20 for the owner's START and GOTO, 21 for a resume request; the
state entered; the port of an owner command; the TB3 µs at which a command was given, 0 for any other: it acts at a later instant. -/
structure SeqPick where
  kind : Nat
  target : Nat
  port : Nat
  us : Nat
  deriving DecidableEq, Repr

/-- A sequence beside its registers (chapter 10): whether it is in a state; whether its entry into INIT of this start is still to come
(R273); the last evaluation instant (TB1) and what was chosen at it;
the commands waiting for a transition instant, in their order; the counts of its terms (R268, by 16 times the transition plus the term); per
signal its UPD at the last evaluation and the evaluations without change (R269); the open stale episodes (term record, signal); the
system signals latched at the evaluation; the TB0 tick at which its state timer stood at 0, the timer's value while frozen, and the
timer's value at the last clear of SEC; whether a resume awaits the next evaluation; the resume term with its count (R276); and
whether actions of the instant under way set SAFE or requested HIBERNATE. -/
structure SeqSt where
  entered : Bool
  initDue : Bool
  at1 : Option Tick
  pick : Option SeqPick
  want : List SeqPick
  counts : List (Nat × Nat)
  stale : List (Nat × Nat × Nat)
  episodes : List (Nat × Nat)
  lat : List (Nat × Int)
  since : Tick
  frozen : Option Nat
  secBase : Nat
  resumed : Bool
  rterm : Option (Nat × Nat)
  askSafe : Bool
  askHib : Bool
  deriving DecidableEq, Repr

/-- An evaluation made in this TB0 tick (R267): the sequence, the tick, the margin measured, and the sequence as it stood before, for
signals that come before the evaluation in that tick (R31). -/
structure SeqSnap where
  n : Nat
  at0 : Tick
  slack : Nat
  st : SeqSt
  deriving DecidableEq, Repr

/-- Values on their way between dies (R32, R222, R223, R312); `upd` holds the UPD of each system signal at its last sample, `tick` the
TB0 tick of that sample. What the ports have written in this TB0 tick (R271: 0 a signal, by 4,096 times the die plus the entry; 1 a
mode request, 2 MANVAL, by loop; 3 a tracker command, by column; 4 a START or GOTO, 5 a STOP, by sequence), and the evaluations made
in it. -/
structure SigSt where
  tick : Option Tick
  ports : List (Nat × Nat)
  evals : List SeqSnap
  exports : List PendExport
  sys : List SysSample
  upd : List (Nat × Nat)
  deriving DecidableEq, Repr
/-- What a confirmation of the trial replaced (R459: a failure of the same tick prevails over it): its tick, the header region written and
its bytes before, whether a shadow was promoted, and ARB, header generation, SV_UPD_STAT.STATE, TSEC and `trialAt` as they were. -/
structure TrialUndo where
  tick : Tick
  region : Nat
  bytes : List Byte
  mark : Bool
  arb : Nat
  gen : Nat
  state : Nat
  tsec : Nat
  trialAt : Option Tick
  deriving DecidableEq, Repr

/-- The update engine and settings store beside the registers (chapter 17). `erases` counts the erases of each NOR sector by
region (R471), `dirty` is the TB0 tick of the first stored word changed since the last commit (R455), `base` the stored words as that commit left them;
`size` is the length of the session's package, `idle` the TB0 tick of its last accepted piece (R444), `prog` whether a chunk is being
programmed; `trialAt` the TB0 tick of entry into TRIAL, none once TSEC is frozen (R449); `restartAt` the TB0 tick of an activation's
restart (R446); `site` the site key once programmed (R437); `binds` the bindings stored with each journal (R371); `undo`
what the last confirmation replaced, and `chunk` the tick and length of the last chunk placed (R459). -/
structure UpdSt where
  undo : Option TrialUndo
  chunk : Option (Tick × Nat)
  binds : List (Nat × List (Nat × Binding))
  erases : List (Nat × Nat)
  dirty : Option Tick
  base : List (Nat × Word)
  size : Nat
  idle : Tick
  prog : Bool
  trialAt : Option Tick
  restartAt : Option Tick
  site : List Byte
  deriving DecidableEq, Repr
/-- The response status codes (Table 00-7). -/
inductive Status where
  | ok | wait | unmapped | notOwner | locked | align | crc | refused
  deriving DecidableEq, Repr

/-- A transaction accepted and not yet complete (R392): its TAG, whether it writes, its first address, its word count and data,
whether its port was the owner when its CRC was checked (R391), and whether it waits for step 11 unjudged (R394). -/
structure PendTx where
  tag : Nat
  write : Bool
  addr : Nat
  count : Nat
  data : List Word
  owner : Bool
  boot : Bool
  deriving DecidableEq, Repr

/-- A response (Table 15-1): port, TAG, status and data words. -/
structure Resp where
  port : PortId
  tag : Nat
  status : Status
  data : List Word
  deriving DecidableEq, Repr

/-- A port's pending transaction and its held results, each with the TB0 tick of its completion (R392). -/
structure PortRec where
  pend : Option PendTx
  held : List (Resp × Tick)
  deriving DecidableEq, Repr

/-- The ports (chapter 15): the owner, the TB0 tick at which its lease ends, a handover reservation with its end, the staged
takeover codes, each port's transactions, the words latched per port (R123, R175, R221, R426, Z0 of R213), the snapshot words
per port (R427), the last response sent, and whether SERVICE discards what it receives (R396). -/
structure PortSt where
  owner : Option PortId
  leaseEnd : Tick
  resv : Option (PortId × Tick)
  tko : List (PortId × Word)
  recs : List (PortId × PortRec)
  latches : List (PortId × Nat × Word)
  snaps : List (PortId × Nat × Word)
  resp : Option Resp
  svcDiscard : Bool
  deriving DecidableEq, Repr
/-- A due or armed following-error alarm of a TIMER step (R260, R261): the step, its state word, whether its last committed t
was below the limit, the inputs that have shown NEW since it became due, and whether a raise waits for t to commit 0. -/
structure LoopAlarm where
  step : Nat
  zi : Nat
  below : Bool
  due : Option (List Nat)
  raised : Bool
  deriving DecidableEq, Repr

/-- A TIMER ALARM step of the period in progress (R260): step, state word, coefficient index, RGN. -/
structure LoopTimer where
  step : Nat
  zi : Nat
  k : Nat
  rgn : Bool
  deriving DecidableEq, Repr

/-- A TRACK step of the period in progress (R244): state word, coefficient index, levels, RGN. -/
structure LoopTrack where
  zi : Nat
  k : Nat
  nl : Nat
  rgn : Bool
  deriving DecidableEq, Repr

/-- The BAL step of the period in progress (R241): state word, the value written, its limits b and c. -/
structure LoopBal where
  zi : Nat
  acc : Int
  lo : Int
  hi : Int
  deriving DecidableEq, Repr

/-- A loop period in progress (R213, R236): its latch and commit instants in TB1, the working registers, the latched inputs,
the STATUS word of LDF and MANVAL as latched, the steps done, and everything pending (`lrnSat`: the learning words whose pending value
saturated). -/
structure LoopPer where
  latch : Tick
  commit : Tick
  xs : List Int
  ins : List Int
  status : Word
  man : Int
  pc : Nat
  zs : List (Nat × Int)
  lrn : List (Nat × Int)
  lrnSat : List Nat
  outs : List Int
  region : Option (Nat × Int)
  flags : Nat
  bal : Option LoopBal
  tracks : List LoopTrack
  timers : List LoopTimer
  done : Bool
  deriving DecidableEq, Repr

/-- A loop slot beside its registers: the period in progress, whether it has latched since the start, the TB1 instant at which
its last period ends (R108), UPD of each input at the last latch (R225), the staleness counts (R255), the freeze window
(R257), the request waiting (R235: action, requester), whether AUTO was entered by request (R240 row 3), the region of the
last committed period, OSAT at the previous commit, the committed outputs, the alarms, and the live coefficients (R231). -/
structure LoopSt where
  per : Option LoopPer
  started : Bool
  endAt : Tick
  upds : List Nat
  stale : List Nat
  win : List (Int × Int)
  req : Option (Nat × Nat)
  entered : Bool
  lastRegion : Option Nat
  lim : Bool
  outs : List Int
  alarms : List LoopAlarm
  coef : List Host.Cell
  deriving DecidableEq, Repr

/-- A loop as it stood before a latch (Table 08-10): the loop and the TB0 tick of the latch, what stands beside its registers,
LP_LOOP_STAT, and whether an apply of coefficients waited for it. -/
structure LatchSnap where
  g : Nat
  at0 : Tick
  st : LoopSt
  stat : Word
  waited : Bool
  deriving DecidableEq, Repr

/-- A loop engine beside its registers (R231, R232): the applied copy of the staged coefficients, the local loops that have
not latched since, and the latches of the present tick (Table 08-10). -/
structure EngSt where
  applied : List Host.Cell
  wait : List Nat
  snaps : List LatchSnap
  deriving DecidableEq, Repr
/-- A conversion or scan under way (R125, R126): the TB1 instant and the TB0 tick of its sample. -/
structure Conv where
  at1 : Tick
  at0 : Tick
  deriving DecidableEq, Repr

/-- A probe channel beside its registers: the scan under way with the open-probe readings it uses (R138), the TB0 tick at which it began
with UPD and the stale count as they stood before it, its grain temperature, whether that is TDEF (R142) and the
reference correction of the die's band (R463), the reference gain of the first scan after the start and whether its drift was logged (R137), EMPTY (R140), and UPD and the count of
scans without a new temperature (R142). -/
structure PrbSt where
  conv : Option Conv
  opens : List (Int × Int)
  was : Tick × Option Nat × Nat
  temp : Int
  tdef : Bool
  kref : Int
  g0 : Option Int
  drifted : Bool
  empty : Bool
  upd : Option Nat
  stale : Nat
  deriving DecidableEq, Repr

/-- A pulse input beside its registers: counted edges of the last period and since (TB0, direction), the newest counted edge
before them (R146), ACC since the newest clear, the clears that a result still needs, oldest first, each with the ACC that it ended
(R147), a result whose instant a hard step moved (R126), the rate as a fraction per hour, the last accepted edge of any
polarity (R145 QERR), the newest counted edge, and the shortest spacing seen (R144). -/
structure PlsSt where
  edges : List (Tick × Int)
  ref : Option Tick
  acc : Int
  clears : List (Tick × Int)
  moved : Option Conv
  num : Int
  den : Nat
  any : Option Tick
  last : Option Tick
  gap : Nat
  deriving DecidableEq, Repr

/-- The sensing front end beside its registers: cold-junction values by TB0 tick per die (R133), conversions per analog input,
probes and pulse inputs by global number, and the local end of each input's sample period in TB1 (R108, R126: analog inputs 0 to 63,
probes 64 to 79, pulse inputs 80 to 111, string ports 112 to 119). -/
structure SenseSt where
  ends : List (Nat × Tick)
  cj : List (Nat × Tick × Word)
  ain : List (Nat × Conv)
  prb : List (Nat × PrbSt)
  pls : List (Nat × PlsSt)
  deriving DecidableEq, Repr

/-- A signal latched by a column (R176): entry, value, INSTANT, VALID, and the periods without a new sample. -/
structure TrkSig where
  entry : Nat
  value : Int
  instant : Word
  valid : Bool
  stale : Nat
  deriving DecidableEq, Repr

/-- A command or bias write waiting for the next sample instant (R198, R204, R205): 0 PRESET, 1 CLEAR, 2 CLR_BIAS, 8 + s a write
of BIAS[s]; the port code, the word written, and whether it has been logged. -/
structure TrkCmd where
  act : Nat
  port : Nat
  word : Word
  logged : Bool
  deriving DecidableEq, Repr

/-- A column update under way (R176): its sample instant in TB1 and TB0, its commit instant, the periods it covers, the PRESET and
CLEAR commands it applies, the biases and signals latched, whether its work is done, the TB0 tick at which it was latched, and the UPD
latched before, for signals that come before the latch in that tick (R31). -/
structure TrkUpd where
  tick0 : Tick
  seen0 : List (Nat × Nat × Nat)
  at1 : Tick
  at0 : Tick
  commit : Tick
  m : Nat
  cmds : List TrkCmd
  bias : List Int
  sigs : List TrkSig
  done : Bool
  deriving DecidableEq, Repr

/-- A column beside its registers (chapter 7): the update under way, the end of the last period in TB1 (R108), whether a sample
instant has passed since the start, the periods since the last committed update (R179), the TB0 tick of its sample instant (R180),
the pulse edges not yet used, the commands waiting, the UPD last seen and the periods without a new sample per signal entry (R183,
R189), the stale episodes open (zone, or 16 + entry for an inlet signal), and the sample instant each station last used (R196). -/
structure TrkSt where
  upd : Option TrkUpd
  endAt : Tick
  started : Bool
  m : Nat
  last0 : Option Tick
  edges : List (Tick × Int)
  cmds : List TrkCmd
  seen : List (Nat × Nat × Nat)
  stale : List Nat
  used : List (Nat × Word)
  deriving DecidableEq, Repr
/-- A command frame of a string port (Table 06-3). -/
inductive StrCmd where
  | read (node : Nat)
  | convert
  | search (depth : Nat) (prefixId : Nat)
  | assign (id : Nat) (node : Nat)
  | reset (node : Option Nat)
  | park (id : Nat)
  deriving DecidableEq, Repr

/-- A scan under way (R163): its sample instant in TB1 and TB0, the entries it serves, the next slot, the entries whose READ failed
and that no spare slot has retried, and the values obtained. -/
structure StrScan where
  at1 : Tick
  at0 : Tick
  nodes : List Nat
  slot : Nat
  failed : List Nat
  got : List (Nat × Int)
  deriving DecidableEq, Repr

/-- An enumeration pass (R159, R160): the stage (0 search(0, 0), d search(d, p), 49 the last search, 50 ASSIGN, 51 PARK), the ID
found so far, and the entry to assign. -/
structure StrPass where
  stage : Nat
  p : Nat
  node : Nat
  deriving DecidableEq, Repr

/-- A string port beside its registers (chapter 6): powered and past its 100 ms wait, the end of that wait, the end of the 10 s after
an OVERCURRENT, the fault conditions in force, the noise events of the scan, the scan, whether the gap after a scan is open, the
pass and the end of the last one, the resets waiting (an entry, or none for a broadcast), the NODE_ID words of which the other half
is awaited, the frame about to be sent, the frame awaiting a reply with the end of its window, the last frame sent, the TB0 tick since
which the line has been idle (R154), and a sample instant whose scan waits for the one under way (R167). -/
structure StrSt where
  idle : Tick
  next : Option Conv
  on : Bool
  up : Option Tick
  oc : Option Tick
  cfg : Bool
  low : Bool
  noisy : Bool
  noise : Nat
  scan : Option StrScan
  gap : Bool
  pass : Option StrPass
  ended : Option Tick
  resets : List (Option Nat)
  ids : List (Nat × Bool × Word)
  out : Option StrCmd
  win : Option (StrCmd × Tick)
  sent : List Byte
  deriving DecidableEq, Repr

/-- What was in force before the last re-plan (R472): its tick, the outputs then planned, the dies in MARGIN_LOW and SV_THM_REPLAN_CNT. -/
structure PlanMark where
  tick : Tick
  plan : List (Nat × Nat × Nat × Nat)
  low : List Nat
  cnt : Word
  deriving DecidableEq, Repr

/-- The planner beside its registers (chapter 18): field writes that the dies apply at the next tick (address, high and low bit,
value), the outputs last planned per die (delay code, margin, derate; R468), the dies that have taken a reading since the start
(R4), the ageing factor last logged per die, the canary runs to be repeated (die and TB0 tick), the dies in MARGIN_LOW, the ESR of
each converter at the last re-plan and those above ESR_MAX (R469), the drift conditions in force (R471: kind, channel), whether a die has reached
TJ_SAFE (R465), and the
transfer load of each die's link as last computed (R87). `runs` are the TB0 ticks at which each measurement was last taken (diode d: d,
canary: 16 + d, motion channel x: 32 + x, probe x: 48 + x), `planned` what was in force before the last
re-plan (R472). -/
structure ThmSt where
  runs : List (Nat × Tick)
  planned : Option PlanMark
  later : List (Nat × Nat × Nat × Nat)
  plan : List (Nat × Nat × Nat × Nat)
  seen : List Nat
  logA : List (Nat × Nat)
  canary : List (Nat × Tick)
  low : List Nat
  esr0 : List (Nat × Nat)
  esrHi : List Nat
  drift : List (Nat × Nat)
  hot : Bool
  loads : List (Nat × Nat)
  deriving DecidableEq, Repr

/-- A channel's path (Table 11-1). -/
inductive VPath where
  | offRec | freewheel | fromVin | fromBoost
  deriving DecidableEq, Repr

/-- A valve channel beside its registers (chapter 11): the last command applied and the LEVEL current in mA; the microcode word, whether
it has begun and when (TB0), and whether the OFF sequence runs; the path; the boost claim and the declared hold in mA; whether the
coil current still decays, and whether it does so from a completed END (R300); the recovery of a restart since (R301); LOCKOUT; since
when a resistance window is clean, and the measurement of the window just ended (R293); the coil current in mA when it was last
reported (R287); and the TB0 ticks at which the path last changed (R292) and the coil model was last updated (R306). -/
structure VchSt where
  ended : Bool
  cur : Nat
  pathAt : Tick
  thermAt : Tick
  cmd : Int
  level : Nat
  pc : Option Nat
  begun : Bool
  wordAt : Tick
  offSeq : Bool
  path : VPath
  claim : Bool
  hold : Nat
  decay : Bool
  restart : Option Tick
  lock : Bool
  clean : Option Tick
  rm : Option Int
  deriving DecidableEq, Repr

/-- A deferred request of a bank (R302): the channel, since when, whether it is a start, and whether that is a restart (R301). -/
structure VWait where
  x : Nat
  since : Tick
  start : Bool
  again : Bool
  deriving DecidableEq, Repr

/-- A boost converter beside its registers: above 80.0 V since it was last below VOV (R296), and switching since (TB0). -/
structure BstSt where
  abs : Bool
  chg : Option Tick
  deriving DecidableEq, Repr

/-- A motion channel as it stood before a stall or a tach loss (Table 12-2): the TB0 tick, its phase, and the words DR_MOT_STAT,
DR_MOT_STALL_CNT and DR_MOT_TL_CNT. -/
structure MotMark where
  at0 : Tick
  ph : Nat
  stat : Word
  stalls : Word
  losses : Word
  deriving DecidableEq, Repr

/-- A motion channel beside its registers (chapter 12): the last command applied; its phase by the numbers of Table 12-3 (0 to 5, or 8);
whether it is forced; the start of the kick and of RUN; since when SLOW, LOCKED and a good speed in TACH_LOST hold; the end of a
retry wait; the rising tach edges of the window, the newest before it, and the newest of all; the speed in rpm; the auxiliary
speeds on their way and arrived (TB1); whether it stood at its safe value; and the channel before its first stall or tach loss of a
TB0 tick, against forcing in the same tick (Table 12-2). -/
structure MotSt where
  cmd : Int
  ph : Nat
  forced : Bool
  kickAt : Tick
  runAt : Tick
  slow : Option Tick
  locked : Option Tick
  ok : Option Tick
  retryAt : Tick
  edges : List Tick
  ref : Option Tick
  last : Option Tick
  rpm : Nat
  aux : List (Tick × Int)
  sv : Bool
  mark : Option MotMark
  deriving DecidableEq, Repr

/-- A loop output on its way to a drive channel (R34): a motion or a valve channel, its TB1 instant and the value. -/
structure PendAct where
  mot : Bool
  x : Nat
  at1 : Tick
  value : Int
  deriving DecidableEq, Repr

/-- The drive dies beside their registers: channels, banks' deferred requests in the order they became pending, converters, motion
channels, actuations pending, the channels whose sequence enable is 0 (R274: motion, channel), and the TB0 tick at which each open
interlock input opened (R311). -/
structure DrvSt where
  vch : List (Nat × VchSt)
  waits : List VWait
  bst : List (Nat × BstSt)
  mot : List (Nat × MotSt)
  acts : List PendAct
  seqOff : List (Bool × Nat)
  ilk : List (Nat × Tick)
  deriving DecidableEq, Repr

/-- A RAIL_FAULT not yet handed to the recorder (R48): the rail, the event of the instant at which it became bad, the lowest
reading so far in mV, and whether its hand-over came while the dies were held in reset and awaits the start. -/
structure RailFault where
  rail : Nat
  ev : Ev
  low : Nat
  held : Bool
  deriving DecidableEq, Repr

/-- The supplies and the always-on island beside the registers (chapter 2): the TB0 tick at which V5 last became good (R128); the faults
awaiting their hand-over; those of VIO and VCORE awaiting the next start; the TB2 seconds and era of an unplanned loss awaiting its
record (R59); whether the dies are unpowered or held in reset; RST_N low; whether the next start is a power-on, wake or loss start
(Table 00-6, R60), and whether it follows a wake; whether VBAT and VIO were lost together (R59); the wake sources latched (R55) and
whether a wake is under way; TB2 in 2^-16 s at step 5 of the entry into HIBERNATE; RESTART and RTC records of the island awaiting
the start; the AO flag of an owner restart (R452); the levels of WAKE0 and WAKE1 after their filters (R56); whether the alarm has
fired in HIBERNATE; the last readings of the five monitors in mV (R63, SV_PWR_VMON0); TB2 in 2^-16 s at the wake and at the instant at
which all four rails were good (R57); and the TB0 tick of the last hand-over of a V5 fault (R48). -/
structure PwrSt where
  v5At : Tick
  faults : List RailFault
  lost : List RailFault
  loss : Option (Word × Byte)
  off : Bool
  rst : Bool
  cold : Bool
  woke : Bool
  aoLost : Bool
  latched : Nat
  waking : Bool
  hibAt : Nat
  island : List Ev
  ownerRestart : Bool
  pin0 : Bool
  pin1 : Bool
  fired : Bool
  mon : List (Nat × Nat)
  wakeAt : Nat
  goodAt : Option Nat
  handed : Option Tick
  deriving DecidableEq, Repr

/-- SAFE as it stood before a resume (R97): the TB0 tick of the resume and the port that wrote it (none for an automatic or a sequence's
resume), the causes it cleared, the SAFE fields of the start logic, and the sequences. -/
structure ExitMark where
  at0 : Tick
  port : Option PortId
  causes : Nat
  safeAt : Tick
  safeFrom : Nat
  seen : Nat
  clearAt : Tick
  seq : List (Nat × SeqSt)
  deriving DecidableEq, Repr

/-- The start beside the registers (chapter 3): whether an image is loaded, the image's plaintext, the next entry of its initialisation
list, the TB0 ticks at which a POLL or a DELAY under way began, the SV die words the list has written (R77), whether a header was
written in this start and the region to repair (R74), whether the start waits for REF_CLK (R488), what the start finds outside the part, the
erase sector in use and the NOR clock in MHz, the TB0 tick of SAFE entry, the state before it, the causes present since, the TB0 tick at which the last cause
ended (R96), an owner restart awaited with its port (R98), the TB0 tick of step 1 and the ticks from it to step 2 (R89), and SAFE as
it stood before the last resume (R97). -/
structure BootSt where
  loaded : Bool
  img : List Byte
  pc : Nat
  since : Option Tick
  wrote : List Nat
  hdrDone : Bool
  repair : Option Nat
  wait : Bool
  pins : StartPins
  sector : Nat
  mhz : Nat
  safeAt : Tick
  safeFrom : Nat
  seen : Nat
  clearAt : Tick
  restartAt : Option (Tick × Nat)
  refAt : Tick
  lead : Nat
  exit : Option ExitMark
  deriving DecidableEq, Repr
/-- The state of the block: the time bases, the register words, the device memories and the NOR byte by byte, the engines'
own state by chapter, the W1C bits set by hardware in the present TB0 tick, word by word (R14), the count of the free values (the
model's own field), and the commands waiting, first in first out. -/
structure State where
  clk : Clock
  regs : List (Nat × Word)
  mem : List Host.Cell
  nor : List Host.Cell
  time : TimeSt
  log : LogSt
  can : List (Nat × CanSt)
  net : NetSt
  sig : SigSt
  loops : List (Nat × LoopSt)
  eng : List (Nat × EngSt)
  sense : SenseSt
  trk : List (Nat × TrkSt)
  str : List (Nat × StrSt)
  drv : DrvSt
  thm : ThmSt
  pwr : PwrSt
  boot : BootSt
  upd : UpdSt
  port : PortSt
  seq : List (Nat × SeqSt)
  hwset : List (Nat × Word)
  free : Nat
  pending : List Instr
  deriving DecidableEq, Repr

/-- The time bases after reset: all zero (R100). -/
def Clock.init : Clock :=
  { tb0 := 0, tb1 := 0, acc := 0, rate := 0, sec := 0, frac := 0, sub := 0, era := 0, slew := 0, slewAt := 0, slewSum := 0, ops := 0, opsAcc := 0 }

/-- A servo that has measured nothing. -/
def Servo.init : Servo := { f := 0, good := 0, miss := 0, held := false }

/-- The time engine after reset: no measurement, no change under way, the next PPS edge accepted unconditionally (R110). -/
def TimeSt.init : TimeSt :=
  { pps := Servo.init, net := Servo.init, ppsLast := none, ppsFree := true, changes := [], syncRx := none, syncTx := [],
    syncSeq := 0, syncAt := none, rxDepth := 0, rxPps := false, lastCorr := none, rtcAbsent := false }

/-- The recorder after reset: an empty drawer and an empty ring; numbering is set at the start (R413). -/
def LogSt.init : LogSt :=
  { raised := [], runs := [], drawer := [], next := 0, lastEra := 0, head := 0, tailSlot := 0, tailSeq := 0, norLast := none,
    lostEp := 0, dropEp := 0, retryAt := none, wrong := [], upl := none }

/-- The network side after reset: nothing stored, bound or joined. -/
def NetSt.init : NetSt :=
  { store := [], drr := [], imports := [], join := none, bindings := [], proxies := [], census := [], censusSeq := 0 }

/-- No value on its way between dies. -/
def SigSt.init : SigSt := { tick := none, ports := [], evals := [], exports := [], sys := [], upd := [] }

/-- The update engine after reset. -/
def UpdSt.init : UpdSt := 
  { undo := none, chunk := none, binds := [], erases := [], dirty := none, base := [], size := 0, idle := 0, prog := false, trialAt := none, restartAt := none, site := [] }

/-- The ports after reset: no owner, nothing pending, held, staged or latched. -/
def PortSt.init : PortSt :=
  { owner := none, leaseEnd := 0, resv := none, tko := [], recs := [], latches := [], snaps := [], resp := none,
    svcDiscard := false }

/-- The sensing front end after reset. -/
def SenseSt.init : SenseSt := { ends := [], cj := [], ain := [], prb := [], pls := [] }

/-- The drive dies after reset. -/
def DrvSt.init : DrvSt := { vch := [], waits := [], bst := [], mot := [], acts := [], seqOff := [], ilk := [] }

/-- The planner after reset. -/
def ThmSt.init : ThmSt :=
  { runs := [], planned := none, later := [], plan := [], seen := [], logA := [], canary := [], low := [], esr0 := [], esrHi := [], drift := [], hot := false,
    loads := [] }

/-- The supplies before POWER_ON: the dies unpowered, and what the always-on island held lost. -/
def PwrSt.init : PwrSt :=
  { v5At := 0, faults := [], lost := [], loss := none, off := true, rst := false, cold := true, woke := false, aoLost := true,
    latched := 0, waking := false, hibAt := 0, island := [], ownerRestart := false,
    pin0 := false, pin1 := false, fired := false, mon := [], wakeAt := 0, goodAt := none, handed := none }

/-- The start logic before a start: no image loaded. -/
def BootSt.init : BootSt :=
  { loaded := false, img := [], pc := 0, since := none, wrote := [], hdrDone := false, repair := none, wait := false,
    pins := { mode := 0, refOk := true, norFail := none, jedec := 0, size := 0, sector := 16, mhz := 0, hdrFail := false },
    sector := 16, mhz := 0, safeAt := 0, safeFrom := 1, seen := 0, clearAt := 0, restartAt := none, refAt := 0, lead := 0, exit := none }

/-- The block right after reset: every register at its printed reset value (the register table lists no word that differs),
the memories as nothing has written them, and an empty queue. -/
def State.reset : State :=
  { clk := Clock.init, regs := [], mem := [], nor := [], time := TimeSt.init, log := LogSt.init, can := [], net := NetSt.init,
    sig := SigSt.init,
    loops := [], eng := [], sense := SenseSt.init, trk := [], str := [], drv := DrvSt.init, thm := ThmSt.init, pwr := PwrSt.init, boot := BootSt.init, upd := UpdSt.init, port := PortSt.init, seq := [],
    hwset := [], free := 0, pending := [] }

end Sys2Proof.Machine
end

