-- ==== Sys2Proof/Machine/Ops.lean ====
section
/-!
DEFINITION. The named operations every meaning is built from: sparse tables in canonical form, words and their fields, the
one pair that reads and writes a register or memory word, NOR words, counters of class S (R22, R23), and the free value.
-/
namespace Sys2Proof.Machine

/-! ### Sparse tables: ascending keys, no entry equal to what an unlisted key reads as -/

/-- The value at key `i`; an unlisted key reads `d i`. -/
def tget {α : Type} (d : Nat → α) : List (Nat × α) → Nat → α
  | [], i => d i
  | (k, v) :: r, i => if k = i then v else tget d r i

/-- The table without key `i`. -/
def tdel {α : Type} : List (Nat × α) → Nat → List (Nat × α)
  | [], _ => []
  | (k, v) :: r, i => if k = i then tdel r i else (k, v) :: tdel r i

/-- The table with `v` at key `i`: a value equal to the default removes the entry. -/
def tput {α : Type} [DecidableEq α] (d : Nat → α) : List (Nat × α) → Nat → α → List (Nat × α)
  | [], i, v => if v = d i then [] else [(i, v)]
  | (k, w) :: r, i, v =>
    if k < i then (k, w) :: tput d r i v
    else if v = d i then tdel ((k, w) :: r) i
    else if k = i then (i, v) :: r
    else (i, v) :: (k, w) :: r

/-- The canonical form of a table: keys strictly rising from `lo`, no entry at its default. -/
def twfFrom {α : Type} [DecidableEq α] (d : Nat → α) : Nat → List (Nat × α) → Bool
  | _, [] => true
  | lo, (k, v) :: r => lo ≤ k && v ≠ d k && twfFrom d (k + 1) r

/-- The canonical form of a whole table. -/
def twf {α : Type} [DecidableEq α] (d : Nat → α) (l : List (Nat × α)) : Bool := twfFrom d 0 l

/-! ### Words and fields -/

/-- The word of a natural number, modulo 2^32. -/
def w32 (n : Nat) : Word := BitVec.ofNat 32 n
/-- The word of an integer, modulo 2^32. -/
def i32 (i : Int) : Word := BitVec.ofInt 32 i
/-- Field [hi:lo] of a word (R5). -/
def bits (w : Word) (hi lo : Nat) : Nat := (w.toNat / 2 ^ lo) % 2 ^ (hi - lo + 1)
/-- Bit `i` of a word. -/
def bit (w : Word) (i : Nat) : Bool := w.getLsbD i
/-- The mask of field [hi:lo]. -/
def fmask (hi lo : Nat) : Word := w32 ((2 ^ (hi - lo + 1) - 1) * 2 ^ lo)
/-- The word with field [hi:lo] replaced by `v`. -/
def setBits (w : Word) (hi lo v : Nat) : Word :=
  (w &&& ~~~ (fmask hi lo)) ||| (w32 ((v % 2 ^ (hi - lo + 1)) * 2 ^ lo))
/-- The word with bit `i` replaced. -/
def setBit (w : Word) (i : Nat) (b : Bool) : Word := setBits w i i (if b then 1 else 0)
/-- 1 or 0. -/
def b2n (b : Bool) : Nat := if b then 1 else 0

/-- Serial-number order (R20) with width 2^n: `a` is later than `b`. -/
def laterN (n : Nat) (a b : Nat) : Bool :=
  let d := (a + 2 ^ n - b % 2 ^ n) % 2 ^ n
  decide (1 ≤ d ∧ d ≤ 2 ^ (n - 1) - 1)

/-- The four bytes of a word, least significant first (R7: memories, NOR and images). -/
def leBytes (w : Word) : List Byte :=
  [w.extractLsb' 0 8, w.extractLsb' 8 8, w.extractLsb' 16 8, w.extractLsb' 24 8]
/-- The word of four bytes, least significant first. -/
def ofLe (b0 b1 b2 b3 : Byte) : Word := b3 ++ b2 ++ b1 ++ b0
/-- `n` bytes of a number, most significant first (R7: serial frames). -/
def beBytes : Nat → Nat → List Byte
  | 0, _ => []
  | n + 1, v => BitVec.ofNat 8 (v / 256 ^ n) :: beBytes n v
/-- The number of a byte string, most significant byte first. -/
def ofBe : List Byte → Nat
  | [] => 0
  | b :: r => b.toNat * 256 ^ r.length + ofBe r
/-- Byte `i` of a string, 0 past its end. -/
def byteAt (l : List Byte) (i : Nat) : Byte := l.getD i 0
/-- `n` bytes of a string from `i`, as a number, most significant first. -/
def beAt (l : List Byte) (i n : Nat) : Nat := ofBe ((l.drop i).take n)

/-! ### Registers and memories -/

/-- The reset word of a register (R17): the printed reset value, the die's identity where a fuse gives it (R478), 0 at an
address that maps no register. -/
def resetWord (addr : Nat) : Word :=
  match findRow addr with
  | none => 0
  | some r =>
    let off := addr % winSize
    if off = 0 then
      let d := dieOf addr
      let cls := match dieClass d with | .sv => 1 | .lp => 2 | .dr => 3 | .nw => 4
      w32 (cls * 0x1000000 + d * 0x10000) ||| ((Config.fuseStep d).setWidth 32 <<< 8)
    else if addr = Reg.SV_ID_DEV then w32 r.rst ||| (Config.fusePkgRev.setWidth 32 <<< 8)
    else if addr = Reg.SV_ID_STEPS_LO then
      ofLe (Config.fuseStep 0) (Config.fuseStep 1) (Config.fuseStep 2) (Config.fuseStep 3)
    else if addr = Reg.SV_ID_STEPS_HI then
      ofLe (Config.fuseStep 4) (Config.fuseStep 5) (Config.fuseStep 6) (Config.fuseStep 7)
    else if addr = Reg.SV_UPD_OTP then Config.otpWord &&& 0x7FF
    else if addr = Reg.NW_HIER_SERIAL_LO then Config.otpSerial.extractLsb' 0 32
    else if addr = Reg.NW_HIER_SERIAL_HI then Config.otpSerial.extractLsb' 32 32
    else w32 r.rst

/-- Is the word at `addr` a memory word (Table 19-2, and the signal entries of R480), held byte by byte? -/
def usesMem (addr : Nat) : Bool :=
  decide (0x800000 ≤ addr % winSize) || decide (0xA0000 ≤ addr ∧ addr < 0xA2000)

/-- The word boundary at or below an address (R6). -/
def wordBase (addr : Nat) : Nat := addr / 4 * 4

/-- What a byte of device memory that nothing has written reads as: 0 (DESIGN CHOICE, log entry 5). -/
def memDefault (_ : Nat) : Byte := 0
/-- What an erased NOR byte reads as: 0xFF (R70). -/
def norDefault (_ : Nat) : Byte := 0xFF

/-- One byte of device memory. -/
def memByte (s : State) (a : Nat) : Byte := tget memDefault s.mem a

/-- The word at address `a` of a byte store, little-endian (R7). -/
def cellWord (d : Nat → Byte) (m : List Host.Cell) (a : Nat) : Word :=
  ofLe (tget d m a) (tget d m (a + 1)) (tget d m (a + 2)) (tget d m (a + 3))

/-- The byte store with the word at `a` replaced, little-endian (R7). -/
def cellPut (d : Nat → Byte) (m : List Host.Cell) (a : Nat) (w : Word) : List Host.Cell :=
  tput d (tput d (tput d (tput d m a (w.extractLsb' 0 8)) (a + 1) (w.extractLsb' 8 8)) (a + 2) (w.extractLsb' 16 8))
    (a + 3) (w.extractLsb' 24 8)

/-- The stored word at an address: a register word, or a memory word (R474). -/
def rd (s : State) (addr : Nat) : Word :=
  let a := wordBase addr
  if usesMem a then cellWord memDefault s.mem a else tget resetWord s.regs a

/-- The state with the word at an address replaced. -/
def wr (s : State) (addr : Nat) (w : Word) : State :=
  let a := wordBase addr
  if usesMem a then { s with mem := cellPut memDefault s.mem a w }
  else { s with regs := tput resetWord s.regs a w }

/-- Field [hi:lo] of the word at an address. -/
def rdF (s : State) (addr hi lo : Nat) : Nat := bits (rd s addr) hi lo
/-- Bit `i` of the word at an address. -/
def rdB (s : State) (addr i : Nat) : Bool := bit (rd s addr) i
/-- The word at an address as a signed number (R8). -/
def rdI (s : State) (addr : Nat) : Int := (rd s addr).toInt
/-- The word at an address as an unsigned number. -/
def rdN (s : State) (addr : Nat) : Nat := (rd s addr).toNat
/-- The state with field [hi:lo] of the word at an address replaced. -/
def wrF (s : State) (addr hi lo v : Nat) : State := wr s addr (setBits (rd s addr) hi lo v)
/-- The state with one bit of the word at an address replaced. -/
def wrB (s : State) (addr i : Nat) (b : Bool) : State := wr s addr (setBit (rd s addr) i b)
/-- The W1C bits that hardware has set in the word at an address in the present TB0 tick (R14). -/
def hwBits (s : State) (addr : Nat) : Word := tget (fun _ => 0) s.hwset (wordBase addr)
/-- Note that hardware sets the W1C bits `m` of the word at an address in this tick (R14). -/
def hwMark (addr m : Nat) (s : State) : State :=
  { s with hwset := tput (fun _ => 0) s.hwset (wordBase addr) (hwBits s addr ||| w32 m) }
/-- Hardware sets a W1C bit (R14): a write of 1 in the same tick does not clear it. -/
def hwSet (s : State) (addr i : Nat) : State := hwMark addr (2 ^ i) (wrB s addr i true)
/-- The state with a natural number in the word at an address. -/
def wrN (s : State) (addr n : Nat) : State := wr s addr (w32 n)
/-- The state with an integer in the word at an address. -/
def wrI (s : State) (addr : Nat) (i : Int) : State := wr s addr (i32 i)
/-- A list of words at ascending addresses. -/
def wrList (s : State) (addr : Nat) : List Word → State
  | [] => s
  | w :: r => wrList (wr s addr w) (addr + 4) r
/-- `n` words at ascending addresses. -/
def rdList (s : State) (addr : Nat) : Nat → List Word
  | 0 => []
  | n + 1 => rd s addr :: rdList s (addr + 4) n

/-! ### NOR -/

/-- The word at a NOR byte address, little-endian (R7). -/
def norWord (s : State) (a : Nat) : Word := cellWord norDefault s.nor a
/-- The state with the NOR word at `a` programmed. -/
def norPut (s : State) (a : Nat) (w : Word) : State := { s with nor := cellPut norDefault s.nor a w }
/-- `n` NOR bytes from `a`. -/
def norBytes (s : State) (a : Nat) : Nat → List Byte
  | 0 => []
  | n + 1 => tget norDefault s.nor a :: norBytes s (a + 1) n
/-- The state with bytes programmed into the NOR from `a`. -/
def norPutBytes (s : State) (a : Nat) : List Byte → State
  | [] => s
  | b :: r => norPutBytes { s with nor := tput norDefault s.nor a b } (a + 1) r
/-- The state with the NOR bytes from `lo` up to `hi` erased to 0xFF. -/
def norErase (s : State) (lo hi : Nat) : State :=
  { s with nor := s.nor.filter fun c => decide (c.1 < lo ∨ hi ≤ c.1) }
/-- The state with the memory bytes from `lo` up to `hi` at what an unwritten byte reads as. -/
def memErase (s : State) (lo hi : Nat) : State :=
  { s with mem := s.mem.filter fun c => decide (c.1 < lo ∨ hi ≤ c.1) }

/-! ### The free value -/

/-- A value the spec leaves open: the free value of the present count, and the count advanced. -/
def takeFree (s : State) : Word × State := (Config.freeValue s.free, { s with free := s.free + 1 })

/-! ### Applying an operation to each of a list -/

/-- Fold an operation over a list of indexes, first to last. -/
def forEach {α : Type} (l : List α) (f : α → State → State) (s : State) : State :=
  l.foldl (fun t x => f x t) s

/-- The ascending set bits of a mask of at most `n` bits. -/
def maskBits (m n : Nat) : List Nat := (List.range n).filter fun i => (m / 2 ^ i) % 2 = 1

/-! ### Outcomes -/

/-- An effect that leaves the time bases and the queue alone. -/
def keepClk (f : State → State) (s : State) : State := { f s with pending := s.pending, clk := s.clk }

/-- Run an effect that leaves the time bases and the queue alone. -/
def run (f : State → State) (s : State) : Host.Outcome State Fault Refusal := .next (keepClk f s)

/-- Run an effect that may change the time bases; it leaves the queue alone. -/
def runClk (f : State → State) (s : State) : Host.Outcome State Fault Refusal :=
  .next { f s with pending := s.pending }

/-- A command on an instance the part has not (R2): refused as an event no AXG7310 can see. -/
def guardIx (i n : Nat) (k : Host.Outcome State Fault Refusal) : Host.Outcome State Fault Refusal :=
  if i < n then k else .fault .noSuchResource

end Sys2Proof.Machine
end

