-- ==== Sys2Proof/Machine/CanTx.lean ====
section
/-!
DEFINITION. The message RAM of the NW die and the TX buffers of a CAN channel (R342, R343, R352 to R355), shared by everything
that sends a frame.
-/
namespace Sys2Proof.Machine

/-- Address of element `e` of the channel region of Nn (Table 13-3). -/
def elemAddr (n e : Nat) : Nat := 0x07800000 + n * 0x3400 + e * 80
/-- Address of XL buffer `x` (Table 13-3). -/
def xlAddr (x : Nat) : Nat := 0x0781A000 + x * 0x1000
/-- Address of publication record `p` (Table 13-3). -/
def pubAddr (p : Nat) : Nat := 0x0781E000 + 16 * p
/-- Address of import record `i` (Table 13-3). -/
def impAddr (i : Nat) : Nat := 0x0781F000 + 16 * i
/-- Address of filter element `e` (R345). -/
def filtAddr (e : Nat) : Nat := 0x07A00000 + 16 * e
/-- Address of route entry `i` (R378). -/
def routeAddr (i : Nat) : Nat := 0x07B00000 + 16 * i

/-- The channel record of Nn before anything has happened on it. -/
def canInit (_ : Nat) : CanSt :=
  { tries := [], bitErrs := [], rxseq := 0, rdConf := 0, rdDwell := 0, fwd := [], c0rx := [], launched := [], lastOwn := none, reqAt := [] }
/-- The channel record of Nn. -/
def canOf (s : State) (n : Nat) : CanSt := tget canInit s.can n
/-- The state with the channel record of Nn replaced. -/
def canSet (s : State) (n : Nat) (c : CanSt) : State := { s with can := tput canInit s.can n c }

/-- The 29-bit identifier of a system frame (R335). -/
def sysId (cls src obj : Nat) : Nat := cls * 2 ^ 27 + src * 2 ^ 15 + obj
/-- The traffic class of a 29-bit key (R335). -/
def keyClass (key : Nat) : Nat := key / 2 ^ 27 % 4
/-- The source address of a 29-bit key (R335). -/
def keySrc (key : Nat) : Nat := key / 2 ^ 15 % 4096
/-- The object of a 29-bit key (R335). -/
def keyObj (key : Nat) : Nat := key % 2 ^ 15

/-- The 29-bit key of a frame (R335): the identifier, or (PID[10:9] << 27) | AF[26:0] of an XL frame. -/
def frameKey (f : CanFrame) : Nat :=
  match f.fmt with
  | .xl => f.id / 2 ^ 9 % 4 * 2 ^ 27 + f.af % 2 ^ 27
  | .ext => f.id % 2 ^ 29
  | .base => f.id % 2 ^ 11

/-- The class of a frame: key [28:27], or ID [10:9] of a base-format frame (R335, Table 14-1). -/
def frameClass (f : CanFrame) : Nat :=
  match f.fmt with
  | .base => f.id / 2 ^ 9 % 4
  | _ => keyClass (frameKey f)

/-- The least DLC whose frame holds `n` data bytes (ISO 11898-1 coding, R334). -/
def dlcOf (n : Nat) : Nat :=
  if n ≤ 8 then n else if n ≤ 12 then 9 else if n ≤ 16 then 10 else if n ≤ 20 then 11 else if n ≤ 24 then 12
  else if n ≤ 32 then 13 else if n ≤ 48 then 14 else 15

/-- The data bytes that a DLC announces (R334): classical frames hold at most 8. -/
def dlcLen (fdf : Bool) (d : Nat) : Nat :=
  if d ≤ 8 then d
  else if fdf then [12, 16, 20, 24, 32, 48, 64].getD (d - 9) 64 else 8

/-- The bus priority of a frame as a number, lower first (R335, R380): the first eleven bits, then base before extended. -/
def arbRank (f : CanFrame) : Nat :=
  match f.fmt with
  | .ext => f.id / 2 ^ 18 * 2 ^ 19 + 2 ^ 18 + f.id % 2 ^ 18
  | _ => f.id * 2 ^ 19

/-- The DLC of a frame (R343): that of its data bytes, or the one above 8 that a classical frame of 8 bytes carries. -/
def frameDlc (f : CanFrame) : Nat :=
  if f.fdf = false ∧ f.data.length = 8 ∧ 9 ≤ f.rawDlc ∧ f.rawDlc ≤ 15 then f.rawDlc else dlcOf f.data.length

/-- The words of a byte string, little-endian, the last one padded with 0. -/
def packWords : List Byte → List Word
  | [] => []
  | [a] => [ofLe a 0 0 0]
  | [a, b] => [ofLe a b 0 0]
  | [a, b, c] => [ofLe a b c 0]
  | a :: b :: c :: d :: r => ofLe a b c d :: packWords r

/-- The data bytes of element `e` of Nn. -/
def elemData (s : State) (n e len : Nat) : List Byte :=
  (List.range len).map fun i => memByte s (elemAddr n e + 16 + i)

/-- The frame held in TX element `e` of Nn (R343). -/
def txFrame (s : State) (n e : Nat) : CanFrame :=
  let a := elemAddr n e
  let w0 := rd s a
  let w1 := rd s (a + 4)
  let fdf := bit w1 27
  { fmt := if bit w0 29 then .ext else .base, fdf := fdf, brs := bit w1 26,
    id := if bit w0 29 then bits w0 28 0 else bits w0 10 0, rawDlc := if fdf = false ∧ 9 ≤ bits w1 31 28 then bits w1 31 28 else 0,
    data := elemData s n e (dlcLen fdf (bits w1 31 28)) }

/-- Is TX buffer `b` of Nn pending (R352)? -/
def txPending (s : State) (n b : Nat) : Bool := rdB s (Reg.NW_CH_TXPEND n) b
/-- Is a cancel of TX buffer `b` of Nn pending (R355)? -/
def txCancelled (s : State) (n b : Nat) : Bool := rdB s (Reg.NW_CH_TXCAN n) b

/-- The lowest free buffer of `lo` to `hi` (R352). -/
def freeBuf (s : State) (n lo hi : Nat) : Option Nat :=
  ((List.range (hi + 1 - lo)).map (· + lo)).find? fun b => !txPending s n b

/-- Make TX buffer `b` of Nn pending (R352: a request clears OUTCOME to 0 and TS to 0). -/
def txRequest (s : State) (n b : Nat) : State :=
  let a := elemAddr n b
  let s := wrF s (a + 4) 23 20 0
  let s := wr s (a + 12) 0
  let s := wrB s (Reg.NW_CH_TXREQ n) b true
  let s := wrB s (Reg.NW_CH_TXPEND n) b true
  let s := wrB s (Reg.NW_CH_TXCAN n) b false
  let c := canOf s n
  canSet s n { c with tries := tput (fun _ => 0) c.tries b 0, launched := c.launched.filter fun x => decide (x.1 ≠ b),
                      reqAt := (c.reqAt.filter fun x => decide (x.1 ≠ b)) ++ [(b, s.clk.tb0)] }

/-- Write a frame into TX buffer `b` of Nn and request it, with an optional launch instant (R343, R352, R354). -/
def txLoad (s : State) (n b : Nat) (f : CanFrame) (launch : Option Word) : State :=
  let a := elemAddr n b
  let s := wr s a (setBit (w32 f.id) 29 (decide (f.fmt = .ext)))
  let w1 := setBit (setBit (setBit (setBits 0 31 28 (frameDlc f)) 27 f.fdf) 26 f.brs) 25 launch.isSome
  let s := wr s (a + 4) w1
  let s := wr s (a + 8) (launch.getD 0)
  let s := wrList s (a + 16) (packWords (f.data ++ List.replicate (64 - f.data.length) 0))
  txRequest s n b

/-- Queue a device frame on Nn in the lowest free buffer of `lo` to `hi`; none when no buffer is free (R352). -/
def txQueue (s : State) (n lo hi : Nat) (f : CanFrame) (launch : Option Word) : Option State :=
  match freeBuf s n lo hi with
  | none => none
  | some b => some (txLoad s n b f launch)

/-- The last buffer of the device's own traffic of classes 1 to 3: 23, or 31 while the port buffers are its own (R352). -/
def devBufHi (s : State) (n : Nat) : Nat := if rdB s (Reg.NW_CH_CFG n) 22 then 23 else 31

/-- Is Nn enabled, with no configuration error (R340, R362)? -/
def chanOn (s : State) (n : Nat) : Bool :=
  rdB s (Reg.NW_CH_CFG n) 31 && decide (rdF s (Reg.NW_CH_STAT n) 2 0 ≠ 7) && decide (rdF s (Reg.NW_CH_STAT n) 2 0 ≠ 0)

/-- The device's own address, when it holds a valid one (NW_HIER_ADDR; R368). -/
def ownAddr (s : State) : Option Nat :=
  if rdB s Reg.NW_HIER_ADDR 31 then some (rdF s Reg.NW_HIER_ADDR 11 0) else none
/-- Is the device in clash (R359: CLASH is set on every channel)? -/
def inClash (s : State) : Bool := rdB s (Reg.NW_CH_STAT 0) 17
/-- The upstream channel (NW_HIER_CFG.UP_CH). -/
def upCh (s : State) : Nat := rdF s Reg.NW_HIER_CFG 26 24
/-- Is the device ROOT (R364)? -/
def isRoot (s : State) : Bool := decide (rdF s Reg.NW_HIER_CFG 31 30 = 2)
/-- May the device send a frame that carries its own source address (R359, R368, R372)? -/
def maySendOwn (s : State) : Bool :=
  (ownAddr s).isSome && !inClash s && decide (rdF s Reg.NW_HIER_STAT 2 0 ≠ 5)

/-- A system frame in CAN FD format with the device's own address (R335; BRS_EN selects bit-rate switching). -/
def ownFrame (s : State) (n cls obj : Nat) (data : List Byte) : CanFrame :=
  { fmt := .ext, fdf := true, brs := rdB s (Reg.NW_CH_CFG n) 26, id := sysId cls ((ownAddr s).getD 0) obj, data := data }

end Sys2Proof.Machine
end

