-- ==== Sys2Proof/Machine/Recorder.lean ====
section
/-!
DEFINITION. The event recorder (chapter 16): raising an event, numbering, coalescing, dropping, the drawer, the NOR ring,
runs, media failure and recovery.
-/
namespace Sys2Proof.Machine

/-! ### Raising an event -/

/-- The device state (Table 03-13): 0 HIBERNATE, 1 BOOT, 2 TRIAL, 3 RUN, 4 SAFE. -/
def devState (s : State) : Nat := rdF s Reg.SV_BOOT_STAT 2 0
/-- SV_LOG_STAT.STATE: 0 CLOSED, 1 NORMAL, 2 DEGRADED. -/
def logState (s : State) : Nat := rdF s Reg.SV_LOG_STAT 1 0
/-- Is TB2 valid (R120)? -/
def tb2Valid (s : State) : Bool := rdB s Reg.SV_TIME_STAT 5
/-- The power-cycle count (R60). -/
def pcyc (s : State) : Nat := rdF s Reg.SV_LOG_PCYC 31 8

/-- An event of this instant (R411). -/
def evNow (s : State) (code unit : Nat) (p0 p1 : Word) : Ev :=
  { tick := s.clk.tb0, code := code, unit := unit, p0 := p0, p1 := p1, ops := s.clk.ops, pcyc := pcyc s, era := s.clk.era,
    sec := s.clk.sec, frac := s.clk.frac, inv := !tb2Valid s, preboot := decide (logState s = 0),
    trial := decide (devState s = 2) }

/-- Put an event among those on their way: behind everything of an earlier tick, and within one tick by source die index,
lowest first, behind that die's own (R412). -/
def evInsert (e : Ev) : List Ev → List Ev
  | [] => [e]
  | x :: r => if x.tick = e.tick ∧ x.unit > e.unit then e :: x :: r else x :: evInsert e r

/-- Raise an event with its parameters w6 and w7 (R411, R412). -/
def raise (code unit : Nat) (p0 p1 : Word) (s : State) : State :=
  { s with log := { s.log with raised := evInsert (evNow s code unit p0 p1) s.log.raised } }

/-- Raise an event, parameters as numbers. -/
def raiseN (code unit p0 p1 : Nat) (s : State) : State := raise code unit (w32 p0) (w32 p1) s

/-- A class S counter [hi:lo] with its sticky flag at `ovf` (R22): it stops at its maximum, sets the flag there and logs one
COUNTER_LIMIT with the counter's address, raised by the die that owns it (R435). -/
def countS (addr hi lo ovf : Nat) (s : State) : State :=
  let mx := 2 ^ (hi - lo + 1) - 1
  let v := rdF s addr hi lo
  if v ≥ mx then s
  else
    let s := wrF s addr hi lo (v + 1)
    if v + 1 = mx then raiseN 0x0A06 (dieOf addr) addr 0 (hwSet s addr ovf) else s

/-- A class S counter in bits [15:0] with its flag in [31]. -/
def count16 (addr : Nat) (s : State) : State := countS addr 15 0 31 s
/-- A class S counter in bits [30:0] with its flag in [31]. -/
def count31 (addr : Nat) (s : State) : State := countS addr 30 0 31 s

/-- A class S sum: the counter [30:0] rises by `n` and stops at its maximum (R22). -/
def addS31 (addr n : Nat) (s : State) : State :=
  let mx := 2 ^ 31 - 1
  let v := rdF s addr 30 0
  if v ≥ mx then s
  else if v + n ≥ mx then raiseN 0x0A06 (dieOf addr) addr 0 (hwSet (wrF s addr 30 0 mx) addr 31)
  else wrF s addr 30 0 (v + n)

/-! ### Severity and flood policy -/

/-- The severity of a code (Table 16-9): 0 INFO, 1 WARNING, 2 ALARM, 3 FAULT. -/
def evSev (code : Nat) : Nat :=
  if code ∈ [0x000B, 0x0402] then 3
  else if code ∈ [0x0002, 0x0003, 0x0006, 0x0008, 0x0010, 0x0023, 0x0024, 0x0207, 0x0301, 0x0306, 0x0401, 0x0403, 0x0408,
      0x040A, 0x0501, 0x0503, 0x0504, 0x0506, 0x0602, 0x0604, 0x0705, 0x0706, 0x0806, 0x0808, 0x0A01, 0x0B02, 0x0B06, 0x0B07,
      0x0B08, 0x0C04, 0x0C05] then 2
  else if code ∈ [0x0001, 0x0004, 0x0012, 0x0013, 0x0020, 0x0021, 0x0022, 0x0102, 0x0104, 0x0203, 0x0212, 0x0213, 0x0302,
      0x0304, 0x0305, 0x0307, 0x0404, 0x0405, 0x0406, 0x0409, 0x0505, 0x0702, 0x0801, 0x0803, 0x0805, 0x0902, 0x0A07, 0x0B01,
      0x0B04, 0x0B05, 0x0B09, 0x0C01, 0x0C03] then 0
  else 1

/-- The default flood policy of a code: none for FILL, the window of REPEAT in seconds otherwise (R419 and the Events section
of each chapter). -/
def evPolicy (code : Nat) : Option Nat :=
  if code ∈ [0x0A01, 0x0A02, 0x0A03, 0x0A05, 0x0A07] then none
  else if code ∈ [0x0302, 0x0303, 0x0404, 0x0409, 0x0502, 0x0703, 0x0707, 0x0806, 0x0A06, 0x0C01, 0x0C03] then some 60
  else some 1

/-- The policy in force (R419): the lowest-indexed enabled entry of SV_LOG_POLICY for the code, or the default. -/
def policyOf (s : State) (code : Nat) : Option Nat :=
  let hit := (List.range 64).find? fun k =>
    let w := rd s (Reg.SV_LOG_POLICY k)
    bit w 15 && decide (bits w 31 16 = code) && (bit w 14 || decide (bits w 13 0 ≠ 0))
  match hit with
  | none => evPolicy code
  | some k => let w := rd s (Reg.SV_LOG_POLICY k); if bit w 14 then none else some (bits w 13 0)

/-! ### The drawer and the NOR ring -/

/-- NOR address of log slot `n` (R415). -/
def slotAddr (n : Nat) : Nat := 0x01B00000 + 32 * n
/-- The log slots (R415). -/
def logSlots : Nat := 131072

/-- An empty drawer slot. -/
def drawerEmpty : Rec := { seq := 0, w1 := 0xFFFF0000, w2 := 0, w3 := 0, w4 := 0, w5 := 0, w6 := 0, w7 := 0 }
/-- The pending slots of the drawer (R417). -/
def pendSlots (s : State) : List (Nat × DrawerSlot) := s.log.drawer.filter fun d => d.2.pend

/-- The oldest of a list of drawer slots: the one no other precedes by sequence number (R20). -/
def oldestSlot : List (Nat × DrawerSlot) → Option (Nat × DrawerSlot)
  | [] => none
  | x :: r =>
    match oldestSlot r with
    | none => some x
    | some y => if laterN 32 y.2.r.seq.toNat x.2.r.seq.toNat then some x else some y

/-- Put a record into drawer slot `d`, pending. -/
def drawerPut (s : State) (d : Nat) (r : Rec) : State :=
  let rest := s.log.drawer.filter fun x => decide (x.1 < d)
  let tail := s.log.drawer.filter fun x => decide (d < x.1)
  { s with log := { s.log with drawer := rest ++ (d, { r := r, pend := true }) :: tail } }

/-- The severity field of a record. -/
def recSev (r : Rec) : Nat := bits r.w1 15 14

/-- Where a new record goes (R417, R425): a free slot of the ring, else the oldest flushed record, else, with all 64 pending,
the slot that R425 names; `none` drops the record. The second part says whether a pending record is overwritten. -/
def drawerPlace (s : State) (sev : Nat) : Option (Nat × Bool) :=
  match (List.range 64).find? fun d => s.log.drawer.all fun x => decide (x.1 ≠ d) with
  | some d => some (d, false)
  | none =>
    match oldestSlot (s.log.drawer.filter fun d => !d.2.pend) with
    | some x => some (x.1, false)
    | none =>
      let oldest := oldestSlot s.log.drawer
      if rdB s Reg.SV_LOG_CFG 7 then oldest.map fun x => (x.1, true)
      else if sev < 2 then none
      else
        match oldestSlot (s.log.drawer.filter fun d => decide (recSev d.2.r < 2)) with
        | some x => some (x.1, true)
        | none => oldest.map fun x => (x.1, true)

/-- The NOTICE of a record (R430, Table 16-5). -/
def noticeData (r : Rec) : List Byte :=
  beBytes 4 r.seq.toNat ++ beBytes 2 (bits r.w1 31 16) ++ beBytes 1 (bits r.w1 15 8) ++ beBytes 1 (bits r.w1 7 0)
    ++ beBytes 1 (bits r.w3 7 0) ++ [0, 0, 0] ++ beBytes 4 r.w4.toNat ++ beBytes 4 r.w6.toNat ++ beBytes 4 r.w7.toNat

/-- Send the NOTICE of a record (R430): on UP_CH in buffers 4 to 23, when it is due and the device may send it. -/
def sendNotice (r : Rec) (s : State) : State :=
  let code := bits r.w1 31 16
  let due := code = 0x0A01 ∨ code = 0x0A02 ∨ (rdB s Reg.SV_LOG_CFG 4 ∧ rdF s Reg.SV_LOG_CFG 6 5 ≤ recSev r)
  let n := upCh s
  if due ∧ !isRoot s ∧ maySendOwn s ∧ chanOn s n then
    (txQueue s n 4 23 (ownFrame s n 1 0x7E03 (noticeData r)) none).getD s
  else s

/-- The flags byte of a record (Table 16-2). -/
def recFlags (e : Ev) (degraded run sat : Bool) : Nat :=
  evSev e.code * 64 + b2n degraded * 32 + b2n run * 16 + b2n sat * 8 + b2n e.inv * 4 + b2n e.preboot * 2 + b2n e.trial

/-- The record of an event with its number and count (R409, R411): the era is never lower than that of any earlier record. -/
def mkRec (s : State) (e : Ev) (cnt : Nat) (run sat : Bool) : Rec :=
  let era := if s.log.lastEra.toNat ≤ e.era.toNat then e.era else s.log.lastEra
  { seq := s.log.next,
    w1 := w32 (e.code * 0x10000 + recFlags e (decide (logState s = 2)) run sat * 256 + e.unit),
    w2 := e.ops, w3 := w32 (e.pcyc * 256 + era.toNat), w4 := e.sec,
    w5 := w32 (cnt * 0x10000 + e.frac.toNat), w6 := e.p0, w7 := e.p1 }

/-- Write one record (R412, R417, R425, R430): number it, place it in the drawer, raise ATTN.EVENT at severity ALARM or above
(Table 15-5), send its NOTICE; or drop it. -/
def writeRec (e : Ev) (cnt : Nat) (run sat : Bool) (s : State) : State :=
  let r := mkRec s e cnt run sat
  match drawerPlace s (evSev e.code) with
  | none => count31 Reg.SV_LOG_DROP_CNT { s with log := { s.log with dropEp := s.log.dropEp + 1 } }
  | some (d, lost) =>
    let s := if lost then count31 Reg.SV_LOG_LOST_CNT { s with log := { s.log with lostEp := s.log.lostEp + 1 } } else s
    let s := drawerPut s d r
    let s := { s with log := { s.log with next := s.log.next + 1, lastEra := BitVec.ofNat 8 (bits r.w3 7 0) } }
    let s := wr s Reg.SV_LOG_HEAD_SEQ r.seq
    let s := if evSev e.code ≥ 2 then hwSet s Reg.SV_OWN_ATTN 4 else s
    sendNotice r s

/-! ### Flood control -/

/-- The key of an occurrence: code, source unit and w6 (R421). -/
def sameKey (a b : Ev) : Bool := decide (a.code = b.code ∧ a.unit = b.unit ∧ a.p0 = b.p0)

/-- Write the record that closes a run, if its count is above 0 (R421, R422). -/
def closeRun (r : Run) (sat : Bool) (s : State) : State :=
  if r.count = 0 then s else writeRec r.last r.count true sat s

/-- Has the window of a run passed at TB0 tick `t` (R421)? -/
def runDue (r : Run) (t : Tick) : Bool := decide ((t - r.last.tick).toNat ≥ r.win * 100000000)

/-- Close every open run, oldest first (R422). -/
def closeAllRuns (s : State) : State :=
  let rs := s.log.runs
  forEach rs (fun r => closeRun r false) { s with log := { s.log with runs := [] } }

/-- An event reaches the recorder (R412, R420 to R422): FILL writes it; REPEAT writes the first of a key and opens a run,
counts a later one within the window into the run, and closes a run at 0xFFFF or the oldest of 32 for a 33rd key. -/
def record (e : Ev) (s : State) : State :=
  match policyOf s e.code with
  | none => writeRec e 0 false false s
  | some w =>
    match s.log.runs.find? fun r => sameKey r.last e with
    | none =>
      let s := if s.log.runs.length ≥ 32 then
          match s.log.runs with
          | [] => s
          | r :: rest => closeRun r false { s with log := { s.log with runs := rest } }
        else s
      let s := writeRec e 0 false false s
      { s with log := { s.log with runs := s.log.runs ++ [{ last := e, count := 0, win := w }] } }
    | some r =>
      let others := s.log.runs.filter fun x => !sameKey x.last e
      if (e.tick - r.last.tick).toNat > r.win * 100000000 then
        let s := closeRun r false { s with log := { s.log with runs := others } }
        let s := writeRec e 0 false false s
        { s with log := { s.log with runs := s.log.runs ++ [{ last := e, count := 0, win := w }] } }
      else if r.count + 1 ≥ 0xFFFF then
        closeRun { r with last := e, count := 0xFFFF } true { s with log := { s.log with runs := others } }
      else
        { s with log := { s.log with
            runs := s.log.runs.map fun x => if sameKey x.last e then { x with last := e, count := x.count + 1 } else x } }

/-- The oldest event on its way reaches the recorder (R412). -/
def takeRaised (s : State) : State :=
  match s.log.raised with
  | [] => s
  | e :: rest => record e { s with log := { s.log with raised := rest } }

/-- Take events until none is on its way: at most `n`. -/
def drainRaised : Nat → State → State
  | 0, s => s
  | n + 1, s => if s.log.raised.isEmpty then s else drainRaised n (takeRaised s)

/-- Every event on its way reaches the recorder. -/
def drainAll (s : State) : State := drainRaised (s.log.raised.length + 64) s

/-- EVENT_RAISED (R412): an event of the present tick waits, so that all of one tick come in their order. -/
def effEventRaised (s : State) : State :=
  match s.log.raised with
  | [] => s
  | e :: _ => if e.tick = s.clk.tb0 then s else takeRaised s
/-- EVENT_RAISED (R412). -/
def execEventRaised (s : State) : Host.Outcome State Fault Refusal := run effEventRaised s

/-- RUN_CLOSE (R421): the oldest run whose window has passed closes, unless an occurrence of its key, still on its way, came as the
window expired and counts in it (R434). -/
def effRunClose (s : State) : State :=
  match s.log.runs.find? fun r => runDue r s.clk.tb0 &&
      !(s.log.raised.any fun e => sameKey r.last e && decide ((e.tick - r.last.tick).toNat ≤ r.win * 100000000)) with
  | none => s
  | some r => closeRun r false { s with log := { s.log with runs := s.log.runs.filter fun x => !sameKey x.last r.last } }

/-- RUN_CLOSE (R421). -/
def execRunClose (s : State) : Host.Outcome State Fault Refusal := run effRunClose s

/-! ### Programming, media failure, recovery -/

/-- Is log sector `k` bad (R423)? -/
def sectorBad (s : State) (k : Nat) : Bool :=
  if k < 32 then rdB s Reg.SV_LOG_BAD_LO k else rdB s Reg.SV_LOG_BAD_HI (k - 32)

/-- Mark log sector `k` bad (R423). -/
def markBad (k : Nat) (s : State) : State :=
  if k < 32 then wrB s Reg.SV_LOG_BAD_LO k true else wrB s Reg.SV_LOG_BAD_HI (k - 32) true

/-- The next log sector after `k`, around the ring, that is not bad (R415, R424); `n` bounds the search. -/
def nextGood (s : State) : Nat → Nat → Option Nat
  | 0, _ => none
  | n + 1, k => let j := (k + 1) % 64; if sectorBad s j then nextGood s n j else some j

/-- Note that a stored word has changed (R455: the commit timer runs from the first uncommitted write). -/
def noteStored (s : State) : State :=
  match s.upd.dirty with
  | some _ => s
  | none => { s with upd := { s.upd with dirty := some s.clk.tb0 } }

/-- Count an erase of sector `sec` of NOR region `k` (R471): SV_THM_NOR_ERASE[k] shows the most-erased sector, and the count
reaching ENDURANCE · WEAR_PCT / 100 logs NOR_WEAR. -/
def noteErase (k sec : Nat) (s : State) : State :=
  let key := k * 0x10000 + sec
  let c := tget (fun _ => 0) s.upd.erases key + 1
  let s := { s with upd := { s.upd with erases := tput (fun _ => 0) s.upd.erases key c } }
  let a := Reg.SV_THM_NOR_ERASE k
  let old := rdF s a 30 0
  if c ≤ old then s
  else
    let s := noteStored (countS a 30 0 31 s)
    let limit := rdF s Reg.SV_THM_WEAR 23 0 * rdF s Reg.SV_THM_WEAR 31 24
    if old * 100 < limit ∧ limit ≤ c * 100 then raiseN 0x0C06 0 k c s else s

/-- Erase log sector `k` (R415). -/
def eraseSector (k : Nat) (s : State) : State :=
  noteErase 6 k (norErase s (slotAddr (2048 * k)) (slotAddr (2048 * (k + 1))))

/-- The programmed slots of the log region, ascending. -/
def logUsed (s : State) : List Nat :=
  let l := (s.nor.filter fun c => decide (slotAddr 0 ≤ c.1 ∧ c.1 < slotAddr logSlots)).map fun c => (c.1 - slotAddr 0) / 32
  l.foldr (fun x r => if r.head? = some x then r else x :: r) []

/-- The programmed slot that comes first from slot `n` on, up to the head, around the ring (R416: a code of 0xFFFF is empty). -/
def firstFrom (s : State) (n : Nat) : Option Nat :=
  let far := fun (x : Nat) => (x + logSlots - n) % logSlots
  let l := (logUsed s).filter fun x => decide (far x ≤ far s.log.head) && decide (bits (norWord s (slotAddr x + 4)) 31 16 ≠ 0xFFFF)
  l.foldl (fun (m : Option Nat) x => match m with | none => some x | some y => if far x < far y then some x else some y) none

/-- Move the tail past log sector `k`, and past the bad ones between the head's sector and it, and erase sector `k` (R415, R434). -/
def advanceTail (k : Nat) (s : State) : State :=
  let sec := s.log.head / 2048
  let gap := fun (j : Nat) => (j + 127 - sec) % 64
  let s := if gap (s.log.tailSlot / 2048) ≤ gap k then
      let n := (2048 * (k + 1)) % logSlots
      match firstFrom s n with
      | some m => { s with log := { s.log with tailSlot := m, tailSeq := norWord s (slotAddr m) } }
      | none => { s with log := { s.log with tailSlot := n } }
    else s
  eraseSector k s

/-- Program a record into NOR slot `n` (R416: w0 and w2 to w7 first, w1 last). -/
def programSlot (n : Nat) (r : Rec) (s : State) : State :=
  let a := slotAddr n
  let s := norPut s a r.seq
  let s := norPut s (a + 8) r.w2
  let s := norPut s (a + 12) r.w3
  let s := norPut s (a + 16) r.w4
  let s := norPut s (a + 20) r.w5
  let s := norPut s (a + 24) r.w6
  let s := norPut s (a + 28) r.w7
  norPut s (a + 4) r.w1

/-- Mark drawer slot `d` flushed (R417). -/
def drawerFlushed (d : Nat) (s : State) : State :=
  { s with log := { s.log with drawer := s.log.drawer.map fun x => if x.1 = d then (x.1, { x.2 with pend := false }) else x } }

/-- The NOR program of the oldest pending record completes at the head (R415, R417): when the head enters the last 256 slots
of its log sector, the tail moves past the next sector that is not bad, and that sector is erased. With one good sector left, it
is its own next and is erased only when it is full. -/
def programOldest (s : State) : State :=
  match oldestSlot (pendSlots s) with
  | none => s
  | some (d, x) =>
    let n := s.log.head
    let s := drawerFlushed d (programSlot n x.r s)
    let sec := n / 2048
    let s := { s with log := { s.log with norLast := some n } }
    let s := wrF s Reg.SV_LOG_STAT 21 16 sec
    let s := if norWord s (slotAddr s.log.tailSlot) = s.log.tailSeq ∧ (norWord s (slotAddr s.log.tailSlot + 4)).toNat / 65536 ≠ 0xFFFF then s
      else if laterN 32 s.log.tailSeq.toNat x.r.seq.toNat then s
      else { s with log := { s.log with tailSlot := n, tailSeq := x.r.seq } }
    let m := (n + 1) % logSlots
    if m % 2048 = 1792 then
      let s := { s with log := { s.log with head := m } }
      match nextGood s 64 sec with
      | none => s
      | some k => if k = sec then s else advanceTail k s
    else if m % 2048 = 0 then
      match nextGood s 64 sec with
      | none => { s with log := { s.log with head := m } }
      | some k =>
        let s := if k = sec then advanceTail k s else s
        { s with log := { s.log with head := 2048 * k } }
    else { s with log := { s.log with head := m } }

/-- May the recorder program the NOR now: log open and not DEGRADED (R418, R424), no NOR reset in progress (R479)? -/
def mayProgram (s : State) : Bool := decide (logState s = 1) && !rdB s Reg.SV_NVM_STAT 3


/-- Every pending record is programmed in sequence order, at most `n` (R418, R424). -/
def flushPending : Nat → State → State
  | 0, s => s
  | n + 1, s => if (pendSlots s).isEmpty then s else flushPending n (programOldest s)

/-- A media failure of a log operation at NOR address `addr` (R423): kind 1 program or 2 erase, timeout or reported. -/
def mediaFail (kind : Nat) (timeout : Bool) (addr : Nat) (s : State) : State :=
  let k := (addr - 0x01B00000) / 0x10000
  let s := markBad (k % 64) s
  let s := count31 Reg.SV_NVM_ERR_CNT s
  let s := if logState s ≠ 2 then { s with log := { s.log with lostEp := 0, dropEp := 0 } } else s
  let s := wrF s Reg.SV_LOG_STAT 1 0 2
  let s := { s with log := { s.log with retryAt := some (s.clk.tb0 + 6000000000) } }
  writeRec (evNow s 0x0A01 0 (w32 addr) (w32 (kind + b2n timeout * 256))) 0 false false s

/-- RECORD_PROGRAM_DONE (R417, R479): the first program after a NOR reset that identified nothing is a media failure. -/
def effRecordProgramDone (s : State) : State :=
  if mayProgram s && !(pendSlots s).isEmpty then
    if rdB s Reg.SV_NVM_STAT 2 then programOldest s else mediaFail 1 false (slotAddr s.log.head) s
  else s

/-- RECORD_PROGRAM_DONE (R417). -/
def execRecordProgramDone (s : State) : Host.Outcome State Fault Refusal := run effRecordProgramDone s

/-- LOG_MEDIA_FAIL (R423): operands: an erase (of the next sector) or a program (of the slot at the head), and whether it timed
out. An operation the recorder cannot have in progress has no effect; while DEGRADED it has only those of LOG_RETRY, and during a NOR
reset none (R479). -/
def effLogMediaFail (erase timeout : Bool) (s : State) : State :=
  if logState s ≠ 1 ∨ rdB s Reg.SV_NVM_STAT 3 then s
  else if erase then
    match nextGood s 64 (s.log.head / 2048) with
    | none => s
    | some k => mediaFail 2 timeout (slotAddr (2048 * k)) s
  else if (pendSlots s).isEmpty then s
  else mediaFail 1 timeout (slotAddr s.log.head) s

/-- LOG_MEDIA_FAIL (R423). -/
def execLogMediaFail (erase timeout : Bool) (s : State) : Host.Outcome State Fault Refusal :=
  run (effLogMediaFail erase timeout) s

/-- The retry of R424: erase the next log sector that is not bad and program the oldest pending record into it. A success
flushes every pending record in sequence order and writes LOG_RECOVERED; `fail` is 0 for success, 1 for a failed erase, and 2 + n
for a failed program after n records: DEGRADED then goes on (R434). -/
def logRetry (fail : Nat) (timeout : Bool) (s : State) : State :=
  match nextGood s 64 (s.log.head / 2048) with
  | none => s
  | some k =>
    let s := { s with log := { s.log with head := 2048 * k } }
    if fail = 1 then mediaFail 2 timeout (slotAddr (2048 * k)) s
    else
      let s := advanceTail k s
      if 2 ≤ fail ∧ fail - 2 < (pendSlots s).length then
        let s := flushPending (fail - 2) s
        mediaFail 1 timeout (slotAddr s.log.head) s
      else
        let s := flushPending 65 s
        let s := wrF s Reg.SV_LOG_STAT 1 0 1
        let s := { s with log := { s.log with retryAt := none } }
        let e := evNow s 0x0A02 0 (w32 s.log.lostEp) (w32 s.log.dropEp)
        let s := writeRec e 0 false false s
        { s with log := { s.log with lostEp := 0, dropEp := 0 } }

/-- LOG_RETRY (R424): only while DEGRADED, and 60 s after the last attempt or at once at opening (R418), once no NOR reset holds it; on
a NOR that is not identified the program fails (R479). -/
def effLogRetry (fail : Nat) (timeout : Bool) (s : State) : State :=
  if logState s = 2 ∧ rdB s Reg.SV_NVM_STAT 3 = false then
    match s.log.retryAt with
    | none => s
    | some t =>
      if laterN 64 t.toNat s.clk.tb0.toNat then s
      else logRetry (if rdB s Reg.SV_NVM_STAT 2 ∨ fail = 1 then fail else 2) timeout s
  else s

/-- LOG_RETRY (R424). -/
def execLogRetry (fail : Nat) (timeout : Bool) (s : State) : Host.Outcome State Fault Refusal :=
  run (effLogRetry fail timeout) s

end Sys2Proof.Machine
end

