-- ==== Sys2Proof/Machine/Access.lean ====
section
/-!
DEFINITION. What every port write shares (chapter 15): who may write, the status of a write and its effect, the logging of an
error response (R26), and the words latched for a port.
-/
namespace Sys2Proof.Machine

/-- The port code (1 HOST, 2 SERVICE, 3 NET; 0 for the runtime). -/
def portCode : PortId → Nat
  | .host => 1
  | .service => 2
  | .net _ => 3
  | .runtime => 0
/-- The NET address of a port, 0 for the others. -/
def portAddr : PortId → Nat
  | .net a => a
  | _ => 0
/-- The status code (Table 00-7). -/
def statusCode : Status → Nat
  | .ok => 0 | .wait => 1 | .unmapped => 2 | .notOwner => 3 | .locked => 4 | .align => 5 | .crc => 6 | .refused => 7
/-- The place of a status in the order of R25: CRC, ALIGN, UNMAPPED, NOT_OWNER, LOCKED, REFUSED. -/
def statusRank : Status → Nat
  | .crc => 0 | .align => 1 | .unmapped => 2 | .notOwner => 3 | .locked => 4 | .refused => 5 | .wait => 6 | .ok => 7

/-- May the port write as the owner (R405)? The runtime always may. -/
def isOwner (s : State) (p : PortId) : Bool := decide (p = .runtime) || decide (s.port.owner = some p)

/-- An error response is logged (R26, R389): SV_VIOL_ADDR and SV_VIOL_INFO, the count, ATTN.VIOL, and ACCESS_VIOL. -/
def logViol (p : PortId) (cmd : Nat) (st : Status) (addr : Nat) (s : State) : State :=
  let info := portAddr p * 0x100000 + statusCode st * 0x10000 + cmd * 256 + portCode p
  let s := wrN (wrN s Reg.SV_VIOL_ADDR addr) Reg.SV_VIOL_INFO info
  let s := count31 Reg.SV_VIOL_CNT s
  let s := hwSet s Reg.SV_OWN_ATTN 7
  raiseN 0x0901 0 info addr s

/-- The judgement of one word write: its status, and the effect: the write's own effect with status OK, what the refusal
leaves behind otherwise. -/
abbrev WOp := State → Status × (State → State)

/-- A write that is always performed. -/
def wOk (f : State → State) : WOp := fun _ => (.ok, f)
/-- A write that its guard declines, with nothing left behind. -/
def wRefuse : WOp := fun _ => (.refused, id)
/-- A write to a locked target. -/
def wLocked : WOp := fun _ => (.locked, id)

/-- The owner's lease is renewed (R401): 10 s of TB0 from now. -/
def renewLease (p : PortId) (s : State) : State :=
  if s.port.owner = some p then { s with port := { s.port with leaseEnd := s.clk.tb0 + 1000000000 } } else s

/-- Are the dies of the part running: powered, out of reset, not in HIBERNATE? -/
def diesUp (s : State) : Bool := !s.pwr.off && !s.pwr.rst && decide (devState s ≠ 0)
/-- What the monitor of rail `r` last read, in mV. -/
def monOf (s : State) (r : Nat) : Nat := tget (fun _ => 0) s.pwr.mon r

/-- The monitor of rail `r` is shown (SV_PWR_VMON0, SV_PWR_VMON1, SV_PWR_VBAT). -/
def monShow (r : Nat) (s : State) : State :=
  let mv := min 0xFFFF (monOf s r)
  match r with
  | 0 => wrF s Reg.SV_PWR_VMON0 31 16 mv
  | 1 => wrF s Reg.SV_PWR_VMON0 15 0 mv
  | 2 => wrF s Reg.SV_PWR_VMON1 31 16 mv
  | 3 => wrF s Reg.SV_PWR_VMON1 15 0 mv
  | _ => wrF s Reg.SV_PWR_VBAT 15 0 mv
/-- The monitors are refreshed: VMON0 and VMON1 every 1 ms, VBAT every 10 s, by TB0. -/
def monRefresh (s : State) : State :=
  if diesUp s then
    let s := if s.clk.tb0.toNat % 100000 = 0 then forEach [0, 1, 2, 3] monShow s else s
    if s.clk.tb0.toNat % 1000000000 = 0 then monShow 4 s else s
  else s
/-- Do the ports accept frames (Table 03-12, step 3)? -/
def portsUp (s : State) : Bool := diesUp s && !s.boot.wait
/-- The words of the SV die that BOOT answers (R90): SV_ID, SV_PWR, SV_BOOT, SV_OWN and SV_LOG. -/
def bootWord (a : Nat) : Bool := decide (a < 0x30000) || decide (0x40000 ≤ a ∧ a < 0x60000)
/-- Does the recovery runtime take writes to an address (R69)? -/
def recoveryTakes (a : Nat) : Bool :=
  decide (dieOf a = 0) && (decide (a = Reg.SV_BOOT_CTRL) || decide (4 ≤ a / 0x10000 ∧ a / 0x10000 ≤ 6) || decide (a / 0x10000 = 9))

/-- A port's access to the word at `addr`: without effect while the ports are closed or BOOT holds it back (R90). -/
def portAct (p : PortId) (addr : Nat) (f : State → State) (s : State) : State :=
  if portsUp s = false ∨ (p ≠ .runtime ∧ devState s = 1 ∧ bootWord addr = false) then s else f s

/-- One owner write to the word at `addr`, judged and performed on its own (R390): NOT_OWNER from any other port (R405), LOCKED
while no slot is loaded (R69); taken, it renews the lease (R401). -/
def ownerJudge (p : PortId) (addr : Nat) (op : WOp) (s : State) : State :=
  if isOwner s p = false then logViol p 2 .notOwner addr s
  else if s.boot.loaded = false ∧ recoveryTakes addr = false then logViol p 2 .locked addr s
  else
    match op s with
    | (.ok, f) => f (renewLease p s)
    | (st, f) => logViol p 2 st addr (f s)

/-- An owner write by a port (R390, R90). -/
def ownerWrite (p : PortId) (addr : Nat) (op : WOp) (s : State) : State := portAct p addr (ownerJudge p addr op) s

/-- Latch a word for a port: the port's next read of `addr` returns it. -/
def latchPut (p : PortId) (addr : Nat) (w : Word) (s : State) : State :=
  let l := s.port.latches.filter fun x => decide (¬ (x.1 = p ∧ x.2.1 = addr))
  { s with port := { s.port with latches := l ++ [(p, addr, w)] } }

/-- The word latched for a port at `addr`. -/
def latchGet (p : PortId) (addr : Nat) (s : State) : Option Word :=
  (s.port.latches.find? fun x => decide (x.1 = p ∧ x.2.1 = addr)).map fun x => x.2.2

/-- A latched word is returned once. -/
def latchDrop (p : PortId) (addr : Nat) (s : State) : State :=
  { s with port := { s.port with latches := s.port.latches.filter fun x => decide (¬ (x.1 = p ∧ x.2.1 = addr)) } }

/-- Latch `n` words upward from `addr` for a port, each as `f` reads it now. -/
def latchWords (p : PortId) (f : Nat → Word) : Nat → Nat → State → State
  | 0, _, s => s
  | n + 1, addr, s => latchWords p f n (addr + 4) (latchPut p addr (f addr) s)

end Sys2Proof.Machine
end

