-- ==== Sys2Proof/Machine/Time.lean ====
section
/-!
DEFINITION. The time bases (chapter 4): the tick, the servos, the PPS input, the synchronisation exchange, wall time and era.
-/
namespace Sys2Proof.Machine

/-! ### The tick -/

/-- 2^40: the fraction accumulator's modulus (R104). -/
def accMod : Nat := 2 ^ 40
/-- The clamp of the rate word, 500 ppm (R104). -/
def rateMax : Int := 549755814
/-- The modulus of the part of TB2 below 2^-16 s. -/
def subMod : Nat := 100000000000
/-- Ticks of 10 ns in one second. -/
def secTicks : Nat := 100000000

/-- The rate word, clamped to 500 ppm (R104). -/
def clampRate (r : Int) : Int := max (-rateMax) (min rateMax r)

/-- TB2 as a 48-bit count of 2^-16 s (R118). -/
def tb2Val (c : Clock) : Nat := c.sec.toNat * 65536 + c.frac.toNat

/-- TB2 set to a 48-bit count of 2^-16 s; the part below it starts at 0. -/
def tb2Put (v : Nat) (c : Clock) : Clock :=
  { c with sec := BitVec.ofNat 32 (v / 65536), frac := BitVec.ofNat 16 v, sub := 0, slew := 0, slewAt := c.tb1, slewSum := 0 }

/-- TB2 advanced by `n` units of 2^-16 s / 10^11. -/
def tb2Add (n : Nat) (c : Clock) : Clock :=
  let t := c.sub + n
  let v := tb2Val c + t / subMod
  { c with sec := BitVec.ofNat 32 (v / 65536), frac := BitVec.ofNat 16 v, sub := t % subMod }

/-- The part of the slew that `d` TB1 ticks take (R116: 1,000 ppm), towards 0. -/
def slewStep (d r : Int) : Int := max (-65536 * d) (min (65536 * d) r)

/-- One REF_CLK period while the main rails are good (R100, R104, R116, R411): TB0 advances by one, TB1 by one plus the rate
word's share, TB2 follows TB1, operating seconds count whole seconds of TB0. -/
def clockTick (c : Clock) : Clock :=
  let t : Int := (c.acc : Int) + c.rate
  let d := 1 + t / (accMod : Int)
  let acc := (t % (accMod : Int)).toNat
  let st := slewStep d c.slew
  let n := (65536000 * d + st).toNat
  let c := tb2Add n { c with tb0 := c.tb0 + 1, tb1 := c.tb1 + BitVec.ofInt 64 d, acc := acc, slew := c.slew - st }
  if c.opsAcc + 1 < secTicks then { c with opsAcc := c.opsAcc + 1 }
  else { c with opsAcc := 0, ops := if c.ops = BitVec.allOnes 32 then c.ops else c.ops + 1 }

/-- One RTC period while the main rails are absent (R100): TB2 alone advances, by 2^-15 s. -/
def rtcTick (c : Clock) : Clock := tb2Add (2 * subMod) c

/-- Are the main rails of the dies good (VIO and VCORE; R53, R100)? -/
def railsGood (s : State) : Bool := rdB s Reg.SV_PWR_STAT 2 && rdB s Reg.SV_PWR_STAT 3

/-- What the planner wrote is applied at the next tick (R462, R468). -/
def applyLater (s : State) : State :=
  let l := s.thm.later
  forEach l (fun x s => wrF s x.1 x.2.1 x.2.2.1 x.2.2.2) { s with thm := { s.thm with later := [] } }

/-- Does REF_CLK count: the main rails good, and the device not in HIBERNATE (log entry 6)? -/
def clockRuns (s : State) : Bool := railsGood s && decide (devState s ≠ 0)

/-- What the block does on an empty queue: one period of the clock that runs, and what follows time itself: the bits set by hardware
and the port writes noted belong to the tick that ends (R14, R271), and the monitors are refreshed. In HIBERNATE TB2 follows the RTC, with
the rails held up too (R100 does not say: DESIGN CHOICE, log entry 6). The operating seconds reaching their maximum log COUNTER_LIMIT
(R22, R411). -/
def tick (s : State) : State :=
  let s := applyLater { s with hwset := [], sig := { s.sig with ports := [], evals := [] } }
  if clockRuns s then
    let c := clockTick s.clk
    let full := c.ops = BitVec.allOnes 32 ∧ s.clk.ops ≠ c.ops
    let s := monRefresh { s with clk := c }
    if full then raiseN 0x0A06 0 Reg.SV_LOG_OPSEC 0 s else s
  else if s.time.rtcAbsent then s
  else { s with clk := rtcTick s.clk }

/-- TB3: TB1 rounded down to a whole microsecond (R102). -/
def tb3 (s : State) : Nat := s.clk.tb1.toNat / 100 * 100
/-- TB3 in microseconds. -/
def tb3us (s : State) : Nat := s.clk.tb1.toNat / 100

/-- Is `t` reached: not later than `now` (R20)? -/
def reached (now t : Tick) : Bool := !laterN 64 t.toNat now.toNat

/-- Is this a grid instant of period `T` µs at phase `ph` (R102, R125): TB3 in µs ≡ ph modulo T? -/
def onGrid (s : State) (T ph : Nat) : Bool := decide (T ≠ 0 ∧ tb3us s % T = ph % T)

/-! ### Discipline of TB1 -/

/-- SV_TIME_CFG.SRC (Table 04-2). -/
def timeSrc (s : State) : Nat := rdF s Reg.SV_TIME_CFG 1 0
/-- Is the PPS servo locked? -/
def ppsLock (s : State) : Bool := rdB s Reg.SV_TIME_STAT 3
/-- Is the NET servo locked? -/
def netLock (s : State) : Bool := rdB s Reg.SV_TIME_STAT 2
/-- The source in use (R104): 0 none, 1 PPS, 2 NET. -/
def inUse (s : State) : Nat :=
  match timeSrc s with
  | 1 => 1
  | 2 => 2
  | 3 => if ppsLock s then 1 else 2
  | _ => 0
/-- Rounding of n / d to nearest, ties away from zero (R105); d above 0. -/
def roundAway (n : Int) (d : Nat) : Int :=
  if n ≥ 0 then (2 * n + d) / (2 * d) else -((2 * (-n) + d) / (2 * d))

/-- The frequency estimate's limits, 500,000 ppb, in units of 2^-31 ppb (R105). -/
def ppbMax : Int := 500000 * 2 ^ 31
/-- Clamp of R105. -/
def clampPpb (f : Int) : Int := max (-ppbMax) (min ppbMax f)
/-- The rate word of a rate in 2^-31 ppb (R105: 1,099.511627776 units per ppb = 2^40 / 10^9). -/
def rateWord (r : Int) : Int := clampRate (roundAway (r * 512) 1000000000)
/-- The frequency estimate equal to a rate word (R104), in 2^-31 ppb: rate word · 5^9. -/
def rateToF (w : Int) : Int := w * 1953125

/-- The delay from a request to its effect on all dies, in ticks: 100 µs (R101: at least; DESIGN CHOICE, log entry 7). -/
def changeDelay : Tick := 10000

/-- Request a change of rate word or a hard step (R101). -/
def requestChange (rate step : Option Int) (src : Nat) (s : State) : State :=
  { s with time := { s.time with
      changes := s.time.changes ++ [{ at0 := s.clk.tb0 + changeDelay, rate := rate, step := step, src := src }] } }

/-- The servo law (R105) for one offset in ns, over an interval of 2^-k s (k = 0 for 1 s, 5 for 31.25 ms); it answers the new
estimate and requests the change. -/
def servoLaw (f o : Int) (k src : Nat) (s : State) : Int × State :=
  let stepNs : Int := (rdF s Reg.SV_TIME_CFG 31 16 : Int) * 1000
  if o.natAbs > stepNs.toNat then (f, requestChange none (some (-(roundAway o 10))) src s)
  else
    let u : Int := 2 ^ (31 + k)
    let f := clampPpb (f - o * u / 16)
    let r := clampPpb (f - o * u / 4)
    (f, requestChange (some (rateWord r)) none src s)

/-- A servo by its source number: 1 PPS, 2 NET. -/
def servoOf (s : State) (src : Nat) : Servo := if src = 1 then s.time.pps else s.time.net
/-- Replace a servo. -/
def servoSet (src : Nat) (v : Servo) (s : State) : State :=
  if src = 1 then { s with time := { s.time with pps := v } } else { s with time := { s.time with net := v } }
/-- Is the source locked? -/
def lockOf (s : State) (src : Nat) : Bool := if src = 1 then ppsLock s else netLock s
/-- Write a source's lock bits (SV_TIME_STAT and, for NET, NW_SYN_STAT.LOCK). -/
def lockSet (src : Nat) (b : Bool) (s : State) : State :=
  if src = 1 then wrB s Reg.SV_TIME_STAT 3 b else wrB (wrB s Reg.SV_TIME_STAT 2 b) Reg.NW_SYN_STAT 0 b
/-- The holdover bits (R104, R106): TB1 is in holdover while the source in use has lost lock through missing measurements. -/
def syncHold (s : State) : State :=
  let n := decide (inUse s = 2) && s.time.net.held
  wrB (wrB s Reg.SV_TIME_STAT 4 (n || (decide (inUse s = 1) && s.time.pps.held))) Reg.NW_SYN_STAT 1 n

/-- An incoming servo starts from f equal to the rate in force (R104). -/
def servoStart (src : Nat) (s : State) : State := servoSet src { servoOf s src with f := rateToF s.clk.rate } s

/-- After a change of lock: a servo that takes over starts from the rate in force (R104). -/
def handOver (was : Nat) (s : State) : State :=
  let now := inUse s
  if now ≠ was ∧ (now = 1 ∨ now = 2) then servoStart now s else s

/-- One measurement of a source (R104 to R106): lock is judged on it, and the source in use runs its servo. -/
def measure (src : Nat) (o : Int) (k : Nat) (s : State) : State :=
  let was := inUse s
  let v := servoOf s src
  let good := if o.natAbs ≤ 1000 then min 8 (v.good + 1) else 0
  let locked := lockOf s src
  let lost := locked && decide (o.natAbs > 10000)
  let gained := !locked && decide (good ≥ 8)
  let s := servoSet src { v with good := if lost then 0 else good, miss := 0, held := false } s
  let s := if lost then raiseN 0x0105 0 src 1 (lockSet src false s) else s
  let s := if lost ∧ src = 1 then { s with time := { s.time with ppsFree := true } } else s
  let s := if gained then raise 0x0104 0 (w32 src) (i32 (max (-2147483648) (min 2147483647 o))) (lockSet src true s) else s
  let s := handOver was s
  let s := syncHold s
  if was = src ∧ inUse s = src then
    let (f, s) := servoLaw (servoOf s src).f o k src s
    servoSet src { servoOf s src with f := f } s
  else s

/-- One missing measurement (R106, R110): the fourth loses lock; a source in use that was locked leaves TB1 in holdover with
the rate word at the last f. It ends the run of good measurements, of which R106 does not speak (DESIGN CHOICE, log entry 87). -/
def missing (src : Nat) (s : State) : State :=
  let was := inUse s
  let v := servoOf s src
  let miss := min 7 (v.miss + 1)
  let s := servoSet src { v with good := 0, miss := miss } s
  let s := if src = 2 then wrF s Reg.NW_SYN_STAT 7 5 miss else s
  if miss < 4 then s
  else
    let s := if src = 1 then { s with time := { s.time with ppsFree := true } } else s
    if lockOf s src then
      let s := raiseN 0x0105 0 src 0 (lockSet src false s)
      let s := syncHold (handOver was (servoSet src { servoOf s src with held := true } s))
      if was = src ∧ inUse s = src then requestChange (some (rateWord (servoOf s src).f)) none src s else s
    else s

/-! ### PPS -/

/-- R111: at an accepted edge the TB2 fraction goes to 0 and the seconds to the nearest whole second, within 0.25 s. -/
def ppsAlign (s : State) : State :=
  if rdB s Reg.SV_TIME_CFG 4 ∧ tb2Valid s then
    let v := tb2Val s.clk
    let fr := v % 65536
    if fr ≤ 16384 then { s with clk := { tb2Put (v - fr) s.clk with slew := s.clk.slew, slewAt := s.clk.slewAt, slewSum := s.clk.slewSum } }
    else if fr ≥ 49152 then { s with clk := { tb2Put (v - fr + 65536) s.clk with slew := s.clk.slew, slewAt := s.clk.slewAt, slewSum := s.clk.slewSum } }
    else s
  else s

/-- PPS_EDGE (R110, R111): timestamped, accepted or rejected, and fed to the PPS servo when SRC selects it. -/
def effPpsEdge (s : State) : State :=
  let t0 := s.clk.tb0
  let t1 := s.clk.tb1
  let okGap := match s.time.ppsLast with
    | none => true
    | some p => let d := (t0 - p).toNat; decide (secTicks - 10000 ≤ d ∧ d ≤ secTicks + 10000)
  if !diesUp s then s
  else if s.time.ppsFree || okGap then
    let s := { s with time := { s.time with ppsLast := some t0, ppsFree := false } }
    let s := wr (wr s Reg.SV_TIME_PPS_TS_LO (t1.extractLsb' 0 32)) Reg.SV_TIME_PPS_TS_HI (t1.extractLsb' 32 32)
    let m := t1.toNat % secTicks
    let o : Int := (if m < 50000000 then (m : Int) else (m : Int) - secTicks) * 10
    let s := ppsAlign s
    if timeSrc s = 1 ∨ timeSrc s = 3 then keepClk (measure 1 o 0) s else { s with time := { s.time with pps := { s.time.pps with miss := 0 } } }
  else countS Reg.SV_TIME_STAT 30 16 31 s

/-- PPS_EDGE (R110). -/
def execPpsEdge (s : State) : Host.Outcome State Fault Refusal := runClk effPpsEdge s

/-- PPS_MISSING (R110): no edge accepted within 1 s + 100 µs of the last, and each further second. -/
def effPpsMissing (s : State) : State :=
  match s.time.ppsLast with
  | none => s
  | some p => if (s.clk.tb0 - p).toNat ≥ secTicks + 10000 + secTicks * (s.time.pps.miss) then missing 1 s else s

/-- PPS_MISSING (R110). -/
def execPpsMissing (s : State) : Host.Outcome State Fault Refusal := run effPpsMissing s

/-- NET_MISSING (R106): an expected synchronisation measurement is missing. -/
def effNetMissing (s : State) : State := if timeSrc s = 2 ∨ timeSrc s = 3 then missing 2 s else s

/-- NET_MISSING (R106). -/
def execNetMissing (s : State) : Host.Outcome State Fault Refusal := run effNetMissing s

/-! ### Wall time -/

/-- A set of TB2 (R117, R118, R119, R422, R434). A backward set closes the runs first and raises the era; TB2_BACK goes before
the other events of this tick, which take the new era and time. -/
def setTb2 (v : Nat) (s : State) : State :=
  let old := tb2Val s.clk
  let oldS := s.clk.sec
  let newS : Word := BitVec.ofNat 32 (v / 65536)
  let back := v ≠ old ∧ !laterN 48 v old
  if back then
    let s := keepClk closeAllRuns s
    let was := s.clk.era
    let era := if was = 255 then was else was + 1
    let s := { s with clk := { tb2Put v s.clk with era := era } }
    let s := wrB s Reg.SV_TIME_STAT 5 true
    let e := evNow s 0x0103 0 oldS newS
    let before := s.log.raised.filter fun x => decide (x.tick ≠ e.tick)
    let same := (s.log.raised.filter fun x => decide (x.tick = e.tick)).map fun x =>
      { x with era := era, sec := s.clk.sec, frac := s.clk.frac }
    let s := { s with log := { s.log with raised := before ++ e :: same } }
    if was ≠ 255 ∧ era = 255 then raiseN 0x0106 0 255 0 (wrB s Reg.SV_TIME_STAT 6 true) else s
  else
    let s := { s with clk := tb2Put v s.clk }
    let s := wrB s Reg.SV_TIME_STAT 5 true
    raise 0x0102 0 oldS newS s

/-- The owner's set (R117): REFUSED when TB2_SRC is 1 and NET is locked. -/
def opSetTb2 : WOp := fun s =>
  if rdB s Reg.SV_TIME_CFG 3 && rdB s Reg.NW_SYN_STAT 0 then (.refused, id)
  else (.ok, fun s => setTb2 (rdN s Reg.SV_TIME_SET_S * 65536 + rdF s Reg.SV_TIME_SET_F 31 16) s)

/-- SET_TB2 (R117): an owner write of SV_TIME_CTRL with its key and SET_TB2. -/
def execSetTb2 (p : PortId) (s : State) : Host.Outcome State Fault Refusal :=
  runClk (ownerWrite p Reg.SV_TIME_CTRL opSetTb2) s

/-- RTC_FAIL (R121): the crystal stopped for more than 10 ms; with the dies held in reset it is logged at the next start; where the RTC
carried TB2, that stands still and is not valid until the next set. -/
def effRtcFail (s : State) : State :=
  let s := hwSet s Reg.SV_TIME_STAT 7
  if diesUp s then raiseN 0x0107 0 0 0 s
  else if clockRuns s then { s with pwr := { s.pwr with island := s.pwr.island ++ [evNow s 0x0107 0 0 0] } }
  else wrB { s with time := { s.time with rtcAbsent := true } } Reg.SV_TIME_STAT 5 false

/-- RTC_FAIL (R121). -/
def execRtcFail (s : State) : Host.Outcome State Fault Refusal := run effRtcFail s

/-! ### The synchronisation exchange -/

/-- The interval of an interval code as k of 2^-k s (Table 04-5), none for a code out of range. -/
def itvK (c : Nat) : Option Nat := if c ≤ 5 then some (5 - c) else none

/-- May the device act as sync master (R113, R373): its TB1 source locked, in holdover, or FREE; an address and no clash? -/
def syncMaster (s : State) : Bool :=
  maySendOwn s && (decide (timeSrc s = 0) || rdB s Reg.SV_TIME_STAT 4 || decide (inUse s = 1 ∧ ppsLock s)
    || decide (inUse s = 2 ∧ netLock s))

/-- FLAGS of a SYNC (Table 04-3). -/
def syncFlags (s : State) : Nat :=
  b2n (decide (inUse s = 1 ∧ ppsLock s) || decide (inUse s = 2 ∧ netLock s)) + b2n (rdB s Reg.SV_TIME_STAT 4) * 2
    + b2n (tb2Valid s) * 4 + b2n (if isRoot s then decide (inUse s = 1) else s.time.rxPps) * 8

/-- The DEPTH this device serves (R114, R364): 1 for the time root, the received depth plus 1 otherwise. -/
def syncDepth (s : State) : Nat := s.time.rxDepth + 1

/-- Queue one SYNC on Nn in buffers 0 to 3 (R113); one that finds none free is not sent (DESIGN CHOICE, log entry 88). -/
def syncOne (n seq : Nat) (s : State) : State :=
  let fl := syncFlags s
  let d := syncDepth s
  let data := beBytes 1 seq ++ beBytes 1 fl ++ beBytes 1 d ++ beBytes 1 (rdF s Reg.NW_SYN_CFG 18 16)
  match freeBuf s n 0 3 with
  | none => s
  | some b =>
    let s := txLoad s n b { ownFrame s n 0 0x7F00 data with brs := true } none
    let rest := s.time.syncTx.filter fun x => decide (x.ch ≠ n)
    { s with time := { s.time with syncTx := rest ++ [{ ch := n, buf := b, seq := seq, flags := fl, depth := d, sof := none }] } }

/-- Has the sync interval passed since the last SYNC (R113)? A reserved code gives none. -/
def syncDue (s : State) : Bool :=
  match itvK (rdF s Reg.NW_SYN_CFG 18 16), s.time.syncAt with
  | some k, some t => decide (secTicks / 2 ^ k ≤ (s.clk.tb0 - t).toNat)
  | some _, none => true
  | none, _ => false

/-- SYNC_SEND (R113): a SYNC on each channel of MASTER_MASK, every INTERVAL. -/
def effSyncSend (s : State) : State :=
  if syncMaster s && syncDue s then
    let seq := (s.time.syncSeq + 1) % 256
    let s := { s with time := { s.time with syncSeq := seq, syncAt := some s.clk.tb0 } }
    forEach ((maskBits (rdF s Reg.NW_SYN_CFG 7 0) 8).filter fun n => chanOn s n) (fun n => syncOne n seq) s
  else s

/-- SYNC_SEND (R113). -/
def execSyncSend (s : State) : Host.Outcome State Fault Refusal := run effSyncSend s

/-- The slew still to be removed at TB1 `t` (R116). -/
def slewAtTick (c : Clock) (t : Tick) : Int :=
  if laterN 64 t.toNat c.slewAt.toNat then c.slewSum - slewStep (t - c.slewAt).toNat c.slewSum else c.slewSum
/-- TB2 at an earlier TB1 instant (R113, R116), in 2^-16 s: now less the elapsed ticks and the slew removed since. -/
def tb2At (s : State) (t : Tick) : Nat :=
  let c := s.clk
  let back : Int := 65536000 * (c.tb1 - t).toNat + (slewAtTick c t - c.slew)
  let m : Int := 2 ^ 48 * subMod
  (((tb2Val c * subMod + c.sub : Nat) - back : Int) % m).toNat / subMod

/-- FOLLOW_UP_SEND (R113): once the SYNC of Nn is SENT, FOLLOW_UP with the timestamp of the completed attempt is queued. -/
def effFollowUpSend (n : Nat) (s : State) : State :=
  match s.time.syncTx.find? fun x => decide (x.ch = n) with
  | some { sof := some (t1, v), seq := q, flags := fl, depth := d, .. } =>
    if maySendOwn s then
      let data := beBytes 1 q ++ beBytes 1 fl ++ beBytes 1 d ++ [0] ++ beBytes 8 t1.toNat ++ beBytes 4 (v / 65536)
        ++ beBytes 2 v ++ beBytes 1 s.clk.era.toNat ++ [0]
      match txQueue s n 0 3 { ownFrame s n 0 0x7F01 data with brs := true } none with
      | none => s
      | some s => { s with time := { s.time with syncTx := s.time.syncTx.filter fun x => decide (x.ch ≠ n) } }
    else s
  | _ => s

/-- FOLLOW_UP_SEND (R113). -/
def execFollowUpSend (n : Nat) (s : State) : Host.Outcome State Fault Refusal := guardIx n 8 (run (effFollowUpSend n) s)

/-- Is this the sync master the device follows (R114): SRC NET or PPS_NET, on UP_CH, from the manager it has joined? -/
def followed (s : State) (n src : Nat) : Bool :=
  rdB s Reg.NW_SYN_CFG 11 && decide (n = rdF s Reg.NW_SYN_CFG 10 8) && (ownAddr s).isSome
    && decide (src = rdF s Reg.NW_HIER_ADDR 27 16)

/-- A sync frame from any other source (R114); none is taken while the dies are held in reset (R58). -/
def foreignSync (s : State) : State := if diesUp s then countS Reg.NW_SYN_STAT 23 16 31 s else s

/-- A SYNC received on Nn from `src` with its payload and SOF timestamp (R114). -/
def effSyncRx (n src : Nat) (data : List Byte) (t2 : Tick) (s : State) : State :=
  if followed s n src then
    if timeSrc s = 2 ∨ timeSrc s = 3 then
      let itv := (byteAt data 3).toNat
      if (itvK itv).isNone then s
      else
        let y : SyncRx := ⟨(byteAt data 0).toNat, src, t2, s.clk.tb0 - (s.clk.tb1 - t2), itv⟩
        let s := { s with time := { s.time with syncRx := some y } }
        wrF s Reg.NW_SYN_MASTER 11 0 src
    else s
  else foreignSync s

/-- SYNC_RX (R114): a SYNC on channel `n` from address `src`, its payload and the TB1 of its SOF. -/
def execSyncRx (n src : Nat) (data : List Byte) (t2 : Tick) (s : State) : Host.Outcome State Fault Refusal :=
  guardIx n 8 (run (effSyncRx n src data t2) s)

/-- The correction of TB2 from a valid pair (R116): at most once a second, only with TB2 valid at the master; a difference of
1 s or less is slewed, a larger one is a set. -/
def correctTb2 (flags : Nat) (t2 : Tick) (ms mf : Nat) (s : State) : State :=
  let due := match s.time.lastCorr with
    | none => true
    | some t => decide ((s.clk.tb0 - t).toNat ≥ secTicks)
  if (rdB s Reg.SV_TIME_CFG 3 ∧ flags / 4 % 2 = 1) ∧ due = true then
    let own := tb2At s t2
    let d : Nat := (ms * 65536 + mf + 2 ^ 48 - own) % 2 ^ 48
    let diff : Int := if d < 2 ^ 47 then (d : Int) else (d : Int) - 2 ^ 48
    let s := { s with time := { s.time with lastCorr := some s.clk.tb0 } }
    if diff.natAbs ≤ 65536 then { s with clk := { s.clk with slew := diff * subMod, slewAt := s.clk.tb1, slewSum := diff * subMod } }
    else setTb2 ((tb2Val s.clk + d) % 2 ^ 48) s
  else s

/-- A FOLLOW_UP received on Nn from `src` (R114): with the SEQ of the kept SYNC, within 20 ms of its SOF, it completes a valid
pair; anything else is dropped. -/
def effFollowUpRx (n src : Nat) (data : List Byte) (s : State) : State :=
  if followed s n src then
    match s.time.syncRx with
    | none => s
    | some y =>
      if y.src = src ∧ y.seq = (byteAt data 0).toNat ∧ (s.clk.tb0 - y.at0).toNat ≤ 2000000
          ∧ (timeSrc s = 2 ∨ timeSrc s = 3) then
        let t1 : Tick := BitVec.ofNat 64 (beAt data 4 8)
        let o : Int := (y.t2 - t1).toInt * 10 - (rdF s (Reg.NW_SYN_COMP (rdF s Reg.NW_SYN_CFG 10 8)) 11 0 : Int)
        let flags := (byteAt data 1).toNat
        let d := (byteAt data 2).toNat
        let s := { s with time := { s.time with syncRx := none, rxDepth := d, rxPps := decide (flags / 8 % 2 = 1) } }
        let s := wrI s Reg.NW_SYN_OFFSET (max (-2147483648) (min 2147483647 o))
        let s := wrF s Reg.NW_SYN_STAT 15 8 y.seq
        let s := wrF s Reg.NW_SYN_STAT 7 5 0
        let s := wrF s Reg.NW_SYN_STAT 4 2 (d + 1)
        let s := keepClk (measure 2 o ((itvK y.itv).getD 0)) s
        correctTb2 flags y.t2 (beAt data 12 4) (beAt data 16 2) s
      else s
  else foreignSync s

/-- FOLLOW_UP_RX (R114, R116): a FOLLOW_UP on channel `n` from address `src` and its payload. -/
def execFollowUpRx (n src : Nat) (data : List Byte) (s : State) : Host.Outcome State Fault Refusal :=
  guardIx n 8 (runClk (effFollowUpRx n src data) s)

/-! ### Reading the time words -/

/-- A time word as it reads now (R100, R119): the words of SV_TIME that show the time bases. -/
def timeWord (s : State) (addr : Nat) : Option Word :=
  if addr = Reg.SV_TIME_TB0_LO then some (s.clk.tb0.extractLsb' 0 32)
  else if addr = Reg.SV_TIME_TB0_HI then some (s.clk.tb0.extractLsb' 32 32)
  else if addr = Reg.SV_TIME_TB1_LO then some (s.clk.tb1.extractLsb' 0 32)
  else if addr = Reg.SV_TIME_TB1_HI then some (s.clk.tb1.extractLsb' 32 32)
  else if addr = Reg.SV_TIME_TB3_LO then some (w32 (tb3 s))
  else if addr = Reg.SV_TIME_TB3_HI then some (w32 (tb3 s / 2 ^ 32))
  else if addr = Reg.SV_TIME_TB2_S then some s.clk.sec
  else if addr = Reg.SV_TIME_TB2_F then some (w32 (s.clk.frac.toNat * 65536 + s.clk.era.toNat))
  else if addr = Reg.SV_TIME_RATE then some (i32 s.clk.rate)
  else none

/-- TIME_LO_READ (R123): a port's read of a LO word, or of SV_TIME_TB2_S, latches the matching HI word or SV_TIME_TB2_F. -/
def effTimeLoRead (p : PortId) (addr : Nat) (s : State) : State :=
  if addr = Reg.SV_TIME_TB0_LO ∨ addr = Reg.SV_TIME_TB1_LO ∨ addr = Reg.SV_TIME_TB3_LO ∨ addr = Reg.SV_TIME_TB2_S then
    match timeWord s (addr + 4) with
    | some w => latchPut p (addr + 4) w s
    | none => s
  else s

/-- TIME_LO_READ (R123). -/
def execTimeLoRead (p : PortId) (addr : Nat) (s : State) : Host.Outcome State Fault Refusal := run (portAct p addr (effTimeLoRead p addr)) s

end Sys2Proof.Machine
end

