-- ==== Sys2Proof/Machine/Signals.lean ====
section
/-!
DEFINITION. Signal entries (R221 to R224, R480), the exports between dies (R32, R35, R222) and the system signals (R223).
-/
namespace Sys2Proof.Machine

/-- Address of signal entry `e` of die `d` (Table 08-1; die 0: system signals, R480). -/
def sigAddr (d e : Nat) : Nat := if d = 0 then 0xA0000 + 16 * e else dieAt d 0xB00000 + 16 * e
/-- Address of export record `i` of loop die `d` (Table 08-1). -/
def expAddr (d i : Nat) : Nat := dieAt d 0xB08000 + 4 * i
/-- The entries of a die: 2,048 on a loop die, 512 system signals. -/
def sigCount (d : Nat) : Nat := if d = 0 then 512 else 2048

/-- The kind of an entry (Table 08-7); any kind that takes no effect there is UNUSED (0) (R480, Table 08-7). -/
def sigKind (s : State) (d e : Nat) : Nat :=
  let w := rd s (sigAddr d e + 12)
  let k := bits w 31 28
  if d = 0 then
    if k = 4 ∧ 1 ≤ bits w 26 24 ∧ bits w 26 24 ≤ 4 then 4 else if k = 5 ∨ k = 6 ∨ k = 7 then k else 0
  else if k ≤ 7 then k else 0
/-- SRC_DIE of an entry. -/
def sigSrcDie (s : State) (d e : Nat) : Nat := rdF s (sigAddr d e + 12) 26 24
/-- SRC of an entry. -/
def sigSrc (s : State) (d e : Nat) : Nat := rdF s (sigAddr d e + 12) 10 0
/-- VALUE of an entry; an entry never written reads as value 0 (R221). -/
def sigVal (s : State) (d e : Nat) : Int := rdI s (sigAddr d e)
/-- Is the entry VALID? -/
def sigValid (s : State) (d e : Nat) : Bool := rdB s (sigAddr d e + 4) 16
/-- UPD of an entry. -/
def sigUpd (s : State) (d e : Nat) : Nat := rdF s (sigAddr d e + 4) 15 0

/-- A write to an entry (R221): w0, w2 and VALID are set and UPD increments as one action. -/
def sigWrite (d e : Nat) (v instant : Word) (s : State) : State :=
  let a := sigAddr d e
  let w1 := setBit (setBits (rd s (a + 4)) 15 0 (sigUpd s d e + 1)) 16 true
  wr (wr (wr s a v) (a + 8) instant) (a + 4) w1

/-- Note a port's write in this TB0 tick (R271; SigSt.ports). -/
def portMark (k i : Nat) (s : State) : State := { s with sig := { s.sig with ports := s.sig.ports ++ [(k, i)] } }
/-- Has a port written this target in this TB0 tick (R271)? -/
def portMarked (s : State) (k i : Nat) : Bool := s.sig.ports.contains (k, i)

/-- The TB3 instant in µs, bits [31:0], that a value written now carries (Table 08-6). -/
def nowUs (s : State) : Word := w32 (tb3us s)

/-- Is export record `i` of loop die `d` in force (R222): enabled, its source of no kind that is not exported, its destination of
kind DIE_IMPORT naming the source? -/
def exportOk (s : State) (d i : Nat) : Bool :=
  let w := rd s (expAddr d i)
  let dd := bits w 26 24
  let de := bits w 21 11
  let k := sigKind s d (bits w 10 0)
  bit w 31 && decide (k ≤ 3) && decide (dd ≤ 4 ∧ de < sigCount dd)
    && decide (sigKind s dd de = 4 ∧ sigSrcDie s dd de = d ∧ sigSrc s dd de = bits w 10 0)

/-- The export records of die `d` in force for entry `e`. -/
def exportsOf (s : State) (d e : Nat) : List Nat :=
  (List.range 512).filter fun i =>
    let w := rd s (expAddr d i)
    bit w 31 && decide (bits w 10 0 = e) && exportOk s d i

/-- Send one value on its way to another die, for TB1 instant `t` (R32, R222). -/
def exportPut (t : Tick) (d e : Nat) (v inst : Word) (s : State) : State :=
  { s with sig := { s.sig with exports := s.sig.exports ++ [{ at1 := t, die := d, entry := e, value := v, instant := inst }] } }

/-- A value written by the producer of an entry with period `T` µs (R32, R222): the entry takes it now, and every die
that imports it one period later. -/
def sigProduce (d e : Nat) (v inst : Word) (T : Nat) (s : State) : State :=
  let s := sigWrite d e v inst s
  let t := BitVec.ofNat 64 ((tb3us s + T) * 100)
  forEach (exportsOf s d e) (fun i s =>
    let w := rd s (expAddr d i)
    exportPut t (bits w 26 24) (bits w 21 11) v inst s) s

/-- TOWPATH_LATE (R35, R44): destination die, entry or channel, lateness in ticks. -/
def towpathLate (d e late : Nat) (s : State) : State :=
  raiseN 0x0008 d (d * 0x1000000 + e) (min late 0xFFFFFFFF) s

/-- A motion channel before anything happened on it. -/
def motInit (_ : Nat) : MotSt :=
  { cmd := 0, ph := 0, forced := false, kickAt := 0, runAt := 0, slow := none, locked := none, ok := none, retryAt := 0, edges := [],
    ref := none, last := none, rpm := 0, aux := [], sv := false,
    mark := none }

/-- An auxiliary speed (R320) of channel `e` of drive die `d` that has not arrived by its instant is discarded (R35). -/
def auxLate (d e n : Nat) (s : State) : State :=
  let x := (d - 5) * 8 + e
  let m := tget motInit s.drv.mot x
  match m.aux.reverse.find? fun a => reached s.clk.tb1 a.1 with
  | none => s
  | some a => towpathLate d e n { s with drv := { s.drv with mot := tput motInit s.drv.mot x { m with aux := m.aux.erase a } } }

/-- EXPORT_APPLY (R222, R35): the value for entry `e` of die `d` whose instant has come is applied, or, arriving `late` ticks
too late, discarded. For a drive die `e` is the motion channel whose auxiliary speed is late: one that is not needs no command. -/
def effExportApply (d e : Nat) (late : Option Nat) (s : State) : State :=
  match s.sig.exports.find? fun x => decide (x.die = d ∧ x.entry = e) && reached s.clk.tb1 x.at1 with
  | none =>
    match late with
    | some n => if (d = 5 ∨ d = 6) ∧ e < 8 then auxLate d e n s else s
    | none => s
  | some x =>
    let s := { s with sig := { s.sig with exports := s.sig.exports.erase x } }
    match late with
    | some n => towpathLate d e n s
    | none => sigWrite d e x.value x.instant s

/-- The loop-die entries that import system signals (R223), as die and entry. -/
def sysImports (s : State) : List (Nat × Nat) :=
  [1, 2, 3, 4].flatMap fun d =>
    ((List.range 2048).filter fun e => decide (sigKind s d e = 4 ∧ sigSrcDie s d e = 0 ∧ sigSrc s d e < 512)).map fun e => (d, e)

/-- One imported system signal as it stands (R223), for the grid instant that is now. -/
def sysTake (s : State) (x : Nat × Nat) : SysSample :=
  let g := sigSrc s x.1 x.2
  let fresh := decide (tget (fun _ => 0) s.sig.upd g ≠ sigUpd s 0 g)
  ⟨BitVec.ofNat 64 (tb3 s) + 1000000, x.1, x.2, rd s (sigAddr 0 g), rd s (sigAddr 0 g + 8), sigValid s 0 g, fresh⟩

/-- The UPD of every system signal imported is kept as it stands (R223). -/
def sysKeep (s : State) : State :=
  forEach (sysImports s) (fun x s =>
    let g := sigSrc s x.1 x.2
    { s with sig := { s.sig with upd := tput (fun _ => 0) s.sig.upd g (sigUpd s 0 g) } }) s

/-- SYSSIG_SAMPLE (R223): at each instant of the 10 ms grid, once, every imported system signal is sampled. -/
def effSyssigSample (s : State) : State :=
  let at' := BitVec.ofNat 64 (tb3 s) + 1000000
  if onGrid s 10000 0 && !(s.sig.sys.any fun y => decide (y.at1 = at')) then
    sysKeep { s with sig := { s.sig with tick := some s.clk.tb0, sys := s.sig.sys ++ (sysImports s).map (sysTake s) } }
  else s

/-- What was sampled in this tick is sampled again (R31, R223). -/
def sysAgain (s : State) : State :=
  let at' := BitVec.ofNat 64 (tb3 s) + 1000000
  if s.sig.tick = some s.clk.tb0 then
    sysKeep { s with sig := { s.sig with sys := s.sig.sys.map fun y =>
      if y.at1 = at' then let z := sysTake s (y.die, y.entry); { z with fresh := z.fresh || y.fresh } else y } }
  else s

/-- SYSSIG_SAMPLE (R223). -/
def execSyssigSample (s : State) : Host.Outcome State Fault Refusal := run effSyssigSample s

/-- SYSSIG_IMPORT_APPLY (R223, R35): the sample for entry `e` of die `d` is applied 10 ms after its instant; UPD increments
only when the system signal's UPD had changed. -/
def effSyssigImportApply (d e : Nat) (late : Option Nat) (s : State) : State :=
  match s.sig.sys.find? fun x => decide (x.die = d ∧ x.entry = e) && reached s.clk.tb1 x.at1 with
  | none => s
  | some x =>
    let s := { s with sig := { s.sig with sys := s.sig.sys.erase x } }
    match late with
    | some n => towpathLate d e n s
    | none =>
      let a := sigAddr d e
      let w1 := setBit (setBits (rd s (a + 4)) 15 0 (sigUpd s d e + b2n x.fresh)) 16 x.valid
      wr (wr (wr s a x.value) (a + 8) x.instant) (a + 4) w1

end Sys2Proof.Machine
end

