-- ==== Sys2Proof/Machine/Can.lean ====
section
/-!
DEFINITION. The CAN channels (chapter 13): outcomes, requests, cancels, error confinement, rate detection, filters, the receive
paths, imports and publications, and the identity clash, with the join frame a clash leads to (R369, R370).
-/
namespace Sys2Proof.Machine

/-- Bit set in NW_CH_IR (R351). -/
def irSet (n b : Nat) (s : State) : State := hwSet s (Reg.NW_CH_IR n) b
/-- The operating state of Nn (NW_CH_STAT.OPST). -/
def opst (s : State) (n : Nat) : Nat := rdF s (Reg.NW_CH_STAT n) 2 0
/-- Write the operating state of Nn. -/
def opstSet (n v : Nat) (s : State) : State := wrF s (Reg.NW_CH_STAT n) 2 0 v
/-- The error state of Nn (NW_CH_STAT.ERRST). -/
def errst (s : State) (n : Nat) : Nat := rdF s (Reg.NW_CH_STAT n) 5 4
/-- TEC of Nn. -/
def tec (s : State) (n : Nat) : Nat := rdF s (Reg.NW_CH_ECNT n) 8 0
/-- REC of Nn. -/
def rec' (s : State) (n : Nat) : Nat := rdF s (Reg.NW_CH_ECNT n) 23 16

/-! ### Outcomes (R352, R355) -/

/-- TX buffer `b` of Nn gains its outcome, with the timestamp of a successful attempt (R352, Table 13-5). -/
def txFinish (n b outcome : Nat) (ts : Word) (s : State) : State :=
  let a := elemAddr n b
  let s := wr (wrF s (a + 4) 23 20 outcome) (a + 12) ts
  let s := wrB (wrB (wrB s (Reg.NW_CH_TXREQ n) b false) (Reg.NW_CH_TXPEND n) b false) (Reg.NW_CH_TXCAN n) b false
  let c := canOf s n
  let s := canSet s n { c with fwd := c.fwd.filter (· ≠ b), c0rx := c.c0rx.filter fun x => decide (x.1 ≠ b),
                               launched := c.launched.filter fun x => decide (x.1 ≠ b), reqAt := c.reqAt.filter fun x => decide (x.1 ≠ b) }
  let s := if outcome = 1 ∨ outcome = 3 then s
    else { s with time := { s.time with syncTx := s.time.syncTx.filter fun x => decide (¬(x.ch = n ∧ x.buf = b ∧ x.sof = none)) } }
  if 24 ≤ b then irSet n 7 s else s

/-- A pending buffer is removed without being sent: CANCELLED when a cancel is pending, ABORTED otherwise (R355, R359). -/
def txAbort (n b : Nat) (clash : Bool) (s : State) : State :=
  if txCancelled s n b then txFinish n b 2 0 s
  else
    let id := (txFrame s n b).id
    let s := txFinish n b 4 0 s
    raiseN 0x0704 7 (n + b * 256 + b2n clash * 0x10000) id s

/-- The buffers of Nn whose frame carries source address `a` (R359, R372): extended format only (R335). -/
def txOwn (s : State) (n a : Nat) : List Nat :=
  (List.range 32).filter fun b => txPending s n b && decide ((txFrame s n b).fmt = .ext ∧ keySrc (txFrame s n b).id = a)

/-- The XL TX buffer of Nn, when one is assigned (R350). -/
def xlTxBuf (s : State) (n : Nat) : Option Nat :=
  if rdB s (Reg.NW_CH_XLCFG n) 31 then some (rdF s (Reg.NW_CH_XLCFG n) 29 28) else none
/-- The XL RX buffer of Nn, when one is assigned (R350). -/
def xlRxBuf (s : State) (n : Nat) : Option Nat :=
  if rdB s (Reg.NW_CH_XLCFG n) 27 then some (rdF s (Reg.NW_CH_XLCFG n) 25 24) else none

/-- The XL TX buffer of Nn gains its outcome (R350, R352). -/
def xlFinish (n outcome : Nat) (ts : Word) (s : State) : State :=
  match xlTxBuf s n with
  | none => s
  | some x =>
    let s := wrF s (xlAddr x + 16) 3 0 outcome
    let s := wr s (xlAddr x + 12) ts
    let c := canOf s n
    wrB (canSet s n { c with fwd := c.fwd.filter (· ≠ 32), reqAt := c.reqAt.filter fun x => decide (x.1 ≠ 32) }) (Reg.NW_CH_XLS n) 1 false

/-- The frame of the XL TX buffer is ABORTED (R353, R359). The event's buffer field has no number for it: a free value (log
entry 1). -/
def xlAbort (n : Nat) (clash : Bool) (s : State) : State :=
  match xlTxBuf s n with
  | none => s
  | some x =>
    let key := rdF s (xlAddr x) 10 9 * 2 ^ 27 + rdF s (xlAddr x + 8) 26 0
    let (v, s) := takeFree (xlFinish n 4 0 s)
    raiseN 0x0704 7 (n + v.toNat % 32 * 256 + b2n clash * 0x10000) key s

/-- Every pending buffer that carries source address `a` ends (R359, R372). -/
def abortOwn (a : Nat) (clash : Bool) (s : State) : State :=
  forEach (List.range 8) (fun n s =>
    let s := forEach (txOwn s n a) (fun b => txAbort n b clash) s
    match xlTxBuf s n with
    | some x => if rdB s (Reg.NW_CH_XLS n) 1 ∧ rdF s (xlAddr x + 8) 26 15 = a then xlAbort n clash s else s
    | none => s) s

/-! ### The join frame (R369, R370) -/

/-- One byte step of the CRC-8 of R155. -/
def crc8Bit (c : Nat) : Nat := if c ≥ 128 then (c * 2 % 256) ^^^ 0x31 else c * 2 % 256
/-- CRC-8 of R155 over bytes, from a running value. -/
def crc8From (c : Nat) : List Byte → Nat
  | [] => c
  | b :: r =>
    let c := c ^^^ b.toNat
    crc8From (crc8Bit (crc8Bit (crc8Bit (crc8Bit (crc8Bit (crc8Bit (crc8Bit (crc8Bit c)))))))) r
/-- CRC-8 of R155: polynomial 0x31, initial value 0xFF. -/
def crc8 (l : List Byte) : Nat := crc8From 0xFF l

/-- The 64-bit serial number (R369). -/
def serial (s : State) : Nat := rdN s Reg.NW_HIER_SERIAL_HI * 2 ^ 32 + rdN s Reg.NW_HIER_SERIAL_LO
/-- TAG of attempt `j` of a serial number (R370). -/
def joinTag (ser j : Nat) : Nat := crc8 (beBytes 8 ser ++ beBytes 1 j)

/-- The JOIN_REQ of attempt `j` (R369, Table 14-2). -/
def joinReq (s : State) (j : Nat) : CanFrame :=
  let pref := match ownAddr s with | some a => a | none => 0xFFFF
  let fl := b2n (inClash s) + b2n (decide (rdF s Reg.NW_HIER_CFG 31 30 = 1)) * 2
  let old := if inClash s then rdF s Reg.NW_HIER_ADDR 11 0 else 0xFFFF
  { fmt := .base, fdf := true, brs := rdB s (Reg.NW_CH_CFG (upCh s)) 26, id := 0x200 + joinTag (serial s) j,
    data := beBytes 8 (serial s) ++ beBytes 2 pref ++ beBytes 1 fl ++ beBytes 1 j ++ beBytes 2 old ++ [0, 0] }

/-- The back-off after attempt j with k failed attempts (R370): min(2^k, 8) s + TAG ms, in ticks. -/
def joinBackoff (ser j k : Nat) : Nat := min (2 ^ min k 3) 8 * secTicks + joinTag ser j * 100000

/-- Send the JOIN_REQ of attempt `j` with `k` failed before it; its next is due 100 ms and one back-off later (R370). With no free
buffer, or UP_CH off, nothing is sent or counted, and the same attempt stays due. -/
def joinSend (j k : Nat) (s : State) : State :=
  match (if chanOn s (upCh s) then txQueue s (upCh s) 4 (devBufHi s (upCh s)) (joinReq s j) none else none) with
  | some s =>
    let s := count31 Reg.NW_HIER_JOIN_CNT s
    let due := s.clk.tb0 + BitVec.ofNat 64 (10000000 + joinBackoff (serial s) j (k + 1))
    { s with net := { s.net with join := some { j := j, k := k, due := due, sent := true } } }
  | none => { s with net := { s.net with join := some { j := j, k := k, due := s.clk.tb0, sent := false } } }

/-- Did the hierarchy fail its start check (R386)? -/
def hierErr (s : State) : Bool := decide (rdF s Reg.NW_HIER_STAT 2 0 = 6)

/-- A join begins (R368): attempt 0. A ROOT does not join, a device that failed R386 sends no JOIN_REQ. -/
def startJoin (s : State) : State :=
  if isRoot s ∨ hierErr s then s
  else joinSend 0 0 (if inClash s then wrF s Reg.NW_HIER_STAT 2 0 3 else wrF s Reg.NW_HIER_STAT 2 0 1)

/-- An upload in progress ends (R428): 2 DONE or 3 ABORTED. -/
def uploadEnd (how : Nat) (s : State) : State :=
  match s.log.upl with
  | none => s
  | some u =>
    let s := { s with log := { s.log with upl := none } }
    raiseN 0x0A07 0 how u.sent (wrN s Reg.SV_LOG_UPL_STAT (how * 0x40000000 + u.sent))

/-- An identity clash is declared (R359): CLASH on every channel, own-address frames ended, an upload aborted, a join begun. -/
def declareClash (n cause key : Nat) (s : State) : State :=
  if inClash s then s
  else
    let s := forEach (List.range 8) (fun m s => irSet m 11 (wrB s (Reg.NW_CH_STAT m) 17 true)) s
    let s := raiseN 0x0705 7 (n + cause * 256) key s
    let s := abortOwn (rdF s Reg.NW_HIER_ADDR 11 0) true s
    let s := uploadEnd 3 s
    startJoin (if hierErr s then s else wrF s Reg.NW_HIER_STAT 2 0 3)

/-- CLASH clears on every channel (R359, R372, R373). -/
def clearClash (s : State) : State :=
  forEach (List.range 8) (fun m s => wrB s (Reg.NW_CH_STAT m) 17 false) s

/-! ### Error confinement (R357, R358) -/

/-- CAN_ERR_STATE (R363). -/
def logErrState (n : Nat) (s : State) : State :=
  raiseN 0x0701 7 (n + errst s n * 256) (tec s n * 0x10000 + rec' s n) s

/-- Bus off: the channel leaves the bus; a cancel pending takes its frame; recovery starts at once with BO_AUTO (R355 to
R358). -/
def busOff (n : Nat) (s : State) : State :=
  let s := wrF s (Reg.NW_CH_STAT n) 5 4 2
  let s := irSet n 9 (count31 (Reg.NW_CH_BO_CNT n) s)
  let s := logErrState n s
  let s := forEach ((List.range 32).filter fun b => txPending s n b && txCancelled s n b) (fun b => txFinish n b 2 0) s
  opstSet n (if rdB s (Reg.NW_CH_CFG n) 23 then 6 else 5) s

/-- The counters take new values and the error state follows (R357): REC held at 128 at most. -/
def setErrCounts (n t r : Nat) (s : State) : State :=
  let s := wrF (wrF s (Reg.NW_CH_ECNT n) 8 0 (min t 511)) (Reg.NW_CH_ECNT n) 23 16 (min r 128)
  let new := if t > 255 then 2 else if t ≥ 128 ∨ min r 128 ≥ 128 then 1 else 0
  if errst s n = 2 ∨ new = errst s n then s
  else if new = 2 then busOff n s
  else logErrState n (irSet n 8 (wrF s (Reg.NW_CH_STAT n) 5 4 new))

/-- A successful transmission: TEC falls by 1 (ISO 11898-1, R357). -/
def txOkCount (n : Nat) (s : State) : State := setErrCounts n (tec s n - 1) (rec' s n) s

/-- A successful reception (ISO 11898-1, R357): REC falls by 1; at 128 it is set to a value from 119 to 127, which the standard
leaves to the implementation: a free value (log entry 1). -/
def rxOkCount (n : Nat) (s : State) : State :=
  if rec' s n ≥ 128 then
    let (v, s) := takeFree s
    setErrCounts n (tec s n) (119 + v.toNat % 9) s
  else setErrCounts n (tec s n) (rec' s n - 1) s

/-! ### Rate detection (R341) -/

/-- The next candidate after `k` in index order whose nominal word is not 0, wrapping; `fuel` candidates are looked at. -/
def nextCand (s : State) (n : Nat) : Nat → Nat → Option Nat
  | 0, _ => none
  | fuel + 1, k =>
    let j := (k + 1) % 16
    if rd s (Reg.NW_CH_RATE_N n j) ≠ 0 then some j else nextCand s n fuel j

/-- Hold candidate `k`: no confirmations yet, and a new dwell. -/
def holdCand (n k : Nat) (s : State) : State :=
  let s := wrF s (Reg.NW_CH_STAT n) 23 20 k
  canSet s n { canOf s n with rdConf := 0, rdDwell := s.clk.tb0 }

/-- Move to the next candidate; a full cycle without success logs CAN_RATE once (R341). -/
def moveCand (n : Nat) (s : State) : State :=
  let k := rdF s (Reg.NW_CH_STAT n) 23 20
  match nextCand s n 16 k with
  | none => s
  | some j =>
    let s := if j ≤ k then irSet n 12 (raiseN 0x0702 7 (n + k * 0x100000) 0 s) else s
    holdCand n j s

/-- Start rate detection at the first candidate; a channel that is integrating or bus off comes to it afterwards. -/
def startDetect (n : Nat) (s : State) : State :=
  let s := wrB (if opst s n = 1 ∨ opst s n = 5 ∨ opst s n = 6 then s else opstSet n 4 s) (Reg.NW_CH_STAT n) 18 false
  match nextCand s n 16 15 with
  | none => s
  | some k => holdCand n k s

/-- One confirmation of the candidate under test; at CONF_N it is loaded into NBT and DBT (R341). -/
def confirmCand (n : Nat) (brs : Bool) (s : State) : State :=
  let k := rdF s (Reg.NW_CH_STAT n) 23 20
  if brs ∧ rd s (Reg.NW_CH_RATE_D n k) = 0 then moveCand n s
  else
    let c := canOf s n
    let conf := c.rdConf + 1
    if conf < rdF s (Reg.NW_CH_RD n) 19 16 then canSet s n { c with rdConf := conf }
    else
      let s := canSet s n { c with rdConf := 0 }
      let s := wr (wr s (Reg.NW_CH_NBT n) (rd s (Reg.NW_CH_RATE_N n k))) (Reg.NW_CH_DBT n) (rd s (Reg.NW_CH_RATE_D n k))
      let s := wrB s (Reg.NW_CH_STAT n) 18 true
      let s := irSet n 12 (raiseN 0x0702 7 (n + 0x10000 + k * 0x100000) 0 s)
      opstSet n (if rdB s (Reg.NW_CH_RD n) 31 then 2 else 3) s

/-- Does Nn look for its rate (R341): in RATE_DETECT with no rate found, integrating or receiving? -/
def detecting (s : State) (n : Nat) : Bool :=
  decide (rdF s (Reg.NW_CH_CFG n) 30 29 = 2 ∧ (opst s n = 1 ∨ opst s n = 4)) && !rdB s (Reg.NW_CH_STAT n) 18

/-- RATE_DWELL_TIMEOUT (R341): DWELL_MS of TB0 on a candidate. -/
def effRateDwellTimeout (n : Nat) (s : State) : State :=
  if detecting s n ∧ (s.clk.tb0 - (canOf s n).rdDwell).toNat ≥ rdF s (Reg.NW_CH_RD n) 15 0 * 100000 then moveCand n s else s

/-- RATE_DWELL_TIMEOUT (R341). -/
def execRateDwellTimeout (n : Nat) (s : State) : Host.Outcome State Fault Refusal := guardIx n 8 (run (effRateDwellTimeout n) s)

/-- RD_RESTART (R341): REFUSED unless MODE is RATE_DETECT. -/
def opRdRestart (n : Nat) : WOp := fun s =>
  if rdF s (Reg.NW_CH_CFG n) 30 29 = 2 then (.ok, startDetect n) else (.refused, id)

/-- RD_RESTART (R341). -/
def execRdRestart (p : PortId) (n : Nat) (s : State) : Host.Outcome State Fault Refusal :=
  guardIx n 8 (run (ownerWrite p (Reg.NW_CH_CTRL n) (opRdRestart n)) s)

/-! ### Error frames, recovery, integration -/

/-- The operating state that MODE gives once the bus is integrated (R340). -/
def modeOpst (s : State) (n : Nat) : Nat :=
  match rdF s (Reg.NW_CH_CFG n) 30 29 with
  | 0 => 2
  | 1 => 3
  | _ => if rdB s (Reg.NW_CH_STAT n) 18 then (if rdB s (Reg.NW_CH_RD n) 31 then 2 else 3) else 4

/-- One counter rule of ISO 11898-1 (R357). -/
def errRule (n : Nat) (rule : CanErrRule) (s : State) : State :=
  let t := tec s n
  let r := rec' s n
  match rule with
  | .rxError => setErrCounts n t (r + 1) s
  | .rxAfterFlag => setErrCounts n t (r + 8) s
  | .txFlag => setErrCounts n (t + 8) r s
  | .txInFlag => setErrCounts n (t + 8) r s
  | .exempt => s

/-- CAN_ERROR_FRAME (R341, R357): an error frame is seen; in RATE_DETECT it moves to the next candidate; in LISTEN and
RATE_DETECT the counters do not change; with XL_TMS the channel goes to bus integration (R337). -/
def effCanErrorFrame (n lec : Nat) (rules : List CanErrRule) (s : State) : State :=
  if opst s n = 2 ∨ opst s n = 3 ∨ opst s n = 4 then
    let s := count31 (Reg.NW_CH_ERR_CNT n) s
    let s := wrF s (Reg.NW_CH_STAT n) 10 8 lec
    if opst s n = 4 then moveCand n s
    else if opst s n = 3 then s
    else
      let s := forEach rules (errRule n) s
      if rdB s (Reg.NW_CH_CFG n) 25 ∧ opst s n = 2 then opstSet n 1 s else s
  else s

/-- CAN_ERROR_FRAME (R357): channel, last error code, and the counter rules of ISO 11898-1 that apply to it, in order. -/
def execCanErrorFrame (n lec : Nat) (rules : List CanErrRule) (s : State) : Host.Outcome State Fault Refusal :=
  guardIx n 8 (run (effCanErrorFrame n lec rules) s)

/-- CAN_PROTOCOL_EXC (R336): a bit announces a format the channel does not accept. With EXC_FORM 0 the channel waits for bus
integration and logs it; with EXC_FORM 1 it is a form error. In RATE_DETECT either moves to the next candidate. -/
def effCanProtocolExc (n id : Nat) (s : State) : State :=
  if opst s n = 2 ∨ opst s n = 3 ∨ opst s n = 4 then
    if rdB s (Reg.NW_CH_CFG n) 24 then effCanErrorFrame n 2 [.rxError] s
    else
      let s := raiseN 0x0707 7 n id s
      let s := if opst s n = 4 then moveCand n s else s
      opstSet n 1 s
  else s

/-- CAN_PROTOCOL_EXC (R336): channel, identifier as far as received. -/
def execCanProtocolExc (n id : Nat) (s : State) : Host.Outcome State Fault Refusal := guardIx n 8 (run (effCanProtocolExc n id) s)

/-- CAN_RECOVERY_DONE (R358): error active again with TEC and REC at 0. -/
def effCanRecoveryDone (n : Nat) (s : State) : State :=
  if opst s n = 6 then
    let s := wr (wrF s (Reg.NW_CH_STAT n) 5 4 0) (Reg.NW_CH_ECNT n) 0
    let s := opstSet n (modeOpst s n) s
    logErrState n (irSet n 9 s)
  else s

/-- CAN_RECOVERY_DONE (R358). -/
def execCanRecoveryDone (n : Nat) (s : State) : Host.Outcome State Fault Refusal := guardIx n 8 (run (effCanRecoveryDone n) s)

/-- RECOVER (R358): REFUSED on a channel that is not bus off. -/
def opCanRecover (n : Nat) : WOp := fun s => if opst s n = 5 then (.ok, opstSet n 6) else (.refused, id)

/-- RECOVER (R358): by the owner or the runtime. -/
def execCanRecover (p : PortId) (n : Nat) (s : State) : Host.Outcome State Fault Refusal :=
  guardIx n 8 (run (ownerWrite p (Reg.NW_CH_CTRL n) (opCanRecover n)) s)

/-- BUS_INTEGRATION (R340): an INTEGRATING channel sees the bus idle. -/
def effBusIntegration (n : Nat) (s : State) : State := if opst s n = 1 then opstSet n (modeOpst s n) s else s

/-- BUS_INTEGRATION (R340). -/
def execBusIntegration (n : Nat) (s : State) : Host.Outcome State Fault Refusal := guardIx n 8 (run (effBusIntegration n) s)

/-! ### Transmission -/

/-- Is TX buffer `b` of Nn eligible (R353, R354): pending, and its launch instant come, now or at an earlier LAUNCH_INSTANT? -/
def txEligible (s : State) (n b : Nat) : Bool :=
  let a := elemAddr n b
  txPending s n b && (!rdB s (a + 4) 25 || ((canOf s n).launched.any fun x => decide (x.1 = b)) || !laterN 32 (rdN s (a + 8)) (s.clk.tb1.toNat % 2 ^ 32))

/-- May Nn transmit (R340): in NORMAL, and in RUN, TRIAL or SAFE? -/
def mayTx (s : State) (n : Nat) : Bool := decide (opst s n = 2) && decide (devState s = 2 ∨ devState s = 3 ∨ devState s = 4)

/-- LAUNCH_INSTANT (R354): the buffer's launch instant is behind it, so it is offered from now on, however far TB1 goes. -/
def effLaunchInstant (n b : Nat) (s : State) : State :=
  if txEligible s n b && (canOf s n).launched.all fun x => decide (x.1 ≠ b) then
    canSet s n { canOf s n with launched := (canOf s n).launched ++ [(b, s.clk.tb0)] }
  else s
/-- A backward hard step puts a launch instant of Nn ahead again: the buffer waits for it (R122; DEDUCED, log entry 89). -/
def launchBack (n old new : Nat) (s : State) : State :=
  let c := canOf s n
  canSet s n { c with launched := c.launched.filter fun x =>
    let l := rdN s (elemAddr n x.1 + 8)
    !(laterN 32 l new && !laterN 32 l old) }

/-- LAUNCH_INSTANT (R354): channel and buffer. -/
def execLaunchInstant (n b : Nat) (s : State) : Host.Outcome State Fault Refusal :=
  guardIx n 8 (guardIx b 32 (run (effLaunchInstant n b) s))

/-- Does Nn send frames of this format (R336: a frame of a format whose enable bit is 0 is never sent)? -/
def sendsFmt (s : State) (n : Nat) (f : CanFrame) : Bool := !f.fdf || rdB s (Reg.NW_CH_CFG n) 28

/-- The TB0 tick of a TB1 instant just past. -/
def tb0At (s : State) (t : Tick) : Tick := s.clk.tb0 - (s.clk.tb1 - t)
/-- Is the frame of buffer `b` (32: the XL TX buffer) forwarded, with its originator's identifier (R373)? -/
def txForwarded (s : State) (n b : Nat) : Bool := (canOf s n).fwd.contains b || (canOf s n).c0rx.any fun x => decide (x.1 = b)
/-- The frame of buffer `b` of Nn, as far as arbitration sees it. -/
def offerFrame (s : State) (n b : Nat) : CanFrame :=
  if b = 32 then { fmt := .xl, id := ((xlTxBuf s n).map fun x => rdF s (xlAddr x) 10 0).getD 0, data := [] } else txFrame s n b
/-- Is buffer `b` of Nn offered at an SOF at TB1 `sof` (R122, R336, R353, R354): pending, in a format that is sent, past its launch
instant; a frame with the own address only while the device may send such (R359, R368, R372, R373)? -/
def txOffered (s : State) (n b : Nat) (sof : Tick) : Bool :=
  (if b = 32 then rdB s (Reg.NW_CH_XLS n) 1 && rdB s (Reg.NW_CH_CFG n) 27
   else txPending s n b && sendsFmt s n (txFrame s n b)
     && (!rdB s (elemAddr n b + 4) 25 || !laterN 32 (rdN s (elemAddr n b + 8)) (sof.toNat % 2 ^ 32)
         || (canOf s n).launched.any fun x => decide (x.1 = b) && reached (tb0At s sof) x.2))
  && (maySendOwn s || txForwarded s n b || decide (b < 32 ∧ (txFrame s n b).fmt = .base))
/-- The TB0 tick at which buffer `b` was requested; one with none was requested before all others. -/
def txReqAt (s : State) (n b : Nat) : Option Tick := ((canOf s n).reqAt.find? fun x => decide (x.1 = b)).map fun x => x.2
/-- The ticks of one nominal bit of Nn. -/
def bitTicks (s : State) (n : Nat) : Nat :=
  let w := rd s (Reg.NW_CH_NBT n)
  (bits w 4 0 + 1) * (3 + bits w 24 16 + bits w 15 9)
/-- Does buffer `b` of Nn make the attempt whose SOF is at TB1 `sof` (R353): of the buffers offered there, the one that wins arbitration,
the lower index on a tie? What was requested at or after the SOF does not compete; it may itself be chosen up to the sample point of a SOF
of another node (R355). -/
def txChosen (s : State) (n b : Nat) (sof : Tick) : Bool :=
  let sof0 := tb0At s sof
  let r := arbRank (offerFrame s n b)
  txOffered s n b sof && (match txReqAt s n b with | some t => reached (sof0 + BitVec.ofNat 64 (bitTicks s n)) t | none => true)
    && (List.range 33).all fun c =>
      decide (c = b) || !(txOffered s n c (sof - 1) && (match txReqAt s n c with | some t => laterN 64 sof0.toNat t.toNat | none => true))
        || decide (r < arbRank (offerFrame s n c)) || decide (r = arbRank (offerFrame s n c) ∧ b < c)

/-- The loop delay measured in a frame (R339): below LD_MIN it is noise, above 127 it is clamped. -/
def loopDelay (n : Nat) (meas : Option Nat) (s : State) : State :=
  match meas with
  | none => s
  | some m =>
    if rdB s (Reg.NW_CH_LDC n) 31 ∧ rdF s (Reg.NW_CH_LDC n) 22 16 ≤ m then wrF s (Reg.NW_CH_LDV n) 6 0 (min m 127) else s

/-- A class-0 forwarded frame reaches SOF on Nn (R381): its time since reception may be the longest yet. -/
def c0Latency (n b : Nat) (sof : Tick) (s : State) : State :=
  match (canOf s n).c0rx.find? fun x => decide (x.1 = b) with
  | none => s
  | some (_, rx0) =>
    let us := (tb0At s sof - rx0).toNat / 100
    if us > rdN s (Reg.NW_BRG_C0_LAT_MAX n) then wrN s (Reg.NW_BRG_C0_LAT_MAX n) us else s

/-- CAN_TX_COMPLETE (R352, R355, R357): the frame of buffer `b` (32: the XL TX buffer) completes; `sof` is the TB1 of its SOF,
`meas` the loop delay measured in it. -/
def effCanTxComplete (n b : Nat) (sof : Tick) (meas : Option Nat) (s : State) : State :=
  if !(mayTx s n && txChosen s n b sof) then s
  else if b = 32 then
      let s := xlFinish n 1 (sof.extractLsb' 0 32) s
      let own := match xlTxBuf s n with | some x => decide (some (rdF s (xlAddr x + 8) 26 15) = ownAddr s) | none => false
      let s := if own then canSet s n { canOf s n with lastOwn := some s.clk.tb0 } else s
      txOkCount n (loopDelay n meas s)
  else
    let f := txFrame s n b
    let out := if txCancelled s n b then 3 else 1
    let own := f.fmt = .ext ∧ some (keySrc f.id) = ownAddr s ∧ keyClass f.id ≠ 0
    let s := c0Latency n b sof s
    let s := txFinish n b out (sof.extractLsb' 0 32) s
    let s := { s with time := { s.time with
      syncTx := s.time.syncTx.map fun x => if x.ch = n ∧ x.buf = b ∧ x.sof = none then { x with sof := some (sof, tb2At s sof) } else x } }
    let s := if own then canSet s n { canOf s n with lastOwn := some s.clk.tb0 } else s
    txOkCount n (loopDelay n (if f.fdf && f.brs then meas else none) s)

/-- CAN_TX_COMPLETE (R352). -/
def execCanTxComplete (n b : Nat) (sof : Tick) (meas : Option Nat) (s : State) : Host.Outcome State Fault Refusal :=
  guardIx n 8 (guardIx b 33 (run (effCanTxComplete n b sof meas) s))

/-- Bit errors of one identifier within one second of TB0 (R359). -/
def bitErrorClash (n id : Nat) (s : State) : State :=
  let c := canOf s n
  let l := (c.bitErrs.filter fun x => decide ((s.clk.tb0 - x.1).toNat ≤ secTicks)) ++ [(s.clk.tb0, id)]
  let s := canSet s n { c with bitErrs := l }
  if (l.filter fun x => decide (x.2 = id)).length ≥ 3 then declareClash n 2 id s else s

/-- A failed attempt of the XL TX buffer (R350, R353). -/
def xlFail (n : Nat) (arb data : Bool) (s : State) : State :=
  match xlTxBuf s n with
  | none => s
  | some x =>
    if arb then s
    else
      let key := rdF s (xlAddr x) 10 9 * 2 ^ 27 + rdF s (xlAddr x + 8) 26 0
      let c := canOf s n
      let t := tget (fun _ => 0) c.tries 32 + 1
      let s := canSet s n { c with tries := tput (fun _ => 0) c.tries 32 t }
      let lim := rdF s (Reg.NW_CH_CFG n) 15 8
      let s := if lim ≠ 0 ∧ t ≥ lim then xlAbort n false s else s
      if data then bitErrorClash n key s else s

/-- CAN_TX_ATTEMPT_FAIL (R339, R353, R355, R359): an attempt of buffer `b` with its SOF at TB1 `sof` loses arbitration, or ends in an error frame (`data`: a bit
error in the data or CRC field after arbitration was won). A cancel pending removes the frame; the RETRY_LIM-th failed attempt
ends it with ABORTED; three such bit errors of one identifier within a second are a clash, but for base-format frames (R366). -/
def effCanTxAttemptFail (n b : Nat) (sof : Tick) (meas : Option Nat) (arb data : Bool) (s : State) : State :=
  if !(mayTx s n && txChosen s n b sof) then s
  else if b = 32 then xlFail n arb data (if arb then s else loopDelay n meas s)
  else
    let f := txFrame s n b
    let s := if !arb && f.fdf && f.brs then loopDelay n meas s else s
    let id := (txFrame s n b).id
    let sys := decide ((txFrame s n b).fmt = .ext)
    let s :=
      if txCancelled s n b then txFinish n b 2 0 s
      else if arb then s
      else
        let c := canOf s n
        let t := tget (fun _ => 0) c.tries b + 1
        let s := canSet s n { c with tries := tput (fun _ => 0) c.tries b t }
        let lim := rdF s (Reg.NW_CH_CFG n) 15 8
        if lim ≠ 0 ∧ t ≥ lim then raiseN 0x0704 7 (n + b * 256) id (txFinish n b 4 0 s) else s
    if !arb && data && sys then bitErrorClash n id s else s

/-- CAN_TX_ATTEMPT_FAIL (R353): as CAN_TX_COMPLETE, and how the attempt ended. -/
def execCanTxAttemptFail (n b : Nat) (sof : Tick) (how : TxFail) (s : State) : Host.Outcome State Fault Refusal :=
  guardIx n 8 (guardIx b 33 (run (effCanTxAttemptFail n b sof how.meas how.arb how.data) s))

/-- The port buffers in a written mask. -/
def portBufs (mask : Nat) : List Nat := (maskBits mask 32).filter fun b => decide (24 ≤ b)

/-- May the owner request the frame in port buffer `b` (R353): extended format, not class 0, its own source address, one that the device
may send with now (R359, R368, R372)? -/
def txReqOk (s : State) (n b : Nat) : Bool :=
  let f := txFrame s n b
  decide (f.fmt = .ext ∧ keyClass f.id ≠ 0 ∧ some (keySrc f.id) = ownAddr s) && maySendOwn s

/-- TXREQ (R353): the port buffers of the mask become pending; one that is already pending stays so. -/
def opTxreq (n mask : Nat) : WOp := fun s =>
  let l := (portBufs mask).filter fun b => !txPending s n b
  if !rdB s (Reg.NW_CH_CFG n) 22 then (.locked, id)
  else if l.all fun b => txReqOk s n b then (.ok, forEach l fun b s => txRequest s n b)
  else (.refused, id)

/-- TXREQ (R353): port, channel, mask. -/
def execTxreq (p : PortId) (n mask : Nat) (s : State) : Host.Outcome State Fault Refusal :=
  guardIx n 8 (run (ownerWrite p (Reg.NW_CH_TXREQ n) (opTxreq n mask)) s)

/-- One cancel (R355): before the lock point it removes the frame, at or after it (`locked`) it stays pending. A buffer that waits for
its launch instant, or on a channel that does not transmit, has no lock point behind it. -/
def cancelOne (n : Nat) (locked : Nat) (b : Nat) (s : State) : State :=
  if txPending s n b then
    if locked / 2 ^ b % 2 = 1 ∧ txEligible s n b ∧ mayTx s n then wrB s (Reg.NW_CH_TXCAN n) b true else txFinish n b 2 0 s
  else s

/-- TXCAN (R355): the buffers of the mask, the port's or, for the runtime, the device's; `locked` names those at or past the lock point
of an attempt. -/
def opTxcan (p : PortId) (n mask locked : Nat) : WOp := fun s =>
  let port := rdB s (Reg.NW_CH_CFG n) 22
  if p = .runtime then
    (.ok, forEach ((maskBits mask 32).filter fun b => decide (b < 24) || !port) fun b => cancelOne n locked b)
  else if !port then (.locked, id) else (.ok, forEach (portBufs mask) fun b => cancelOne n locked b)
/-- NW_CH_TXCAN written as a word (R355): the state holds no attempt under way, so whether a buffer's lock point is past is a free value
(log entry 1). -/
def opTxcanWord (p : PortId) (n mask : Nat) : WOp := fun s =>
  match opTxcan p n mask (Config.freeValue s.free).toNat s with
  | (.ok, f) => (.ok, fun s => f { s with free := s.free + 1 })
  | x => x

/-- TXCAN (R355). -/
def execTxcan (p : PortId) (n mask locked : Nat) (s : State) : Host.Outcome State Fault Refusal :=
  guardIx n 8 (run (ownerWrite p (Reg.NW_CH_TXCAN n) (opTxcan p n mask locked)) s)

/-! ### Receive paths (R347 to R350) -/

/-- Write a received frame into element `e` of Nn (R343): header, FLT, LEN, TS, RXSEQ, data and zeros. -/
def rxStore (n e flt : Nat) (f : CanFrame) (sof : Tick) (s : State) : State :=
  let a := elemAddr n e
  let len := min f.data.length 64
  let s := wr s a (setBit (w32 f.id) 29 (decide (f.fmt = .ext)))
  let w1 := setBit (setBit (setBit (setBits 0 31 28 (frameDlc f)) 27 f.fdf) 26 f.brs) 25 f.esi
  let s := wr s (a + 4) (setBits (setBits w1 16 7 flt) 6 0 len)
  let s := wr s (a + 8) (sof.extractLsb' 0 32)
  let c := canOf s n
  let s := wrN s (a + 12) c.rxseq.toNat
  let s := canSet s n { c with rxseq := c.rxseq + 1 }
  wrList s (a + 16) (packWords (f.data.take 64 ++ List.replicate (64 - len) 0))

/-- A received frame is lost or overwritten (R348, R349, R350): path 0 FIFO 0, 1 FIFO 1, 2 class-0, 3 XL; `key` is its
identifier or key. -/
def rxLost (n path key : Nat) (s : State) : State :=
  let s := match path with | 0 => irSet n 3 s | 1 => irSet n 4 s | 2 => irSet n 5 s | _ => s
  raiseN 0x0703 7 (n + path * 256) key (count31 (Reg.NW_CH_OVR_CNT n) s)

/-- The identifier held in RX element `e` of Nn. -/
def elemKey (s : State) (n e : Nat) : Nat := rdF s (elemAddr n e) 28 0
/-- Address of Qq_STAT of Nn. -/
def qStat (n q : Nat) : Nat := if q = 0 then Reg.NW_CH_Q0_STAT n else Reg.NW_CH_Q1_STAT n

/-- The word of a FIFO state. -/
def qWord (wr rdx level : Nat) : Word :=
  w32 (wr % 64 * 0x40000 + rdx % 64 * 0x400 + b2n (decide (level ≥ 64)) * 128 + level)

/-- A frame for RX FIFO `q` (R347, R348). -/
def fifoStore (n q flt : Nat) (f : CanFrame) (sof : Tick) (s : State) : State :=
  let w := rd s (qStat n q)
  let wi := bits w 23 18
  let ri := bits w 15 10
  let lv := bits w 6 0
  if lv < 64 then
    let s := rxStore n (32 + 64 * q + wi) flt f sof s
    irSet n q (wr s (qStat n q) (qWord (wi + 1) ri (lv + 1)))
  else if rdB s (Reg.NW_CH_RXCFG n) q then
    let old := elemKey s n (32 + 64 * q + wi)
    let s := rxStore n (32 + 64 * q + wi) flt f sof s
    rxLost n q old (irSet n q (wr s (qStat n q) (qWord (wi + 1) (ri + 1) 64)))
  else rxLost n q (frameKey f) s

/-- The class-0 slot to fill (R349): the lowest free one, or with none free the one of the oldest frame by RXSEQ. -/
def c0Slot (s : State) (n : Nat) : Nat × Bool :=
  let new := rdF s (Reg.NW_CH_C0S n) 3 0
  match (List.range 4).find? fun k => decide (new / 2 ^ k % 2 = 0) with
  | some k => (k, false)
  | none =>
    let q := fun k => rdN s (elemAddr n (160 + k) + 12) % 65536
    ([1, 2, 3].foldl (fun m k => if laterN 16 (q m) (q k) then k else m) 0, true)

/-- A frame for the class-0 RX buffer (R349). -/
def c0Store (n flt : Nat) (f : CanFrame) (sof : Tick) (s : State) : State :=
  let (k, ovr) := c0Slot s n
  let old := elemKey s n (160 + k)
  let s := rxStore n (160 + k) flt f sof s
  let s := irSet n 2 (hwSet s (Reg.NW_CH_C0S n) k)
  if ovr then rxLost n 2 old s else s

/-- An XL frame for the XL RX buffer of Nn (R350): it holds one frame until RX_FULL is cleared. -/
def xlStore (n flt : Nat) (f : CanFrame) (sof : Tick) (s : State) : State :=
  match f.fmt, xlRxBuf s n with
  | .xl, some x =>
    if rdB s (Reg.NW_CH_XLS n) 0 then rxLost n 3 (frameKey f) s
    else
      let a := xlAddr x
      let c := canOf s n
      let s := canSet s n { c with rxseq := c.rxseq + 1 }
      let s := wrList s a [w32 (f.id % 2048),
        w32 (f.sdt * 0x1000000 + f.vcid * 0x10000 + b2n f.sec * 0x8000 + (f.data.length - 1)), w32 f.af,
        sof.extractLsb' 0 32, 0, 0, w32 flt, w32 c.rxseq.toNat]
      let s := wrList s (a + 32) (packWords f.data)
      irSet n 13 (hwSet s (Reg.NW_CH_XLS n) 0)
  | _, _ => s

/-- Load a frame into the XL TX buffer of Nn and request it (R350); none when none is assigned or it is pending. A frame of more
than 64 data bytes for a segment that carries class 0 is discarded and counted instead (R379). -/
def xlSend (s : State) (n : Nat) (f : CanFrame) : Option State :=
  match xlTxBuf s n with
  | none => none
  | some x =>
    if 64 < f.data.length ∧ rdB s Reg.NW_BRG_CFG (16 + n) then some (count31 (Reg.NW_BRG_DROP_CNT n) s)
    else if rdB s (Reg.NW_CH_XLS n) 1 then none
    else
      let a := xlAddr x
      let s := wrList s a [w32 (f.id % 2048), w32 (f.sdt * 0x1000000 + f.vcid * 0x10000 + (f.data.length - 1)), w32 f.af,
        0, w32 0x80000000, 0, 0, 0]
      let s := wrList s (a + 32) (packWords f.data)
      let c := canOf s n
      let at' := (c.reqAt.filter fun x => decide (x.1 ≠ 32)) ++ [(32, s.clk.tb0)]
      some (wrB (canSet s n { c with tries := tput (fun _ => 0) c.tries 32 0, reqAt := at' }) (Reg.NW_CH_XLS n) 1 true)

/-- Is receive path `q` of Nn (0, 1: the FIFOs, 2: the class-0 buffer) consumed by the owner (R347)? -/
def ownerConsumes (s : State) (n q : Nat) : Bool := rdB s (Reg.NW_CH_RXCFG n) (8 + q)

/-- May this writer release slots of path `q` (R347): the owner of an owner-consumed path, the runtime of its own? -/
def mayRelease (s : State) (p : PortId) (n q : Nat) : Bool := decide (p = .runtime) != ownerConsumes s n q

/-- Q_REL (R347): release the `count` oldest unacknowledged slots of FIFO `q`. -/
def opQRel (p : PortId) (n q count : Nat) : WOp := fun s =>
  let w := rd s (qStat n q)
  let lv := bits w 6 0
  if !mayRelease s p n q then (.locked, id)
  else if count = 0 ∨ count > lv then (.refused, id)
  else (.ok, fun s => wr s (qStat n q) (qWord (bits w 23 18) (bits w 15 10 + count) (lv - count)))

/-- Address of Qq_REL of Nn. -/
def qRel (n q : Nat) : Nat := if q = 0 then Reg.NW_CH_Q0_REL n else Reg.NW_CH_Q1_REL n

/-- Q_REL (R347): port, channel, FIFO, count. -/
def execQRel (p : PortId) (n q count : Nat) (s : State) : Host.Outcome State Fault Refusal :=
  guardIx n 8 (guardIx q 2 (run (ownerWrite p (qRel n q) (opQRel p n q count)) s))

/-- C0S_RELEASE (R347): writing 1 to NEW bits frees class-0 slots. -/
def opC0sRelease (p : PortId) (n mask : Nat) : WOp := fun s =>
  if !mayRelease s p n 2 then (.locked, id)
  else (.ok, fun s => wr s (Reg.NW_CH_C0S n) (rd s (Reg.NW_CH_C0S n) &&& ~~~ (w32 mask &&& ~~~hwBits s (Reg.NW_CH_C0S n))))

/-- C0S_RELEASE (R347). -/
def execC0sRelease (p : PortId) (n mask : Nat) (s : State) : Host.Outcome State Fault Refusal :=
  guardIx n 8 (run (ownerWrite p (Reg.NW_CH_C0S n) (opC0sRelease p n mask)) s)

/-- XL_RX_RELEASE (R350): the consumer, that of FIFO 0, clears RX_FULL. -/
def opXlRxRelease (p : PortId) (n : Nat) : WOp := fun s =>
  if !mayRelease s p n 0 then (.locked, id) else (.ok, fun s => wrB s (Reg.NW_CH_XLS n) 0 (bit (hwBits s (Reg.NW_CH_XLS n)) 0))

/-- XL_RX_RELEASE (R350). -/
def execXlRxRelease (p : PortId) (n : Nat) (s : State) : Host.Outcome State Fault Refusal :=
  guardIx n 8 (run (ownerWrite p (Reg.NW_CH_XLS n) (opXlRxRelease p n)) s)

/-- TB1_WRAP (R344): TB1 bit 31 has wrapped to 0: TSW in every enabled channel's NW_CH_IR. -/
def effTb1Wrap (s : State) : State :=
  if s.clk.tb1.getLsbD 31 then s
  else forEach ((List.range 8).filter fun n => chanOn s n) (fun n => irSet n 10) s

/-- TB1_WRAP (R344). -/
def execTb1Wrap (s : State) : Host.Outcome State Fault Refusal := run effTb1Wrap s

/-! ### Filters (R345, R346) -/

/-- Does filter element `e` match a frame (Table 13-6)? -/
def filtMatch (s : State) (e : Nat) (f : CanFrame) : Bool :=
  let w0 := rd s (filtAddr e)
  let id1 := rdF s (filtAddr e + 4) 28 0
  let id2 := rdF s (filtAddr e + 8) 28 0
  let key := frameKey f
  let fmtOk := match bits w0 26 25, f.fmt with
    | 0, .ext => true
    | 1, .base => true
    | 2, .xl => true
    | 3, _ => true
    | _, _ => false
  fmtOk && match bits w0 31 30 with
    | 0 => decide (id1 ≤ key ∧ key ≤ id2)
    | 1 => decide (key = id1 ∨ key = id2)
    | 2 => decide (key &&& id2 = id1 &&& id2)
    | _ => false

/-- The first element of Nn that matches, with its action (Table 13-7). -/
def filtFirst (s : State) (n : Nat) (f : CanFrame) : Option (Nat × Nat) :=
  let base := rdF s (Reg.NW_CH_FLT n) 9 0
  let cnt := rdF s (Reg.NW_CH_FLT n) 26 16
  match ((List.range cnt).map (· + base)).find? fun e => filtMatch s e f with
  | none => none
  | some e => some (e, rdF s (filtAddr e) 29 27)

/-- A frame discarded under NOMATCH REJECT, or that no import record takes (R346). -/
def noMatch (n : Nat) (s : State) : State := count31 (Reg.NW_FLT_NOMATCH_CNT n) s

/-! ### Import and publication (R360, R361) -/

/-- Is import record `i` the record of a frame on Nn (R361)? -/
def impMatch (s : State) (i n src obj : Nat) : Bool :=
  let w0 := rd s (impAddr i)
  bit w0 31 && decide (bits w0 27 16 = src ∧ bits w0 14 0 = obj) && rdB s (impAddr i + 12) n

/-- A published value reaches import record `i` (R361): on time it waits for its visibility instant, late it is counted. -/
def importOne (data : List Byte) (i : Nat) (s : State) : State :=
  let carried : Tick := BitVec.ofNat 64 (beAt data 4 8)
  let v := carried + BitVec.ofNat 64 (rdN s (impAddr i + 8) * 100)
  if laterN 64 s.clk.tb1.toNat (v - 2000).toNat then countS (impAddr i + 12) 31 16 15 s
  else
    let w1 := rd s (impAddr i + 4)
    let x : PendImport := ⟨v, bits w1 26 24, bits w1 10 0, w32 (beAt data 0 4), w32 (beAt data 4 8 / 100)⟩
    { s with net := { s.net with imports := s.net.imports ++ [x] } }

/-- Offer a frame to the import records (R361): whether one takes it, and the state after. A base-format frame has no source
address (R335), and one of fewer than 12 data bytes carries no published value: no record can take it. -/
def importFrame (n : Nat) (f : CanFrame) (s : State) : Bool × State :=
  let key := frameKey f
  let l := if f.fmt = .base ∨ f.data.length < 12 then [] else (List.range 256).filter fun i => impMatch s i n (keySrc key) (keyObj key)
  (!l.isEmpty, forEach l (importOne f.data) s)

/-- IMPORT_APPLY (R361, R36): the value for entry `e` of die `d` is applied at its visibility instant. -/
def effImportApply (d e : Nat) (s : State) : State :=
  match s.net.imports.find? fun x => decide (x.die = d ∧ x.entry = e) && reached s.clk.tb1 x.v with
  | none => s
  | some x => sigWrite d e x.value x.instant { s with net := { s.net with imports := s.net.imports.erase x } }

/-- The 12-byte publication payload (R360). -/
def pubPayload (v : Word) (t : Tick) : List Byte := beBytes 4 v.toNat ++ beBytes 8 t.toNat

/-- The PROXY_DATA of a class-0 publication while the device is in clash (R376, Table 14-5). -/
def proxyData (s : State) (obj : Nat) (v : Word) (t : Tick) : CanFrame :=
  let j := match s.net.join with | some x => x.j | none => 0
  { fmt := .base, fdf := true, brs := rdB s (Reg.NW_CH_CFG (upCh s)) 26, id := 0x100 + joinTag (serial s) j,
    data := beBytes 4 (serial s % 2 ^ 32) ++ beBytes 2 obj ++ beBytes 4 v.toNat ++ beBytes 8 t.toNat ++ [0, 0] }

/-- Queue one publication on Nn (R360): launched 25 µs after the commit; with no free buffer it is skipped and counted. -/
def publishOn (cls obj : Nat) (brs : Bool) (v : Word) (t : Tick) (n : Nat) (s : State) : State :=
  let launch : Word := (t + 2500).extractLsb' 0 32
  let f := { ownFrame s n cls obj (pubPayload v t) with brs := brs }
  match (if cls = 0 then txQueue s n 0 3 f (some launch) else txQueue s n 4 23 f (some launch)) with
  | some s => s
  | none => count31 (Reg.NW_CH_PSKIP_CNT n) s

/-- Publication record `p` publishes a value committed at TB1 `t` (R360); in clash a class-0 value goes to the manager as
PROXY_DATA (R376). -/
def publishRec (v : Word) (t : Tick) (p : Nat) (s : State) : State :=
  let w0 := rd s (pubAddr p)
  let cls := bits w0 30 29
  let obj := bits w0 14 0
  if inClash s then
    if cls = 0 then
      let launch : Word := (t + 2500).extractLsb' 0 32
      match txQueue s (upCh s) 0 3 (proxyData s obj v t) (some launch) with
      | some s => s
      | none => count31 (Reg.NW_CH_PSKIP_CNT (upCh s)) s
    else s
  else if maySendOwn s then
    forEach ((maskBits (bits w0 23 16) 8).filter fun n => chanOn s n) (publishOn cls obj (rdB s (pubAddr p + 8) 0) v t) s
  else s

/-- A producer commits entry `e` of loop die `d` at TB1 `t` (R360): every publication record that names it publishes. -/
def publish (d e : Nat) (v : Word) (t : Tick) (s : State) : State :=
  let l := (List.range 256).filter fun p =>
    rdB s (pubAddr p) 31 && decide (rdF s (pubAddr p + 4) 26 24 = d ∧ rdF s (pubAddr p + 4) 10 0 = e)
  forEach l (publishRec v t) s

/-- A producer of period `T` µs commits a value into entry `e` of loop die `d` at TB1 `t1` (R29, R32, R222, R360): the entry takes
it with its INSTANT, the dies that import it get it one period later, and its publication records put it on the bus. -/
def produce (d e : Nat) (v inst : Word) (T : Nat) (t1 : Tick) (s : State) : State :=
  publish d e v t1 (sigProduce d e v inst T s)

end Sys2Proof.Machine
end

