-- ==== Sys2Proof/Machine/LoopSteps.lean ====
section
/-!
DEFINITION. The step primitives of the loop engine (R211, R212, R226, R244, R246, R248): the step word, its encoding, the
accesses it makes, and one effect on the period in progress per opcode.
-/
namespace Sys2Proof.Machine

/-! ### Arithmetic (R9, R10, R212) -/

/-- Saturation to 32 bits (R9). -/
def sat32 (v : Int) : Int := max (-2147483648) (min 2147483647 v)
/-- Did saturation change the value? -/
def satd (v : Int) : Bool := decide (sat32 v ≠ v)
/-- p ÷ q to nearest, ties away from zero (R212), before saturation. -/
def rdivRaw (p q : Int) : Int := if q < 0 then roundAway (-p) q.natAbs else roundAway p q.natAbs
/-- Product with a coefficient (R10), before saturation. -/
def cmulRaw (x c : Int) (sh : Nat) : Int :=
  let p := x * c
  (if sh = 0 then p else p + 2 ^ (sh - 1)) / 2 ^ sh
/-- The Q16.16 product (R212), before saturation. -/
def qmulRaw (u v : Int) : Int := (u * v + 0x8000) / 65536
/-- A condition code (Table 08-3). -/
def testCnd (u : Int) (cnd : Nat) (v : Int) : Bool :=
  match cnd with
  | 0 => decide (u = v)
  | 1 => decide (u ≠ v)
  | 2 => decide (u < v)
  | 3 => decide (u ≤ v)
  | 4 => decide (u > v)
  | 5 => decide (u ≥ v)
  | _ => false

/-! ### A loop's words and memories -/

/-- The loop slot before its first latch since the start. -/
def loopInit (_ : Nat) : LoopSt :=
  { per := none, started := false, endAt := 0, upds := List.replicate 8 0, stale := List.replicate 8 0, win := [], req := none,
    entered := false, lastRegion := none, lim := false, outs := [0, 0, 0, 0], alarms := [], coef := [] }
/-- Loop slot `g` (0 to 255, R2). -/
def loopOf (s : State) (g : Nat) : LoopSt := tget loopInit s.loops g
/-- Replace loop slot `g`. -/
def loopSet (s : State) (g : Nat) (x : LoopSt) : State := { s with loops := tput loopInit s.loops g x }
/-- The loop die of loop `g`, as a die index. -/
def loopDie (g : Nat) : Nat := 1 + g / 64
/-- The state of loop `g` (Table 08-11). -/
def loopState (s : State) (g : Nat) : Nat := rdF s (Reg.LP_LOOP_STAT g) 3 0
/-- The region in force. -/
def loopRegion (s : State) (g : Nat) : Nat := rdF s (Reg.LP_LOOP_STAT g) 26 24
/-- PROG_LEN. -/
def progLen (s : State) (g : Nat) : Nat := rdF s (Reg.LP_LOOP_CFG g) 23 16 + 1
/-- PROG_BASE. -/
def progBase (s : State) (g : Nat) : Nat := rdF s (Reg.LP_LOOP_CFG g) 12 0
/-- NREG. -/
def loopNreg (s : State) (g : Nat) : Nat := rdF s (Reg.LP_LOOP_COEF g) 31 29 + 1
/-- RSTRIDE. -/
def loopRstride (s : State) (g : Nat) : Nat := rdF s (Reg.LP_LOOP_COEF g) 28 16
/-- COEF_BASE. -/
def coefBase (s : State) (g : Nat) : Nat := rdF s (Reg.LP_LOOP_COEF g) 12 0
/-- LRN_LEN. -/
def lrnLen (s : State) (g : Nat) : Nat := rdF s (Reg.LP_LOOP_LRN g) 30 16
/-- LRN_BASE. -/
def lrnBase (s : State) (g : Nat) : Nat := rdF s (Reg.LP_LOOP_LRN g) 13 0
/-- The period of loop `g` in µs. -/
def loopT (s : State) (g : Nat) : Nat := rdN s (Reg.LP_LOOP_PERIOD g)
/-- The commit phase of loop `g` in µs. -/
def loopPhase (s : State) (g : Nat) : Nat := rdN s (Reg.LP_LOOP_PHASE g)
/-- M5200. -/
def loop5200 (s : State) (g : Nat) : Bool := rdB s (Reg.LP_LOOP_CFG g) 30
/-- tper (R212): T in seconds as Q16.16, to nearest. -/
def loopTper (s : State) (g : Nat) : Int := roundAway (loopT s g * 65536 : Nat) 1000000
/-- Is the loop frozen (R212: in HOLD)? -/
def loopFrozen (s : State) (g : Nat) : Bool := decide (loopState s g = 3)
/-- The committed state word Zi. -/
def loopZ (s : State) (g zi : Nat) : Int := rdI s (Reg.LP_LOOP_Z g zi)

/-- The high word [63:32] of step `n` of the program of `g` (Table 08-1). -/
def stepHi (s : State) (g n : Nat) : Word := rd s (dieAt (loopDie g) (0x800000 + 8 * (progBase s g + n) + 4))
/-- The low word [31:0] of step `n` of the program of `g`. -/
def stepLo (s : State) (g n : Nat) : Word := rd s (dieAt (loopDie g) (0x800000 + 8 * (progBase s g + n)))

/-- The opcode of a step word (Table 08-2). -/
def stOp (hi : Word) : Nat := bits hi 31 26
/-- RGN of a step word. -/
def stRgn (hi : Word) : Bool := bit hi 7
/-- CND of a step word. -/
def stCnd (hi : Word) : Nat := bits hi 6 4
/-- FN of a step word. -/
def stFn (hi : Word) : Nat := bits hi 3 0
/-- ZI of a step word. -/
def stZi (lo : Word) : Nat := bits lo 19 16
/-- K of a step word. -/
def stK (lo : Word) : Nat := bits lo 12 0

/-- The index of coefficient `j` of loop `g` (R212). -/
def cfIndex (s : State) (g : Nat) (rgn : Bool) (j : Nat) : Nat :=
  coefBase s g + (if rgn then loopRegion s g * loopRstride s g else 0) + j
/-- The device address of coefficient `i` of the loop die of `g`. -/
def coefAddr (g i : Nat) : Nat := dieAt (loopDie g) (0x900000 + 8 * i)
/-- The live value word of coefficient `j` (R212 cf(j).c). -/
def cfC (s : State) (g : Nat) (rgn : Bool) (j : Nat) : Int :=
  (cellWord memDefault (loopOf s g).coef (coefAddr g (cfIndex s g rgn j))).toInt
/-- The live shift of coefficient `j`. -/
def cfS (s : State) (g : Nat) (rgn : Bool) (j : Nat) : Nat :=
  bits (cellWord memDefault (loopOf s g).coef (coefAddr g (cfIndex s g rgn j) + 4)) 4 0
/-- cmul(v, j), before saturation (R10). -/
def cmulCf (s : State) (g : Nat) (rgn : Bool) (v : Int) (j : Nat) : Int := cmulRaw v (cfC s g rgn j) (cfS s g rgn j)

/-- The address of learning word `i` of loop `g`. -/
def lrnAddr (s : State) (g i : Nat) : Nat := dieAt (loopDie g) (0xA00000 + 4 * (lrnBase s g + i))

/-! ### Encoding (R211) -/

/-- The fields an opcode uses, as a mask of the high word's DST, SA, SB, SC, RGN, CND and FN; none for an undefined opcode
(Table 08-4, R212). -/
def hiUsed (op fn : Nat) : Option Nat :=
  let d := 0x00F00000; let a := 0x000F0000; let b := 0x0000F000; let c := 0x00000F00; let r := 0x80; let n := 0x70; let f := 0xF
  match op with
  | 0x00 => some 0
  | 0x01 => some d
  | 0x02 => some d
  | 0x03 => some d
  | 0x04 => some a
  | 0x05 => some (d + r)
  | 0x06 => some a
  | 0x07 => some (d + f)
  | 0x08 => some (d + a + b)
  | 0x09 => some (d + a + b)
  | 0x0A => some (d + a + r)
  | 0x0B => some (d + a + b)
  | 0x0C => some (d + a + b)
  | 0x0D => some (d + a)
  | 0x0E => some (d + a + b)
  | 0x0F => some (d + a + b)
  | 0x10 => some (d + a + b + c)
  | 0x11 => some (d + a + b + c + n)
  | 0x12 => some (d + a + b + n)
  | 0x13 => some (d + a + r + f)
  | 0x14 => some (d + a)
  | 0x18 => some (d + a + b + c + r + f)
  | 0x19 => some (d + a + r)
  | 0x1A => some (d + a + b)
  | 0x1B => some (d + a)
  | 0x1C => some (d + a + b + c + r + f)
  | 0x1D => some (d + a + b)
  | 0x1E => some (d + a + b + c)
  | 0x1F => some (d + a + f + (if fn % 2 = 1 then r else 0))
  | _ => none

/-- The bits of IMM an opcode uses (Table 08-2, R212). -/
def loUsed (op fn : Nat) : Nat :=
  let z := 0xF0000; let k := 0x1FFF
  match op with
  | 0x01 => k
  | 0x02 => 0xFFFFFFFF
  | 0x03 => z
  | 0x04 => z
  | 0x05 => k
  | 0x06 => k
  | 0x0A => k
  | 0x13 => k
  | 0x18 => z + k
  | 0x19 => z + k
  | 0x1A => z
  | 0x1B => z
  | 0x1C => z + k
  | 0x1D => k
  | 0x1E => 0xFFFF3FFF
  | 0x1F => z + (if fn % 2 = 1 then k else 0)
  | _ => 0

/-- Is a step word well encoded (R211, R212, R239, R244, R260)? -/
def stepEncOk (hi lo : Word) : Bool :=
  let op := stOp hi
  let fn := stFn hi
  match hiUsed op fn with
  | none => false
  | some m =>
    decide (hi &&& ~~~ (w32 (0xFC000000 + m)) = 0) && decide (lo &&& ~~~ (w32 (loUsed op fn)) = 0) &&
    (match op with
      | 0x07 => decide (fn ≤ 3)
      | 0x11 => decide (stCnd hi ≤ 5)
      | 0x12 => decide (stCnd hi ≤ 5)
      | 0x13 => decide (fn ≠ 15)
      | 0x18 => decide (fn % 4 ≤ 1 ∧ fn / 4 ≤ 1)
      | 0x1C => decide (fn < 8)
      | 0x1E => decide (bits lo 31 20 ≠ 0)
      | 0x1F => decide (fn ≤ 1)
      | _ => true)

/-- Is a step the balancing INTEG (R239)? -/
def isBal (hi : Word) : Bool := decide (stOp hi = 0x18 ∧ stFn hi / 4 = 1)
/-- Is a step a TRACK HYST (R244)? -/
def isTrack (hi : Word) : Bool := decide (stOp hi = 0x1C ∧ stFn hi / 4 % 2 = 1)

/-! ### Accesses (R226) -/

/-- The coefficients a step names, relative (R212, R226, R246, R260). -/
def stepCoefs (s : State) (g : Nat) (hi lo : Word) : List Nat :=
  let k := stK lo
  let fn := stFn hi
  match stOp hi with
  | 0x05 => [k]
  | 0x0A => [k]
  | 0x13 => (List.range (2 * (fn + 2))).map (· + k)
  | 0x18 => [k]
  | 0x19 => [k]
  | 0x1C => ((List.range (fn % 4 + 1)).map (· + k)) ++ ((List.range (fn % 4 + 1)).map (· + (k + 4)))
  | 0x1D => (List.range (loopNreg s g - 1)).map (· + k)
  | 0x1F => if fn % 2 = 1 then [k] else []
  | _ => []

/-- The index of a REP step: its state word modulo its period (R212). -/
def repIndex (s : State) (g : Nat) (lo : Word) : Nat := (loopZ s g (stZi lo) % ((bits lo 31 20 + 1 : Nat) : Int)).toNat

/-- The device address of the first access of a step outside the loop's allocation, if there is one (R226, R230). -/
def stepFault (s : State) (g : Nat) (hi lo : Word) : Option Nat :=
  let top := coefBase s g + loopNreg s g * loopRstride s g
  match ((stepCoefs s g hi lo).map (cfIndex s g (stRgn hi))).find? fun i => decide (i < coefBase s g ∨ top ≤ i) with
  | some i => some (coefAddr g i)
  | none =>
    if stOp hi = 0x1E then
      let i := bits lo 13 0 + repIndex s g lo
      if i < lrnLen s g then none else some (lrnAddr s g i)
    else none

/-! ### The primitives (R212), each on the period in progress -/

/-- The content of the register SA names. -/
def opA (p : LoopPer) (hi : Word) : Int := p.xs.getD (bits hi 19 16) 0
/-- The content of the register SB names. -/
def opB (p : LoopPer) (hi : Word) : Int := p.xs.getD (bits hi 15 12) 0
/-- The content of the register SC names. -/
def opC (p : LoopPer) (hi : Word) : Int := p.xs.getD (bits hi 11 8) 0
/-- Write the destination register. -/
def setX (hi : Word) (v : Int) (p : LoopPer) : LoopPer := { p with xs := p.xs.set (bits hi 23 20) v }
/-- Write a pending state word; a later write of the same word wins (R213). -/
def putZ (zi : Nat) (v : Int) (p : LoopPer) : LoopPer := { p with zs := (p.zs.filter fun x => decide (x.1 ≠ zi)) ++ [(zi, v)] }
/-- Collect a flag of Table 08-12. -/
def flagIf (c : Bool) (m : Nat) (p : LoopPer) : LoopPer := if c then { p with flags := p.flags ||| m } else p

/-- ASAT, MSAT, DIV0, LIM, ISAT, OSAT, LSAT, OVR, FAULT (Table 08-12). -/
def fASAT : Nat := 1
/-- MSAT. -/
def fMSAT : Nat := 2
/-- DIV0. -/
def fDIV0 : Nat := 4
/-- LIM. -/
def fLIM : Nat := 8
/-- ISAT. -/
def fISAT : Nat := 16
/-- OSAT. -/
def fOSAT : Nat := 32
/-- LSAT. -/
def fLSAT : Nat := 64
/-- OVR. -/
def fOVR : Nat := 128
/-- FAULT. -/
def fFAULT : Nat := 256

/-- A result that saturates, with its flag. -/
def setSat (hi : Word) (v : Int) (m : Nat) (p : LoopPer) : LoopPer := flagIf (satd v) m (setX hi (sat32 v) p)

/-- NOP. -/
def primNop (_ : State) (_ : Nat) (_ _ : Word) (p : LoopPer) : LoopPer := p
/-- LDI. -/
def primLdi (_ : State) (_ : Nat) (hi lo : Word) (p : LoopPer) : LoopPer := setX hi (p.ins.getD (stK lo % 8) 0) p
/-- LDK. -/
def primLdk (_ : State) (_ : Nat) (hi lo : Word) (p : LoopPer) : LoopPer := setX hi lo.toInt p
/-- LDZ. -/
def primLdz (s : State) (g : Nat) (hi lo : Word) (p : LoopPer) : LoopPer := setX hi (loopZ s g (stZi lo)) p
/-- STZ. -/
def primStz (_ : State) (_ : Nat) (hi lo : Word) (p : LoopPer) : LoopPer := putZ (stZi lo) (opA p hi) p
/-- LDC. -/
def primLdc (s : State) (g : Nat) (hi lo : Word) (p : LoopPer) : LoopPer := setX hi (cfC s g (stRgn hi) (stK lo)) p
/-- OUT. -/
def primOut (_ : State) (_ : Nat) (hi lo : Word) (p : LoopPer) : LoopPer := { p with outs := p.outs.set (stK lo % 4) (opA p hi) }
/-- LDF (Table 08-5). -/
def primLdf (s : State) (g : Nat) (hi _ : Word) (p : LoopPer) : LoopPer :=
  setX hi (match stFn hi with
    | 0 => p.status.toInt
    | 1 => loopTper s g
    | 2 => p.man
    | _ => (loopOf s g).outs.getD 0 0) p
/-- ADD. -/
def primAdd (_ : State) (_ : Nat) (hi _ : Word) (p : LoopPer) : LoopPer := setSat hi (opA p hi + opB p hi) fASAT p
/-- SUB. -/
def primSub (_ : State) (_ : Nat) (hi _ : Word) (p : LoopPer) : LoopPer := setSat hi (opA p hi - opB p hi) fASAT p
/-- MULC. -/
def primMulc (s : State) (g : Nat) (hi lo : Word) (p : LoopPer) : LoopPer :=
  setSat hi (cmulCf s g (stRgn hi) (opA p hi) (stK lo)) fMSAT p
/-- MUL. -/
def primMul (_ : State) (_ : Nat) (hi _ : Word) (p : LoopPer) : LoopPer := setSat hi (qmulRaw (opA p hi) (opB p hi)) fMSAT p
/-- DIV. -/
def primDiv (_ : State) (_ : Nat) (hi _ : Word) (p : LoopPer) : LoopPer :=
  let a := opA p hi
  let b := opB p hi
  if b = 0 then flagIf true fDIV0 (setX hi (if a ≥ 0 then 2147483647 else -2147483648) p)
  else setSat hi (rdivRaw (a * 65536) b) fMSAT p
/-- ABS. -/
def primAbs (_ : State) (_ : Nat) (hi _ : Word) (p : LoopPer) : LoopPer := setSat hi (opA p hi).natAbs fASAT p
/-- NEG. -/
def primNeg (_ : State) (_ : Nat) (hi _ : Word) (p : LoopPer) : LoopPer := setSat hi (-(opA p hi)) fASAT p
/-- MIN. -/
def primMin (_ : State) (_ : Nat) (hi _ : Word) (p : LoopPer) : LoopPer := setX hi (min (opA p hi) (opB p hi)) p
/-- MAX. -/
def primMax (_ : State) (_ : Nat) (hi _ : Word) (p : LoopPer) : LoopPer := setX hi (max (opA p hi) (opB p hi)) p
/-- CLAMP. -/
def primClamp (_ : State) (_ : Nat) (hi _ : Word) (p : LoopPer) : LoopPer :=
  let y := min (max (opA p hi) (opB p hi)) (opC p hi)
  flagIf (decide (y ≠ opA p hi)) fLIM (setX hi y p)
/-- SEL. -/
def primSel (_ : State) (_ : Nat) (hi _ : Word) (p : LoopPer) : LoopPer :=
  setX hi (if testCnd (opC p hi) (stCnd hi) 0 then opA p hi else opB p hi) p
/-- CMP. -/
def primCmp (_ : State) (_ : Nat) (hi _ : Word) (p : LoopPer) : LoopPer :=
  setX hi (if testCnd (opA p hi) (stCnd hi) (opB p hi) then 65536 else 0) p

/-- The largest i below `n` with x_i at most `a`. -/
def pwlSeg (x : Nat → Int) (a : Int) : Nat → Nat
  | 0 => 0
  | n + 1 => if x n ≤ a then n else pwlSeg x a n

/-- PWL (R212). The product of two 33-bit differences can exceed the 64-bit intermediates of R9, which does not say what happens then: it
is computed exactly (DESIGN CHOICE, log entry 77). -/
def primPwl (s : State) (g : Nat) (hi lo : Word) (p : LoopPer) : LoopPer :=
  let n := stFn hi + 2
  let k := stK lo
  let x : Nat → Int := fun i => cfC s g (stRgn hi) (k + 2 * i)
  let y : Nat → Int := fun i => cfC s g (stRgn hi) (k + 2 * i + 1)
  let a := opA p hi
  if a ≤ x 0 then setX hi (y 0) p
  else if a ≥ x (n - 1) then setX hi (y (n - 1)) p
  else
    let i := pwlSeg x a n
    if x (i + 1) ≤ x i then setX hi (y i) p
    else
      let q := rdivRaw ((y (i + 1) - y i) * (a - x i)) (x (i + 1) - x i)
      flagIf (satd q) fMSAT (setSat hi (y i + sat32 q) fASAT p)

/-- INTEG, under the native or the 5200 rule (R212, R248), as PLAIN or BAL (R239). -/
def primInteg (s : State) (g : Nat) (hi lo : Word) (p : LoopPer) : LoopPer :=
  let zi := stZi lo
  let b := opB p hi
  let c := opC p hi
  let z := loopZ s g zi
  let rule := decide (stFn hi % 4 = 1) || loop5200 s g
  let stop := loopFrozen s g || (rule && bit p.status 25)
  let m := cmulCf s g (stRgn hi) (opA p hi) (stK lo)
  let sum := z + sat32 m
  let acc := if stop then z else min (max (sat32 sum) b) c
  let p := if stop then p
    else flagIf (decide (acc ≠ sat32 sum)) fISAT (flagIf (satd sum) fASAT (flagIf (satd m) fMSAT p))
  let p := if stFn hi / 4 = 1 then { p with bal := some { zi := zi, acc := acc, lo := b, hi := c } } else p
  setX hi acc (putZ zi acc p)

/-- LAG. -/
def primLag (s : State) (g : Nat) (hi lo : Word) (p : LoopPer) : LoopPer :=
  let zi := stZi lo
  let z := loopZ s g zi
  let df := opA p hi - z
  let m := cmulCf s g (stRgn hi) (sat32 df) (stK lo)
  let sum := z + sat32 m
  let p := flagIf (satd df || satd sum) fASAT (flagIf (satd m) fMSAT p)
  setX hi (sat32 sum) (putZ zi (sat32 sum) p)

/-- RATE. -/
def primRate (s : State) (g : Nat) (hi lo : Word) (p : LoopPer) : LoopPer :=
  let zi := stZi lo
  let z := loopZ s g zi
  let ab : Int := (opB p hi).natAbs
  let lim := sat32 ab
  let df := opA p hi - z
  let sum := z + max (-lim) (min lim (sat32 df))
  let p := flagIf (satd ab || satd df || satd sum) fASAT p
  setX hi (sat32 sum) (putZ zi (sat32 sum) p)

/-- DIFF. -/
def primDiff (s : State) (g : Nat) (hi lo : Word) (p : LoopPer) : LoopPer :=
  let zi := stZi lo
  setSat hi (opA p hi - loopZ s g zi) fASAT (putZ zi (opA p hi) p)

/-- HYST (R212, R244, R246). -/
def primHyst (s : State) (g : Nat) (hi lo : Word) (p : LoopPer) : LoopPer :=
  let zi := stZi lo
  let k := stK lo
  let r := stRgn hi
  let nl := stFn hi % 4 + 1
  let z := i32 (loopZ s g zi)
  let lv := min (bits z 1 0) (nl - 1)
  let n := bits z 31 16
  let e := sat32 (opA p hi - opC p hi)
  let b := opB p hi
  let up := decide (e > b) && decide (lv < nl - 1)
  let dn := decide (e < -b) && decide (lv > 0)
  let go := (up || dn) && decide ((n : Int) ≥ cfC s g r (k + 4 + lv))
  let lv := if go then (if up then lv + 1 else lv - 1) else lv
  let n := if go then 0 else min (n + 1) 0xFFFF
  let p := if isTrack hi then { p with tracks := p.tracks ++ [{ zi := zi, k := k, nl := nl, rgn := r }] } else p
  setX hi (cfC s g r (k + lv)) (putZ zi (w32 (n * 0x10000 + lv)).toInt p)

/-- REGION (R212, R250): the last step wins. -/
def primRegion (s : State) (g : Nat) (hi lo : Word) (p : LoopPer) : LoopPer :=
  let a := opA p hi
  let h := sat32 (opB p hi).natAbs
  let cur := loopRegion s g
  let above := (List.range (loopNreg s g - 1)).filter fun i =>
    decide (a ≥ sat32 (cfC s g false (stK lo + i) + (if i ≥ cur then h else -h)))
  let r := above.length
  setX hi ((r : Int) * 65536) { p with region := some (r, a) }

/-- REP (R212, R252). -/
def primRep (s : State) (g : Nat) (hi lo : Word) (p : LoopPer) : LoopPer :=
  let zi := stZi lo
  let i := repIndex s g lo
  let at' := bits lo 13 0 + i
  let m := rdI s (lrnAddr s g at')
  let q1 := qmulRaw (opC p hi) m
  let q2 := qmulRaw (opB p hi) (opA p hi)
  let sum := sat32 q1 + sat32 q2
  let p :=
    if loopFrozen s g then p
    else
      let p := flagIf (satd q1 || satd q2) fMSAT (flagIf (satd sum) fASAT p)
      { p with lrn := (p.lrn.filter fun x => decide (x.1 ≠ at')) ++ [(at', sat32 sum)]
               lrnSat := p.lrnSat.filter (fun i => decide (i ≠ at')) ++ (if satd sum then [at'] else []) }
  setX hi m (putZ zi (((i + 1) % (bits lo 31 20 + 1) : Nat) : Int) p)

/-- TIMER (R212, R260). -/
def primTimer (s : State) (g : Nat) (hi lo : Word) (p : LoopPer) : LoopPer :=
  let zi := stZi lo
  let z := loopZ s g zi
  let t := if opA p hi = 0 then 0 else if loopFrozen s g then z else sat32 (z + loopTper s g)
  let p := if stFn hi % 2 = 1 then
      { p with timers := p.timers ++ [{ step := p.pc, zi := zi, k := stK lo, rgn := stRgn hi }] } else p
  setX hi t (putZ zi t p)

/-! ### Running one step -/

/-- May loop `g` run now (R216): no other pending period of its die has an earlier commit, ties to the lower index? -/
def engPick (s : State) (g : Nat) (p : LoopPer) : Bool :=
  s.loops.all fun x =>
    match x.2.per with
    | none => true
    | some q => decide (loopDie x.1 ≠ loopDie g) || q.done || decide (x.1 = g)
        || laterN 64 q.commit.toNat p.commit.toNat || (decide (q.commit = p.commit) && decide (g < x.1))

/-- The loop stops at a faulting access (R230, R237): HALT, FAULT, and its address; a request waiting for its next latch is refused
(STATE, Table 09-1), and an apply no longer waits for the loop (R232). -/
def loopHalt (g n addr : Nat) (s : State) : State :=
  let d := loopDie g
  let l := g % 64
  let old := loopState s g
  let x := loopOf s g
  let s := loopSet s g { x with per := none, req := none }
  let last := s.eng.any fun y => decide (y.1 = d ∧ y.2.wait = [l])
  let s := { s with eng := s.eng.map fun y => if y.1 = d then (y.1, { y.2 with wait := y.2.wait.filter (· ≠ l) }) else y }
  let s := if last then wrB s (Reg.LP_ENG_STAT d) 8 false else s
  let s := wrF (wrF s (Reg.LP_LOOP_STAT g) 3 0 4) (Reg.LP_LOOP_STAT g) 20 19 0
  let s := wrN s (Reg.LP_LOOP_FAULT_ADDR g) addr
  let s := if l < 32 then wrB s (Reg.LP_ENG_HALT_LO d) l true else wrB s (Reg.LP_ENG_HALT_HI d) (l - 32) true
  let fl := rdB s (Reg.LP_LOOP_FLAGS g) 8
  let s := hwSet s (Reg.LP_LOOP_FLAGS g) 8
  let s := if fl then s else raiseN 0x0404 d (l + fFAULT * 0x10000) 0 s
  let s := raiseN 0x0402 d (l + n * 256) addr s
  let s := raise 0x0406 d (w32 (l + 4 * 256 + old * 4096)) (i32 (x.outs.getD 0 0)) s
  match x.req with
  | none => s
  | some (act, req) => raiseN 0x0407 d (l + req * 0x10000 + act * 0x100000) 4 s

/-- One step of opcode `op` of loop `g` with its primitive (R213, R216, R219, R226, R230): the next step of its period, when the
engine runs that loop and the step has that opcode. -/
def loopStep (op : Nat) (prim : State → Nat → Word → Word → LoopPer → LoopPer) (g : Nat) (s : State) : State :=
  match (loopOf s g).per with
  | none => s
  | some p =>
    let hi := stepHi s g p.pc
    let lo := stepLo s g p.pc
    if decide (p.pc < progLen s g) && decide (stOp hi = op) && engPick s g p && !reached s.clk.tb1 p.commit then
      match stepFault s g hi lo with
      | some a => loopHalt g p.pc a s
      | none => loopSet s g { loopOf s g with per := some { prim s g hi lo p with pc := p.pc + 1 } }
    else s

/-- STEP_NOP (R212): the loop. -/
def execStepNop (g : Nat) (s : State) : Host.Outcome State Fault Refusal := guardIx g 256 (run (loopStep 0x00 primNop g) s)

/-- STEP_LDI (R212): the loop. -/
def execStepLdi (g : Nat) (s : State) : Host.Outcome State Fault Refusal := guardIx g 256 (run (loopStep 0x01 primLdi g) s)

/-- STEP_LDK (R212): the loop. -/
def execStepLdk (g : Nat) (s : State) : Host.Outcome State Fault Refusal := guardIx g 256 (run (loopStep 0x02 primLdk g) s)

/-- STEP_LDZ (R212): the loop. -/
def execStepLdz (g : Nat) (s : State) : Host.Outcome State Fault Refusal := guardIx g 256 (run (loopStep 0x03 primLdz g) s)

/-- STEP_STZ (R212): the loop. -/
def execStepStz (g : Nat) (s : State) : Host.Outcome State Fault Refusal := guardIx g 256 (run (loopStep 0x04 primStz g) s)

/-- STEP_LDC (R212): the loop. -/
def execStepLdc (g : Nat) (s : State) : Host.Outcome State Fault Refusal := guardIx g 256 (run (loopStep 0x05 primLdc g) s)

/-- STEP_OUT (R212): the loop. -/
def execStepOut (g : Nat) (s : State) : Host.Outcome State Fault Refusal := guardIx g 256 (run (loopStep 0x06 primOut g) s)

/-- STEP_LDF (R212): the loop. -/
def execStepLdf (g : Nat) (s : State) : Host.Outcome State Fault Refusal := guardIx g 256 (run (loopStep 0x07 primLdf g) s)

/-- STEP_ADD (R212): the loop. -/
def execStepAdd (g : Nat) (s : State) : Host.Outcome State Fault Refusal := guardIx g 256 (run (loopStep 0x08 primAdd g) s)

/-- STEP_SUB (R212): the loop. -/
def execStepSub (g : Nat) (s : State) : Host.Outcome State Fault Refusal := guardIx g 256 (run (loopStep 0x09 primSub g) s)

/-- STEP_MULC (R212): the loop. -/
def execStepMulc (g : Nat) (s : State) : Host.Outcome State Fault Refusal := guardIx g 256 (run (loopStep 0x0A primMulc g) s)

/-- STEP_MUL (R212): the loop. -/
def execStepMul (g : Nat) (s : State) : Host.Outcome State Fault Refusal := guardIx g 256 (run (loopStep 0x0B primMul g) s)

/-- STEP_DIV (R212): the loop. -/
def execStepDiv (g : Nat) (s : State) : Host.Outcome State Fault Refusal := guardIx g 256 (run (loopStep 0x0C primDiv g) s)

/-- STEP_ABS (R212): the loop. -/
def execStepAbs (g : Nat) (s : State) : Host.Outcome State Fault Refusal := guardIx g 256 (run (loopStep 0x0D primAbs g) s)

/-- STEP_NEG (R212): the loop. -/
def execStepNeg (g : Nat) (s : State) : Host.Outcome State Fault Refusal := guardIx g 256 (run (loopStep 0x14 primNeg g) s)

/-- STEP_MIN (R212): the loop. -/
def execStepMin (g : Nat) (s : State) : Host.Outcome State Fault Refusal := guardIx g 256 (run (loopStep 0x0E primMin g) s)

/-- STEP_MAX (R212): the loop. -/
def execStepMax (g : Nat) (s : State) : Host.Outcome State Fault Refusal := guardIx g 256 (run (loopStep 0x0F primMax g) s)

/-- STEP_CLAMP (R212): the loop. -/
def execStepClamp (g : Nat) (s : State) : Host.Outcome State Fault Refusal := guardIx g 256 (run (loopStep 0x10 primClamp g) s)

/-- STEP_SEL (R212): the loop. -/
def execStepSel (g : Nat) (s : State) : Host.Outcome State Fault Refusal := guardIx g 256 (run (loopStep 0x11 primSel g) s)

/-- STEP_CMP (R212): the loop. -/
def execStepCmp (g : Nat) (s : State) : Host.Outcome State Fault Refusal := guardIx g 256 (run (loopStep 0x12 primCmp g) s)

/-- STEP_PWL (R212): the loop. -/
def execStepPwl (g : Nat) (s : State) : Host.Outcome State Fault Refusal := guardIx g 256 (run (loopStep 0x13 primPwl g) s)

/-- STEP_INTEG (R212): the loop. -/
def execStepInteg (g : Nat) (s : State) : Host.Outcome State Fault Refusal := guardIx g 256 (run (loopStep 0x18 primInteg g) s)

/-- STEP_LAG (R212): the loop. -/
def execStepLag (g : Nat) (s : State) : Host.Outcome State Fault Refusal := guardIx g 256 (run (loopStep 0x19 primLag g) s)

/-- STEP_RATE (R212): the loop. -/
def execStepRate (g : Nat) (s : State) : Host.Outcome State Fault Refusal := guardIx g 256 (run (loopStep 0x1A primRate g) s)

/-- STEP_DIFF (R212): the loop. -/
def execStepDiff (g : Nat) (s : State) : Host.Outcome State Fault Refusal := guardIx g 256 (run (loopStep 0x1B primDiff g) s)

/-- STEP_HYST (R212): the loop. -/
def execStepHyst (g : Nat) (s : State) : Host.Outcome State Fault Refusal := guardIx g 256 (run (loopStep 0x1C primHyst g) s)

/-- STEP_REGION (R212): the loop. -/
def execStepRegion (g : Nat) (s : State) : Host.Outcome State Fault Refusal := guardIx g 256 (run (loopStep 0x1D primRegion g) s)

/-- STEP_REP (R212): the loop. -/
def execStepRep (g : Nat) (s : State) : Host.Outcome State Fault Refusal := guardIx g 256 (run (loopStep 0x1E primRep g) s)

/-- STEP_TIMER (R212): the loop. -/
def execStepTimer (g : Nat) (s : State) : Host.Outcome State Fault Refusal := guardIx g 256 (run (loopStep 0x1F primTimer g) s)

end Sys2Proof.Machine
end

