-- ==== Sys2Proof/Machine/Loop.lean ====
section
/-!
DEFINITION. The loop engine's latch, completion and commit (R213 to R220, R225), modes and supervision (R234 to R261),
coefficient tuning (R231, R232), the reads that latch (R213, R221), and the start checks (R215, R227, R228).
-/
namespace Sys2Proof.Machine

/-! ### Modes (R234 to R237) -/

/-- Requester code of R262. -/
def requesterCode : PortId → Nat
  | .host => 1 | .service => 2 | .net _ => 3 | .runtime => 4

/-- Cancel every due alarm of a loop (R258). -/
def cancelAlarms (x : LoopSt) : LoopSt := { x with alarms := x.alarms.map fun a => { a with due := none } }

/-- A change of state of loop `g` by a requester, logged as LOOP_MODE (R237); `entry` marks an entry into AUTO by request or
re-arm (R240 row 3). -/
def loopChange (g new req : Nat) (entry : Bool) (s : State) : State :=
  let old := loopState s g
  if new = old then s
  else
    let x := loopOf s g
    let x := if new = 2 then { x with win := [], entered := entry } else x
    let x := if new = 3 then cancelAlarms { x with win := [] } else x
    let s := loopSet s g x
    let s := wrF s (Reg.LP_LOOP_STAT g) 3 0 new
    let s := if new = 3 then s else wrF s (Reg.LP_LOOP_STAT g) 20 19 0
    raise 0x0406 (loopDie g) (w32 (g % 64 + new * 256 + old * 4096 + req * 0x10000)) (i32 (x.outs.getD 0 0)) s

/-- A refused request (R237). -/
def loopRefuse (g act req reason : Nat) (s : State) : State :=
  raiseN 0x0407 (loopDie g) (g % 64 + req * 0x10000 + act * 0x100000) reason s

/-- Is input `i` of loop `g` monitored (R255)? -/
def inMonitored (s : State) (g i : Nat) : Bool :=
  rdB s (Reg.LP_LOOP_IN g i) 31 && decide (rdF s (Reg.LP_LOOP_IN g i) 23 16 ≠ 0)
/-- The monitored inputs of loop `g`. -/
def monitored (s : State) (g : Nat) : List Nat := (List.range 8).filter fun i => inMonitored s g i
/-- The stale inputs of loop `g` (R255). -/
def staleIns (s : State) (g : Nat) : List Nat :=
  (monitored s g).filter fun i => decide ((loopOf s g).stale.getD i 0 ≥ rdF s (Reg.LP_LOOP_IN g i) 23 16)

/-- The judgement of a request (Table 09-1), from the state the loop is in. -/
def loopJudge (g act req : Nat) (s : State) : State :=
  let st := loopState s g
  let stale := !(staleIns s g).isEmpty
  if st = 0 ∨ 4 ≤ st then loopRefuse g act req 4 s
  else if act = 4 then
    if st ≠ 3 then loopRefuse g act req 3 s
    else if stale then loopRefuse g act req 1 s
    else loopChange g 2 req true s
  else if act = 2 then
    if st = 2 then s
    else if st = 3 then loopRefuse g act req 2 s
    else if stale then loopRefuse g act req 1 s
    else loopChange g 2 req true s
  else loopChange g 1 req false s

/-- Will loop `g` latch (R209, R230): enabled, and neither halted nor failed at its start check? -/
def loopLatches (s : State) (g : Nat) : Bool := rdB s (Reg.LP_LOOP_CFG g) 31 && decide (loopState s g ≤ 3)

/-- A request reaches a loop (R235): the last one before a latch acts there; a loop that does not latch refuses it (STATE). -/
def loopRequest (g act req : Nat) (s : State) : State :=
  if loopLatches s g then loopSet s g { loopOf s g with req := some (act, req) } else loopRefuse g act req 4 s

/-! ### Latch (R236) -/

/-- Is input `i` NEW at this latch (R225)? -/
def inNew (s : State) (g i : Nat) : Bool :=
  let w := rd s (Reg.LP_LOOP_IN g i)
  (loopOf s g).started && bit w 31 && decide ((loopOf s g).upds.getD i 0 ≠ sigUpd s (loopDie g) (bits w 10 0))

/-- The latched value of input `i` (R225): 0 for a disabled one. -/
def inValue (s : State) (g i : Nat) : Int :=
  let w := rd s (Reg.LP_LOOP_IN g i)
  if bit w 31 then sigVal s (loopDie g) (bits w 10 0) else 0

/-- The span of a list of values. -/
def span : List Int → Int
  | [] => 0
  | v :: r => r.foldl max v - r.foldl min v

/-- Does the freeze monitor trip (R257)? -/
def freezeTrips (s : State) (g : Nat) : Bool :=
  let w := rd s (Reg.LP_LOOP_FRZ g)
  let win := (loopOf s g).win
  bit w 31 && decide (win.length ≥ bits w 23 16 ∧ bits w 23 16 ≠ 0) &&
    decide (span (win.map fun x => x.1) < rdI s (Reg.LP_LOOP_FRZ_DIN g)) &&
    decide (span (win.map fun x => x.2) > rdI s (Reg.LP_LOOP_FRZ_DOUT g))

/-- Supervision of an AUTO loop (R258). -/
def loopSupervise (g : Nat) (ins : List Int) (s : State) : State :=
  if loopState s g = 2 then
    let stale := staleIns s g
    let frz := freezeTrips s g
    if stale.isEmpty && !frz then s
    else
      let cause := if stale.isEmpty then 2 else 1
      let l := stale ++ (if frz then [rdF s (Reg.LP_LOOP_FRZ g) 26 24] else [])
      let i := l.foldl min 7
      let s := loopChange g 3 0 false s
      let s := wrF s (Reg.LP_LOOP_STAT g) 20 19 cause
      raise 0x0408 (loopDie g) (w32 (g % 64 + i * 256 + cause * 4096)) (i32 (ins.getD i 0)) s
  else s

/-- A due following-error alarm at a latch (R260): raised when every monitored input has shown NEW since it became due. -/
def loopAlarmRaise (g : Nat) (news : List Nat) (a : LoopAlarm) (s : State) : State :=
  match a.due with
  | none => s
  | some seen =>
    let seen := seen ++ news
    let put := fun (b : LoopAlarm) (s : State) =>
      loopSet s g { loopOf s g with alarms := (loopOf s g).alarms.map fun y => if y.step = a.step then b else y }
    if (monitored s g).all fun i => seen.contains i then
      let t := loopZ s g a.zi
      raise 0x040A (loopDie g) (w32 (g % 64 + a.step * 256)) (i32 t) (put { a with due := none, raised := true } s)
    else put { a with due := some seen } s

/-- The alarms at a latch (R236 step 3); in HOLD none is due. -/
def loopAlarms (g : Nat) (news : List Nat) (s : State) : State :=
  if loopState s g = 3 then s else forEach (loopOf s g).alarms (loopAlarmRaise g news) s

/-- The first latch since the start (R234, R240): MANUAL, or AUTO with START_AUTO. -/
def loopFirst (g : Nat) (s : State) : State :=
  if (loopOf s g).started then s
  else loopChange g (if rdB s (Reg.LP_LOOP_CFG g) 28 then 2 else 1) 0 false s

/-- The staleness counts at a latch (R255). -/
def staleCounts (s : State) (g : Nat) (news : List Nat) : List Nat :=
  (List.range 8).map fun i =>
    if !(loopOf s g).started ∨ !inMonitored s g i then 0
    else if news.contains i then 0 else min ((loopOf s g).stale.getD i 0 + 1) 255

/-- Take the applied coefficients at the first latch after an apply (R231, R232). -/
def loopTakeCoef (g : Nat) (s : State) : State :=
  let e := s.eng.find? fun y => decide (y.1 = loopDie g)
  match e with
  | none => s
  | some (d, y) =>
    if y.wait.contains (g % 64) then
      let w := y.wait.filter (· ≠ g % 64)
      let s := { s with eng := s.eng.map fun z => if z.1 = d then (d, { y with wait := w }) else z }
      let s := if w.isEmpty then wrB s (Reg.LP_ENG_STAT d) 8 false else s
      loopSet s g { loopOf s g with coef := y.applied }
    else s

/-- May loop `g` latch now (R209, R108): running, on its grid, its last period over? -/
def loopDue (s : State) (g : Nat) : Bool :=
  rdB s (Reg.LP_ENG_STAT (loopDie g)) 0
    && loopLatches s g && (loopOf s g).per.isNone && onGrid s (loopT s g) 0
    && (!(loopOf s g).started || reached (BitVec.ofNat 64 (tb3 s)) (loopOf s g).endAt)

/-- The STATUS word of LDF (Table 08-5). -/
def loopStatus (s : State) (g : Nat) (news : List Nat) (first : Bool) : Word :=
  w32 (loopState s g + loopRegion s g * 256 + (news.foldl (fun a i => a + 2 ^ i) 0) * 0x10000 + b2n first * 0x1000000
    + b2n (loopOf s g).lim * 0x2000000)

/-- A latch of loop `g` (R225, R236, Table 08-9 step 1). -/
def loopLatch (g : Nat) (s : State) : State :=
  let first := !(loopOf s g).started
  let s := loopTakeCoef g s
  let news := (List.range 8).filter fun i => inNew s g i
  let ins := (List.range 8).map fun i => inValue s g i
  let upds := (List.range 8).map fun i => sigUpd s (loopDie g) (rdF s (Reg.LP_LOOP_IN g i) 10 0)
  let s := wrF s (Reg.LP_LOOP_STAT g) 15 8 (news.foldl (fun a i => a + 2 ^ i) 0)
  let stale := staleCounts s g news
  let s := loopFirst g s
  let s := loopSet s g { loopOf s g with upds := upds, stale := stale, started := true }
  let s := loopSupervise g ins s
  let s := loopAlarms g news s
  let s := match (loopOf s g).req with
    | none => s
    | some (act, req) => loopJudge g act req (loopSet s g { loopOf s g with req := none })
  let S : Tick := BitVec.ofNat 64 (tb3 s)
  let x := loopOf s g
  let per : LoopPer := {
    latch := S, commit := S + BitVec.ofNat 64 (loopPhase s g * 100), xs := List.replicate 16 0, ins := ins,
    status := loopStatus s g news first, man := rdI s (Reg.LP_LOOP_MANVAL g), pc := 0, zs := [], lrn := [], lrnSat := [], outs := x.outs,
    region := none, flags := 0, bal := none, tracks := [], timers := [], done := false }
  loopSet s g { x with per := some per, endAt := S + BitVec.ofNat 64 (loopT s g * 100) }

/-- The engine of loop die `d` before any apply. -/
def engInit : EngSt := { applied := [], wait := [], snaps := [] }
/-- The engine of loop die `d`. -/
def engOf (s : State) (d : Nat) : EngSt := ((s.eng.find? fun y => decide (y.1 = d)).map fun y => y.2).getD engInit
/-- Replace the engine of loop die `d`. -/
def engSet (s : State) (d : Nat) (e : EngSt) : State :=
  { s with eng := (s.eng.filter fun y => decide (y.1 < d)) ++ (d, e) :: (s.eng.filter fun y => decide (d < y.1)) }

/-- A latch, with the loop as it stood before it kept until the tick ends (Table 08-10). -/
def latchKeep (g : Nat) (s : State) : State :=
  let d := loopDie g
  let e := engOf s d
  let snap : LatchSnap := ⟨g, s.clk.tb0, loopOf s g, rd s (Reg.LP_LOOP_STAT g), e.wait.contains (g % 64)⟩
  let s := engSet s d { e with snaps := (e.snaps.filter fun x => decide (x.at0 = s.clk.tb0 ∧ x.g ≠ g)) ++ [snap] }
  loopLatch g s

/-- LOOP_LATCH (R236): at a sample instant of the loop. -/
def effLoopLatch (g : Nat) (s : State) : State := if loopDue s g then latchKeep g s else s

/-- Is this event one that the latch of loop `g` raised in this tick? -/
def latchEv (s : State) (g : Nat) (e : Ev) : Bool :=
  decide (e.tick = s.clk.tb0 ∧ e.unit = loopDie g ∧ (e.code = 0x0406 ∨ e.code = 0x0407 ∨ e.code = 0x0408 ∨ e.code = 0x040A)
    ∧ bits e.p0 5 0 = g % 64)

/-- A latch of this tick is made again on what has come before it at the same instant (R31, R39, Table 08-10): the loop as it stood,
a request received since, and no record of the first judgement. -/
def relatchOne (y : LatchSnap) (s : State) : State :=
  let x := loopOf s y.g
  let d := loopDie y.g
  if y.at0 = s.clk.tb0 && (match x.per with | some p => decide (p.pc = 0) && !p.done | none => false) then
    let s := { s with log := { s.log with raised := s.log.raised.filter fun e => !latchEv s y.g e } }
    let s := wr s (Reg.LP_LOOP_STAT y.g) y.stat
    let e := engOf s d
    let w := if y.waited && !e.wait.contains (y.g % 64) then e.wait ++ [y.g % 64] else e.wait
    let s := wrB (engSet s d { e with wait := w }) (Reg.LP_ENG_STAT d) 8 (!w.isEmpty)
    loopLatch y.g (loopSet s y.g { y.st with req := if x.req.isSome then x.req else y.st.req })
  else s

/-- The latches of loop die `d` in this tick, made again (Table 08-10). -/
def relatch (d : Nat) (s : State) : State := forEach (engOf s d).snaps relatchOne s

/-- The write of LP_LOOP_MODE_REQ (R235, R237): always OK with its key and one action. -/
def opModeReq (p : PortId) (g act : Nat) : WOp := wOk fun s => relatch (loopDie g) (portMark 1 g (loopRequest g act (requesterCode p) s))

/-- MODE_REQ_MANUAL (R235): the writing port and the loop. -/
def execModeReqManual (p : PortId) (g : Nat) (s : State) : Host.Outcome State Fault Refusal :=
  guardIx g 256 (run (ownerWrite p (Reg.LP_LOOP_MODE_REQ g) (opModeReq p g 1)) s)
/-- MODE_REQ_AUTO (R235): the writing port and the loop. -/
def execModeReqAuto (p : PortId) (g : Nat) (s : State) : Host.Outcome State Fault Refusal :=
  guardIx g 256 (run (ownerWrite p (Reg.LP_LOOP_MODE_REQ g) (opModeReq p g 2)) s)
/-- MODE_REQ_REARM (R235): the writing port and the loop. -/
def execModeReqRearm (p : PortId) (g : Nat) (s : State) : Host.Outcome State Fault Refusal :=
  guardIx g 256 (run (ownerWrite p (Reg.LP_LOOP_MODE_REQ g) (opModeReq p g 4)) s)

/-- LOOP_LATCH (R236): the loop. -/
def execLoopLatch (g : Nat) (s : State) : Host.Outcome State Fault Refusal := guardIx g 256 (run (effLoopLatch g) s)

/-! ### Completion (R218) -/

/-- A span of TB1 ticks in TB0 ticks at the rate in force (R104). -/
def tb1To0 (s : State) (d : Nat) : Nat := d * accMod / ((accMod : Int) + s.clk.rate).toNat

/-- Show a slack (R218, R219): the last, and the least of the loop and of the die. -/
def slackShow (g v : Nat) (s : State) : State :=
  let s := wrN s (Reg.LP_LOOP_SLACK g) v
  let s := wrN s (Reg.LP_LOOP_MIN_SLACK g) (min v (rdN s (Reg.LP_LOOP_MIN_SLACK g)))
  wrN s (Reg.LP_ENG_MIN_SLACK (loopDie g)) (min v (rdN s (Reg.LP_ENG_MIN_SLACK (loopDie g))))

/-- LOOP_PERIOD_COMPLETE (R218): the last charged steps of a period are done, before its commit instant. -/
def effLoopPeriodComplete (g : Nat) (s : State) : State :=
  match (loopOf s g).per with
  | none => s
  | some p =>
    if !p.done && decide (p.pc = progLen s g) && engPick s g p && !reached s.clk.tb1 p.commit then
      let s := loopSet s g { loopOf s g with per := some { p with done := true } }
      slackShow g (min 0xFFFFFFFF (tb1To0 s (p.commit - s.clk.tb1).toNat)) s
    else s

/-- LOOP_PERIOD_COMPLETE (R218): the loop. -/
def execLoopPeriodComplete (g : Nat) (s : State) : Host.Outcome State Fault Refusal :=
  guardIx g 256 (run (effLoopPeriodComplete g) s)

/-! ### Commit (R213, R214, R219, R240 to R244) -/

/-- Merge flags (R214): one that goes from 0 to 1 logs LOOP_FLAG. -/
def loopFlags (g fl : Nat) (s : State) : State :=
  let old := rdN s (Reg.LP_LOOP_FLAGS g)
  let new := fl &&& (0x1FF ^^^ (old &&& 0x1FF))
  let s := hwMark (Reg.LP_LOOP_FLAGS g) fl (wrN s (Reg.LP_LOOP_FLAGS g) (old ||| fl))
  if new = 0 then s else raiseN 0x0404 (loopDie g) (g % 64 + new * 0x10000) 0 s

/-- A limited value (R214). -/
def loopLimit (s : State) (g : Nat) (v : Int) : Int :=
  max (rdI s (Reg.LP_LOOP_LIM_LO g)) (min (rdI s (Reg.LP_LOOP_LIM_HI g)) v)

/-- The target of a balance period and the value its limit is judged against (R214, Table 09-3). -/
def balanceTarget (s : State) (g : Nat) (p : LoopPer) : Option (Int × Int) :=
  let x := loopOf s g
  let prev := x.outs.getD 0 0
  match loopState s g with
  | 1 => some (loopLimit s g p.man, p.man)
  | 2 =>
    if devState s = 4 then let v := rdI s (Reg.LP_LOOP_SAFE_VAL g); some (loopLimit s g v, v)
    else if x.entered && x.lastRegion.isSome then some (prev, prev)
    else if !loop5200 s g ∧ x.lastRegion.isSome ∧ x.lastRegion ≠ some (loopRegion s g) then some (prev, prev)
    else none
  | _ => none

/-- The level of a TRACK step nearest a target, ties to the lower (R244). -/
def trackLevel (s : State) (g : Nat) (t : LoopTrack) (tgt : Int) : Nat :=
  (List.range t.nl).foldl (fun m i =>
    if (cfC s g t.rgn (t.k + i) - tgt).natAbs < (cfC s g t.rgn (t.k + m) - tgt).natAbs then i else m) 0

/-- The effect of a balance on the pending writes (R241, R243, R244). -/
def balance (s : State) (g : Nat) (tgt : Int) (p : LoopPer) : LoopPer :=
  let u := p.outs.getD 0 0
  let p := match p.bal with
    | none => p
    | some b =>
      let raw := b.acc + tgt - u
      let acc1 := min (max (sat32 raw) b.lo) b.hi
      flagIf (decide (acc1 ≠ raw)) fISAT (putZ b.zi acc1 p)
  let p := p.tracks.foldl (fun q t => putZ t.zi (trackLevel s g t tgt) q) p
  { p with lrn := [], lrnSat := [] }

/-- The committed value of state word `zi` (R213). -/
def pendZ (s : State) (g : Nat) (p : LoopPer) (zi : Nat) : Int :=
  match p.zs.find? fun x => decide (x.1 = zi) with
  | some x => x.2
  | none => loopZ s g zi

/-- The alarm of a TIMER ALARM step after its commit (R260, R261); in HOLD none is due (R258). -/
def alarmCommit (s : State) (g : Nat) (p : LoopPer) (tm : LoopTimer) : LoopAlarm :=
  let a : LoopAlarm := ((loopOf s g).alarms.find? fun a => decide (a.step = tm.step)).getD
    { step := tm.step, zi := tm.zi, below := false, due := none, raised := false }
  let t := pendZ s g p tm.zi
  let limit := cfC s g tm.rgn tm.k
  let raised := a.raised && decide (t ≠ 0)
  let due := if loopState s g = 3 then none else if a.due.isNone && !raised && a.below && decide (t ≥ limit) then some [] else a.due
  { a with zi := tm.zi, below := decide (t < limit), due := due, raised := raised }

/-- Does a binding word name entry `e` of die `d` (R282, R315, R320): enabled, DIE and ENTRY? -/
def bindsTo (w : Word) (d e : Nat) : Bool := bit w 31 && decide (bits w 26 24 = d ∧ bits w 10 0 = e)

/-- A committed output sets out for every drive channel bound to it (R34): it is actuated 20 µs after the commit; an auxiliary speed
arrives one period after it (R32, R320). -/
def driveSend (d e : Nat) (c : Tick) (T : Nat) (v : Int) (s : State) : State :=
  let vs := (List.range 24).filter fun x => bindsTo (rd s (Reg.DR_VCH_BIND x)) d e
  let ms := (List.range 16).filter fun x => bindsTo (rd s (Reg.DR_MOT_BIND x)) d e
  let as := (List.range 16).filter fun x => bindsTo (rd s (Reg.DR_MOT_AUX x)) d e
  let mk := fun (mot : Bool) (x : Nat) => ({ mot := mot, x := x, at1 := c + 2000, value := v } : PendAct)
  let s := { s with drv := { s.drv with acts := s.drv.acts ++ vs.map (mk false) ++ ms.map (mk true) } }
  forEach as (fun x s =>
    let m := tget motInit s.drv.mot x
    let l := m.aux.drop (m.aux.length - 3) ++ [(c + BitVec.ofNat 64 (T * 100), v)]
    { s with drv := { s.drv with mot := tput motInit s.drv.mot x { m with aux := l } } }) s

/-- The outputs of a commit enter the signal table and leave for the drive channels (R34, R213, R214, Table 08-9 step 4). -/
def loopOutputs (g : Nat) (p : LoopPer) (outs : List Int) (s : State) : State :=
  forEach (List.range 4) (fun j s =>
    let w := rd s (Reg.LP_LOOP_OUT g j)
    if bit w 31 then
      let v := outs.getD j 0
      let s := produce (loopDie g) (bits w 10 0) (i32 v) (w32 (p.commit.toNat / 100)) (loopT s g) p.commit s
      driveSend (loopDie g) (bits w 10 0) p.commit (loopT s g) v s
    else s) s

/-- The commit of a completed period (R213, R214, R234, R238, R240 to R244, R250, R257, R260). -/
def loopCommit (g : Nat) (p : LoopPer) (s : State) : State :=
  let x := loopOf s g
  let st := loopState s g
  let reg := loopRegion s g
  let tgt := balanceTarget s g p
  let p := match tgt with | some (t, _) => balance s g t p | none => p
  let p := if st = 1 then p.timers.foldl (fun q t => putZ t.zi 0 q) p else p
  let u := p.outs.getD 0 0
  let val := match tgt with
    | some (t, _) => t
    | none => if st = 3 then (if rdB s (Reg.LP_LOOP_CFG g) 29 then rdI s (Reg.LP_LOOP_SAFE_VAL g) else x.outs.getD 0 0) else u
  let judged := match tgt with | some (_, j) => j | none => val
  let o0 := loopLimit s g val
  let osat := decide (o0 ≠ judged)
  let outs := p.outs.set 0 o0
  let p := flagIf (!p.lrnSat.isEmpty) fLSAT (flagIf osat fOSAT p)
  let alarms := p.timers.map fun t => alarmCommit s g p t
  let frz := rd s (Reg.LP_LOOP_FRZ g)
  let win := if st = 2 ∧ bit frz 31 then
      let l := x.win ++ [(p.ins.getD (bits frz 26 24) 0, o0)]
      l.drop (l.length - bits frz 23 16)
    else x.win
  let s := loopSet s g { x with
    per := none, win := win, entered := false, lastRegion := some reg, lim := osat, outs := outs, alarms := alarms }
  let s := forEach p.zs (fun z s => wrI s (Reg.LP_LOOP_Z g z.1) z.2) s
  let s := forEach p.lrn (fun z s => wrI s (lrnAddr s g z.1) z.2) s
  let s := match p.region with
    | none => s
    | some (r, a) =>
      if r = reg then s
      else raise 0x0409 (loopDie g) (w32 (g % 64 + r * 256 + reg * 4096)) (i32 a) (wrF s (Reg.LP_LOOP_STAT g) 26 24 r)
  let s := loopFlags g p.flags s
  let s := loopOutputs g p outs s
  if st = 1 then s else wrI s (Reg.LP_LOOP_MANVAL g) o0

/-- An overrun (R219): the period is abandoned; `extra` is how many charged steps outside the program the engine had finished. -/
def loopOverrun (g extra : Nat) (p : LoopPer) (s : State) : State :=
  let d := loopDie g
  let l := g % 64
  let charged := if p.pc = 0 then min extra 4 else if p.pc = progLen s g then 4 + p.pc + min extra 3 else 4 + p.pc
  let s := loopSet s g { loopOf s g with per := none }
  let s := loopFlags g fOVR s
  let s := count16 (Reg.LP_LOOP_OVR_CNT g) s
  let s := count16 (Reg.LP_ENG_OVR_CNT d) s
  let s := if l < 32 then hwSet s (Reg.LP_ENG_OVR_LO d) l else hwSet s (Reg.LP_ENG_OVR_HI d) (l - 32)
  let s := slackShow g 0 s
  raiseN 0x0401 d l charged s

/-- LOOP_COMMIT (R213, R219): at the commit instant, a period that has completed commits, any other is abandoned. -/
def effLoopCommit (g extra : Nat) (s : State) : State :=
  match (loopOf s g).per with
  | none => s
  | some p =>
    if reached s.clk.tb1 p.commit then (if p.done then loopCommit g p s else loopOverrun g extra p s) else s

/-! ### Coefficient tuning (R231, R232) -/

/-- The bytes of the coefficient memory of loop die `d` (Table 08-1). -/
def coefBytes (s : State) (d : Nat) : List Host.Cell :=
  s.mem.filter fun c => decide (dieAt d 0x900000 ≤ c.1 ∧ c.1 < dieAt d 0x910000)

/-- Is this the address of a coefficient word? -/
def isCoef (addr : Nat) : Bool :=
  decide (1 ≤ dieOf addr ∧ dieOf addr ≤ 4 ∧ 0x900000 ≤ addr % winSize ∧ addr % winSize < 0x910000)

/-- An owner write of coefficient memory (R231): the staged copy; a shift word keeps its five bits (Table 08-1). -/
def opCoefWrite (addr : Nat) (w : Word) : WOp :=
  wOk fun s => wr s addr (if addr / 4 % 2 = 1 then w &&& 0x1F else w)

/-- COEF_WRITE (R231): the writing port, the address and the word. -/
def execCoefWrite (p : PortId) (addr : Nat) (w : Word) (s : State) : Host.Outcome State Fault Refusal :=
  guardIx (b2n (!isCoef addr)) 1 (run (ownerWrite p addr (opCoefWrite addr w)) s)

/-- The words that differ between two copies of a coefficient memory (R232). -/
def coefChanged (a b : List Host.Cell) : Nat :=
  let l := ((a ++ b).map fun c => wordBase c.1).eraseDups
  (l.filter fun i => decide (cellWord memDefault a i ≠ cellWord memDefault b i)).length

/-- COEF_APPLY on loop die `d` (R231, R232). -/
def coefApply (port d : Nat) (s : State) : State :=
  let new := coefBytes s d
  let n := coefChanged new (engOf s d).applied
  let w := (List.range 64).filter fun l => loopLatches s ((d - 1) * 64 + l)
  let s := engSet s d { engOf s d with applied := new, wait := w }
  raiseN 0x0405 d n port (wrB s (Reg.LP_ENG_STAT d) 8 (!w.isEmpty))

/-- The owner write of LP_ENG_CTRL with COEF_APPLY (R231). -/
def opCoefApply (p : PortId) (d : Nat) : WOp := wOk fun s => relatch d (coefApply (portCode p) d s)

/-- COEF_APPLY (R231): the writing port and the loop die LP`i`. -/
def execCoefApply (p : PortId) (i : Nat) (s : State) : Host.Outcome State Fault Refusal :=
  guardIx i 4 (run (ownerWrite p (Reg.LP_ENG_CTRL (i + 1)) (opCoefApply p (i + 1))) s)

/-! ### Reads that latch -/

/-- SIGNAL_ENTRY_READ (R221): a port's read of w0 of entry `e` of die `d` latches w1 and w2. -/
def effSignalEntryRead (p : PortId) (d e : Nat) (s : State) : State :=
  let a := sigAddr d e
  latchPut p (a + 8) (rd s (a + 8)) (latchPut p (a + 4) (rd s (a + 4)) s)

/-- SIGNAL_ENTRY_READ (R221): the port, the die and the entry. -/
def execSignalEntryRead (p : PortId) (d e : Nat) (s : State) : Host.Outcome State Fault Refusal :=
  guardIx d 5 (guardIx e (sigCount d) (run (portAct p (sigAddr d e) (effSignalEntryRead p d e)) s))

/-- LOOP_Z_READ (R213): a port's read of Z0 latches Z1 to Z15. -/
def effLoopZRead (p : PortId) (g : Nat) (s : State) : State :=
  latchWords p (rd s) 15 (Reg.LP_LOOP_Z g 1) s

/-- LOOP_Z_READ (R213): the port and the loop. -/
def execLoopZRead (p : PortId) (g : Nat) (s : State) : Host.Outcome State Fault Refusal :=
  guardIx g 256 (run (portAct p (Reg.LP_LOOP_Z g 0) (effLoopZRead p g)) s)

/-! ### Start (R209, R215, R227, R228) -/

/-- Do the programs' steps break R211, R239 or R244? -/
def progBad (s : State) (g : Nat) : Bool :=
  let l := (List.range (progLen s g)).map fun n => (stepHi s g n, stepLo s g n)
  let bals := (l.filter fun x => isBal x.1).length
  (l.any fun x => !stepEncOk x.1 x.2) || decide (bals ≥ 2) || (decide (bals ≥ 1) && l.any fun x => isTrack x.1)

/-- Do two learning allocations overlap? -/
def lrnOverlap (s : State) (g h : Nat) : Bool :=
  decide (lrnLen s g ≠ 0 ∧ lrnLen s h ≠ 0 ∧ lrnBase s g < lrnBase s h + lrnLen s h ∧ lrnBase s h < lrnBase s g + lrnLen s g)

/-- Is an item of a drive die one that R312 defines? -/
def driveItemOk (i : Nat) : Bool := decide (i ≤ 37 ∨ (64 ≤ i ∧ i ≤ 95))

/-- Does an input or output of loop `g` name a wrong entry (Table 08-13 reason 6, R312)? -/
def loopSigBad (s : State) (g : Nat) : Bool :=
  let d := loopDie g
  ((List.range 8).any fun i =>
    let w := rd s (Reg.LP_LOOP_IN g i)
    let e := bits w 10 0
    bit w 31 && (decide (sigKind s d e = 0)
      || (decide (sigKind s d e = 4 ∧ (sigSrcDie s d e = 5 ∨ sigSrcDie s d e = 6)) && !driveItemOk (sigSrc s d e)))) ||
  ((List.range 4).any fun j =>
    let w := rd s (Reg.LP_LOOP_OUT g j)
    let e := bits w 10 0
    bit w 31 && !(decide (sigKind s d e = 3 ∧ sigSrc s d e % 256 = g % 64 * 4 + j)))

/-- The first start check reason of Table 08-13 that a slot fails, 0 for none (R227). -/
def loopCheck (s : State) (g : Nat) : Nat :=
  let T := loopT s g
  let frz := rd s (Reg.LP_LOOP_FRZ g)
  if progBase s g + progLen s g > 8192 then 1
  else if progBad s g then 2
  else if T < 100 ∨ T > 600000000 ∨ loopPhase s g = 0 ∨ T ≤ loopPhase s g then 3
  else if loopRstride s g = 0 ∨ coefBase s g + loopNreg s g * loopRstride s g > 8192 then 4
  else if lrnBase s g + lrnLen s g > 16384 ∨ ((List.range 64).any fun l =>
      let h := (loopDie g - 1) * 64 + l
      decide (h ≠ g) && rdB s (Reg.LP_LOOP_CFG h) 31 && lrnOverlap s g h) then 5
  else if loopSigBad s g then 6
  else if rdI s (Reg.LP_LOOP_LIM_LO g) > rdI s (Reg.LP_LOOP_LIM_HI g)
      ∨ (bit frz 31 ∧ (!rdB s (Reg.LP_LOOP_IN g (bits frz 26 24)) 31 ∨ bits frz 23 16 < 2)) then 7
  else 0

/-- The start check of one slot (R227). -/
def loopStartCheck (g : Nat) (s : State) : State :=
  if rdB s (Reg.LP_LOOP_CFG g) 31 then
    let r := loopCheck s g
    if r = 0 then s else raiseN 0x0403 (loopDie g) (g % 64) r (wrF s (Reg.LP_LOOP_STAT g) 3 0 5)
  else s

/-- The start check of one export record (R222, R228): a record not in force is disabled. -/
def expStartCheck (d i : Nat) (s : State) : State :=
  if rdB s (expAddr d i) 31 ∧ !exportOk s d i then raiseN 0x0403 d i 8 (wrB s (expAddr d i) 31 false) else s

/-- The step load of a die (R215): the sum over enabled slots of (PROG_LEN + 8) ÷ T, in steps/s, rounded up; slots with a
PERIOD of 0 add nothing. -/
def stepLoad (s : State) (d : Nat) : Nat :=
  let l := (List.range 64).filter fun i =>
    rdB s (Reg.LP_LOOP_CFG ((d - 1) * 64 + i)) 31 && decide (loopT s ((d - 1) * 64 + i) ≠ 0)
  let q : Rat := l.foldl (fun a i => let g := (d - 1) * 64 + i; a + ((progLen s g + 8) * 1000000 : Nat) / (loopT s g : Nat)) 0
  (-(Int.fdiv (-q.num) q.den)).toNat

/-- The loop checks of step 9 on one die (R215, R227, R228). -/
def loopDieCheck (d : Nat) (s : State) : State :=
  let s := forEach (List.range 64) (fun l => loopStartCheck ((d - 1) * 64 + l)) s
  let s := forEach (List.range 512) (expStartCheck d) s
  wrN s (Reg.LP_ENG_LOAD d) (stepLoad s d)

/-- Loops start on one die at step 11 (R209, R231, R232): both coefficient copies are the image's. -/
def loopDieStart (d : Nat) (s : State) : State :=
  let c := coefBytes s d
  let s := engSet s d { applied := c, wait := [], snaps := [] }
  let s := forEach (List.range 64) (fun l s =>
    let g := (d - 1) * 64 + l
    if rdB s (Reg.LP_LOOP_CFG g) 31 then loopSet s g { loopInit g with coef := c, req := (loopOf s g).req } else s) s
  wrB s (Reg.LP_ENG_STAT d) 0 true

end Sys2Proof.Machine
end

