-- ==== Sys2Proof/Machine/Thermo.lean ====
section
/-!
DEFINITION. The thermocouple reference functions that R131 names (ITS-90, IEC 60584-1) and their inverse. The spec prints no coefficient:
those below are the standard's own, PRESUMED (log entry 4), in millivolts times 10^60 by rising powers of the temperature in °C.
-/
namespace Sys2Proof.Machine

/-- Type J from -210 °C to 760 °C. -/
def tcJ0 : List Int :=
  [0, 50381187815 * 10 ^ 48, 3047583693 * 10 ^ 46, -8568106572 * 10 ^ 43, 13228195295 * 10 ^ 40,
   -17052958337 * 10 ^ 37, 20948090697 * 10 ^ 34, -12538395336 * 10 ^ 31, 15631725697 * 10 ^ 27]

/-- Type J from 760 °C to 1,200 °C. -/
def tcJ1 : List Int :=
  [29645625681 * 10 ^ 52, -14976127786 * 10 ^ 50, 31787103924 * 10 ^ 47, -31847686701 * 10 ^ 44,
   15720819004 * 10 ^ 41, -30691369056 * 10 ^ 37]

/-- Type K below 0 °C. -/
def tcK0 : List Int :=
  [0, 39450128025 * 10 ^ 48, 23622373598 * 10 ^ 45, -32858906784 * 10 ^ 43, -49904828777 * 10 ^ 41,
   -67509059173 * 10 ^ 39, -57410327428 * 10 ^ 37, -31088872894 * 10 ^ 35, -10451609365 * 10 ^ 33,
   -19889266878 * 10 ^ 30, -16322697486 * 10 ^ 27]

/-- Type K from 0 °C, but for its exponential term. -/
def tcK1 : List Int :=
  [-17600413686 * 10 ^ 48, 38921204975 * 10 ^ 48, 18558770032 * 10 ^ 45, -99457592874 * 10 ^ 42,
   31840945719 * 10 ^ 40, -56072844889 * 10 ^ 37, 56075059059 * 10 ^ 34, -32020720003 * 10 ^ 31,
   97151147152 * 10 ^ 27, -12104721275 * 10 ^ 24]

/-- Type T below 0 °C. -/
def tcT0 : List Int :=
  [0, 38748106364 * 10 ^ 48, 44194434347 * 10 ^ 45, 11844323105 * 10 ^ 43, 20032973554 * 10 ^ 42,
   90138019559 * 10 ^ 40, 22651156593 * 10 ^ 39, 36071154205 * 10 ^ 37, 38493939883 * 10 ^ 35, 28213521925 * 10 ^ 33,
   14251594779 * 10 ^ 31, 48768662286 * 10 ^ 28, 1079553927 * 10 ^ 27, 13945027062 * 10 ^ 23, 79795153927 * 10 ^ 19]

/-- Type T from 0 °C. -/
def tcT1 : List Int :=
  [0, 38748106364 * 10 ^ 48, 3329222788 * 10 ^ 46, 20618243404 * 10 ^ 43, -21882256846 * 10 ^ 41,
   10996880928 * 10 ^ 39, -30815758772 * 10 ^ 36, 4547913529 * 10 ^ 34, -27512901673 * 10 ^ 30]

/-- Type N below 0 °C. -/
def tcN0 : List Int :=
  [0, 26159105962 * 10 ^ 48, 10957484228 * 10 ^ 45, -93841111554 * 10 ^ 42, -46412039759 * 10 ^ 39,
   -26303357716 * 10 ^ 38, -22653438003 * 10 ^ 36, -76089300791 * 10 ^ 33, -93419667835 * 10 ^ 30]

/-- Type N from 0 °C. -/
def tcN1 : List Int :=
  [0, 25929394601 * 10 ^ 48, 1571014188 * 10 ^ 46, 43825627237 * 10 ^ 42, -25261169794 * 10 ^ 40,
   64311819339 * 10 ^ 37, -10063471519 * 10 ^ 35, 99745338992 * 10 ^ 31, -60863245607 * 10 ^ 28,
   20849229339 * 10 ^ 25, -30682196151 * 10 ^ 21]

/-- A polynomial at `q`, Q16.16 °C. -/
def tcPoly (cs : List Int) (q : Int) : Int := cs.foldr (fun c a => c + a * q / 65536) 0

/-- exp (-x) in units of 2^-96, `x` in the same units: the series of exp (-x / 256), squared eight times. -/
def expNeg (x : Nat) : Nat :=
  let one := 2 ^ 96
  let y := x / 256
  let e := (List.range 30).foldr (fun k a => one - y * a / ((k + 1) * one)) one
  (List.range 8).foldl (fun a _ => a * a / one) e

/-- The exponential term of type K from 0 °C: 0.1185976 exp (-0.0001183432 (t - 126.9686)²) mV. -/
def tcKExp (q : Int) : Int :=
  let u := (q * 10000 - 1269686 * 65536).natAbs
  1185976 * 10 ^ 53 * (expNeg (1183432 * (u * u) * 2 ^ 96 / (10 ^ 10 * (655360000 * 655360000))) : Int) / 2 ^ 96

/-- The reference function of a thermocouple mode (Table 05-1) at `q`, Q16.16 °C, in millivolts times 10^60. -/
def tcMv (m : Nat) (q : Int) : Int :=
  if m = 4 then tcPoly (if q < 760 * 65536 then tcJ0 else tcJ1) q
  else if m = 5 then (if q < 0 then tcPoly tcK0 q else tcPoly tcK1 q + tcKExp q)
  else if m = 6 then tcPoly (if q < 0 then tcT0 else tcT1) q
  else tcPoly (if q < 0 then tcN0 else tcN1) q

/-- The ends of the reference function of a mode, in °C: outside them the standard gives no value. -/
def tcEnds (m : Nat) : Int × Int :=
  if m = 4 then (-210, 1200) else if m = 5 then (-270, 1372) else if m = 6 then (-270, 400) else (-270, 1300)

/-- E_type (R131) at a cold junction of `q`, Q16.16 °C, in millivolts times 10^60: a free value outside the reference function. -/
def tcEmfAt (m : Nat) (q : Int) : Int :=
  if (tcEnds m).1 * 65536 ≤ q ∧ q ≤ (tcEnds m).2 * 65536 then tcMv m q else Config.tcEmf m q * 10 ^ 54

/-- The greatest `lo` + i, i below 2^k, not above `hi`, at which the reference function does not exceed `e`. -/
def tcSeek (m : Nat) (e hi : Int) : Nat → Int → Int
  | 0, lo => lo
  | k + 1, lo => let t := lo + 2 ^ k; tcSeek m e hi k (if t ≤ hi ∧ tcMv m t ≤ e then t else lo)

/-- The inverse of E_type (R131) at `e`, Q16.16 °C to nearest, between one degree below and one above the valid range `r`; beyond
that the ends stand for it. -/
def tcInverse (m : Nat) (r : Int × Int) (e : Int) : Int :=
  let lo := r.1 - 65536
  let hi := r.2 + 65536
  let t := tcSeek m e hi 28 lo
  if 2 * e ≥ tcMv m t + tcMv m (t + 1) then min hi (t + 1) else t

/-- E of a thermocouple (R131): the inverse at `e`, with an error of the device's own of at most 0.02 °C (1,311 units of 2^-16 with the
rounding), which is free (log entry 4). -/
def tcTemp (m : Nat) (r : Int × Int) (e : Int) : Int :=
  tcInverse m r e + max (-1311) (min 1311 (Config.tcErr m e))

end Sys2Proof.Machine
end

