-- ==== Sys2Proof/Machine/Sense.lean ====
section
/-!
DEFINITION. The sensing front end (chapter 5): analog inputs, probe channels and pulse inputs, with their start checks.
-/
namespace Sys2Proof.Machine

/-- Do the loop dies, the drive dies and the network run (Table 03-13): RUN or TRIAL, or SAFE with an image loaded? -/
def running (s : State) : Bool := s.boot.loaded && decide (devState s = 2 ∨ devState s = 3 ∨ devState s = 4)

/-- Is V5 good (R46)? -/
def v5Good (s : State) : Bool := rdB s Reg.SV_PWR_STAT 1

/-- The TB0 tick of the present TB3 instant. -/
def tb3At0 (s : State) : Tick := s.clk.tb0 - BitVec.ofNat 64 (tb1To0 s (s.clk.tb1.toNat - tb3 s))
/-- The present TB3 instant in TB1. -/
def tb3Tick (s : State) : Tick := BitVec.ofNat 64 (tb3 s)

/-- Is the local sample period of input `k` over at TB1 instant `t` (R108, R126; SenseSt.ends)? -/
def inDue (s : State) (k : Nat) (t : Tick) : Bool :=
  let e := tget (fun _ => (0 : Tick)) s.sense.ends k
  decide (e = 0) || reached t e
/-- A sample period of `T` µs of input `k` begins at TB1 instant `t`. -/
def inBegin (k T : Nat) (t : Tick) (s : State) : State :=
  { s with sense := { s.sense with ends := tput (fun _ => (0 : Tick)) s.sense.ends k (t + BitVec.ofNat 64 (T * 100)) } }

/-- A sensing result is written to its entry (R29, R126, R127): only an entry declared with this input as its source takes it;
any other discards it, with DEST_ERR (bit `errBit` of `stat`) and SIG_DEST_ERR. The first part says whether it was written. -/
def senseWrite (d dest src kind loc stat errBit : Nat) (v : Int) (at1 : Tick) (T : Nat) (s : State) : Bool × State :=
  if sigKind s d dest = 1 ∧ sigSrc s d dest = src then
    (true, produce d dest (i32 v) (w32 (at1.toNat / 100)) T s.clk.tb1 s)
  else (false, raiseN 0x0207 d (kind * 0x10000 + loc) dest (hwSet s stat errBit))

/-- Was V5 good throughout a sampling interval that began at TB0 tick `t` (R128)? -/
def v5Held (s : State) (t : Tick) : Bool := v5Good s && !laterN 64 s.pwr.v5At.toNat t.toNat

/-! ### Analog inputs (R129 to R134) -/

/-- The loop die of analog input `x` (0 to 63), as a die index. -/
def ainDie (x : Nat) : Nat := 1 + x / 16
/-- MODE of an analog input (Table 05-1). -/
def ainMode (s : State) (x : Nat) : Nat := rdF s (Reg.LP_AIN_CFG x) 19 16
/-- Is the mode an RTD mode? -/
def isRtd (m : Nat) : Bool := decide (1 ≤ m ∧ m ≤ 3)
/-- Is the mode a thermocouple mode? -/
def isTc (m : Nat) : Bool := decide (4 ≤ m ∧ m ≤ 7)
/-- The fault code in force (Table 05-3). -/
def ainCode (s : State) (x : Nat) : Nat := rdF s (Reg.LP_AIN_STAT x) 3 0
/-- The conversion time of a filter code in µs (Table 05-2), none for a reserved code. -/
def filtUs (c : Nat) : Option Nat := [100000, 20000, 16667, 2000][c]?
/-- The delivery time of a filter code in µs (R130). -/
def ainDelivery (s : State) (x : Nat) : Nat := (filtUs (rdF s (Reg.LP_AIN_CFG x) 15 12)).getD 0 + 100

/-- Does an analog input break R129, R130 or R498? -/
def ainCfgBad (s : State) (x : Nat) : Bool :=
  let c := rd s (Reg.LP_AIN_CFG x)
  let m := bits c 19 16
  let T := rdN s (Reg.LP_AIN_PERIOD x)
  let r := rdF s (Reg.LP_AIN_RTD x) 19 0
  let partnerOn := decide (rdF s (Reg.LP_AIN_CFG (x + 1)) 19 16 ≠ 0)
  decide (m ≥ 11) || (decide (m = 3) && (decide (x % 2 = 1) || partnerOn)) || (filtUs (bits c 15 12)).isNone
    || decide (T < 10000 ∨ T > 600000000 ∨ T ≤ rdN s (Reg.LP_AIN_PHASE x)) || decide (T < ainDelivery s x + 1000)
    || (isRtd m && decide (bits c 11 10 = 3 ∨ r < 10000 ∨ r > 1000000))

/-- An analog input's fault code changes (R134): logged. -/
def ainFault (x code : Nat) (s : State) : State :=
  if ainCode s x = code then s
  else
    let s := wrF s (Reg.LP_AIN_STAT x) 3 0 code
    raiseN 0x0201 (ainDie x) (code * 0x10000 + x % 16) (rdN s (Reg.LP_AIN_RAW x)) s

/-- The start check of an analog input (R129, R130, R498). -/
def ainStartCheck (x : Nat) (s : State) : State :=
  if rdB s (Reg.LP_AIN_CFG x) 20 ∧ ainCfgBad s x then ainFault x 7 s else s

/-- Is an analog input active? -/
def ainOn (s : State) (x : Nat) : Bool :=
  running s && rdB s (Reg.LP_AIN_CFG x) 20 && decide (ainMode s x ≠ 0 ∧ ainCode s x ≠ 7)

/-- AIN_SAMPLE (R125): the sample instant of an analog input begins its conversion. -/
def effAinSample (x : Nat) (s : State) : State :=
  if ainOn s x && onGrid s (rdN s (Reg.LP_AIN_PERIOD x)) (rdN s (Reg.LP_AIN_PHASE x)) && inDue s x (tb3Tick s) then
    let s := inBegin x (rdN s (Reg.LP_AIN_PERIOD x)) (tb3Tick s) s
    let rest := s.sense.ain.filter fun y => decide (y.1 ≠ x)
    { s with sense := { s.sense with ain := rest ++ [(x, { at1 := tb3Tick s, at0 := tb3At0 s })] } }
  else s

/-- AIN_SAMPLE (R125): the analog input, 0 to 63. -/
def execAinSample (x : Nat) (s : State) : Host.Outcome State Fault Refusal := guardIx x 64 (run (effAinSample x) s)

/-- The integer square root, rounded down, by binary digits from `k` down. -/
def isqrtGo (n : Nat) : Nat → Nat → Nat
  | 0, r => r
  | k + 1, r => let t := r + 2 ^ k; isqrtGo n k (if t * t ≤ n then t else r)
/-- The integer square root, rounded down. -/
def isqrt (n : Nat) : Nat := isqrtGo n (Nat.log2 n / 2 + 1) 0
/-- The integer square root, rounded up. -/
def isqrtUp (n : Nat) : Nat := let r := isqrt n; if r * r = n then r else r + 1

/-- A number p + q √D, D fixed (R131: exact arithmetic). -/
structure Surd where
  p : Rat
  q : Rat
  deriving DecidableEq, Repr

/-- Sum of p + q √D. -/
def surdAdd (x y : Surd) : Surd := ⟨x.p + y.p, x.q + y.q⟩
/-- Product of p + q √D. -/
def surdMul (D : Rat) (x y : Surd) : Surd := ⟨x.p * y.p + x.q * y.q * D, x.p * y.q + x.q * y.p⟩
/-- Quotient of p + q √D. -/
def surdDiv (D : Rat) (x y : Surd) : Surd :=
  let n := y.p * y.p - y.q * y.q * D
  surdMul D x ⟨y.p / n, -y.q / n⟩
/-- A rational as p + q √D. -/
def surdOf (r : Rat) : Surd := ⟨r, 0⟩
/-- p + q √D rounded down. -/
def surdFloor (D : Rat) (x : Surd) : Int :=
  let w := x.q * x.q * D
  let K := x.p.den * w.den
  let U := x.p.num * (w.den : Int)
  let W := w.num.toNat * w.den * x.p.den * x.p.den
  if x.q ≥ 0 then Int.fdiv (U + (isqrt W : Int)) K else Int.fdiv (U - (isqrtUp W : Int)) K
/-- p + q √D to nearest, ties away from zero. -/
def surdRound (D : Rat) (x : Surd) : Int :=
  if surdFloor D x ≥ 0 then surdFloor D ⟨x.p + 1 / 2, x.q⟩ else -(surdFloor D ⟨1 / 2 - x.p, -x.q⟩)

/-- A of R131. -/
def rtdA : Rat := 39083 / 10000000
/-- B of R131. -/
def rtdB : Rat := -5775 / 10000000000
/-- C of R131. -/
def rtdC : Rat := -4183 / 1000000000000000

/-- One Newton step on the full IEC 60751 equation below 0 °C for the ratio ρ = r ÷ RNOM (R131). -/
def rtdNewton (D rho : Rat) (x : Surd) : Surd :=
  let x2 := surdMul D x x
  let x3 := surdMul D x2 x
  let x4 := surdMul D x3 x
  let sc : Rat → Surd → Surd := fun c y => ⟨c * y.p, c * y.q⟩
  let f := surdAdd (surdOf (1 - rho)) (surdAdd (sc rtdA x) (surdAdd (sc rtdB x2) (surdAdd (sc rtdC x4) (sc (-100 * rtdC) x3))))
  let g := surdAdd (surdOf rtdA) (surdAdd (sc (2 * rtdB) x) (surdAdd (sc (4 * rtdC) x3) (sc (-300 * rtdC) x2)))
  let q := surdDiv D f g
  ⟨x.p - q.p, x.q - q.q⟩

/-- The temperature in Q16.16 °C for a resistance r and RNOM in mΩ (R131): none where no temperature exists. -/
def rtdE (r rnom : Int) : Option Int :=
  let rho : Rat := (r : Rat) / (rnom : Rat)
  let D : Rat := rtdA * rtdA - 4 * rtdB * (1 - rho)
  if D < 0 then none
  else
    let x0 : Surd := ⟨-rtdA / (2 * rtdB), 1 / (2 * rtdB)⟩
    let x := if r ≥ rnom then x0 else rtdNewton D rho (rtdNewton D rho (rtdNewton D rho (rtdNewton D rho x0)))
    some (surdRound D ⟨x.p * 65536, x.q * 65536⟩)

/-- The newest cold-junction value of a die at or before TB0 tick `t` (R133). -/
def cjAt (s : State) (d : Nat) (t : Tick) : Int :=
  match (s.sense.cj.reverse.find? fun x => decide (x.1 = d) && !laterN 64 x.2.1.toNat t.toNat) with
  | some x => x.2.2.toInt
  | none => rdI s (Reg.LP_AIN_CJ d)

/-- The valid range of a temperature mode in Q16.16 °C (R131). -/
def ainRange (m : Nat) : Int × Int :=
  let q : Int → Int := fun t => t * 65536
  if isRtd m then (q (-200), q 850)
  else if m = 4 then (q (-210), q 1200)
  else if m = 5 then (q (-200), q 1372)
  else if m = 6 then (q (-200), q 400)
  else (q (-200), q 1300)

/-- The engineering value E of a good conversion in Q16.16 (R131), from the measurement in the units of LP_AIN_RAW and the
cold-junction value; none where no temperature exists. -/
def ainE (s : State) (x : Nat) (raw tcj : Int) : Option Int :=
  let lo := rdI s (Reg.LP_AIN_LO x)
  let hi := rdI s (Reg.LP_AIN_HI x)
  let m := ainMode s x
  if isRtd m then rtdE raw (rdF s (Reg.LP_AIN_RTD x) 19 0)
  else if isTc m then some (tcTemp m (ainRange m) (raw * 10 ^ 57 + tcEmfAt m tcj))
  else if m = 8 then some (sat32 (roundAway (lo * 16000000 + (raw - 4000000) * (hi - lo)) 16000000))
  else if m = 9 then some (sat32 (roundAway (lo * 10000000 + raw * (hi - lo)) 10000000))
  else some (sat32 (roundAway (lo * 16777216 + raw * (hi - lo)) 16777216))

/-- The fault code of a conversion in the order of Table 05-3 (R134). -/
def ainJudge (s : State) (x : Nat) (raw tcj : Int) (overload opened : Bool) : Nat :=
  let m := ainMode s x
  if overload ∧ (isRtd m ∨ m = 10) then 6
  else if opened ∧ (isRtd m ∨ isTc m) then 1
  else if isRtd m ∧ 100 * raw < 15 * (rdF s (Reg.LP_AIN_RTD x) 19 0 : Int) then 2
  else if (m = 8 ∧ raw < 3600000) ∨ (m = 9 ∧ raw < -500000) ∨ (m = 10 ∧ 100 * raw < -2 * 16777216) then 3
  else if (m = 8 ∧ raw > 21000000) ∨ (m = 9 ∧ raw > 10500000) ∨ (m = 10 ∧ 100 * raw > 102 * 16777216) then 4
  else if isRtd m ∨ isTc m then
    match ainE s x raw tcj with
    | none => 5
    | some e => if e < (ainRange m).1 ∨ (ainRange m).2 < e then 5 else 0
  else 0

/-- The published value of E and whether it saturated (R132). -/
def ainScale (s : State) (x : Nat) (e : Int) : Int × Bool :=
  let p := cmulRaw e (rdI s (Reg.LP_AIN_SCALE x)) (rdF s (Reg.LP_AIN_CFG x) 9 5)
  let off := rdI s (Reg.LP_AIN_OFFSET x)
  let y := sat32 (sat32 p + off)
  (y, decide (y ≠ p + off))

/-- The conversion of an analog input is delivered (R126, R131 to R134). -/
def ainDeliver (x : Nat) (c : Conv) (meas : Int) (overload opened : Bool) (s : State) : State :=
  let d := ainDie x
  let m := ainMode s x
  let raw := if m = 1 then meas - (rdF s (Reg.LP_AIN_RTD x) 31 20 : Int) else meas
  let conv := (filtUs (rdF s (Reg.LP_AIN_CFG x) 15 12)).getD 0
  let tcj := cjAt s d (c.at0 + BitVec.ofNat 64 (conv * 50))
  let s := wrI s (Reg.LP_AIN_RAW x) (sat32 raw)
  let code := ainJudge s x raw tcj overload opened
  if code ≠ 0 then ainFault x code (count16 (Reg.LP_AIN_FAULT_CNT x) s)
  else
    let (y, sat) := ainScale s x ((ainE s x raw tcj).getD 0)
    let s := if sat then hwSet s (Reg.LP_AIN_STAT x) 6 else s
    let (ok, s) := senseWrite d (rdF s (Reg.LP_AIN_CFG x) 31 21) (x % 16) 0 (x % 16) (Reg.LP_AIN_STAT x) 7 y c.at1
      (rdN s (Reg.LP_AIN_PERIOD x)) s
    let s := if ok then wrB (wrI s (Reg.LP_AIN_VALUE x) y) (Reg.LP_AIN_STAT x) 4 true else s
    ainFault x 0 s

/-- AIN_DELIVERY (R126): at the delivery instant of the conversion under way; one whose sampling saw V5 bad is discarded
(R128). -/
def effAinDelivery (x : Nat) (meas : Int) (overload opened : Bool) (s : State) : State :=
  match s.sense.ain.find? fun y => decide (y.1 = x) with
  | none => s
  | some (_, c) =>
    if running s && reached s.clk.tb1 (c.at1 + BitVec.ofNat 64 (ainDelivery s x * 100)) then
      let s := { s with sense := { s.sense with ain := s.sense.ain.filter fun y => decide (y.1 ≠ x) } }
      if v5Held s c.at0 then ainDeliver x c meas overload opened s else s
    else s

/-- CJ_MEASURE (R133): the cold junction of loop die LP`i` reads `w`; the last sixteen values are kept for the midpoints. Nothing is
written while V5 is bad (R47). -/
def effCjMeasure (i : Nat) (w : Word) (s : State) : State :=
  if running s && v5Good s then
    let d := i + 1
    let own := s.sense.cj.filter fun x => decide (x.1 = d)
    let rest := s.sense.cj.filter fun x => decide (x.1 ≠ d)
    let s := { s with sense := { s.sense with cj := rest ++ own.drop (own.length - 15) ++ [(d, s.clk.tb0, w)] } }
    wr s (Reg.LP_AIN_CJ d) w
  else s

/-- CJ_MEASURE (R133): the loop die 0 to 3 and the reading, Q16.16 °C. -/
def execCjMeasure (i : Nat) (w : Word) (s : State) : Host.Outcome State Fault Refusal := guardIx i 4 (run (effCjMeasure i w) s)

/-! ### Table lookup (R142) -/

/-- rnd16 of R142. -/
def rnd16 (v : Int) : Int := (v + 32768) / 65536

/-- The index and fraction of a value on a uniform axis of `n` points, and whether it clamped (R142); the quotient is that of
64-bit integers, which drops the fraction. -/
def axisPos (v lo step : Int) (n : Nat) : Nat × Int × Bool :=
  let u := Int.tdiv ((v - lo) * 65536) step
  let top : Int := (n - 1 : Nat) * 65536
  let edge := decide (u < 0 ∨ top < u)
  let u := max 0 (min top u)
  let i := (u / 65536).toNat
  if i = n - 1 then (n - 2, 65536, edge) else (i, u % 65536, edge)

/-- Linear interpolation between two table words. -/
def lerp (a b f : Int) : Int := a + rnd16 ((b - a) * f)

/-- Bilinear lookup in a table of `n` columns at device address `base` (R142). -/
def bilinear (s : State) (base n : Nat) (i j : Nat) (a b : Int) : Int :=
  let e : Nat → Nat → Int := fun i j => rdI s (base + 4 * (j * n + i))
  sat32 (lerp (lerp (e i j) (e (i + 1) j) a) (lerp (e i (j + 1)) (e (i + 1) (j + 1)) a) b)

/-! ### Probes (R135 to R143) -/

/-- The probe channel before its first scan. -/
def prbInit (_ : Nat) : PrbSt :=
  { conv := none, opens := [], was := (0, none, 0), temp := 0, tdef := false, kref := 0, g0 := none, drifted := false, empty := false, upd := none, stale := 0 }
/-- Probe channel `x` (0 to 15). -/
def prbOf (s : State) (x : Nat) : PrbSt := tget prbInit s.sense.prb x
/-- Replace probe channel `x`. -/
def prbSet (s : State) (x : Nat) (p : PrbSt) : State := { s with sense := { s.sense with prb := tput prbInit s.sense.prb x p } }
/-- The loop die of probe `x`. -/
def prbDie (x : Nat) : Nat := 1 + x / 4
/-- NFREQ. -/
def prbN (s : State) (x : Nat) : Nat := rdF s (Reg.LP_PRB_CFG x) 19 17 + 1
/-- IDX_L. -/
def prbL (s : State) (x : Nat) : Nat := rdF s (Reg.LP_PRB_CFG x) 16 14
/-- IDX_H. -/
def prbH (s : State) (x : Nat) : Nat := rdF s (Reg.LP_PRB_CFG x) 13 11
/-- The code in force (Table 05-5). -/
def prbCode (s : State) (x : Nat) : Nat := rdF s (Reg.LP_PRB_STAT x) 3 0
/-- The scan duration in µs (R136). -/
def prbScanUs (s : State) (x : Nat) : Nat := 300 + prbN s x * (20 + rdF s (Reg.LP_PRB_DWELL x) 15 0)
/-- SHAPE of the calibration table of a die (R141). -/
def calShape (s : State) (d : Nat) : Bool := rdB s (Reg.LP_PRB_CAL_CFG d) 0

/-- Does a probe channel break R135, R136, R140, R141 or R498? -/
def prbCfgBad (s : State) (x : Nat) : Bool :=
  let c := rd s (Reg.LP_PRB_CFG x)
  let d := prbDie x
  let k := bits c 7 6
  let T := rdN s (Reg.LP_PRB_PERIOD x)
  let dw := rdF s (Reg.LP_PRB_DWELL x) 15 0
  let ftwBad := (List.range (prbN s x)).any fun j =>
    let f := rdN s (Reg.LP_PRB_FTW x j)
    decide (f < 0x00418938 ∨ 0x80000000 < f)
  ftwBad || decide (prbN s x ≤ prbL s x ∨ prbN s x ≤ prbH s x) || decide (bits c 9 8 = 3)
    || decide (T < 100000 ∨ T > 600000000 ∨ T ≤ rdN s (Reg.LP_PRB_PHASE x)) || decide (dw < 10 ∨ 10000 < dw)
    || decide (T < prbScanUs s x) || (!calShape s d && decide (k ≠ 0))
    || decide (rdI s (Reg.LP_PRB_FSTEP d k) ≤ 0 ∨ rdI s (Reg.LP_PRB_TSTEP d k) ≤ 0)
    || decide (rdI s (Reg.LP_PRB_EMPTY x) < 69632)

/-- A probe's code changes (R143): logged with g. -/
def prbFault (x code : Nat) (s : State) : State :=
  if prbCode s x = code then s
  else
    let s := wrF s (Reg.LP_PRB_STAT x) 3 0 code
    raise 0x0202 (prbDie x) (w32 (code * 0x10000 + x % 4)) (rd s (Reg.LP_PRB_REFGAIN x)) s

/-- The start check of a probe channel. -/
def prbStartCheck (x : Nat) (s : State) : State :=
  if rdB s (Reg.LP_PRB_CFG x) 20 ∧ prbCfgBad s x then prbFault x 4 s else s

/-- The grain temperature of the scan that began in this tick (R142), as its signal stands. -/
def prbTemp (x : Nat) (s : State) : State :=
  let d := prbDie x
  let p := prbOf s x
  let e := rdF s (Reg.LP_PRB_CFG2 x) 10 0
  let lim := rdF s (Reg.LP_PRB_CFG2 x) 19 12
  let u := sigUpd s d e
  let stale := if p.was.2.1 = some u then p.was.2.2 + 1 else 0
  let tdef := !sigValid s d e || (decide (lim ≠ 0) && decide (stale ≥ lim))
  let t := if tdef then rdI s (Reg.LP_PRB_TDEF x) else sigVal s d e
  prbSet s x { p with temp := t, tdef := tdef, upd := some u, stale := min stale 255 }

/-- PRB_SCAN (R136, R138, R142, R463): the sample instant of a probe starts a scan, reads the grain temperature and takes the open-probe
readings and the reference correction of the die's band. -/
def effPrbScan (x : Nat) (s : State) : State :=
  let d := prbDie x
  if running s && rdB s (Reg.LP_PRB_CFG x) 20 && decide (prbCode s x ≠ 4)
      && onGrid s (rdN s (Reg.LP_PRB_PERIOD x)) (rdN s (Reg.LP_PRB_PHASE x)) && inDue s (64 + x) (tb3Tick s) then
    let s := inBegin (64 + x) (rdN s (Reg.LP_PRB_PERIOD x)) (tb3Tick s) s
    let p := prbOf s x
    let opens := (List.range 8).map fun k => (rdI s (Reg.LP_PRB_BOPEN x k), rdI s (Reg.LP_PRB_GOPEN x k))
    prbTemp x (prbSet s x { p with
      conv := some { at1 := tb3Tick s, at0 := tb3At0 s }, opens := opens, was := (s.clk.tb0, p.upd, p.stale),
      kref := rdI s (Reg.LP_THM_KREF d (rdF s (Reg.LP_THM_STAT d) 2 0)) })
  else s

/-- The scans that began in this tick on die `d` read their grain temperature again (R31, R142). -/
def prbAgain (d : Nat) (s : State) : State :=
  forEach ((List.range 4).map fun k => (d - 1) * 4 + k) (fun x s =>
    if (prbOf s x).conv.isSome && decide ((prbOf s x).was.1 = s.clk.tb0) then prbTemp x s else s) s

/-- PRB_SCAN (R136): the probe, 0 to 15. -/
def execPrbScan (x : Nat) (s : State) : Host.Outcome State Fault Refusal := guardIx x 16 (run (effPrbScan x) s)

/-- π as a fraction of 10^30 (R138). -/
def piNum : Int := 3141592653589793238462643383280
/-- 10^30. -/
def piDen : Int := 1000000000000000000000000000000

/-- (g y − y_open) ÷ (ω C0) in Q16.16 (R137, R138): y in µS, C0 in pF, ω from the frequency word. R138 names no rounding; the model
rounds to nearest, ties away from zero (DESIGN CHOICE, log entry 82). -/
def permDelta (y gain yOpen : Int) (ftw : Nat) (c0 : Int) : Int :=
  rdivRaw ((y * gain - yOpen * 65536) * 2 ^ 32 * piDen) (200 * piNum * (ftw : Int) * c0)

/-- eps_re and eps_im of frequency `k` (R138), Q16.16, saturated, from the measured B and G and the gain correction, with the open-probe
readings as the scan found them; with C0 0 the quotient has no stated value and both are free values (log entry 1). -/
def epsOf (s : State) (x k : Nat) (gain : Int) (y : Int × Int) : Int × Int :=
  let ftw := rdN s (Reg.LP_PRB_FTW x k)
  let c0 := rdI s (Reg.LP_PRB_C0 x)
  let o := (prbOf s x).opens.getD k (0, 0)
  if c0 = 0 then ((Config.freeValue s.free).toInt, (Config.freeValue (s.free + 1)).toInt)
  else (sat32 (65536 + permDelta y.1 gain o.1 ftw c0), sat32 (permDelta y.2 gain o.2 ftw c0))

/-- The feature F (R139), Q16.16 to nearest, saturated. -/
def prbFeature (s : State) (x : Nat) : Int :=
  let lr := rdI s (Reg.LP_PRB_EPS_RE x (prbL s x))
  let hr := rdI s (Reg.LP_PRB_EPS_RE x (prbH s x))
  let hi := rdI s (Reg.LP_PRB_EPS_IM x (prbH s x))
  sat32 (rdivRaw ((if rdB s (Reg.LP_PRB_CFG x) 10 then hi else lr - hr) * 65536) (hr - 65536))

/-- The calibrated moisture of a feature at a temperature and whether the lookup clamped (R141, R142). -/
def prbMoist (s : State) (x : Nat) (f t : Int) : Int × Bool :=
  let d := prbDie x
  let k := rdF s (Reg.LP_PRB_CFG x) 7 6
  let n := if calShape s d then 16 else 32
  let base := dieAt d 0xD0C000 + (if calShape s d then 1024 * k else 0)
  let (i, a, e1) := axisPos f (rdI s (Reg.LP_PRB_FMIN d k)) (rdI s (Reg.LP_PRB_FSTEP d k)) n
  let (j, b, e2) := axisPos t (rdI s (Reg.LP_PRB_TMIN d k)) (rdI s (Reg.LP_PRB_TSTEP d k)) n
  (bilinear s base n i j a b, e1 || e2)

/-- The reference gain of a scan (R137): shown; its drift from the first scan after the start is logged once. -/
def prbGain (x : Nat) (g : Int) (s : State) : State :=
  let s := wrI s (Reg.LP_PRB_REFGAIN x) g
  let p := prbOf s x
  match p.g0 with
  | none => prbSet s x { p with g0 := some g }
  | some g0 =>
    if !p.drifted ∧ (g - g0).natAbs * 50 > g0.natAbs then
      raise 0x0206 (prbDie x) (w32 (x % 4)) (i32 g) (prbSet s x { p with drifted := true })
    else s

/-- EMPTY entered or left (R140). -/
def prbEmpty (x : Nat) (s : State) : State :=
  let p := prbOf s x
  let hr := rdI s (Reg.LP_PRB_EPS_RE x (prbH s x))
  let lim := rdI s (Reg.LP_PRB_EMPTY x)
  let now := if p.empty then decide (hr < lim + 8192) else decide (hr < lim)
  if now = p.empty then s
  else raise 0x0203 (prbDie x) (w32 (b2n now * 0x10000 + x % 4)) (i32 hr) (prbSet s x { p with empty := now })

/-- The values of a good scan are formed and written (R139, R142, R143). -/
def prbPublish (x : Nat) (c : Conv) (s : State) : State :=
  let d := prbDie x
  let p := prbOf s x
  let f := prbFeature s x
  let (m, edge) := prbMoist s x f p.temp
  let s := wrI (wrI (wrI s (Reg.LP_PRB_FEATURE x) f) (Reg.LP_PRB_MOIST x) m) (Reg.LP_PRB_TUSED x) p.temp
  let s := if p.tdef then hwSet s (Reg.LP_PRB_STAT x) 5 else s
  let s := if edge then raise 0x0204 d (w32 (x % 4)) (i32 f) (hwSet s (Reg.LP_PRB_STAT x) 6) else s
  let T := rdN s (Reg.LP_PRB_PERIOD x)
  let (ok, s) := senseWrite d (rdF s (Reg.LP_PRB_CFG x) 31 21) (256 + x % 4) 1 (x % 4) (Reg.LP_PRB_STAT x) 7 m c.at1 T s
  let s := if ok then wrB s (Reg.LP_PRB_STAT x) 4 true else s
  if rdB s (Reg.LP_PRB_CFG2 x) 20 then
    (senseWrite d (rdF s (Reg.LP_PRB_CFG2 x) 31 21) (512 + x % 4) 1 (x % 4) (Reg.LP_PRB_STAT x) 7 f c.at1 T s).2
  else s

/-- A scan is delivered (R137 to R143, R463); `ref` is the correction that the reference measurement yields. -/
def prbDeliver (x : Nat) (c : Conv) (ref : Int) (exc sense : Bool) (ys : List (Int × Int)) (s : State) : State :=
  let g := sat32 (qmulRaw ref (65536 + (prbOf s x).kref))
  let s := prbGain x g s
  let bad := decide (10 * g < 9 * 65536 ∨ 11 * 65536 < 10 * g)
  let s := if bad then s
    else forEach (List.range (prbN s x)) (fun k s =>
      let e := epsOf s x k g (ys.getD k (0, 0))
      let s := wrI (wrI s (Reg.LP_PRB_EPS_RE x k) e.1) (Reg.LP_PRB_EPS_IM x k) e.2
      if rdI s (Reg.LP_PRB_C0 x) = 0 then { s with free := s.free + 2 } else s) s
  let s := if exc || bad || sense then s else prbEmpty x s
  let code := if exc then 1 else if bad then 5 else if sense then 2 else if (prbOf s x).empty then 3 else 0
  let s := if code = 0 ∨ code = 3 then s else count16 (Reg.LP_PRB_FAULT_CNT x) s
  let s := if code = 0 then prbPublish x c s else s
  prbFault x code s

/-- PRB_DELIVERY (R143): at the end of the scan under way. -/
def effPrbDelivery (x : Nat) (ref : Int) (exc sense : Bool) (ys : List (Int × Int)) (s : State) : State :=
  match (prbOf s x).conv with
  | none => s
  | some c =>
    if running s && reached s.clk.tb1 (c.at1 + BitVec.ofNat 64 (prbScanUs s x * 100)) then
      let s := prbSet s x { prbOf s x with conv := none }
      if v5Held s c.at0 then prbDeliver x c ref exc sense ys s else s
    else s

/-! ### Pulse inputs (R144 to R148) -/

/-- The pulse input before its first edge. -/
def plsInit (_ : Nat) : PlsSt :=
  { edges := [], ref := none, acc := 0, clears := [], moved := none, num := 0, den := 1, any := none, last := none, gap := 0xFFFFFFFF }
/-- Pulse input `x` (0 to 31). -/
def plsOf (s : State) (x : Nat) : PlsSt := tget plsInit s.sense.pls x
/-- Replace pulse input `x`. -/
def plsSet (s : State) (x : Nat) (p : PlsSt) : State := { s with sense := { s.sense with pls := tput plsInit s.sense.pls x p } }
/-- The loop die of pulse input `x`. -/
def plsDie (x : Nat) : Nat := 1 + x / 8
/-- MODE (Table 05-6). -/
def plsMode (s : State) (x : Nat) : Nat := rdF s (Reg.LP_PLS_CFG x) 19 17
/-- Is a pulse input enabled in a mode that counts, and not disabled by its start check? -/
def plsOn (s : State) (x : Nat) : Bool :=
  running s && rdB s (Reg.LP_PLS_CFG x) 20 && decide (plsMode s x ≠ 0) && !rdB s (Reg.LP_PLS_STAT x) 1

/-- Does a pulse input break R145 or R498? -/
def plsCfgBad (s : State) (x : Nat) : Bool :=
  let m := plsMode s x
  let T := rdN s (Reg.LP_PLS_PERIOD x)
  let partnerOn := decide (plsMode s (x + 1) ≠ 0)
  decide (m ≥ 4) || (decide (m = 3) && (decide (x % 2 = 1) || partnerOn))
    || decide (T < 1000 ∨ T > 600000000 ∨ T ≤ rdN s (Reg.LP_PLS_PHASE x))

/-- The start check of a pulse input: a QUAD with a partner that is not OFF disables the pair (R145). -/
def plsStartCheck (x : Nat) (s : State) : State :=
  if rdB s (Reg.LP_PLS_CFG x) 20 ∧ plsCfgBad s x then
    let s := wrB s (Reg.LP_PLS_STAT x) 1 true
    if plsMode s x = 3 ∧ x % 2 = 0 ∧ plsMode s (x + 1) ≠ 0 then
      wrB s (Reg.LP_PLS_STAT (x + 1)) 1 true
    else s
  else s

/-- Is `x` phase B of a QUAD pair (R145)? -/
def plsIsB (s : State) (x : Nat) : Bool := decide (x % 2 = 1) && decide (plsMode s (x - 1) = 3) && plsOn s (x - 1)

/-- The column before anything happened on it. -/
def trkInit (_ : Nat) : TrkSt :=
  { upd := none, endAt := 0, started := false, m := 0, last0 := none, edges := [], cmds := [], seen := [], stale := [],
    used := [] }
/-- Column `c` (0 to 15). -/
def trkOf (s : State) (c : Nat) : TrkSt := tget trkInit s.trk c
/-- Replace column `c`. -/
def trkSet (s : State) (c : Nat) (x : TrkSt) : State := { s with trk := tput trkInit s.trk c x }

/-- Does column `c` advance on pulse input `x` of its die (R180)? -/
def trkTakes (s : State) (c x : Nat) : Bool :=
  let w := rd s (Reg.LP_TRK_CFG c)
  bit w 31 && decide (bits w 30 29 = 0) && !bit w 24 && decide (bits w 23 21 = x % 8) && !rdB s (Reg.LP_TRK_STAT c) 0

/-- The edge goes to the columns of the die that count it (R148, R180). -/
def trkEdge (x : Nat) (t : Tick) (dir : Int) (s : State) : State :=
  forEach ((List.range 4).map fun k => (plsDie x - 1) * 4 + k) (fun c s =>
    if trkTakes s c x then trkSet s c { trkOf s c with edges := (trkOf s c).edges ++ [(t, dir)] } else s) s

/-- An edge timestamped `t` counts in ACC (R147): in the count that the first clear after `t` ended, else in the present one. -/
def accCount (t : Tick) (dir : Int) : List (Tick × Int) → Int → List (Tick × Int) × Int
  | [], acc => ([], acc + dir)
  | c :: r, acc =>
    if laterN 64 c.1.toNat t.toNat then ((c.1, c.2 + dir) :: r, acc)
    else let y := accCount t dir r acc; (c :: y.1, y.2)

/-- A counted edge (R144, R145, R147). -/
def plsCount (x : Nat) (t : Tick) (dir : Int) (s : State) : State :=
  let p := plsOf s x
  let ac := accCount t dir p.clears p.acc
  let gap := match p.last with | none => 0xFFFFFFFF | some l => (t - l).toNat
  let close := decide (gap < 500)
  let p := { p with edges := p.edges ++ [(t, dir)], clears := ac.1, acc := ac.2, last := some t, gap := min p.gap gap }
  let s := plsSet s x p
  let s := wrI s (Reg.LP_PLS_COUNT x) (rdI s (Reg.LP_PLS_COUNT x) + dir)
  let s := wr s (Reg.LP_PLS_LAST_TS x) (t.extractLsb' 0 32)
  let s := if close then raiseN 0x0205 (plsDie x) (x % 8) p.gap (hwSet s (Reg.LP_PLS_STAT x) 3) else s
  trkEdge x t dir s

/-- Has the level after an edge at `t` been stable for a filter time of `n` units of 100 ns (R144, R319)? -/
def filtered (s : State) (t : Tick) (n : Nat) : Bool := decide (n * 10 ≤ (s.clk.tb0 - t).toNat) && reached s.clk.tb0 t

/-- PLS_EDGE (R144): an edge of input `x` that crossed at TB0 tick `t`, rising or falling, is accepted after the filter time or
rejected. While V5 is bad no edge is accepted (R47). -/
def effPlsEdge (x : Nat) (rise : Bool) (t : Tick) (rejected : Bool) (s : State) : State :=
  let isB := plsIsB s x
  if !v5Good s ∨ !(plsOn s x || isB) then s
  else if !rejected && !filtered s t (rdF s (Reg.LP_PLS_CFG x) 14 0) then s
  else if rejected then count16 (Reg.LP_PLS_REJ_CNT x) s
  else
    let s := wrB s (Reg.LP_PLS_STAT x) 0 rise
    let s := plsSet s x { plsOf s x with any := some t }
    let q := if isB then x - 1 else x
    let s :=
      if isB ∨ plsMode s x = 3 then
        let other := if isB then x - 1 else x + 1
        match (plsOf s other).any with
        | none => s
        | some u => if (t - u).toNat < rdF s (Reg.LP_PLS_CFG q) 14 0 * 10 then hwSet s (Reg.LP_PLS_STAT q) 2 else s
      else s
    if isB ∨ rise = rdB s (Reg.LP_PLS_CFG x) 15 then s
    else
      let dir : Int := if plsMode s x = 3 ∧ !rdB s (Reg.LP_PLS_STAT (x + 1)) 0 then -1 else 1
      plsCount x t dir s

/-- PLS_EDGE (R144): input, rising, the TB0 tick of the crossing, rejected by the filter. -/
def execPlsEdge (x : Nat) (rise : Bool) (t : Tick) (rejected : Bool) (s : State) : Host.Outcome State Fault Refusal :=
  guardIx x 32 (run (effPlsEdge x rise t rejected) s)

/-- Pulses per hour of one pulse per tick (R146). -/
def perHour : Int := 360000000000

/-- The net counts of a list of edges. -/
def netCount (l : List (Tick × Int)) : Int := l.foldl (fun a x => a + x.2) 0

/-- The rate at a sample (R146) as a fraction per hour, with whether it has come to 0 after a time without edges: the previous rate,
`n` net counts in the period, t_ref, t_last, and the TB0 tick of S. -/
def plsRate (num : Int) (den : Nat) (n : Int) (ref : Option Tick) (lastT s0 : Tick) (zeroMs : Nat) : Int × Nat × Bool :=
  match ref with
  | none => (0, 1, false)
  | some r =>
    if n ≠ 0 then (n * perHour, max (lastT - r).toNat 1, false)
    else
      let dt := (s0 - r).toNat
      if dt > zeroMs * 100000 then (0, 1, true)
      else if num.natAbs * dt > perHour.toNat * den then ((if num < 0 then -perHour else perHour), max dt 1, false)
      else (num, den, false)

/-- ACC as it stood at TB0 tick `s0` (R147): of the count that the first clear after it ended, or of the present one, without the
edges timestamped later. -/
def accAt (p : PlsSt) (s0 : Tick) : Int :=
  let later := p.edges.filter fun e => laterN 64 e.1.toNat s0.toNat
  match p.clears.find? fun c => laterN 64 c.1.toNat s0.toNat with
  | some c => c.2 - netCount (later.filter fun e => laterN 64 c.1.toNat e.1.toNat)
  | none => p.acc - netCount later
/-- The clears that a result after `s0` or a late edge still needs: those after `s0`, or else the newest. -/
def accNeeded (s0 : Tick) (l : List (Tick × Int)) : List (Tick × Int) :=
  let after := l.filter fun c => laterN 64 c.1.toNat s0.toNat
  if after.isEmpty then l.getLast?.toList else after

/-- The result of a pulse input at its sample instant S, published 50 µs later (R126, R146, R147); it is written when V5 was good
(R128). -/
def plsSample (x : Nat) (held : Bool) (s1 s0 : Tick) (s : State) : State :=
  let p := plsOf s x
  let lo := s0 - BitVec.ofNat 64 (tb1To0 s (rdN s (Reg.LP_PLS_PERIOD x) * 100))
  let upTo := p.edges.filter fun e => !laterN 64 e.1.toNat s0.toNat
  let here := upTo.filter fun e => laterN 64 e.1.toNat lo.toNat
  let before := upTo.filter fun e => !laterN 64 e.1.toNat lo.toNat
  let ref := match before.getLast? with | some e => some e.1 | none => p.ref
  let lastT := match upTo.getLast? with | some e => e.1 | none => ref.getD 0
  let (num, den, zero) := plsRate p.num p.den (netCount here) ref lastT s0 (rdN s (Reg.LP_PLS_ZERO x))
  let later := p.edges.filter fun e => laterN 64 e.1.toNat s0.toNat
  let w := rdI s (Reg.LP_PLS_WEIGHT x)
  let v := if plsMode s x = 1 then accAt p s0 * w else rdivRaw (num * w) den
  let s := plsSet s x { p with edges := here ++ later, clears := accNeeded s0 p.clears, moved := none, ref := if zero then none else ref, num := num, den := den }
  if held then
    let s := if satd v then hwSet s (Reg.LP_PLS_STAT x) 4 else s
    let (ok, s) := senseWrite (plsDie x) (rdF s (Reg.LP_PLS_CFG x) 31 21) (768 + x % 8) 2 (x % 8) (Reg.LP_PLS_STAT x) 5
      (sat32 v) s1 (rdN s (Reg.LP_PLS_PERIOD x)) s
    if ok then wrI s (Reg.LP_PLS_VALUE x) (sat32 v) else s
  else s

/-- The sample of pulse input `x` whose result is due now (R126): one that a hard step moved, or that of the grid 50 µs ago. -/
def plsDue (s : State) (x : Nat) : Option Conv :=
  match (plsOf s x).moved with
  | some c => if reached s.clk.tb1 (c.at1 + 5000) then some c else none
  | none =>
    let S := tb3Tick s - 5000
    if onGrid s (rdN s (Reg.LP_PLS_PERIOD x)) (rdN s (Reg.LP_PLS_PHASE x) + 50) && inDue s (80 + x) S then
      some { at1 := S, at0 := tb3At0 s - BitVec.ofNat 64 (tb1To0 s 5000) }
    else none

/-- PLS_SAMPLE (R146): the command stands at the delivery instant, 50 µs after the sample instant S it computes for. Its sampling
interval is (S - T, S] (R128). -/
def effPlsSample (x : Nat) (s : State) : State :=
  if plsOn s x then
    match plsDue s x with
    | none => s
    | some c =>
      let T := rdN s (Reg.LP_PLS_PERIOD x)
      plsSample x (v5Held s (c.at0 - BitVec.ofNat 64 (tb1To0 s (T * 100)))) c.at1 c.at0 (inBegin (80 + x) T c.at1 s)
  else s

/-- ACC is cleared (R147) at the present TB0 tick: an edge timestamped at it or later counts after the clear. -/
def plsClear (x : Nat) (s : State) : State :=
  let p := plsOf s x
  plsSet s x { p with acc := 0, clears := p.clears ++ [(s.clk.tb0, p.acc)] }

/-- CLR_ACC (R147): REFUSED in other modes than COUNT. -/
def opClrAcc (x : Nat) : WOp := fun s => if plsMode s x = 1 then (.ok, plsClear x) else (.refused, id)

/-- CLR_ACC (R147): the writing port and the pulse input. -/
def execClrAcc (p : PortId) (x : Nat) (s : State) : Host.Outcome State Fault Refusal :=
  guardIx x 32 (run (ownerWrite p (Reg.LP_PLS_CTRL x) (opClrAcc x)) s)

end Sys2Proof.Machine
end

