-- ==== Sys2Proof/Machine/Tracker.lean ====
section
/-!
DEFINITION. The column tracker (chapter 7): latch, update and commit of a column, its commands, its start check, and the latching
read of a barge.
-/
namespace Sys2Proof.Machine

/-! ### Numbers that remember a saturation or a clamped lookup (R187, R190, R194) -/

/-- A Q16.16 value with whether an operation on the way to it saturated, and the lookups that clamped on the way (1 surface,
2 EMC, 4 p_ws). -/
structure TQ where
  v : Int
  sat : Bool
  edge : Nat
  deriving DecidableEq, Repr

/-- A plain value. -/
def tq (v : Int) : TQ := ⟨v, false, 0⟩
/-- A value formed from two others, saturated to 32 bits. -/
def tqMk (raw : Int) (x y : TQ) : TQ := ⟨sat32 raw, x.sat || y.sat || satd raw, x.edge ||| y.edge⟩
/-- mul of R187: to nearest, ties away from zero, saturating. -/
def tqMul (x y : TQ) : TQ := tqMk (rdivRaw (x.v * y.v) 65536) x y
/-- div of R187: to nearest, ties away from zero, saturating; a quotient by zero is a free value. -/
def tqDiv (x y : TQ) : TQ :=
  if y.v = 0 then
    let f := Config.divZero x.v
    ⟨(f.extractLsb' 0 32).toInt, x.sat || y.sat || f.getLsbD 32, x.edge ||| y.edge⟩
  else tqMk (rdivRaw (x.v * 65536) y.v) x y
/-- A 64-bit sum, not saturated. -/
def tqAdd (x y : TQ) : TQ := ⟨x.v + y.v, x.sat || y.sat, x.edge ||| y.edge⟩
/-- A 64-bit difference, not saturated. -/
def tqSub (x y : TQ) : TQ := ⟨x.v - y.v, x.sat || y.sat, x.edge ||| y.edge⟩
/-- sat32 of a value. -/
def tqSat (x : TQ) : TQ := ⟨sat32 x.v, x.sat || satd x.v, x.edge⟩
/-- A whole number in Q16.16. -/
def q16 (n : Int) : Int := n * 65536
/-- The product of R184: sat32((x y + 2^15) >> 16). -/
def mulV (x y : Int) : Int := sat32 (qmulRaw x y)
/-- The product of R196 and R202 (R187's). -/
def mulT (x y : Int) : Int := sat32 (rdivRaw (x * y) 65536)
/-- hrs of R188: v dt ÷ 3,600,000,000 rounded. -/
def hrs (v dt : Int) : Int := rdivRaw (v * dt) 3600000000

/-! ### A column's configuration -/

/-- Local number of column `c` on its die. -/
def colLocal (c : Nat) : Nat := c % 4
/-- The loop die of column `c`. -/
def colDie (c : Nat) : Nat := 1 + c / 4
/-- MODE (Table 07-1). -/
def colMode (s : State) (c : Nat) : Nat := rdF s (Reg.LP_TRK_CFG c) 30 29
/-- AIR (Table 07-2). -/
def colAir (s : State) (c : Nat) : Nat := rdF s (Reg.LP_TRK_CFG c) 28 27
/-- LANES. -/
def colLanes (s : State) (c : Nat) : Nat := rdF s (Reg.LP_TRK_CFG c) 26 25 + 1
/-- ZONES. -/
def colZones (s : State) (c : Nat) : Nat := rdF s (Reg.LP_TRK_CFG c) 20 19 + 1
/-- NST. -/
def colNst (s : State) (c : Nat) : Nat := rdF s (Reg.LP_TRK_CFG c) 18 15
/-- STALE_N. -/
def colStaleN (s : State) (c : Nat) : Nat := rdF s (Reg.LP_TRK_CFG c) 12 5
/-- LEVELS. -/
def colLevels (s : State) (c : Nat) : Nat := rdF s (Reg.LP_TRK_GEOM c) 25 16
/-- BASE. -/
def colBase (s : State) (c : Nat) : Nat := rdF s (Reg.LP_TRK_GEOM c) 8 0
/-- T in µs. -/
def colT (s : State) (c : Nat) : Nat := rdN s (Reg.LP_TRK_PERIOD c)
/-- φ in µs. -/
def colPhase (s : State) (c : Nat) : Nat := rdN s (Reg.LP_TRK_PHASE c)
/-- EN of a column. -/
def colEn (s : State) (c : Nat) : Bool := rdB s (Reg.LP_TRK_CFG c) 31
/-- SPLIT of a die. -/
def surfSplit (s : State) (d : Nat) : Bool := rdB s (Reg.LP_TRK_SURF_MODE d) 0
/-- Barges the column owns (R171). -/
def colBarges (s : State) (c : Nat) : Nat := if colMode s c = 2 then 0 else colLevels s c * colLanes s c
/-- The columns of a die, as global numbers. -/
def dieCols (d : Nat) : List Nat := (List.range 4).map fun k => (d - 1) * 4 + k
/-- B of R177. -/
def trkB (s : State) (d : Nat) : Nat :=
  (dieCols d).foldl (fun a c => if colEn s c then a + (if colMode s c = 2 then 1 else colBarges s c) else a) 0

/-- Do the slots of an enabled column meet those of another on its die (R171)? -/
def slotsOverlap (s : State) (c : Nat) : Bool :=
  (dieCols (colDie c)).any fun o =>
    decide (o ≠ c) && colEn s o && decide (colMode s o ≠ 2)
      && decide (colBase s c < colBase s o + colBarges s o ∧ colBase s o < colBase s c + colBarges s c)

/-- LEVEL of a station. -/
def stnLevel (s : State) (c k : Nat) : Nat := rdF s (Reg.LP_TRK_STN c k) 25 16
/-- LANE of a station. -/
def stnLane (s : State) (c k : Nat) : Nat := rdF s (Reg.LP_TRK_STN c k) 30 28
/-- First level of a zone. -/
def zoneStart (s : State) (c z : Nat) : Nat := rdF s (Reg.LP_TRK_ZONE_START c z) 9 0

/-- Does a prediction break R201 or R202? Those that an EMC_ONLY column ignores (R200) break nothing. -/
def predBad (s : State) (c j : Nat) : Bool :=
  let w := rd s (Reg.LP_TRK_PRED c j)
  let q := bits w 19 17
  let lead := bits w 9 0
  bit w 20 && decide (colMode s c ≠ 2 ∨ q = 5) && ((bit w 16 && decide (q ≠ 0))
    || (if q = 2 ∨ q = 3 then false
        else if (q = 6 ∨ q = 7) ∧ colAir s c = 0 then decide (colZones s c ≤ lead)
        else decide (colLevels s c ≤ lead)))

/-- Is a step of the die's tables that are in use 0 or less (R191 to R193)? -/
def stepBad (s : State) (d : Nat) : Bool :=
  let ax := fun h j => decide (rdI s (Reg.LP_TRK_SURF_AX d h j) ≤ 0)
  ax 0 1 || ax 0 3 || ax 0 5 || (surfSplit s d && (ax 1 1 || ax 1 3 || ax 1 5))
    || decide (rdI s (Reg.LP_TRK_EMC_AX d 1) ≤ 0 ∨ rdI s (Reg.LP_TRK_EMC_AX d 3) ≤ 0 ∨ rdI s (Reg.LP_TRK_SVP_AX d 1) ≤ 0)

/-- The reasons of Table 07-5 that an enabled column meets, in its order. -/
def colReasons (s : State) (c : Nat) : List Nat :=
  let d := colDie c
  let m := colMode s c
  let L := colLevels s c
  let N := colLanes s c
  let nst := colNst s c
  let sp := surfSplit s d
  let pls := rdF s (Reg.LP_TRK_CFG c) 23 21
  let adv := rdF s (Reg.LP_TRK_SIG_AUX c) 26 16
  let r1 := decide (L < 1 ∨ 512 < L) || (decide (m ≠ 2) && (decide (512 < colBase s c + L * N) || slotsOverlap s c))
  let r2 := decide (colT s c < 100000 ∨ 600000000 < colT s c ∨ colPhase s c = 0 ∨ colT s c ≤ colPhase s c
    ∨ colPhase s c < 195 * trkB s d)
  let r3 := decide (m = 0) && (decide (rdI s (Reg.LP_TRK_LPP c) ≤ 0) ||
    (if rdB s (Reg.LP_TRK_CFG c) 24 then decide (sigKind s d adv = 0) else decide (plsMode s ((d - 1) * 8 + pls) = 0)))
  let r4 := (decide (colAir s c ≠ 0) && decide (N ≠ 1 ∨ colZones s c ≠ 1)) || decide (m = 1 ∧ colAir s c = 0)
    || ((List.range (colZones s c)).any fun z =>
      let surf := rdF s (Reg.LP_TRK_ZONE_SIG c z) 30 29
      (if z = 0 then decide (zoneStart s c 0 ≠ 0)
       else decide (zoneStart s c z ≤ zoneStart s c (z - 1)))
      || (if sp then decide (surf ≠ 1 ∧ surf ≠ 2) else decide (surf ≠ 0)))
  let r5 := decide (8 < nst) || (List.range nst).any fun k =>
    decide (stnLane s c k ≠ 7 ∧ N ≤ stnLane s c k) || (decide (k ≠ 0) && decide (stnLevel s c k ≤ stnLevel s c (k - 1)))
  let r6 := (List.range 4).any fun j => predBad s c j
  let r7 := decide (rdI s (Reg.LP_TRK_KW c) ≤ 0 ∨ rdI s (Reg.LP_TRK_PATM c) ≤ 0) || stepBad s d
    || (rdB s (Reg.LP_TRK_CFG c) 14 && decide (rdI s (Reg.LP_TRK_QNOM c) ≤ 0))
  let r8 := decide (m = 3 ∨ colAir s c = 3)
  ((List.range 8).filter fun i => [r1, r2, r3, r4, r5, r6, r7, r8].getD i false).map (· + 1)

/-- The start check of a column (R177, R206). -/
def trkStartCheck (c : Nat) (s : State) : State :=
  if colEn s c then
    match colReasons s c with
    | [] => s
    | r :: _ => raiseN 0x0306 (colDie c) (colLocal c) r (wrB s (Reg.LP_TRK_STAT c) 0 true)
  else s

/-- The tracker's start checks on loop die `d`, with LP_TRK_LOAD. -/
def trkDieCheck (d : Nat) (s : State) : State :=
  let s := wrF s (Reg.LP_TRK_LOAD d) 9 0 (trkB s d)
  forEach (dieCols d) trkStartCheck s

/-- Does a column run (R176, R206)? -/
def colRuns (s : State) (c : Nat) : Bool := running s && colEn s c && !rdB s (Reg.LP_TRK_STAT c) 0

/-! ### The latch (R176) -/

/-- The signal entries a column reads. -/
def colEntries (s : State) (c : Nat) : List Nat :=
  let si := rd s (Reg.LP_TRK_SIG_IN c)
  let sa := rd s (Reg.LP_TRK_SIG_AUX c)
  let zs := (List.range (colZones s c)).flatMap fun z =>
    let w := rd s (Reg.LP_TRK_ZONE_SIG c z)
    [bits w 10 0, bits w 26 16]
  let st := (List.range (colNst s c)).map fun k => rdF s (Reg.LP_TRK_STN c k) 10 0
  ([bits si 10 0, bits si 26 16, bits sa 10 0, bits sa 26 16] ++ zs ++ st).eraseDups

/-- One signal as a column latches it, with its periods without a new sample since what it `seen` before (R183, R189). -/
def latchSig (s : State) (c : Nat) (seen : List (Nat × Nat × Nat)) (e : Nat) : TrkSig :=
  let d := colDie c
  let u := sigUpd s d e
  let stale := match seen.find? fun y => decide (y.1 = e) with
    | some (_, u0, n) => if u0 = u then min 255 (n + 1) else 0
    | none => 0
  { entry := e, value := sigVal s d e, instant := rd s (sigAddr d e + 8), valid := sigValid s d e, stale := stale }

/-- A waiting command takes effect at a sample instant (R198, R204, R205): logged once; a bias write or CLR_BIAS acts on the
biases at once. -/
def trkCmdApply (c : Nat) (k : TrkCmd) (s : State) : State :=
  let code := if k.act = 0 then 1 else if k.act = 1 then 2 else 4
  let s := if k.act < 8 ∧ !k.logged then
      raiseN 0x0307 (colDie c) (code * 0x10000 + colLocal c) k.port s
    else s
  if k.act = 2 then noteStored (forEach (List.range 8) (fun i s => wr s (Reg.LP_TRK_BIAS c i) 0) s)
  else if 8 ≤ k.act then wr s (Reg.LP_TRK_BIAS c (k.act - 8)) k.word
  else s

/-- The UPD that a column keeps of the signals it has latched. -/
def seenOf (s : State) (c : Nat) (sigs : List TrkSig) : List (Nat × Nat × Nat) :=
  sigs.map fun y => (y.entry, sigUpd s (colDie c) y.entry, y.stale)

/-- A latch of column `c` at the present TB3 instant. -/
def trkLatch (c : Nat) (s : State) : State :=
  let x := trkOf s c
  let sigs := (colEntries s c).map (latchSig s c x.seen)
  let s := forEach x.cmds (trkCmdApply c) s
  let m := min 255 (x.m + 1)
  let S := tb3Tick s
  let u : TrkUpd := {
    at1 := S, at0 := tb3At0 s, commit := S + BitVec.ofNat 64 (colPhase s c * 100), m := m,
    cmds := x.cmds.filter fun k => decide (k.act < 2),
    bias := (List.range 8).map fun i => rdI s (Reg.LP_TRK_BIAS c i), sigs := sigs, done := false, tick0 := s.clk.tb0, seen0 := x.seen }
  trkSet s c { x with
    upd := some u, endAt := S + BitVec.ofNat 64 (colT s c * 100), started := true, m := m, cmds := [],
    seen := seenOf s c sigs }

/-- TRK_LATCH (R176, R108): at a sample instant of column `c` with no update under way. -/
def effTrkLatch (c : Nat) (s : State) : State :=
  let x := trkOf s c
  if colRuns s c && x.upd.isNone && onGrid s (colT s c) 0 && (!x.started || reached (tb3Tick s) x.endAt) then trkLatch c s
  else s

/-- The columns of die `d` latched in this tick latch their signals again (R31, R176). -/
def trkAgain (d : Nat) (s : State) : State :=
  forEach (dieCols d) (fun c s =>
    let x := trkOf s c
    match x.upd with
    | none => s
    | some u =>
      if u.tick0 = s.clk.tb0 ∧ u.done = false then
        let sigs := (colEntries s c).map (latchSig s c u.seen0)
        trkSet s c { x with upd := some { u with sigs := sigs }, seen := seenOf s c sigs }
      else s) s

/-- TRK_LATCH (R176): the column, 0 to 15. -/
def execTrkLatch (c : Nat) (s : State) : Host.Outcome State Fault Refusal := guardIx c 16 (run (effTrkLatch c) s)

/-- Show a slack of column `c` (R179). -/
def trkSlack (c v : Nat) (s : State) : State :=
  let s := wrN s (Reg.LP_TRK_SLACK c) v
  wrN s (Reg.LP_TRK_MIN_SLACK c) (min v (rdN s (Reg.LP_TRK_MIN_SLACK c)))

/-- TRK_UPDATE_DONE (R179): the work of the update under way is complete before its commit instant; its slack in µs. -/
def effTrkUpdateDone (c : Nat) (s : State) : State :=
  match (trkOf s c).upd with
  | none => s
  | some u =>
    if !u.done && !reached s.clk.tb1 u.commit then
      let s := trkSet s c { trkOf s c with upd := some { u with done := true } }
      trkSlack c (min 0xFFFFFFFF ((u.commit - s.clk.tb1).toNat / 100)) s
    else s

/-- TRK_UPDATE_DONE (R179): the column. -/
def execTrkUpdateDone (c : Nat) (s : State) : Host.Outcome State Fault Refusal :=
  guardIx c 16 (run (effTrkUpdateDone c) s)

/-! ### Barges -/

/-- A barge (Table 07-3); `mask` holds the lookups that clamped in this update. -/
structure Barge where
  m : Int
  tg : Int
  res : Nat
  ta : Int
  rh : Int
  rate : Int
  valid : Bool
  sat : Bool
  edge : Nat
  assim : Bool
  cond : Bool
  noair : Bool
  resOvf : Bool
  pound : Nat
  emc : Int
  deriving DecidableEq, Repr

/-- Address of barge slot `n` of loop die `d` (R173). -/
def bargeAddr (d n : Nat) : Nat := dieAt d 0xC00000 + 32 * n

/-- The slot of logical level `p`, lane `q` (R174). -/
def slotOf (s : State) (c top p q : Nat) : Nat :=
  colBase s c + ((top + p) % max 1 (colLevels s c)) * colLanes s c + q

/-- Read a barge; the flags of the last update are cleared. -/
def bargeRd (s : State) (a : Nat) : Barge :=
  let f := rd s (a + 24)
  { m := rdI s a, tg := rdI s (a + 4), res := rdN s (a + 8), ta := rdI s (a + 12), rh := rdI s (a + 16), rate := rdI s (a + 20),
    valid := bit f 0, sat := false, edge := 0, assim := false, cond := false, noair := false, resOvf := bit f 6,
    pound := bits f 11 8, emc := rdI s (a + 28) }

/-- The FLAGS word of a barge. -/
def bargeFlags (b : Barge) : Nat :=
  b2n b.valid + b2n b.sat * 2 + b2n (decide (b.edge ≠ 0)) * 4 + b2n b.assim * 8 + b2n b.cond * 16 + b2n b.noair * 32
    + b2n b.resOvf * 64 + b.pound % 16 * 256

/-- Write a barge. -/
def bargeWr (a : Nat) (b : Barge) (s : State) : State :=
  wrList s a [i32 b.m, i32 b.tg, w32 b.res, i32 b.ta, i32 b.rh, i32 b.rate, w32 (bargeFlags b), i32 b.emc]

/-- Limit M to MLO to MHI (R190). -/
def limM (s : State) (c : Nat) (b : Barge) : Barge :=
  let v := max (rdI s (Reg.LP_TRK_MLO c)) (min (rdI s (Reg.LP_TRK_MHI c)) b.m)
  if v = b.m then b else { b with m := v, sat := true }

/-- Limit M and TG (R190). -/
def limBarge (s : State) (c : Nat) (b : Barge) : Barge :=
  let b := limM s c b
  let t := max (q16 (-50)) (min (q16 250) b.tg)
  if t = b.tg then b else { b with tg := t, sat := true }

/-- The latched signal of an entry. -/
def sigIn (u : TrkUpd) (e : Nat) : TrkSig :=
  (u.sigs.find? fun y => decide (y.entry = e)).getD { entry := e, value := 0, instant := 0, valid := false, stale := 0 }

/-- Has a latched signal had no new sample for STALE_N periods (R183, R189)? -/
def sigStale (s : State) (c : Nat) (y : TrkSig) : Bool := decide (colStaleN s c ≠ 0 ∧ colStaleN s c ≤ y.stale)

/-- A barge of a new level (R183). -/
def newBarge (s : State) (c : Nat) (u : TrkUpd) : Barge :=
  let w := rd s (Reg.LP_TRK_SIG_IN c)
  let im := sigIn u (bits w 10 0)
  let it := sigIn u (bits w 26 16)
  { m := im.value, tg := it.value, res := 0, ta := 0, rh := 0, rate := 0, valid := im.valid && it.valid, sat := false, edge := 0,
    assim := false, cond := false, noair := false, resOvf := false, pound := 0, emc := 0 }

/-- Logical level `p` of a list of barges. -/
def levelOf (N : Nat) (bs : List Barge) (p : Nat) : List Barge := (bs.drop (p * N)).take N

/-- The mean of a list, to nearest. -/
def meanI (l : List Int) : Int := if l.isEmpty then 0 else rdivRaw (l.foldl (· + ·) 0) l.length

/-! ### Assimilation (R196) -/

/-- What an update works on: the barges in logical order, the biases, the station instants used, the biases that met their limit,
and ADV, TOP and the levels advanced. -/
structure TrkWork where
  bs : List Barge
  bias : List Int
  used : List (Nat × Word)
  lim : List Nat
  adv : Int
  top : Nat
  d : Int
  n : Nat
  deriving DecidableEq, Repr

/-- The stations act on the state as last committed (R196); one whose LEVEL the column does not have addresses no barge and does not
act (R195 states no limit on LEVEL: DESIGN CHOICE, log entry 83). -/
def assimilate (s : State) (c : Nat) (u : TrkUpd) (k : Nat) (w : TrkWork) : TrkWork :=
  let N := colLanes s c
  let r := rd s (Reg.LP_TRK_STN c k)
  let y := sigIn u (bits r 10 0)
  let lev := bits r 25 16
  let lane := bits r 30 28
  let idx := if lane = 7 then (List.range N).map fun q => lev * N + q else [lev * N + lane]
  let ad := w.bs.zipIdx.filter fun b => idx.contains b.2
  let fresh := match w.used.find? fun z => decide (z.1 = k) with
    | none => true
    | some z => laterN 32 y.instant.toNat z.2.toNat
  if y.valid && fresh && !ad.isEmpty && ad.all fun b => b.1.valid then
    let x := meanI (ad.map fun b => b.1.m)
    let e := y.value - x
    let dm := mulT (rdI s (Reg.LP_TRK_AGAIN c)) e
    let bs := w.bs.zipIdx.map fun b =>
      if idx.contains b.2 then
        limM s c { b.1 with m := sat32 (b.1.m + dm), sat := b.1.sat || satd (b.1.m + dm), assim := true }
      else b.1
    let w := { w with bs := bs, used := (w.used.filter fun z => decide (z.1 ≠ k)) ++ [(k, y.instant)] }
    if lev = 0 ∧ k = 0 then w
    else
      let bm := rdI s (Reg.LP_TRK_BMAX c)
      let raw := w.bias.getD k 0 - mulT (rdI s (Reg.LP_TRK_BGAIN c)) e
      let v := max (-bm) (min bm raw)
      let w := { w with bias := w.bias.set k v }
      if v = raw then w else { w with lim := w.lim ++ [k] }
  else w

/-! ### Advance (R180 to R183) -/

/-- The pulse edges an update counts (R180). -/
def trkEdges (x : TrkSt) (u : TrkUpd) : List (Tick × Int) :=
  x.edges.filter fun e => !laterN 64 e.1.toNat u.at0.toNat &&
    (match x.last0 with | none => true | some t => laterN 64 e.1.toNat t.toNat)

/-- The advance d of an update (R180), Q16.16. -/
def trkAdvance (s : State) (c : Nat) (u : TrkUpd) : Int :=
  let lpp := rdI s (Reg.LP_TRK_LPP c)
  if colMode s c ≠ 0 then 0
  else if rdB s (Reg.LP_TRK_CFG c) 24 then
    let a := (sigIn u (rdF s (Reg.LP_TRK_SIG_AUX c) 26 16)).value
    rdivRaw (a * lpp * (u.m * colT s c : Nat)) (3600000000 * 65536)
  else netCount (trkEdges (trkOf s c) u) * lpp

/-- The advance of levels (R174, R180 to R182). -/
def advance (s : State) (c : Nat) (u : TrkUpd) (d : Int) (w : TrkWork) : TrkWork :=
  let L := colLevels s c
  let N := colLanes s c
  let adv := max (w.adv + d) (-(q16 L))
  let n := if adv ≥ 65536 then (adv / 65536).toNat else 0
  let adv := if adv ≥ 65536 then adv % 65536 else adv
  let k := min n L
  { w with
    bs := List.replicate (k * N) (newBarge s c u) ++ w.bs.take ((L - k) * N), adv := adv, top := (w.top + L * k - k) % max 1 L,
    d := d, n := n }

/-! ### Lookups (R191 to R193) -/

/-- p_ws(t) (R193), and whether one of the entries it uses is 0 or less (R187). -/
def pws (s : State) (d : Nat) (t : Int) : TQ × Bool :=
  let (i, a, e) := axisPos t (rdI s (Reg.LP_TRK_SVP_AX d 0)) (rdI s (Reg.LP_TRK_SVP_AX d 1)) 256
  let base := dieAt d 0xD05000
  let x := rdI s (base + 4 * i)
  let y := rdI s (base + 4 * (i + 1))
  (⟨sat32 (lerp x y a), false, if e then 4 else 0⟩, decide (x ≤ 0 ∨ y ≤ 0))

/-- emc(t, rh) (R192). -/
def emcAt (s : State) (d : Nat) (t : Int) (rh : TQ) : TQ :=
  let (i, a, e1) := axisPos t (rdI s (Reg.LP_TRK_EMC_AX d 0)) (rdI s (Reg.LP_TRK_EMC_AX d 1)) 32
  let (k, b, e2) := axisPos rh.v (rdI s (Reg.LP_TRK_EMC_AX d 2)) (rdI s (Reg.LP_TRK_EMC_AX d 3)) 32
  ⟨bilinear s (dieAt d 0xD04000) 32 i k a b, rh.sat, if e1 || e2 then rh.edge ||| 2 else rh.edge⟩

/-- surf(sf, m, ta, rh) (R191). -/
def surfAt (s : State) (d sf : Nat) (m ta : Int) (rh : TQ) : TQ :=
  let h := if surfSplit s d ∧ sf = 2 then 1 else 0
  let nk := if surfSplit s d then 8 else 16
  let ax := fun j => rdI s (Reg.LP_TRK_SURF_AX d h j)
  let (i, a, e1) := axisPos m (ax 0) (ax 1) 16
  let (j, b, e2) := axisPos ta (ax 2) (ax 3) 16
  let (k, c, e3) := axisPos rh.v (ax 4) (ax 5) nk
  let w : Nat → Nat → Nat → Int := fun i j k => rdI s (dieAt d 0xD00000 + 4 * (2048 * h + (k * 16 + j) * 16 + i))
  let x00 := lerp (w i j k) (w (i + 1) j k) a
  let x10 := lerp (w i (j + 1) k) (w (i + 1) (j + 1) k) a
  let x01 := lerp (w i j (k + 1)) (w (i + 1) j (k + 1)) a
  let x11 := lerp (w i (j + 1) (k + 1)) (w (i + 1) (j + 1) (k + 1)) a
  ⟨sat32 (lerp (lerp x00 x10 b) (lerp x01 x11 b) c), rh.sat, if e1 || e2 || e3 then rh.edge ||| 1 else rh.edge⟩

/-! ### Humidity (R187) -/

/-- w_of(t, rh) (R187). -/
def wOf (s : State) (d : Nat) (patm t rh : Int) : TQ :=
  let p := tqMul (pws s d t).1 (tq rh)
  let x : TQ := { p with v := Int.tdiv p.v 100 }
  tqMul (tq (q16 622)) (tqDiv x (tqSub (tq patm) x))

/-- rh_of(t, w) (R187). -/
def rhOf (s : State) (d : Nat) (patm t : Int) (w : TQ) : TQ :=
  let (p, bad) := pws s d t
  if bad then ⟨q16 100, true, w.edge ||| p.edge⟩
  else
    let r := tqMul (tq (q16 100)) (tqDiv (tqMul (tq patm) (tqDiv w (tqAdd (tq (q16 622)) w))) p)
    { r with v := max 0 (min (q16 100) r.v) }

/-- w_sat(t) (R187). -/
def wSat (s : State) (d : Nat) (patm t : Int) : TQ :=
  let p := (pws s d t).1
  if p.v ≥ patm - 4096 then { p with v := 0x7FFFFFFF }
  else tqMul (tq (q16 622)) (tqDiv p (tqSub (tq patm) p))

/-! ### Drying (R188 to R190) -/

/-- The pound of a level (Stations and pounds): the first station at or below it, or the last. -/
def poundOf (s : State) (c p : Nat) : Nat :=
  let n := colNst s c
  min ((List.range n).filter fun k => decide (stnLevel s c k < p)).length (n - 1)

/-- The zone of a level (R185). -/
def zoneOf (s : State) (c p : Nat) : Nat :=
  ((List.range (colZones s c)).filter fun z => decide (zoneStart s c z ≤ p)).length - 1

/-- One barge in air (R188, R190); the second part is the air it passes on. -/
def dryBarge (s : State) (c : Nat) (dt : Int) (bias : List Int) (kw cap : TQ) (sf : Nat) (p : Nat) (air : Int × TQ) (b : Barge) :
    Barge × Int × TQ :=
  let d := colDie c
  let patm := rdI s (Reg.LP_TRK_PATM c)
  let (ta, w) := air
  let pound := poundOf s c p
  let rh := rhOf s d patm ta w
  let e := emcAt s d ta rh
  let r := tqSat (tqAdd (surfAt s d sf b.m ta rh) (tq (bias.getD pound 0)))
  let hx := tqMul (tq (rdI s (Reg.LP_TRK_HK c))) (tq (ta - b.tg))
  let ta1 := tqSat (tqSub (tq ta) (tqMul cap hx))
  let w1 := tqSat (tqAdd w (tqMul kw r))
  let ws := wSat s d patm ta1.v
  let (w2, r2, cond) :=
    if w1.v > ws.v then (ws, tqDiv (tqSub ws w) kw, true)
    else if w1.v < 0 then (tq 0, tqDiv (tqSub (tq 0) w) kw, true)
    else (w1, r, false)
  let ev := tqMul (tq (rdI s (Reg.LP_TRK_EV c))) r2
  let t1 := b.tg + hrs (hx.v - ev.v) dt
  let t2 := if hx.v > 0 ∧ t1 > ta then ta else if hx.v < 0 ∧ t1 < ta then ta else t1
  let m1 := b.m - hrs r2.v dt
  let ro := rhOf s d patm ta1.v { w2 with sat := false, edge := 0 }
  let b := { b with
    m := m1, tg := t2, rate := r2.v, ta := ta1.v, rh := ro.v, emc := e.v, pound := pound, cond := b.cond || cond,
    sat := b.sat || e.sat || r.sat || hx.sat || ta1.sat || w1.sat || ws.sat || r2.sat || ev.sat || ro.sat,
    edge := b.edge ||| e.edge ||| r.edge ||| ta1.edge ||| w1.edge ||| ws.edge ||| ro.edge }
  (limBarge s c b, ta1.v, { w2 with sat := false, edge := 0 })

/-- A path without air (R189). -/
def noAir (s : State) (c p : Nat) (b : Barge) : Barge :=
  if b.valid then { b with rate := 0, noair := true, pound := poundOf s c p } else b

/-- The humidity ratio of a zone's inlet air (R187). -/
def zoneAir (s : State) (c : Nat) (u : TrkUpd) (z : Nat) : Int × TQ :=
  let r := rd s (Reg.LP_TRK_ZONE_SIG c z)
  let ta := (sigIn u (bits r 10 0)).value
  let hum := (sigIn u (bits r 26 16)).value
  (ta, if bit r 31 then tq hum else wOf s (colDie c) (rdI s (Reg.LP_TRK_PATM c)) ta hum)

/-- Does a zone's path run without air (R189)? -/
def zoneOff (s : State) (c : Nat) (u : TrkUpd) (z : Nat) : Bool :=
  let r := rd s (Reg.LP_TRK_ZONE_SIG c z)
  let q := (sigIn u (rdF s (Reg.LP_TRK_SIG_AUX c) 10 0)).value
  let l := [sigIn u (bits r 10 0), sigIn u (bits r 26 16)]
  (rdB s (Reg.LP_TRK_CFG c) 14 && decide (16 * q < rdI s (Reg.LP_TRK_QNOM c)))
    || l.any fun y => !y.valid || sigStale s c y

/-- KW and CAP in effect (R188). -/
def effCoef (s : State) (c : Nat) (u : TrkUpd) (addr : Nat) : TQ :=
  let k := tq (rdI s addr)
  if rdB s (Reg.LP_TRK_CFG c) 14 then
    tqDiv (tqMul k (tq (rdI s (Reg.LP_TRK_QNOM c)))) (tq (sigIn u (rdF s (Reg.LP_TRK_SIG_AUX c) 10 0)).value)
  else k

/-- The barges of a path in the order the air meets them, each with its level; an invalid one passes the air on (R186). -/
def dryPath (s : State) (c : Nat) (dt : Int) (bias : List Int) (kw cap : TQ) (sf : Nat) :
    Int × TQ → List (Nat × Barge) → List Barge
  | _, [] => []
  | air, (p, b) :: r =>
    if b.valid then
      let (b1, t1, w1) := dryBarge s c dt bias kw cap sf p air b
      b1 :: dryPath s c dt bias kw cap sf (t1, w1) r
    else b :: dryPath s c dt bias kw cap sf air r

/-- A path in zone `z` (R186, R189). The saturation of the zone's inlet conversion and of the coefficients counts for the first
valid barge of the path. -/
def path (s : State) (c : Nat) (u : TrkUpd) (bias : List Int) (z : Nat) (l : List (Nat × Barge)) : List Barge :=
  let dt : Int := (u.m * colT s c : Nat)
  if zoneOff s c u z then l.map fun x => noAir s c x.1 x.2
  else
    dryPath s c dt bias (effCoef s c u (Reg.LP_TRK_KW c)) (effCoef s c u (Reg.LP_TRK_CAP c))
      (rdF s (Reg.LP_TRK_ZONE_SIG c z) 30 29) (zoneAir s c u z) l

/-- The air pass and drying of every valid barge (R178 step 3, R186). -/
def airPass (s : State) (c : Nat) (u : TrkUpd) (w : TrkWork) : TrkWork :=
  let L := colLevels s c
  let N := colLanes s c
  let lv := (List.range L).map fun p => (levelOf N w.bs p).map fun b => (p, b)
  let bs :=
    if colAir s c = 0 then lv.zipIdx.flatMap fun x => path s c u w.bias (zoneOf s c x.2) x.1
    else if colAir s c = 1 then (path s c u w.bias 0 lv.flatten.reverse).reverse
    else path s c u w.bias 0 lv.flatten
  { w with bs := bs }

/-- The residence time of a barge after `dt` µs (R173, R190). -/
def resBarge (dt : Nat) (b : Barge) : Barge :=
  if b.valid then
    let r := b.res + dt / 100000
    if r ≥ 0xFFFFFFFF then { b with res := 0xFFFFFFFF, resOvf := true } else { b with res := r }
  else b

/-! ### Predictions (R201 to R203) -/

/-- Write one result of the tracker to its entry (R38, R176): only an entry declared with this output as its source takes it. -/
def trkWrite (c out dest : Nat) (v : Int) (u : TrkUpd) (s : State) : State :=
  let d := colDie c
  if sigKind s d dest = 2 ∧ sigSrc s d dest = colLocal c * 8 + out then
    produce d dest (i32 v) (w32 (u.at1.toNat / 100)) (colT s c) u.commit s
  else s

/-- The moisture of a level, projected (R202). -/
def projected (s : State) (c lead : Nat) (m r e v : Int) (stopped : Bool) : Int :=
  let hzn := rdI s (Reg.LP_TRK_HZN c)
  let t := if colMode s c = 1 ∨ stopped then hzn
    else if v = 0 then min hzn (Config.divZero lead |>.extractLsb' 0 32).toInt
    else min hzn (Int.tdiv (lead * 2 ^ 32 : Nat) v)
  max (min m e) (min (max m e) (m - mulT r t))

/-- The value of a prediction, none where it is not written (R201 to R203). -/
def predValue (s : State) (c j : Nat) (bs : List Barge) (v : Int) (stopped : Bool) : Option Int :=
  let w := rd s (Reg.LP_TRK_PRED c j)
  let L := colLevels s c
  let N := colLanes s c
  let lead := bits w 9 0
  let lev := levelOf N bs (L - 1 - lead)
  let mean := fun (f : Barge → Int) (l : List Barge) => meanI (l.map f)
  let ok := fun (l : List Barge) (x : Int) => if !l.isEmpty && l.all fun b => b.valid then some x else none
  match bits w 19 17 with
  | 0 =>
    let m := mean (fun b => b.m) lev
    ok lev (if bit w 16 then projected s c lead m (mean (fun b => b.rate) lev) (mean (fun b => b.emc) lev) v stopped else m)
  | 1 => ok lev (mean (fun b => b.tg) lev)
  | 2 =>
    let l := bs.filter fun b => b.valid
    if l.isEmpty then none else some (mean (fun b => b.m) l)
  | 3 =>
    let l := ((List.range L).map fun p => levelOf N bs p).filter fun x => !x.isEmpty && x.all fun b => b.valid
    match l.map fun x => mean (fun b => b.m) x with
    | [] => none
    | x :: r => some (r.foldl max x)
  | 4 => ok lev (sat32 (rdivRaw ((lev.foldl (fun a b => a + b.res) 0 : Nat) * 65536) (36000 * max 1 lev.length)))
  | 5 => ok lev (mean (fun b => b.emc) lev)
  | q =>
    let f : Barge → Int := fun b => if q = 6 then b.ta else b.rh
    if colAir s c = 0 then
      let ps := (List.range L).filter fun p => decide (zoneOf s c p = lead)
      let all := ps.flatMap fun p => levelOf N bs p
      ok all (mean f (ps.filterMap fun p => (levelOf N bs p).getLast?))
    else
      let l := levelOf N bs (if colAir s c = 1 then 0 else L - 1)
      ok l (mean f l)

/-- The predictions of an update are written (R201, R203). -/
def trkPredict (c : Nat) (u : TrkUpd) (bs : List Barge) (s : State) : State :=
  let v := rdI s (Reg.LP_TRK_VRATE c)
  let stopped := rdB s (Reg.LP_TRK_STAT c) 2
  forEach (List.range 4) (fun j s =>
    let w := rd s (Reg.LP_TRK_PRED c j)
    if bit w 20 then
      match predValue s c j bs v stopped with
      | none => hwSet s (Reg.LP_TRK_STAT c) 12
      | some x => trkWrite c j (bits w 31 21) x u (wrI s (Reg.LP_TRK_PRED_VAL c j) x)
    else s) s

/-! ### The commit (R176, R178, R179) -/

/-- Stale signals at a commit (R183, R189): of the zones, and of the inlet when a level entered; an episode is logged when it
begins. -/
def trkStale (c : Nat) (u : TrkUpd) (entered : Bool) (s : State) : State :=
  let zs := (List.range (colZones s c)).filterMap fun z =>
    let r := rd s (Reg.LP_TRK_ZONE_SIG c z)
    ([bits r 10 0, bits r 26 16].find? fun e => sigStale s c (sigIn u e)).map fun e => (z, z, e)
  let w := rd s (Reg.LP_TRK_SIG_IN c)
  let open0 := (trkOf s c).stale
  let ins := ([bits w 10 0, bits w 26 16].eraseDups.filter fun e =>
    sigStale s c (sigIn u e) && (entered || open0.contains (16 + e))).map fun e => (16 + e, 15, e)
  let now := zs ++ ins
  let s := if now.isEmpty then s else hwSet s (Reg.LP_TRK_STAT c) 5
  let s := forEach (now.filter fun x => !open0.contains x.1) (fun x s =>
    raiseN 0x0309 (colDie c) (x.2.1 * 256 + colLocal c) x.2.2 s) s
  trkSet s c { trkOf s c with stale := now.map fun x => x.1 }

/-- The barge of a logical index is committed, with its events (R173, R190, R194); `old` holds the barges before their residence
times advanced. -/
def commitBarge (c top : Nat) (old : List Barge) (x : Barge × Nat) (s : State) : State :=
  let d := colDie c
  let N := colLanes s c
  let slot := slotOf s c top (x.2 / N) (x.2 % N)
  let b := x.1
  let was := (old.getD x.2 b).resOvf
  let s := bargeWr (bargeAddr d slot) b s
  let s := if b.edge ≠ 0 then raiseN 0x0302 d (b.edge * 0x10000 + colLocal c) slot s else s
  if b.sat || (b.resOvf && !was) then raiseN 0x0303 d (colLocal c) slot s else s

/-- The advance rate and STOPPED (R181, R184). -/
def trkRate (c : Nat) (u : TrkUpd) (w : TrkWork) (s : State) : State :=
  let dt : Int := (u.m * colT s c : Nat)
  let v0 := rdI s (Reg.LP_TRK_VRATE c)
  let bed := decide (colMode s c = 1)
  let vm := Int.tdiv (w.d * 3600000000) dt
  let v := if bed then 0 else sat32 (v0 + mulV (rdI s (Reg.LP_TRK_VF c)) (vm - v0))
  let s := wrI s (Reg.LP_TRK_VRATE c) v
  let was := rdB s (Reg.LP_TRK_STAT c) 2
  let now := !bed && decide (v < rdI s (Reg.LP_TRK_VMIN c) ∨ w.adv < 0)
  let s := wrB s (Reg.LP_TRK_STAT c) 2 now
  if was = now then s else raise 0x0305 (colDie c) (w32 (b2n now * 0x10000 + colLocal c)) (i32 v) s

/-- ADV, TOP and the events of the advance (R180 to R182); `adv0` is ADV before, `raw` ADV + d before its limit. -/
def trkAdvCommit (c : Nat) (adv0 raw : Int) (w : TrkWork) (s : State) : State :=
  let d := colDie c
  let L := colLevels s c
  let s := wrI (wrN s (Reg.LP_TRK_TOP c) w.top) (Reg.LP_TRK_ADV c) w.adv
  let s := wrB s (Reg.LP_TRK_STAT c) 3 (decide (w.adv < 0))
  let s := wrN s (Reg.LP_TRK_LEVELS_OUT c) (rdN s (Reg.LP_TRK_LEVELS_OUT c) + min w.n L)
  let s := if w.adv < 0 ∧ 0 ≤ adv0 then raise 0x0304 d (w32 (colLocal c)) (i32 w.adv) s else s
  let s := if raw ≤ -(q16 L) then
      let s := hwSet s (Reg.LP_TRK_STAT c) 6
      if -(q16 L) < adv0 then raise 0x0304 d (w32 (0x10000 + colLocal c)) (i32 w.adv) s else s
    else s
  if 0 < w.n ∧ L ≤ w.n then raiseN 0x030A d (colLocal c) (min w.n 0xFFFFFFFF) (hwSet s (Reg.LP_TRK_STAT c) 7) else s

/-- Learned biases are stored words (R198, R455). -/
def biasLearned (old new : List Int) (s : State) : State := if new = old then s else noteStored s

/-- The update of a column with barges is computed and committed (R178). -/
def trkCommitBarges (c : Nat) (u : TrkUpd) (s : State) : State :=
  let x := trkOf s c
  let L := colLevels s c
  let N := colLanes s c
  let top0 := rdN s (Reg.LP_TRK_TOP c)
  let adv0 := rdI s (Reg.LP_TRK_ADV c)
  let old := (List.range L).flatMap fun p => (List.range N).map fun q => bargeRd s (bargeAddr (colDie c) (slotOf s c top0 p q))
  let w0 : TrkWork := { bs := old, bias := u.bias, used := x.used, lim := [], adv := adv0, top := top0, d := 0, n := 0 }
  let cmd := u.cmds.getLast?
  let w := match cmd with
    | none => (List.range (colNst s c)).foldl (fun w k => assimilate s c u k w) w0
    | some _ =>
      u.cmds.foldl (fun w k =>
        if k.act = 0 then { w with bs := List.replicate (L * N) (newBarge s c u), adv := 0, top := 0 }
        else { w with bs := w.bs.map fun b => { b with valid := false }, adv := 0, top := 0 }) w0
  let preset : Bool := match cmd with | some k => decide (k.act = 0) | none => false
  let d := if preset then 0
    else if cmd.isSome ∧ !rdB s (Reg.LP_TRK_CFG c) 24 then 0 else trkAdvance s c u
  let raw := w.adv + d
  let w := if preset ∨ colMode s c ≠ 0 then { w with d := 0 } else advance s c u d w
  let advBefore := if cmd.isSome then 0 else adv0
  let entered := preset || decide (0 < w.n)
  let w := airPass s c u w
  let dt := u.m * colT s c
  let dried := w.bs
  let w := { w with bs := w.bs.map fun b => resBarge dt b }
  let offs := (List.range (colZones s c)).any fun z => zoneOff s c u z
  let s := trkSet s c { x with
    upd := none, m := 0, last0 := some u.at0, used := w.used,
    edges := x.edges.filter fun e => laterN 64 e.1.toNat u.at0.toNat }
  let s := forEach (List.range 8) (fun i s =>
    if x.cmds.any fun k => decide (k.act = 8 + i) then s else wrI s (Reg.LP_TRK_BIAS c i) (w.bias.getD i 0)) s
  let s := biasLearned u.bias w.bias s
  let s := forEach w.lim (fun k s =>
    raise 0x0308 (colDie c) (w32 (k * 256 + colLocal c)) (i32 (w.bias.getD k 0)) (hwSet s (Reg.LP_TRK_STAT c) 13)) s
  let s := trkStale c u entered s
  let s := wrB s (Reg.LP_TRK_STAT c) 4 offs
  let s := forEach w.bs.zipIdx (commitBarge c w.top dried) s
  let s := if w.bs.any fun b => b.sat then hwSet s (Reg.LP_TRK_STAT c) 8 else s
  let s := if w.bs.any fun b => b.cond then hwSet s (Reg.LP_TRK_STAT c) 10 else s
  let s := if w.bs.any fun b => decide (b.edge ≠ 0) then count16 (Reg.LP_TRK_EDGE_CNT c) (hwSet s (Reg.LP_TRK_STAT c) 9)
    else s
  let full := ((List.range L).filter fun p => (levelOf N w.bs p).all fun b => b.valid).length
  let s := wrF s (Reg.LP_TRK_STAT c) 25 16 full
  let s := trkAdvCommit c advBefore raw w s
  let s := trkRate c u w s
  let s := trkPredict c u w.bs s
  let vo := rd s (Reg.LP_TRK_VOUT c)
  if bit vo 20 then trkWrite c 4 (bits vo 31 21) (rdI s (Reg.LP_TRK_VRATE c)) u s else s

/-- The update of an EMC_ONLY column (R200). The slot in its events is stated nowhere: a free value. -/
def trkCommitEmc (c : Nat) (u : TrkUpd) (s : State) : State :=
  let d := colDie c
  let r := rd s (Reg.LP_TRK_ZONE_SIG c 0)
  let ta := sigIn u (bits r 10 0)
  let hum := sigIn u (bits r 26 16)
  let s := trkSet s c { trkOf s c with upd := none, m := 0, last0 := some u.at0 }
  let s := trkStale c u false s
  let s := wrB s (Reg.LP_TRK_STAT c) 4 (zoneOff s c u 0)
  if ta.valid && hum.valid then
    let rh := if bit r 31 then rhOf s d (rdI s (Reg.LP_TRK_PATM c)) ta.value (tq hum.value) else tq hum.value
    let e := emcAt s d ta.value rh
    let (fv, s) := takeFree s
    let s := if e.edge ≠ 0 then
        raise 0x0302 d (w32 (e.edge * 0x10000 + colLocal c)) fv
          (count16 (Reg.LP_TRK_EDGE_CNT c) (hwSet s (Reg.LP_TRK_STAT c) 9))
      else s
    let s := if e.sat then raise 0x0303 d (w32 (colLocal c)) fv (hwSet s (Reg.LP_TRK_STAT c) 8) else s
    forEach (List.range 4) (fun j s =>
      let w := rd s (Reg.LP_TRK_PRED c j)
      if bit w 20 ∧ bits w 19 17 = 5 then trkWrite c j (bits w 31 21) e.v u (wrI s (Reg.LP_TRK_PRED_VAL c j) e.v) else s) s
  else s

/-- An overrun (R179): nothing is committed; a PRESET or CLEAR waits on. -/
def trkOverrun (c : Nat) (u : TrkUpd) (s : State) : State :=
  let x := trkOf s c
  let s := trkSet s c { x with upd := none, cmds := (u.cmds.map fun k => { k with logged := true }) ++ x.cmds }
  let s := hwSet s (Reg.LP_TRK_STAT c) 11
  let s := count16 (Reg.LP_TRK_OVR_CNT c) s
  let s := trkSlack c 0 s
  raiseN 0x0301 (colDie c) (colLocal c) u.m s

/-- TRK_COMMIT (R176, R179): at the commit instant, an update whose work is done commits, any other overruns. -/
def effTrkCommit (c : Nat) (s : State) : State :=
  match (trkOf s c).upd with
  | none => s
  | some u =>
    if reached s.clk.tb1 u.commit then
      if !u.done then trkOverrun c u s
      else if colMode s c = 2 then trkCommitEmc c u s
      else trkCommitBarges c u s
    else s

/-! ### Commands (R198, R204, R205) and the latching read (R175) -/

/-- A command reaches a column: 0 PRESET, 1 CLEAR, 2 CLR_BIAS, from a port code (0 a sequence). -/
def trkCommand (c act port : Nat) (s : State) : State :=
  trkSet s c { trkOf s c with cmds := (trkOf s c).cmds ++ [{ act := act, port := port, word := 0, logged := false }] }

/-- The owner write of LP_TRK_CTRL with one action (R204). -/
def opTrkCtrl (p : PortId) (c act : Nat) : WOp := wOk fun s => portMark 3 c (trkCommand c act (portCode p) s)

/-- The owner write of LP_TRK_BIAS (R198, R205): stored, and in force from the next sample instant. -/
def opTrkBias (p : PortId) (c k : Nat) (w : Word) : WOp := wOk fun s =>
  let s := portMark 3 c (noteStored (wr s (Reg.LP_TRK_BIAS c k) w))
  trkSet s c { trkOf s c with
    cmds := (trkOf s c).cmds ++ [{ act := 8 + k, port := portCode p, word := w, logged := false }] }

/-- PRESET (R204): the writing port and the column. -/
def execTrkPreset (p : PortId) (c : Nat) (s : State) : Host.Outcome State Fault Refusal :=
  guardIx c 16 (run (ownerWrite p (Reg.LP_TRK_CTRL c) (opTrkCtrl p c 0)) s)
/-- CLEAR (R204): the writing port and the column. -/
def execTrkClear (p : PortId) (c : Nat) (s : State) : Host.Outcome State Fault Refusal :=
  guardIx c 16 (run (ownerWrite p (Reg.LP_TRK_CTRL c) (opTrkCtrl p c 1)) s)
/-- CLR_BIAS (R204): the writing port and the column. -/
def execTrkClrBias (p : PortId) (c : Nat) (s : State) : Host.Outcome State Fault Refusal :=
  guardIx c 16 (run (ownerWrite p (Reg.LP_TRK_CTRL c) (opTrkCtrl p c 2)) s)

/-- BARGE_READ (R175): a port's read of w0 of barge slot `n` of loop die LP`i` latches w1 to w7. -/
def effBargeRead (p : PortId) (i n : Nat) (s : State) : State :=
  let a := bargeAddr (i + 1) n
  latchWords p (rd s) 7 (a + 4) s

/-- BARGE_READ (R175): the reading port, the loop die 0 to 3 and the slot 0 to 511. -/
def execBargeRead (p : PortId) (i n : Nat) (s : State) : Host.Outcome State Fault Refusal :=
  guardIx i 4 (guardIx n 512 (run (portAct p (bargeAddr (i + 1) n) (effBargeRead p i n)) s))

end Sys2Proof.Machine
end

