-- ==== Sys2Proof/Machine/Strings.lean ====
section
/-!
DEFINITION. The sensor string ports (chapter 6): frames and CRC, power-up, scans, enumeration, port faults.
-/
namespace Sys2Proof.Machine

/-! ### Frames (R154, R155) -/

/-- The bytes of a command from CMD to its last argument (Tables 06-2 and 06-3). -/
def strBody : StrCmd → List Byte
  | .read k => [0x01, BitVec.ofNat 8 k]
  | .convert => [0x02, 0x40]
  | .search d p => [0x03, 0x40] ++ beBytes 1 d ++ beBytes 6 p
  | .assign id k => [0x04, 0x40] ++ beBytes 6 id ++ beBytes 1 k
  | .reset none => [0x05, 0x40]
  | .reset (some k) => [0x05, BitVec.ofNat 8 k]
  | .park id => [0x06, 0x40] ++ beBytes 6 id
/-- A command frame (R154). -/
def strFrame (c : StrCmd) : List Byte := [0xA5] ++ strBody c ++ [BitVec.ofNat 8 (crc8 (strBody c))]

/-- A bit time of the downlink in TB0 ticks (R153). -/
def strBit : Nat := 10417

/-- The bit times from the beginning of the idle line before a command to the instant at which its sending stands: 4 idle, the frame,
and of a SEARCH its window (R154, R158). -/
def strLead (c : StrCmd) : Nat :=
  match c with
  | .search _ _ => 98
  | _ => 4 + 8 * (strFrame c).length

/-- The bit times an exchange can still take after that: the window and the reply, at its slowest (R153, R164). -/
def strRest : StrCmd → Nat
  | .read _ => 6 + 50
  | .assign _ _ => 6 + 42
  | _ => 0

/-! ### The port -/

/-- A port before anything happened on it. -/
def strInit (_ : Nat) : StrSt :=
  { on := false, up := none, oc := none, cfg := false, low := false, noisy := false, noise := 0, scan := none, gap := false,
    pass := none, ended := none, resets := [], ids := [], out := none, win := none, sent := [], idle := 0, next := none }
/-- String port `x` (0 to 7). -/
def strOf (s : State) (x : Nat) : StrSt := tget strInit s.str x
/-- Replace string port `x`. -/
def strSet (s : State) (x : Nat) (v : StrSt) : State := { s with str := tput strInit s.str x v }
/-- The loop die of string port `x`. -/
def strDie (x : Nat) : Nat := 1 + x / 2
/-- w6 of a port's events (R170). -/
def strW6 (x k : Nat) : Nat := x % 2 * 256 + k
/-- The code in force (Table 06-4). -/
def strCode (s : State) (x : Nat) : Nat := rdF s (Reg.LP_STR_STAT x) 3 0
/-- Is entry `k` enabled? -/
def nodeEn (s : State) (x k : Nat) : Bool := rdB s (Reg.LP_STR_NODE_CFG x k) 20
/-- Is entry `k` assigned? -/
def nodeAsg (s : State) (x k : Nat) : Bool := rdB s (Reg.LP_STR_NODE_STAT x k) 0
/-- The ID of entry `k`. -/
def nodeId (s : State) (x k : Nat) : Nat :=
  rdF s (Reg.LP_STR_NODE_ID_HI x k) 15 0 * 2 ^ 32 + rdN s (Reg.LP_STR_NODE_ID_LO x k)
/-- The enabled entries, ascending. -/
def strNodes (s : State) (x : Nat) : List Nat := (List.range 64).filter fun k => nodeEn s x k
/-- RETRY. -/
def strRetry (s : State) (x : Nat) : Nat := rdF s (Reg.LP_STR_CFG x) 29 28
/-- Ticks from S to slot `j` (R163). -/
def strSlotAt (s : State) (x j : Nat) : Nat := 400000 + rdF s (Reg.LP_STR_CFG x) 6 0 * 1000000 + j * 950000

/-- Entry `k` becomes assigned or unassigned, and NASSIGNED follows. -/
def nodeAssign (x k : Nat) (b : Bool) (s : State) : State :=
  let s := wrB s (Reg.LP_STR_NODE_STAT x k) 0 b
  wrF s (Reg.LP_STR_STAT x) 14 8 ((List.range 64).filter fun j => nodeAsg s x j).length
/-- Every entry becomes unassigned. -/
def nodesUnassign (x : Nat) (s : State) : State :=
  wrF (forEach (List.range 64) (fun k s => wrB s (Reg.LP_STR_NODE_STAT x k) 0 false) s) (Reg.LP_STR_STAT x) 14 8 0

/-- The code follows the conditions in the order of Table 06-4; a change is logged (R168). -/
def strRefresh (x : Nat) (s : State) : State :=
  let v := strOf s x
  let code := if v.cfg then 4 else if v.oc.isSome then 1 else if v.low then 2 else if v.noisy then 3 else 0
  if strCode s x = code then s
  else
    let s := wrF s (Reg.LP_STR_STAT x) 3 0 code
    raise 0x0210 (strDie x) (w32 (code * 0x10000 + strW6 x 0)) (rd s (Reg.LP_STR_LINE x)) s

/-- Does a port break R163 or R168? -/
def strCfgBad (s : State) (x : Nat) : Bool :=
  let tc := rdF s (Reg.LP_STR_CFG x) 6 0
  let T := rdN s (Reg.LP_STR_PERIOD x)
  decide (tc = 0 ∨ 75 < tc ∨ T < 1000000 ∨ 600000000 < T ∨ T ≤ rdN s (Reg.LP_STR_PHASE x)
    ∨ T * 100 < strSlotAt s x ((strNodes s x).length + strRetry s x))

/-- The start check of a port (R168). -/
def strStartCheck (x : Nat) (s : State) : State :=
  if rdB s (Reg.LP_STR_CFG x) 31 ∧ strCfgBad s x then strRefresh x (strSet s x { strOf s x with cfg := true }) else s

/-- Has the line been idle for 4 bit times before the command that ends now (R154)? -/
def strIdle (s : State) (x : Nat) (c : StrCmd) : Bool :=
  reached s.clk.tb0 ((strOf s x).idle + BitVec.ofNat 64 (strLead c * strBit))

/-- The line goes off: a scan and a pass under way end (R162, R168). -/
def strOff (x : Nat) (s : State) : State :=
  let s := strSet s x { strOf s x with on := false, up := none, scan := none, gap := false, pass := none, out := none, win := none, next := none }
  wrB s (Reg.LP_STR_STAT x) 7 false

/-- The port powers up and waits 100 ms (R162). -/
def strPower (x : Nat) (s : State) : State :=
  strSet s x { strOf s x with on := false, up := some (s.clk.tb0 + 10000000), scan := none, gap := false, out := none, win := none, next := none }

/-- STR_POWER_UP (R162): at step 10 of a start, and when V5 returns to good. -/
def effStrPowerUp (x : Nat) (s : State) : State :=
  let v := strOf s x
  if running s && v5Good s && rdB s (Reg.LP_STR_CFG x) 31 && !v.cfg && v.oc.isNone && !v.on && v.up.isNone then strPower x s
  else s

/-- STR_POWER_UP (R162): the string port, 0 to 7. -/
def execStrPowerUp (x : Nat) (s : State) : Host.Outcome State Fault Refusal := guardIx x 8 (run (effStrPowerUp x) s)

/-- A frame has left the port; the line is idle from now on. -/
def strSend (x : Nat) (c : StrCmd) (s : State) : State :=
  strSet s x { strOf s x with sent := strFrame c, out := none, idle := s.clk.tb0 }

/-- STR_POWERUP_WAIT_DONE (R162): a broadcast RESET_ADDR goes out, 32 bit times long, and every entry is unassigned. `line` is
LP_STR_LINE as measured. -/
def effStrPowerupWaitDone (x : Nat) (line : Word) (s : State) : State :=
  match (strOf s x).up with
  | none => s
  | some t =>
    if reached s.clk.tb0 t && v5Good s then
      let s := strSet s x { strOf s x with up := none, on := true }
      let s := strSend x (.reset none) (wr s (Reg.LP_STR_LINE x) line)
      nodesUnassign x (strSet s x { strOf s x with idle := s.clk.tb0 + BitVec.ofNat 64 (32 * strBit) })
    else s

/-- STR_POWERUP_WAIT_DONE (R162): the port, and its line as measured. -/
def execStrPowerupWaitDone (x : Nat) (line : Word) (s : State) : Host.Outcome State Fault Refusal :=
  guardIx x 8 (run (effStrPowerupWaitDone x line) s)

/-! ### Scans (R163 to R167) -/

/-- A scan with sample instant `c` begins with CONVERT (R163). -/
def strScan (x : Nat) (c : Conv) (s : State) : State :=
  let sc : StrScan := { at1 := c.at1, at0 := c.at0, nodes := strNodes s x, slot := 0, failed := [], got := [] }
  strSet s x { strOf s x with scan := some sc, gap := false, noise := 0, out := some .convert, next := none }

/-- STR_SCAN_START (R163, R108): a sample instant of a port, its last period over, starts CONVERT; with a scan still in progress it
starts when that completes (R167). -/
def effStrScanStart (x : Nat) (line : Word) (s : State) : State :=
  let v := strOf s x
  if running s && v.on && v.win.isNone && onGrid s (rdN s (Reg.LP_STR_PERIOD x)) (rdN s (Reg.LP_STR_PHASE x))
      && inDue s (112 + x) (tb3Tick s) then
    let s := inBegin (112 + x) (rdN s (Reg.LP_STR_PERIOD x)) (tb3Tick s) (wr s (Reg.LP_STR_LINE x) line)
    let c : Conv := { at1 := tb3Tick s, at0 := tb3At0 s }
    if v.scan.isSome then strSet s x { v with next := some c } else strScan x c s
  else s

/-- STR_SCAN_START (R163): the port, and its line as measured. -/
def execStrScanStart (x : Nat) (line : Word) (s : State) : Host.Outcome State Fault Refusal :=
  guardIx x 8 (run (effStrScanStart x line) s)

/-- Has a frame of `n` bit times that began `d` ticks after the sample instant of the scan ended by now? -/
def strSlotEnd (s : State) (x d n : Nat) : Bool :=
  match (strOf s x).scan with
  | none => false
  | some sc => reached s.clk.tb0 (sc.at0 + BitVec.ofNat 64 (d + n * strBit))

/-- STR_CONVERT (R156, R163): the broadcast CONVERT of the scan is sent; the command stands at the end of its frame. -/
def effStrConvert (x : Nat) (s : State) : State :=
  if (strOf s x).out = some .convert && strIdle s x .convert && strSlotEnd s x 0 32 then strSend x .convert s else s

/-- STR_CONVERT (R156): the port. -/
def execStrConvert (x : Nat) (s : State) : Host.Outcome State Fault Refusal := guardIx x 8 (run (effStrConvert x) s)

/-- STR_READ_SLOT (R163): the next slot starts, a READ of its entry, a retry in a spare slot, or an idle slot. -/
def effStrReadSlot (x : Nat) (s : State) : State :=
  let v := strOf s x
  match v.scan with
  | none => s
  | some sc =>
    let N := sc.nodes.length
    if v.out.isNone && v.win.isNone && decide (sc.slot < N + strRetry s x)
        && reached s.clk.tb0 (sc.at0 + BitVec.ofNat 64 (strSlotAt s x sc.slot)) then
      let next := { sc with slot := sc.slot + 1 }
      if sc.slot < N then
        let k := sc.nodes.getD sc.slot 0
        strSet s x { v with scan := some next, out := if nodeAsg s x k then some (.read k) else none }
      else
        match sc.failed with
        | [] => strSet s x { v with scan := some next }
        | k :: r => strSet s x { v with scan := some { next with failed := r }, out := some (.read k) }
    else s

/-- STR_READ_SLOT (R163): the port. -/
def execStrReadSlot (x : Nat) (s : State) : Host.Outcome State Fault Refusal := guardIx x 8 (run (effStrReadSlot x) s)

/-- A frame with a reply window leaves the port; the window ends 6 bit times later (R164). -/
def strSendWait (x : Nat) (c : StrCmd) (s : State) : State :=
  let s := strSend x c s
  strSet s x { strOf s x with win := some (c, s.clk.tb0 + BitVec.ofNat 64 (6 * strBit)) }

/-- STR_READ (R164): the READ of the slot is sent; the command stands at the end of its frame. -/
def effStrRead (x : Nat) (s : State) : State :=
  let from' := strSlotAt s x (match (strOf s x).scan with | some sc => sc.slot - 1 | none => 0)
  match (strOf s x).out with
  | some (.read k) => if strIdle s x (.read k) && strSlotEnd s x from' 32 then strSendWait x (.read k) s else s
  | _ => s

/-- STR_READ (R164): the port. -/
def execStrRead (x : Nat) (s : State) : Host.Outcome State Fault Refusal := guardIx x 8 (run (effStrRead x) s)

/-- Record a READ's code (Table 06-5) in LAST_ERR; a failed or flagged READ counts (R164). -/
def strErr (x k code : Nat) (s : State) : State :=
  let s := wrF s (Reg.LP_STR_NODE_STAT x k) 10 8 code
  if code = 0 then s else count16 (Reg.LP_STR_ERR_CNT x) s

/-- A failed READ of entry `k`: it may be retried in a spare slot (R163). -/
def strReadFailed (x k code : Nat) (s : State) : State :=
  let s := strErr x k code s
  let v := strOf s x
  match v.scan with
  | none => s
  | some sc =>
    if sc.slot ≤ sc.nodes.length then strSet s x { v with scan := some { sc with failed := sc.failed ++ [k] } } else s

/-- The code of a reply frame of `n` data bytes from node `k` (R164, Table 06-5): 0 when it is valid. -/
def replyCode (k n : Nat) (bytes : List Byte) (framing : Bool) : Nat :=
  if framing ∨ bytes.length ≠ n + 3 ∨ byteAt bytes 0 ≠ 0x5A then 2
  else if (byteAt bytes (n + 2)).toNat ≠ crc8 ((bytes.drop 1).take (n + 1)) then 3
  else if (byteAt bytes 1).toNat ≠ k then 4
  else 0

/-- The reply to a READ of entry `k` (R157, R164, R165). -/
def strReadReply (x k : Nat) (bytes : List Byte) (framing : Bool) (s : State) : State :=
  let code := replyCode k 3 bytes framing
  if code ≠ 0 then strReadFailed x k code s
  else
    let fl := (byteAt bytes 4).toNat
    let st := Reg.LP_STR_NODE_STAT x k
    let was := rdB s st 1
    let now := decide (fl % 2 = 1)
    let stale := decide (fl / 2 % 2 = 1)
    let s := if fl / 4 % 2 = 1 then hwSet s st 2 else s
    let s := if fl / 8 % 2 = 1 then hwSet s st 3 else s
    let s := wrB s st 1 now
    let s := if was = now then s else raiseN 0x0215 (strDie x) (strW6 x k) (b2n now) s
    if stale then strErr x k 5 s
    else if now then strErr x k 6 s
    else
      let s := strErr x k 0 s
      let raw : BitVec 16 := byteAt bytes 2 ++ byteAt bytes 3
      let y := sat32 (raw.toInt * 256 + rdI s (Reg.LP_STR_NODE_OFFSET x k))
      let v := strOf s x
      match v.scan with
      | none => s
      | some sc => strSet s x { v with scan := some { sc with got := sc.got ++ [(k, y)] } }

/-- The pass ends (R161). -/
def strPassEnd (x : Nat) (s : State) : State :=
  wrB (strSet s x { strOf s x with pass := none, ended := some s.clk.tb0 }) (Reg.LP_STR_STAT x) 7 false
/-- The pass goes on with search(0, 0) (R159). -/
def strPassNext (x : Nat) (s : State) : State :=
  strSet s x { strOf s x with pass := some { stage := 0, p := 0, node := 0 } }

/-- The reply to an ASSIGN of entry `k` (R160): without a valid one the ID is searched again in the next pass. -/
def strAssignReply (x k : Nat) (bytes : List Byte) (framing : Bool) (s : State) : State :=
  if replyCode k 2 bytes framing ≠ 0 then strPassEnd x s
  else
    let s := wrF (wrF s (Reg.LP_STR_NODE_STAT x k) 31 24 (byteAt bytes 2).toNat) (Reg.LP_STR_NODE_STAT x k) 23 16
      (byteAt bytes 3).toNat
    let s := wrF s (Reg.LP_STR_NODE_STAT x k) 15 12 0
    let s := nodeAssign x k true s
    let s := raiseN 0x0212 (strDie x) (strW6 x k) ((byteAt bytes 2).toNat * 0x1000000 + (byteAt bytes 3).toNat * 0x10000) s
    strPassNext x s

/-- STR_REPLY (R164): a reply that began within its window has been received; `framing` marks a Manchester violation or a bit time
outside ± 3 %. -/
def effStrReply (x : Nat) (bytes : List Byte) (framing : Bool) (s : State) : State :=
  match (strOf s x).win with
  | some (.read k, _) => strReadReply x k bytes framing (strSet s x { strOf s x with win := none, idle := s.clk.tb0 })
  | some (.assign _ k, _) => strAssignReply x k bytes framing (strSet s x { strOf s x with win := none, idle := s.clk.tb0 })
  | _ => s

/-- STR_REPLY (R164): the port, the bytes received from SYNC to CRC, and a framing error. -/
def execStrReply (x : Nat) (bytes : List Byte) (framing : Bool) (s : State) : Host.Outcome State Fault Refusal :=
  guardIx x 8 (run (effStrReply x bytes framing) s)

/-- STR_REPLY_TIMEOUT (R164): no reply has begun within 6 bit times of the command's end. -/
def effStrReplyTimeout (x : Nat) (s : State) : State :=
  match (strOf s x).win with
  | some (c, t) =>
    if reached s.clk.tb0 t then
      let s := strSet s x { strOf s x with win := none }
      match c with
      | .read k => strReadFailed x k 1 s
      | .assign _ _ => strPassEnd x s
      | _ => s
    else s
  | none => s

/-- STR_REPLY_TIMEOUT (R164): the port. -/
def execStrReplyTimeout (x : Nat) (s : State) : Host.Outcome State Fault Refusal := guardIx x 8 (run (effStrReplyTimeout x) s)

/-- The value of entry `k` is written (R29, R127, R164); the kind field of SIG_DEST_ERR is stated for no string: a free value. -/
def strWrite (x k : Nat) (y : Int) (at1 : Tick) (s : State) : Bool × State :=
  let d := strDie x
  let dest := rdF s (Reg.LP_STR_NODE_CFG x k) 31 21
  if sigKind s d dest = 1 ∧ sigSrc s d dest = 1024 + x % 2 * 64 + k then
    let s := produce d dest (i32 y) (w32 (at1.toNat / 100)) (rdN s (Reg.LP_STR_PERIOD x)) s.clk.tb1 s
    (true, wrF (wrI s (Reg.LP_STR_NODE_VALUE x k) y) (Reg.LP_STR_NODE_STAT x k) 15 12 0)
  else
    let (f, s) := takeFree s
    (false, raiseN 0x0207 d (f.toNat % 16 * 0x10000 + k) dest s)

/-- Entry `k` at a delivery (R164, R166). -/
def strDeliverNode (x : Nat) (sc : StrScan) (k : Nat) (s : State) : State :=
  let got := (sc.got.find? fun g => decide (g.1 = k)).map fun g => g.2
  let (ok, s) := match got with
    | some y => if strCode s x = 0 then strWrite x k y sc.at1 s else (false, s)
    | none => (false, s)
  if ok ∨ !nodeAsg s x k then s
  else
    let m := min 15 (rdF s (Reg.LP_STR_NODE_STAT x k) 15 12 + 1)
    let s := wrF s (Reg.LP_STR_NODE_STAT x k) 15 12 m
    if m ≥ rdF s (Reg.LP_STR_CFG x) 27 24 then
      raiseN 0x0211 (strDie x) (strW6 x k) (rdF s (Reg.LP_STR_NODE_STAT x k) 10 8) (nodeAssign x k false s)
    else s

/-- STR_DELIVERY (R163, R164, R166, R168): the delivery instant of the scan under way opens the gap, in which an exchange may begin from
now on (R161). -/
def effStrDelivery (x : Nat) (s : State) : State :=
  let v := strOf s x
  match v.scan with
  | none => s
  | some sc =>
    if v.out.isNone && v.win.isNone
        && reached s.clk.tb0 (sc.at0 + BitVec.ofNat 64 (strSlotAt s x (sc.nodes.length + strRetry s x))) then
      let idle := if laterN 64 (v.idle + BitVec.ofNat 64 (4 * strBit)).toNat s.clk.tb0.toNat then v.idle
        else s.clk.tb0 - BitVec.ofNat 64 (4 * strBit)
      let s := strSet s x { v with scan := none, gap := true, noisy := v.noisy && decide (v.noise ≠ 0), idle := idle }
      let s := forEach sc.nodes (strDeliverNode x sc) (strRefresh x s)
      match v.next with | some c => strScan x c s | none => s
    else s

/-! ### Enumeration (R158 to R161) -/

/-- The TB1 instant of the port's next sample (R108, R125): the first on its grid after now, and not before its local period ends. -/
def strNextAt (s : State) (x : Nat) : Nat :=
  let T := max 1 (rdN s (Reg.LP_STR_PERIOD x))
  let ph := rdN s (Reg.LP_STR_PHASE x) % T
  let e := tget (fun _ => (0 : Tick)) s.sense.ends (112 + x)
  let u := if e ≠ 0 ∧ laterN 64 e.toNat s.clk.tb1.toNat then (e.toNat + 99) / 100 else tb3us s + 1
  (u + (T - (u + T - ph) % T) % T) * 100
/-- The ticks of TB0 from now to the port's next sample instant. -/
def strToNext (s : State) (x : Nat) : Nat := tb1To0 s (strNextAt s x - s.clk.tb1.toNat)

/-- Is an exchange well placed (R154, R161): the gap open, the line idle for 4 bit times before it, its end at least 4 bit times before
the next sample instant? -/
def strMay (s : State) (x : Nat) (c : StrCmd) : Bool :=
  let v := strOf s x
  running s && v.on && v.gap && v.scan.isNone && v.win.isNone && v.out.isNone && strIdle s x c
    && decide ((strRest c + 4) * strBit ≤ strToNext s x)

/-- STR_ENUM_PASS (R161): a pass begins. -/
def effStrEnumPass (x : Nat) (s : State) : State :=
  let v := strOf s x
  let waited := match v.ended with
    | none => true
    | some t => decide (rdF s (Reg.LP_STR_CFG x) 23 16 * secTicks ≤ (s.clk.tb0 - t).toNat)
  if running s && v.on && v.gap && v.pass.isNone && waited && (strNodes s x).any fun k => !nodeAsg s x k then
    wrB (strPassNext x s) (Reg.LP_STR_STAT x) 7 true
  else s

/-- STR_ENUM_PASS (R161): the port. -/
def execStrEnumPass (x : Nat) (s : State) : Host.Outcome State Fault Refusal := guardIx x 8 (run (effStrEnumPass x) s)

/-- What a port does with the ID it has found (R160). -/
def strFound (x id : Nat) (s : State) : State :=
  let put := fun (st k : Nat) (s : State) => strSet s x { strOf s x with pass := some { stage := st, p := id, node := k } }
  match (List.range 64).find? fun k => decide (nodeId s x k = id) with
  | some k => put 50 k s
  | none =>
    match (strNodes s x).find? fun k => decide (nodeId s x k = 0) with
    | some k =>
      if rdB s (Reg.LP_STR_CFG x) 30 then
        let s := noteStored (wrN (wrN s (Reg.LP_STR_NODE_ID_LO x k) id) (Reg.LP_STR_NODE_ID_HI x k) (id / 2 ^ 32))
        put 50 k (raiseN 0x0213 (strDie x) (strW6 x k) id s)
      else put 51 0 s
    | none => put 51 0 s

/-- The answer to the SEARCH of a stage (R159). -/
def strSearchStep (x : Nat) (q : StrPass) (present : Bool) (s : State) : State :=
  let put := fun (st p : Nat) => strSet s x { strOf s x with pass := some { stage := st, p := p, node := 0 } }
  if q.stage = 0 then (if present then put 1 0 else strPassEnd x s)
  else if q.stage ≤ 48 then put (q.stage + 1) (if present then q.p else q.p + 2 ^ (48 - q.stage))
  else if present then strFound x q.p s
  else put 0 0

/-- STR_SEARCH (R158, R159): the next SEARCH of the pass, with the presence read in its window. -/
def effStrSearch (x : Nat) (present : Bool) (s : State) : State :=
  match (strOf s x).pass with
  | none => s
  | some q =>
    if q.stage < 50 ∧ strMay s x (.search 0 0) then
      strSearchStep x q present (strSend x (.search (min q.stage 48) q.p) s)
    else s

/-- STR_SEARCH (R158): the port, and whether a sensor shows presence. -/
def execStrSearch (x : Nat) (present : Bool) (s : State) : Host.Outcome State Fault Refusal :=
  guardIx x 8 (run (effStrSearch x present) s)

/-- STR_ASSIGN (R160): the ASSIGN of the ID found is sent; its reply is awaited. -/
def effStrAssign (x : Nat) (s : State) : State :=
  match (strOf s x).pass with
  | none => s
  | some q => if q.stage = 50 ∧ strMay s x (.assign q.p q.node) then strSendWait x (.assign q.p q.node) s else s

/-- STR_ASSIGN (R160): the port. -/
def execStrAssign (x : Nat) (s : State) : Host.Outcome State Fault Refusal := guardIx x 8 (run (effStrAssign x) s)

/-- STR_PARK (R160): an unknown sensor is parked and logged. -/
def effStrPark (x : Nat) (s : State) : State :=
  match (strOf s x).pass with
  | none => s
  | some q =>
    if q.stage = 51 ∧ strMay s x (.park q.p) then
      strPassNext x (raiseN 0x0214 (strDie x) (strW6 x 0) q.p (strSend x (.park q.p) s))
    else s

/-- STR_PARK (R160): the port. -/
def execStrPark (x : Nat) (s : State) : Host.Outcome State Fault Refusal := guardIx x 8 (run (effStrPark x) s)

/-- STR_RESET_ADDR (R156, R161, R169): the oldest reset waiting is sent in the gap; a broadcast one starts a pass. -/
def effStrResetAddr (x : Nat) (s : State) : State :=
  match (strOf s x).resets with
  | [] => s
  | r :: rest =>
    if strMay s x (.reset r) then
      let s := strSend x (.reset r) (strSet s x { strOf s x with resets := rest })
      match r with
      | some k => nodeAssign x k false s
      | none => wrB (strPassNext x (nodesUnassign x s)) (Reg.LP_STR_STAT x) 7 true
    else s

/-- STR_RESET_ADDR (R156): the port. -/
def execStrResetAddr (x : Nat) (s : State) : Host.Outcome State Fault Refusal := guardIx x 8 (run (effStrResetAddr x) s)

/-- The write of REENUM (LP_STR_CTRL). -/
def opReenum (x : Nat) : WOp := wOk fun s => strSet s x { strOf s x with resets := (strOf s x).resets ++ [none] }

/-- REENUM (R161): the writing port and the string port. -/
def execReenum (p : PortId) (x : Nat) (s : State) : Host.Outcome State Fault Refusal :=
  guardIx x 8 (run (ownerWrite p (Reg.LP_STR_CTRL x) (opReenum x)) s)

/-- Both words of NODE_ID of entry `k` are written (R169): REFUSED when another entry holds that non-zero ID. -/
def opNodeId (x k : Nat) (lo hi : Word) : WOp := fun s =>
  let id := hi.toNat % 65536 * 2 ^ 32 + lo.toNat
  let drop := fun (s : State) => strSet s x { strOf s x with ids := (strOf s x).ids.filter fun y => decide (y.1 ≠ k) }
  if id ≠ 0 ∧ (List.range 64).any fun j => decide (j ≠ k ∧ nodeId s x j = id) then (.refused, drop)
  else (.ok, fun s =>
    let s := drop s
    if nodeId s x k = id then s
    else
      let s := noteStored (wrN (wrN s (Reg.LP_STR_NODE_ID_LO x k) lo.toNat) (Reg.LP_STR_NODE_ID_HI x k) (hi.toNat % 65536))
      strSet s x { strOf s x with resets := (strOf s x).resets ++ [some k] })

/-- One word of NODE_ID is written (R169): it waits for the other. `hi` marks the HI word. -/
def opNodeIdWord (x k : Nat) (hi : Bool) (w : Word) : WOp := fun s =>
  match (strOf s x).ids.find? fun y => decide (y.1 = k ∧ y.2.1 ≠ hi) with
  | some (_, _, other) => if hi then opNodeId x k other w s else opNodeId x k w other s
  | none => (.ok, fun s =>
    strSet s x { strOf s x with ids := ((strOf s x).ids.filter fun y => decide (y.1 ≠ k)) ++ [(k, hi, w)] })

/-- STR_NODE_ID_WRITE (R169): the writing port, the string port, the entry and both words. -/
def execStrNodeIdWrite (p : PortId) (x k : Nat) (lo hi : Word) (s : State) : Host.Outcome State Fault Refusal :=
  guardIx x 8 (guardIx k 64 (run (ownerWrite p (Reg.LP_STR_NODE_ID_HI x k) (opNodeId x k lo hi)) s))

/-! ### Port faults (R168) -/

/-- Is the port powered? -/
def strLive (s : State) (x : Nat) : Bool := (strOf s x).on || (strOf s x).up.isSome

/-- STR_OVERCURRENT (R168): the line goes off for 10 s. -/
def effStrOvercurrent (x : Nat) (line : Word) (s : State) : State :=
  if strLive s x then
    let s := strOff x (wr s (Reg.LP_STR_LINE x) line)
    strRefresh x (strSet s x { strOf s x with oc := some (s.clk.tb0 + 1000000000) })
  else s

/-- STR_OVERCURRENT (R168): the port, and its line as measured. -/
def execStrOvercurrent (x : Nat) (line : Word) (s : State) : Host.Outcome State Fault Refusal :=
  guardIx x 8 (run (effStrOvercurrent x line) s)

/-- STR_OC_RETRY (R168): 10 s after an OVERCURRENT the port powers up again. -/
def effStrOcRetry (x : Nat) (s : State) : State :=
  match (strOf s x).oc with
  | none => s
  | some t =>
    if reached s.clk.tb0 t && running s && v5Good s then strPower x (strRefresh x (strSet s x { strOf s x with oc := none }))
    else s

/-- STR_OC_RETRY (R168): the port. -/
def execStrOcRetry (x : Nat) (s : State) : Host.Outcome State Fault Refusal := guardIx x 8 (run (effStrOcRetry x) s)

/-- STR_LOW_LINE (R168): the SPACE level has been below 11.0 V for more than 10 ms. -/
def effStrLowLine (x : Nat) (line : Word) (s : State) : State :=
  if strLive s x then strRefresh x (strSet (wr s (Reg.LP_STR_LINE x) line) x { strOf s x with low := true }) else s

/-- STR_LOW_LINE (R168): the port, and its line as measured. -/
def execStrLowLine (x : Nat) (line : Word) (s : State) : Host.Outcome State Fault Refusal :=
  guardIx x 8 (run (effStrLowLine x line) s)

/-- SPACE_LEVEL_RESTORED (R168): the SPACE level is back at 11.0 V or above. -/
def effSpaceLevelRestored (x : Nat) (line : Word) (s : State) : State :=
  if (strOf s x).low then strRefresh x (strSet (wr s (Reg.LP_STR_LINE x) line) x { strOf s x with low := false }) else s

/-- SPACE_LEVEL_RESTORED (R168): the port, and its line as measured. -/
def execSpaceLevelRestored (x : Nat) (line : Word) (s : State) : Host.Outcome State Fault Refusal :=
  guardIx x 8 (run (effSpaceLevelRestored x line) s)

/-- STR_BUS_NOISE (R168): current outside any window; the third time within one scan is BUS_NOISE. -/
def effStrBusNoise (x : Nat) (line : Word) (s : State) : State :=
  let v := strOf s x
  if v.on then
    let n := min 3 (v.noise + 1)
    strRefresh x (strSet (wr s (Reg.LP_STR_LINE x) line) x { v with noise := n, noisy := v.noisy || decide (3 ≤ n) })
  else s

/-- STR_BUS_NOISE (R168): the port, and its line as measured. -/
def execStrBusNoise (x : Nat) (line : Word) (s : State) : Host.Outcome State Fault Refusal :=
  guardIx x 8 (run (effStrBusNoise x line) s)

end Sys2Proof.Machine
end

