-- ==== Sys2Proof/Machine/Planner.lean ====
section
/-!
DEFINITION. The margin planner (chapter 18): bands, ageing factors, delay codes, margins, drive derates, re-plans.
-/
namespace Sys2Proof.Machine

/-! ### Words of the eight dies -/

/-- x_THM_TEMP of die `d`. -/
def thmTemp (d : Nat) : Nat :=
  if d = 0 then Reg.SV_THM_TEMP else if d ≤ 4 then Reg.LP_THM_TEMP d else if d ≤ 6 then Reg.DR_THM_TEMP d else Reg.NW_THM_TEMP
/-- x_THM_STAT of die `d`. -/
def thmStat (d : Nat) : Nat := thmTemp d + 4
/-- x_THM_CANARY of die `d`. -/
def thmCanary (d : Nat) : Nat := thmTemp d + 8
/-- x_THM_TMAX of die `d`. -/
def thmTmax (d : Nat) : Nat := thmTemp d + 12

/-- The band die `d` has selected (SV_THM_BANDS). -/
def selBand (s : State) (d : Nat) : Nat := rdF s Reg.SV_THM_BANDS (3 * d + 2) (3 * d)
/-- The band in force on die `d` (R462). -/
def dieBand (s : State) (d : Nat) : Nat := rdF s (thmStat d) 2 0
/-- The package band (R4). -/
def pkgBand (s : State) : Nat := rdF s Reg.SV_THM_BANDS 26 24

/-- The band whose range contains a reading in Q16.16 °C (Table 00-3). -/
def bandOf (t : Int) : Nat :=
  if t < -20 * 65536 then 0 else if t < 25 * 65536 then 1 else if t < 70 * 65536 then 2 else if t < 105 * 65536 then 3 else 4
/-- The lower boundary of a band in Q16.16 °C. -/
def bandLow (b : Nat) : Int := [0, -20, 25, 70, 105].getD b 0 * 65536

/-- The band a die takes at a reading (R4): 3 °C of hysteresis on the way down. -/
def nextBand (b : Nat) (t : Int) : Nat :=
  let n := bandOf t
  if b < n then n else if n < b ∧ t < bandLow b - 3 * 65536 then n else b

/-! ### Planned figures (R466, R467, R469) -/

/-- A field write that its die applies at the next tick. -/
def wrLater (addr hi lo v : Nat) (s : State) : State :=
  { s with thm := { s.thm with later := s.thm.later ++ [(addr, hi, lo, v)] } }

/-- a[d] in Q16.16, never below 1.0 (R466). -/
def ageOf (s : State) (d : Nat) : Nat := max 65536 (rdN s (Reg.SV_THM_AGE d))
/-- The ageing factor of a canary run (R466); no laps at all: a free value. -/
def ageFactor (lref laps : Nat) : Nat :=
  if laps = 0 then max 65536 ((Config.divZero lref).extractLsb' 0 32).toNat
  else max 65536 (min 0xFFFFFFFF (roundAway (lref * 65536 : Nat) laps).toNat)
/-- The delay code of a die in a band (R466). -/
def dlyOf (s : State) (d b : Nat) : Nat := min 15 (Config.dlyBase d b + ((ageOf s d - 65536) * 40 + 65535) / 65536)
/-- 16 (1 − GB) of a band (Table 18-1). -/
def guard16 (b : Nat) : Nat := if b = 3 then 15 else if b = 4 then 14 else 16
/-- M[d] in Q16.16 (R467): rounded to nearest. -/
def marginOf (s : State) (d b : Nat) : Nat :=
  let a := ageOf s d
  let e := min (Config.aEol d) a
  (2 * (e * guard16 b * 65536) + a * 16) / (2 * (a * 16))

/-- The local converters of a drive die that are enabled, as global numbers. -/
def dieBsts (s : State) (d : Nat) : List Nat :=
  [(d - 5) * 2, (d - 5) * 2 + 1].filter fun k => rdB s (Reg.DR_BST_CFG k) 31
/-- ESR_MAX of converter `k`. -/
def esrMax (s : State) (k : Nat) : Nat := rdF s (Reg.DR_THM_ESRMAX (5 + k / 2)) (if k % 2 = 0 then 15 else 31) (if k % 2 = 0 then 0 else 16)
/-- The factor of one converter in D_ESR, Q16.16 to nearest (R469); 1.0 before its first estimate. -/
def esrFactor (s : State) (k : Nat) : Nat :=
  let e := rdN s (Reg.DR_BST_ESR k)
  if e = 0 then 65536 else min 65536 (max 32768 ((2 * esrMax s k * 65536 + e) / (2 * e)))
/-- The derate D of a drive die in Q16.16 (R469); 1.0 elsewhere. -/
def derateOf (s : State) (d b : Nat) : Nat :=
  if d = 5 ∨ d = 6 then ((dieBsts s d).map (esrFactor s)).foldl min (if b = 4 then 49152 else 65536) else 65536

/-- The step load of a loop die against its figure (R470). -/
def stepShort (s : State) (d m : Nat) : Bool :=
  decide (1 ≤ d ∧ d ≤ 4 ∧ 12000000 * m < rdN s (Reg.LP_ENG_LOAD d) * 65536)
/-- The transfer load of a die's link. -/
def linkLoad (s : State) (d : Nat) : Nat := tget (fun _ => 0) s.thm.loads d
/-- A link's transfer load against its derated figure (R467, R470). -/
def linkShort (s : State) (d m0 m : Nat) : Bool := decide (1 ≤ d ∧ 2000000 * min m0 m < linkLoad s d * 65536)

/-- MARGIN_LOW of die `d` (R470), on the transition into the condition. -/
def marginCheck (m0 : Nat) (x : Nat × Nat) (s : State) : State :=
  let (d, m) := x
  let st := stepShort s d m
  let ln := linkShort s d m0 m
  let s := if 1 ≤ d ∧ d ≤ 4 then wrLater (Reg.LP_ENG_STAT d) 1 1 (b2n (st || ln)) s else s
  let now := st || ln || decide (m < rdF s Reg.SV_THM_CFG 15 0)
  let was := s.thm.low.contains d
  let s := { s with thm := { s.thm with low := (s.thm.low.filter (· ≠ d)) ++ (if now then [d] else []) } }
  if now && !was then
    let load := if st ∨ (1 ≤ d ∧ d ≤ 4 ∧ ln = false) then rdN s (Reg.LP_ENG_LOAD d) else linkLoad s d
    raiseN 0x0C04 d load m s
  else s

/-- Two triggers in one tick are one re-plan (R472): a second begins where the first did. -/
def planAgain (s : State) : State :=
  let first := { s with thm := { s.thm with planned := some ⟨s.clk.tb0, s.thm.plan, s.thm.low, rd s Reg.SV_THM_REPLAN_CNT⟩ } }
  match s.thm.planned with
  | none => first
  | some m =>
    if m.tick = s.clk.tb0 then
      { wr s Reg.SV_THM_REPLAN_CNT m.cnt with
        thm := { s.thm with plan := m.plan, low := m.low }
        log := { s.log with raised := s.log.raised.filter fun e => !decide (e.tick = s.clk.tb0 ∧ (e.code = 0x0C03 ∨ e.code = 0x0C04)) } }
    else first

/-- A re-plan (R468, R470): what changes is written now and applied at the next tick; trigger 1 start, 2 canary, 3 band, 4 ESR. -/
def replan (trigger : Nat) (s : State) : State :=
  let s := planAgain s
  let new := (List.range 8).map fun d =>
    let b := selBand s d
    (d, dlyOf s d b, marginOf s d b, derateOf s d b)
  let old := if s.thm.plan.isEmpty then (List.range 8).map fun d => (d, 0, 65536, 65536) else s.thm.plan
  let changed := new.filter fun x => !old.contains x
  let s := { s with thm := { s.thm with
    plan := new, esr0 := (List.range 4).map fun k => (k, rdN s (Reg.DR_BST_ESR k)) } }
  let s := forEach new (fun x s =>
    let (d, y, m, e) := x
    let s := wrLater (thmStat d) 19 16 y s
    let s := wrLater (Reg.SV_THM_MARGIN d) 31 0 m s
    let s := if 1 ≤ d ∧ d ≤ 4 then wrLater (Reg.LP_ENG_MARGIN d) 31 0 m s else s
    if d = 5 ∨ d = 6 then wrLater (Reg.DR_THM_DERATE d) 31 0 e s else s) s
  let s := if changed.isEmpty then s
    else
      forEach changed (fun x s => raiseN 0x0C03 x.1 (x.2.1 * 0x10000 + trigger) x.2.2.1 s) (count31 Reg.SV_THM_REPLAN_CNT s)
  let m0 := (new.map fun x => x.2.2.1).headD 65536
  forEach (new.map fun x => (x.1, x.2.2.1)) (marginCheck m0) s

/-- A drift condition (R471): logged on the transition into it. -/
def driftSet (kind ch unit ratio : Nat) (now : Bool) (s : State) : State :=
  let key := (kind * 256 + unit, ch)
  let was := s.thm.drift.contains key
  let s := { s with thm := { s.thm with drift := (s.thm.drift.filter (· ≠ key)) ++ (if now then [key] else []) } }
  if now && !was then raiseN 0x0C08 unit (kind + ch * 256) ratio s else s

/-- Is a ratio in Q16.16 away from 1 by more than `pct` %? -/
def ratioOff (ratio pct : Nat) : Bool := decide (((ratio : Int) - 65536).natAbs * 100 > pct * 65536)

end Sys2Proof.Machine
end

