-- ==== Sys2Proof/Machine/Valve.lean ====
section
/-!
DEFINITION. The valve drive (chapter 11): channels, microcode, banks, boost converters, the coil model.
-/
namespace Sys2Proof.Machine

/-! ### Names -/

/-- A valve channel before anything happened on it. -/
def vchInit (_ : Nat) : VchSt :=
  { cmd := 0, level := 0, pc := none, begun := false, wordAt := 0, offSeq := false, path := .offRec, claim := false, hold := 0,
    decay := false, restart := none, lock := false, clean := none, rm := none, ended := false, cur := 0, pathAt := 0, thermAt := 0 }
/-- Valve channel `x` (0 to 23). -/
def vOf (s : State) (x : Nat) : VchSt := tget vchInit s.drv.vch x
/-- Replace valve channel `x`. -/
def vSet (s : State) (x : Nat) (v : VchSt) : State := { s with drv := { s.drv with vch := tput vchInit s.drv.vch x v } }
/-- The drive die of valve channel `x`. -/
def vDie (x : Nat) : Nat := 5 + x / 12
/-- The other channel of the bank. -/
def vOther (x : Nat) : Nat := if x % 2 = 0 then x + 1 else x - 1
/-- The bank of channel `x` (global). -/
def vBank (x : Nat) : Nat := x / 2
/-- The boost converter of bank `b` (R66, global). -/
def bankBst (b : Nat) : Nat := b / 6 * 2 + b % 6 / 3
/-- A boost converter before anything happened on it. -/
def bstInit (_ : Nat) : BstSt := { abs := false, chg := none }
/-- Boost converter `k` (0 to 3). -/
def bstOf (s : State) (k : Nat) : BstSt := tget bstInit s.drv.bst k
/-- Replace boost converter `k`. -/
def bstSet (s : State) (k : Nat) (v : BstSt) : State := { s with drv := { s.drv with bst := tput bstInit s.drv.bst k v } }
/-- STATE (Table 11-10). -/
def vState (s : State) (x : Nat) : Nat := rdF s (Reg.DR_VCH_STAT x) 3 0
/-- Is a state one of a running channel (DR_SEQ_STAT.RUN)? -/
def vRunning (n : Nat) : Bool := decide (2 ≤ n ∧ n ≤ 6)
/-- MODE (Table 11-2). -/
def vMode (s : State) (x : Nat) : Nat := rdF s (Reg.DR_VCH_CFG x) 30 29
/-- Is a channel enabled and past its start check? -/
def vOn (s : State) (x : Nat) : Bool := running s && rdB s (Reg.DR_VCH_CFG x) 31 && decide (vState s x ≠ 9)
/-- Word `i` of a channel's profile entry. -/
def profWord (s : State) (x i : Nat) : Word :=
  rd s (dieAt (vDie x) 0x900000 + 16 * rdF s (Reg.DR_VCH_CFG x) 24 20 + 4 * i)
/-- BASE and LEN of a channel's profile. -/
def profSpan (s : State) (x : Nat) : Nat × Nat := (bits (profWord s x 2) 9 0, bits (profWord s x 2) 25 16)
/-- The ON entry of a channel's profile for a band (Table 11-6). -/
def profOn (s : State) (x b : Nat) : Nat :=
  match b with
  | 0 => bits (profWord s x 0) 9 0
  | 1 => bits (profWord s x 0) 19 10
  | 2 => bits (profWord s x 0) 29 20
  | 3 => bits (profWord s x 1) 9 0
  | _ => bits (profWord s x 1) 19 10
/-- The OFF entry of a channel's profile. -/
def profOff (s : State) (x : Nat) : Nat := bits (profWord s x 1) 29 20
/-- Address of microcode word `w` of a drive die. -/
def ucAddr (d w : Nat) : Nat := dieAt d 0x800000 + 8 * w
/-- Bits [63:32] of microcode word `w`. -/
def ucHi (s : State) (d w : Nat) : Word := rd s (ucAddr d w + 4)
/-- OP. -/
def ucOp (s : State) (d w : Nat) : Nat := bits (ucHi s d w) 31 26
/-- SRC. -/
def ucSrc (s : State) (d w : Nat) : Nat := bits (ucHi s d w) 25 24
/-- DECAY. -/
def ucDecay (s : State) (d w : Nat) : Nat := bits (ucHi s d w) 23 22
/-- BAND. -/
def ucBand (s : State) (d w : Nat) : Nat := bits (ucHi s d w) 19 12
/-- I. -/
def ucI (s : State) (d w : Nat) : Nat := bits (ucHi s d w) 11 0 * 16 + bits (rd s (ucAddr d w)) 31 28
/-- T. -/
def ucT (s : State) (d w : Nat) : Nat := bits (rd s (ucAddr d w)) 27 0

/-! ### The derived words of banks and dies -/

/-- Does a channel execute an instruction whose SRC is not NONE (R281), or its PWM? -/
def vDrives (s : State) (x : Nat) : Bool :=
  let v := vOf s x
  decide (vState s x = 6) ||
    (match v.pc with
     | some w => v.begun && decide (ucSrc s (vDie x) w ≠ 0)
     | none => false)

/-- Is channel `x` in a REG word with HS decay? -/
def vHsWord (s : State) (x : Nat) : Bool :=
  match (vOf s x).pc with
  | some w => (vOf s x).begun && decide (ucOp s (vDie x) w = 2 ∧ ucDecay s (vDie x) w = 1)
  | none => false

/-- LS_FALLBACK, the path and the clean window of a channel follow the other channel of its bank (R287, R293). -/
def vFollow (x : Nat) (s : State) : State :=
  let hs := vHsWord s x
  let fb := hs && vDrives s (vOther x)
  let s := wrB s (Reg.DR_VCH_STAT x) 5 fb
  let v := vOf s x
  let path := if fb ∧ v.path = .freewheel then VPath.offRec else v.path
  let good := decide (vState s x = 4) && hs && !fb
  let clean := if good then (if v.clean.isSome then v.clean else some s.clk.tb0) else none
  vSet s x { v with path := path, clean := clean }

/-- DR_BNK_STAT of bank `b` and the SEQ_STAT bits of its channels (R281). -/
def bankRefresh (b : Nat) (s : State) : State :=
  let x := 2 * b
  let s := vFollow (x + 1) (vFollow x s)
  let c0 := (vOf s x).claim
  let c1 := (vOf s (x + 1)).claim
  let hs := if c0 || c1 then 2 else if vDrives s x || vDrives s (x + 1) then 1 else 0
  let sum := (vOf s x).hold + (vOf s (x + 1)).hold
  let s := wrN s (Reg.DR_BNK_STAT b) (min 0xFFFF sum * 0x10000 + (if c0 then 1 else if c1 then 2 else 0) * 16 + hs)
  let d := vDie x
  let put := fun (y : Nat) (s : State) =>
    let st := vState s y
    wrB (wrB s (Reg.DR_SEQ_STAT d) (16 + y % 12) (vRunning st)) (Reg.DR_SEQ_STAT d) (y % 12) (decide (st = 7))
  put (x + 1) (put x s)

/-- Set STATE. -/
def vPut (x st : Nat) (s : State) : State := wrF s (Reg.DR_VCH_STAT x) 3 0 st
/-- I_SET (DR_VCH_I). -/
def vIset (x i : Nat) (s : State) : State := wrF s (Reg.DR_VCH_I x) 15 0 i

/-! ### Forcing (R285) -/

/-- Is an interlock group that contains a channel open (R310)? -/
def ilkForces (s : State) (d cfg bitNo : Nat) : Bool :=
  let st := rd s (Reg.DR_ILK_STAT d)
  let w := rd s cfg
  (bit st 0 && bit w bitNo) || (bit st 1 && bit w (16 + bitNo))

/-- Are VIN or V5 bad (R46)? -/
def driveRailBad (s : State) : Bool := !rdB s Reg.SV_PWR_STAT 0 || !rdB s Reg.SV_PWR_STAT 1

/-- Is valve channel `x` forced (R285)? -/
def vForcedNow (s : State) (x : Nat) : Bool :=
  decide (devState s = 4) || s.drv.seqOff.contains (false, x) || ilkForces s (vDie x) (Reg.DR_ILK_CFG (vDie x)) (x % 12)
    || driveRailBad s

/-- Remove a channel's deferred request. -/
def vUnwait (x : Nat) (s : State) : State :=
  { s with drv := { s.drv with waits := s.drv.waits.filter fun w => decide (w.x ≠ x) } }

/-- DERATED goes to 0; leaving derating is logged (R308). -/
def vUnderate (x : Nat) (s : State) : State :=
  if rdB s (Reg.DR_VCH_STAT x) 4 then
    raise 0x0502 (vDie x) (w32 (x % 12)) (rd s (Reg.DR_VCH_TW x)) (wrB s (Reg.DR_VCH_STAT x) 4 false)
  else s

/-- The channel goes to OFF_REC with nothing running: claims and requests released (R285, R286). -/
def vStop (x : Nat) (s : State) : State :=
  let v := vOf s x
  let live := vRunning (vState s x) || v.pc.isSome || v.decay
  let s := vUnderate x (vIset x 0 (vUnwait x s))
  vSet s x { v with
    pc := none, begun := false, offSeq := false, path := .offRec, claim := false, hold := 0, decay := live, restart := none,
    ended := false }

/-- Forcing of a valve channel begins or ends (R285). -/
def vForce (x : Nat) (s : State) : State :=
  if rdB s (Reg.DR_VCH_CFG x) 31 && decide (vState s x ≠ 9) then
    if vForcedNow s x then
      if vState s x = 8 then s else bankRefresh (vBank x) (wrB (vPut x 8 (vStop x s)) (Reg.DR_VCH_STAT x) 7 false)
    else if vState s x = 8 ∧ !(vOf s x).decay then bankRefresh (vBank x) (vPut x (if (vOf s x).lock then 7 else 0) s)
    else s
  else s

/-- Forcing judged on every valve channel. -/
def vForceAll (s : State) : State := forEach (List.range 24) vForce s

/-! ### Faults (R286) -/

/-- A channel fault. A forced channel reads FORCED until forcing ends, and LOCKOUT then (R285, Table 11-8). -/
def vFault (x code : Nat) (w7 : Word) (s : State) : State :=
  let s := vStop x s
  let s := vSet s x { vOf s x with lock := true }
  let s := vPut x (if vState s x = 8 then 8 else 7) s
  let s := wrF (wrB s (Reg.DR_VCH_STAT x) 7 false) (Reg.DR_VCH_STAT x) 23 16 code
  let s := count31 (Reg.DR_VCH_FAULT_CNT x) s
  bankRefresh (vBank x) (raise 0x0501 (vDie x) (w32 (code * 0x10000 + x % 12)) w7 s)

/-- The channel continues at microcode word `w` (R289): a fetch outside the profile is a FETCH fault. A boost claim ends before a
word with another SRC starts (R298, R305). -/
def vGoto (x w : Nat) (s : State) : State :=
  let (base, len) := profSpan s x
  let d := vDie x
  if base ≤ w ∧ w < base + len then
    let v := vOf s x
    bankRefresh (vBank x) (vSet s x { v with
      pc := some w, begun := false, claim := v.claim && decide (ucSrc s d w = 2) })
  else vFault x 8 (w32 (ucAddr d w)) (wrN s (Reg.DR_SEQ_FAULT_ADDR d) (ucAddr d w))

/-! ### Banks (R302 to R304) -/

/-- May a boost word of channel `x` start now (R296, R298, R304)? With the claim held only VCAP is asked for. -/
def claimFree (s : State) (x : Nat) : Bool :=
  let k := bankBst (vBank x)
  ((vOf s x).claim || (!(vOf s (vOther x)).claim && !(bstOf s k).abs))
    && decide (rdF s (Reg.DR_BST_LIM k) 7 0 * 1000 ≤ rdF s (Reg.DR_BST_STAT k) 16 0)

/-- ILIM of a bank times the derate D, in 2^-16 mA (R469). -/
def ilimD (s : State) (b : Nat) : Nat := rdF s (Reg.DR_BNK_CFG b) 15 0 * rdN s (Reg.DR_THM_DERATE (5 + b / 6))

/-- The LEVEL current of a value in A (R283). -/
def levelOfCmd (s : State) (x : Nat) (v : Int) : Nat :=
  let ma := (roundAway (v * 1000) 65536).toNat
  max (rdF s (Reg.DR_VCH_HOLD x) 31 16) (min (rdF s (Reg.DR_VCH_HOLD x) 15 0) ma)

/-- The hold current a start declares (R303). -/
def declHold (s : State) (x : Nat) : Nat :=
  match vMode s x with
  | 1 => (vOf s x).level
  | 2 => rdF s (Reg.DR_VCH_CFG x) 15 0
  | _ => bits (profWord s x 3) 15 0

/-- The ON entry a start of channel `x` takes now (R291). -/
def onEntry (s : State) (x : Nat) : Nat := profOn s x (dieBand s (vDie x))

/-- Does the first word of a start need the boost claim? -/
def startBoosts (s : State) (x : Nat) : Bool := decide (vMode s x ≠ 2) && decide (ucSrc s (vDie x) (onEntry s x) = 2)

/-- Can the bank grant a start of channel `x` now (R302 to R304)? -/
def startFree (s : State) (x : Nat) : Bool :=
  let o := vOther x
  let b := vBank x
  let so := vState s o
  decide ((declHold s x + (vOf s o).hold) * 65536 ≤ ilimD s b)
    && (decide (rdF s (Reg.DR_BNK_CFG b) 31 30 ≠ 1) || decide (so = 0 ∨ so = 7 ∨ so = 8))
    && (!startBoosts s x || claimFree s x)

/-- A profile, or the PWM of a DUTY channel, starts (R284, R291); a restart has been counted when it was asked for (R301). -/
def vBegin (x : Nat) (again : Bool) (s : State) : State :=
  let v := { vOf s x with hold := declHold s x, decay := false, ended := false, offSeq := false, restart := none }
  let s := wrF s (Reg.DR_VCH_STAT x) 23 16 0
  if vMode s x = 2 then
    bankRefresh (vBank x) (vPut x 6 (vSet s x { v with path := .fromVin, wordAt := s.clk.tb0, begun := false, pc := none }))
  else
    let b := dieBand s (vDie x)
    let w := profOn s x b
    let s := wrF s (Reg.DR_VCH_STAT x) 14 12 b
    let s := if again then s else count31 (Reg.DR_VCH_START_CNT x) s
    vGoto x w (vSet s x { v with claim := v.claim || startBoosts s x })

/-- Put a request behind those already pending; within one tick the lower channel is first (R302). -/
def waitInsert (w : VWait) : List VWait → List VWait
  | [] => [w]
  | y :: r => if y.since = w.since ∧ w.x < y.x then w :: y :: r else y :: waitInsert w r

/-- A request of channel `x` is deferred (R302): a word that needs the claim, a start, or a restart, whose OFF sequence ends here. -/
def vDefer (x : Nat) (start again : Bool) (s : State) : State :=
  let s := count31 (Reg.DR_BNK_DEFER_CNT (vBank x)) s
  let s := { s with drv := { s.drv with waits := waitInsert ⟨x, s.clk.tb0, start, again⟩ s.drv.waits } }
  let v := { vOf s x with path := .offRec }
  let v := if start then { v with pc := none, begun := false, offSeq := false, restart := none, hold := 0 } else v
  bankRefresh (vBank x) (vPut x 1 (vSet s x v))

/-- A request refused under policy REJECT (R304). -/
def vReject (x : Nat) (s : State) : State := vFault x 5 0 (count31 (Reg.DR_BNK_ABORT_CNT (vBank x)) s)

/-- Is the winding too hot for a start (R308)? -/
def coilHot (s : State) (x : Nat) : Bool := decide (rdI s (Reg.DR_VCH_TW_START x) ≤ rdI s (Reg.DR_VCH_TW x))

/-- A deferral of `us` µs is shown. -/
def deferShow (x us : Nat) (s : State) : State :=
  let s := wrN s (Reg.DR_VCH_DEFER x) us
  wrN s (Reg.DR_VCH_DEFER_MAX x) (max us (rdN s (Reg.DR_VCH_DEFER_MAX x)))

/-- Can a deferred request be granted now? -/
def waitFree (s : State) (w : VWait) : Bool := if w.start then startFree s w.x else claimFree s w.x

/-- BANK_GRANT (R302): the first request of bank `b`, in the order they became pending, that the bank can grant. -/
def effBankGrant (b : Nat) (s : State) : State :=
  match s.drv.waits.find? fun w => decide (vBank w.x = b) && waitFree s w with
  | none => s
  | some w =>
    let s := deferShow w.x (min 0xFFFFFFFF ((s.clk.tb0 - w.since).toNat / 100)) (vUnwait w.x s)
    if w.start then vBegin w.x w.again (vPut w.x 0 s)
    else bankRefresh b (vSet s w.x { vOf s w.x with claim := true })

/-- Channel `x` asks its bank for a start or a restart: requests that became pending before it are granted first (R302 to R305). -/
def vAsk (x : Nat) (again : Bool) (s : State) : State :=
  let s := effBankGrant (vBank x) s
  if startFree s x then vBegin x again s
  else if rdF s (Reg.DR_BNK_CFG (vBank x)) 31 30 = 2 then vReject x s
  else vDefer x true again s

/-- A start is asked for (R302 to R304, R308). -/
def vStart (x : Nat) (s : State) : State :=
  if coilHot s x then vFault x 6 (rd s (Reg.DR_VCH_TW x)) s else vAsk x false s

/-- A restart (R300, R301): the claim of the run before it is released (Table 11-8). -/
def vRestart (x : Nat) (s : State) : State :=
  if coilHot s x then vFault x 6 (rd s (Reg.DR_VCH_TW x)) s
  else
    let s := count31 (Reg.DR_VCH_START_CNT x) (wrF s (Reg.DR_VCH_STAT x) 23 16 0)
    let v := { vOf s x with claim := false }
    if bit (profWord s x 2) 31 then
      bankRefresh (vBank x) (vPut x 5 (vSet s x { v with
        pc := none, begun := false, path := .offRec, restart := some s.clk.tb0, decay := true, offSeq := false }))
    else vAsk x true (bankRefresh (vBank x) (vSet s x v))

/-! ### Commands (R282 to R284) -/

/-- Is a value ON for the channel's mode (Table 11-2)? -/
def vIsOn (s : State) (x : Nat) (v : Int) : Bool := if vMode s x = 0 then decide (32768 ≤ v) else decide (0 < v)

/-- The hold current after derating (R308), and whether the limit acts. -/
def derated (s : State) (x ih : Nat) : Nat × Bool :=
  let tw := rdI s (Reg.DR_VCH_TW x)
  let t0 := rdI s (Reg.DR_VCH_TW_DERATE x)
  let t1 := rdI s (Reg.DR_VCH_TW_MAX x)
  if t0 < tw then
    let l := (ih : Int) - Int.tdiv (((ih : Int) - (rdF s (Reg.DR_VCH_HOLD x) 31 16 : Int)) * (tw - t0)) (t1 - t0)
    ((min (ih : Int) (max 0 l)).toNat, decide (l < ih))
  else (ih, false)

/-- The threshold I of the present word (R287, R308). -/
def vThresh (s : State) (x w : Nat) : Nat × Bool :=
  let d := vDie x
  let i := ucI s d w
  if ucOp s d w = 2 then
    let ih := if i = 0xFFFF then (vOf s x).level else i
    if ucT s d w = 0 then derated s x ih else (ih, false)
  else if ucOp s d w = 0 then (max i 20, false)
  else (i, false)

/-- I_SET and DERATED follow the present word and the winding (R308). -/
def vRate (x : Nat) (s : State) : State :=
  match (vOf s x).pc with
  | none => s
  | some w =>
    if !(vOf s x).begun then s
    else
      let (i, on) := vThresh s x w
      let s := vIset x i s
      if rdB s (Reg.DR_VCH_STAT x) 4 = on then s
      else
        raise 0x0502 (vDie x) (w32 (b2n on * 0x10000 + x % 12)) (rd s (Reg.DR_VCH_TW x)) (wrB s (Reg.DR_VCH_STAT x) 4 on)

/-- Does a profile or the PWM of channel `x` run (R303)? -/
def vActive (s : State) (x : Nat) : Bool := (vOf s x).pc.isSome || (vOf s x).restart.isSome || decide (vState s x = 6)

/-- A new LEVEL while ON (R283, R303): clamped to what the bank allows while both run. -/
def vLevel (x : Nat) (v : Int) (s : State) : State :=
  let lv := levelOfCmd s x v
  let o := (vOf s (vOther x)).hold
  let running := vActive s x
  let room := ilimD s (vBank x) / 65536 - o
  if running ∧ vActive s (vOther x) ∧ room < lv then
    vRate x (bankRefresh (vBank x) (hwSet (vSet s x { vOf s x with level := room, hold := room }) (Reg.DR_VCH_STAT x) 6))
  else vRate x (bankRefresh (vBank x) (vSet s x { vOf s x with level := lv, hold := if running then lv else 0 }))

/-- The command goes OFF (R284, R286, R302, R305). -/
def vOff (x : Nat) (s : State) : State :=
  let v := vOf s x
  let forced := vForcedNow s x
  let s := if forced then s else wrB s (Reg.DR_VCH_STAT x) 7 true
  let s := if v.lock then
      let s := vSet s x { v with lock := false }
      if vState s x = 7 then vPut x 0 s else s
    else s
  let v := vOf s x
  if forced then s
  else
    let s := vUnwait x s
    match vState s x with
    | 6 => bankRefresh (vBank x) (vPut x 0 (vSet s x { v with path := .offRec, hold := 0, decay := true }))
    | _ =>
      if (v.pc.isSome ∨ v.restart.isSome) ∧ !v.offSeq then
        vGoto x (profOff s x) (vSet s x { v with offSeq := true, restart := none })
      else if vState s x = 1 ∧ v.pc.isNone then bankRefresh (vBank x) (vPut x 0 (vSet s x { v with hold := 0 }))
      else bankRefresh (vBank x) s

/-- The command is ON (R283, R284, R300). -/
def vOnCmd (x : Nat) (val : Int) (s : State) : State :=
  let s := if vMode s x = 1 then vLevel x val s else s
  let v := vOf s x
  if rdB s (Reg.DR_VCH_STAT x) 7 && !v.lock then
    if v.offSeq then vRestart x s
    else if vState s x = 0 ∧ v.pc.isNone ∧ v.restart.isNone then
      if v.ended ∧ vMode s x ≠ 2 then vRestart x s else vStart x s
    else s
  else s

/-- A value reaches valve channel `x` at its actuation instant (R282, R43). -/
def vApply (x : Nat) (val : Int) (s : State) : State :=
  if vOn s x then
    let s := vSet s x { vOf s x with cmd := val }
    if vIsOn s x val then (if vForcedNow s x then s else vOnCmd x val s) else vOff x s
  else s

/-! ### Microcode (R287, R288) -/

/-- The path of a word's SRC. -/
def srcPath (n : Nat) : VPath := if n = 1 then .fromVin else if n = 2 then .fromBoost else .offRec

/-- Is the time T of the present word over (R287)? -/
def vElapsed (s : State) (x w : Nat) : Bool := decide (ucT s (vDie x) w * 100 ≤ (s.clk.tb0 - (vOf s x).wordAt).toNat)

/-- A timed REG word whose T is over has ended: the next word stands (R287). -/
def vSettle (x : Nat) (s : State) : State :=
  match (vOf s x).pc with
  | none => s
  | some w =>
    if (vOf s x).begun ∧ ucOp s (vDie x) w = 2 ∧ ucT s (vDie x) w ≠ 0 ∧ vElapsed s x w then vGoto x (w + 1) s else s

/-- The path a REG word asks for at the coil current last reported (R287): from SRC below the band, off above it, within the band as it
stands; a change waits until 2 µs after the one before it (R292). -/
def regPath (s : State) (x w : Nat) : VPath :=
  let d := vDie x
  let I := (vThresh s x w).1
  let h := I * ucBand s d w / 256
  let v := vOf s x
  let on := srcPath (ucSrc s d w)
  if (s.clk.tb0 - v.pathAt).toNat < 200 then v.path
  else if v.cur + h < I then on
  else if I + h < v.cur then (if ucDecay s d w = 1 ∧ !vDrives s (vOther x) then .freewheel else .offRec)
  else if v.path = .fromVin ∨ v.path = .fromBoost then on
  else v.path

/-- The channel takes a path; the tick of a change is kept (R292). -/
def vPathTo (x : Nat) (p : VPath) (s : State) : State :=
  let v := vOf s x
  vSet s x { v with path := p, pathAt := if v.path = p then v.pathAt else s.clk.tb0 }

/-- The path of channel `x` at this tick (R280, R283): under MODE DUTY the on-time of each period of DUTY_HZ is FROM_VIN for the
command in percent, at most 100. -/
def vPathNow (s : State) (x : Nat) : VPath :=
  let v := vOf s x
  if vState s x = 6 then
    let ph := (s.clk.tb0 - v.wordAt).toNat * rdF s (Reg.DR_VCH_DUTY x) 31 16 % 100000000
    let duty := (max 0 (min v.cmd (q16 100))).toNat
    if ph * 6553600 < duty * 100000000 then .fromVin else .offRec
  else v.path

/-- The word at the channel's microcode address begins (R287, R288). -/
def vWordBegin (x w : Nat) (s : State) : State :=
  let d := vDie x
  let op := ucOp s d w
  let src := ucSrc s d w
  let path := if op = 1 then srcPath src else if op = 2 then regPath s x w else VPath.offRec
  let st := if op = 0 ∨ op = 3 then 5 else if src = 2 then 2 else if op = 2 ∧ ucT s d w = 0 then 4 else 3
  let s := vPathTo x path (vSet s x { vOf s x with begun := true, wordAt := s.clk.tb0 })
  bankRefresh (vBank x) (vRate x (vPut x st s))

/-- The word with opcode `op` of channel `x` begins: with SRC BOOST only under the bank's claim (R298, R302). -/
def effUc (x op : Nat) (s : State) : State :=
  let s := vSettle x s
  let v := vOf s x
  let d := vDie x
  match v.pc with
  | none => s
  | some w =>
    if vOn s x && !v.begun && decide (ucOp s d w = op) && !(s.drv.waits.any fun y => decide (y.x = x)) then
      if op = 4 then vGoto x (ucT s d w % 1024) s
      else if ucSrc s d w = 2 then
        let s := if v.claim then s else effBankGrant (vBank x) s
        if claimFree s x then vWordBegin x w (vSet s x { vOf s x with claim := true }) else vDefer x false false s
      else vWordBegin x w s
    else s

/-- UC_END (R287): the valve channel, 0 to 23. -/
def execUcEnd (x : Nat) (s : State) : Host.Outcome State Fault Refusal := guardIx x 24 (run (effUc x 0) s)
/-- UC_RISE (R287): the valve channel. -/
def execUcRise (x : Nat) (s : State) : Host.Outcome State Fault Refusal := guardIx x 24 (run (effUc x 1) s)
/-- UC_REG (R287): the valve channel. -/
def execUcReg (x : Nat) (s : State) : Host.Outcome State Fault Refusal := guardIx x 24 (run (effUc x 2) s)
/-- UC_RECOV (R287): the valve channel. -/
def execUcRecov (x : Nat) (s : State) : Host.Outcome State Fault Refusal := guardIx x 24 (run (effUc x 3) s)
/-- UC_JMP (R287): the valve channel. -/
def execUcJmp (x : Nat) (s : State) : Host.Outcome State Fault Refusal := guardIx x 24 (run (effUc x 4) s)

/-- The profile has ended (R287): with current left the coil still decays (R300). -/
def vEnd (x i : Nat) (s : State) : State :=
  let v := vOf s x
  let s := vSet s x { v with
    pc := none, begun := false, offSeq := false, path := .offRec, claim := false, hold := 0, decay := decide (20 ≤ i),
    ended := decide (20 ≤ i) }
  bankRefresh (vBank x) (vPut x 0 (vUnderate x (vIset x 0 s)))

/-- The present word at a coil current of `i` mA (R287). -/
def vCross (x w i : Nat) (s : State) : State :=
  let d := vDie x
  let I := (vThresh s x w).1
  match ucOp s d w with
  | 0 => if i < I then vEnd x i s else s
  | 1 => if I ≤ i then vGoto x (w + 1) s else s
  | 2 => bankRefresh (vBank x) (vPathTo x (regPath s x w) s)
  | 3 => if i ≤ I then vGoto x (w + 1) s else s
  | _ => s

/-- COIL_CURRENT_CROSSING (R288): the coil current of channel `x` is `i` mA: the present word, a restart's recovery (R301) or the
decay after forcing, a fault or an END (R285, R300) takes it. -/
def effCoilCurrentCrossing (x i : Nat) (s : State) : State :=
  let s := vSettle x s
  let s := vSet s x { vOf s x with cur := i }
  let v := vOf s x
  match v.pc with
  | some w => if vOn s x && v.begun then vCross x w i s else s
  | none =>
    if v.restart.isSome then (if i < 20 then vAsk x true s else s)
    else if v.decay ∧ i < 20 then vForce x (vSet s x { v with decay := false, ended := false })
    else s

/-- COIL_CURRENT_CROSSING (R288): the valve channel and its coil current in mA. -/
def execCoilCurrentCrossing (x i : Nat) (s : State) : Host.Outcome State Fault Refusal :=
  guardIx x 24 (run (effCoilCurrentCrossing x i) s)

/-- VALVE_WORD_TIMEOUT (R287, R301): a RISE, RECOV or END word, or a restart's recovery, has reached its time. -/
def effValveWordTimeout (x : Nat) (s : State) : State :=
  let v := vOf s x
  match v.pc with
  | some w =>
    let op := ucOp s (vDie x) w
    if vOn s x && v.begun && vElapsed s x w then
      if op = 1 then vFault x 1 0 s
      else if (op = 0 ∨ op = 3) ∧ ucT s (vDie x) w ≠ 0 then vFault x 2 0 s
      else s
    else s
  | none =>
    match v.restart with
    | some t => if (s.clk.tb0 - t).toNat ≥ 2000000 then vFault x 2 0 s else s
    | none => s

/-- VALVE_WORD_TIMEOUT (R287): the valve channel. -/
def execValveWordTimeout (x : Nat) (s : State) : Host.Outcome State Fault Refusal :=
  guardIx x 24 (run (effValveWordTimeout x) s)

/-- VALVE_OVERCURRENT (R286): the current has been above IMAX for 2 µs, in whatever state (R292). -/
def effValveOvercurrent (x i : Nat) (s : State) : State :=
  if vOn s x && decide (rdF s (Reg.DR_VCH_CFG x) 15 0 < i) then
    vFault x 3 (w32 i) (vSet s x { vOf s x with cur := i, decay := true })
  else s

/-- VALVE_OVERCURRENT (R286): the valve channel and its current in mA. -/
def execValveOvercurrent (x i : Nat) (s : State) : Host.Outcome State Fault Refusal :=
  guardIx x 24 (run (effValveOvercurrent x i) s)

/-! ### Deferral (R302) -/

/-- BANK_GRANT (R302): the bank, 0 to 11. -/
def execBankGrant (b : Nat) (s : State) : Host.Outcome State Fault Refusal := guardIx b 12 (run (effBankGrant b) s)

/-- DEFER_TIMEOUT (R302): a deferral has reached DEFER_MAX. -/
def effDeferTimeout (x : Nat) (s : State) : State :=
  match s.drv.waits.find? fun w => decide (w.x = x) with
  | none => s
  | some w =>
    let us := min 0xFFFFFFFF ((s.clk.tb0 - w.since).toNat / 100)
    if rdN s (Reg.DR_BNK_DEFER_MAX (vBank x)) ≤ us then
      vFault x 4 (w32 us) (deferShow x us (count31 (Reg.DR_BNK_ABORT_CNT (vBank x)) s))
    else s

/-- DEFER_TIMEOUT (R302): the valve channel. -/
def execDeferTimeout (x : Nat) (s : State) : Host.Outcome State Fault Refusal := guardIx x 24 (run (effDeferTimeout x) s)

/-! ### Boost converters (R294 to R299) -/

/-- The drive die of converter `k`. -/
def bstDie (k : Nat) : Nat := 5 + k / 2
/-- VSET in mV. -/
def bstSet_mV (s : State) (k : Nat) : Nat := rdF s (Reg.DR_BST_CFG k) 23 16 * 1000

/-- Has converter `k` an enabled channel on one of its banks (R295)? -/
def bstUsed (s : State) (k : Nat) : Bool :=
  (List.range 24).any fun x => decide (bankBst (vBank x) = k) && rdB s (Reg.DR_VCH_CFG x) 31

/-- May converter `k` switch (R47, R295)? -/
def bstMay (s : State) (k : Nat) : Bool :=
  running s && rdB s (Reg.DR_BST_CFG k) 31 && !driveRailBad s && bstUsed s k
    && (decide (devState s ≠ 4) || rdB s (Reg.DR_BST_CFG k) 30)

/-- VCAP as measured, with OV and LOW (R296, R298). -/
def bstVcap (k mv : Nat) (s : State) : State :=
  let s := wrF s (Reg.DR_BST_STAT k) 16 0 (min 0x1FFFF mv)
  let s := wrB s (Reg.DR_BST_STAT k) 30 (decide (rdF s (Reg.DR_BST_LIM k) 15 8 * 1000 < mv))
  wrB s (Reg.DR_BST_STAT k) 29 (decide (mv < rdF s (Reg.DR_BST_LIM k) 7 0 * 1000))

/-- A converter stops switching. -/
def bstStop (k : Nat) (s : State) : State := bstSet (wrB s (Reg.DR_BST_STAT k) 31 false) k { bstOf s k with chg := none }

/-- The converters that may no longer switch stop (R295). -/
def bstJudge (s : State) : State := forEach (List.range 4) (fun k s => if bstMay s k then s else bstStop k s) s

/-- BOOST_RECHARGE (R294): VCAP has fallen below VSET − 1.0 V. -/
def effBoostRecharge (k mv : Nat) (s : State) : State :=
  if bstMay s k && decide (mv + 1000 < bstSet_mV s k) && !rdB s (Reg.DR_BST_STAT k) 31 then
    bstSet (wrB (bstVcap k mv s) (Reg.DR_BST_STAT k) 31 true) k { bstOf s k with chg := some s.clk.tb0 }
  else s

/-- BOOST_RECHARGE (R294): the converter, 0 to 3, and VCAP in mV. -/
def execBoostRecharge (k mv : Nat) (s : State) : Host.Outcome State Fault Refusal := guardIx k 4 (run (effBoostRecharge k mv) s)

/-- BOOST_ESR (R469): logged when an estimate first exceeds ESR_MAX, and when it returns below. -/
def esrJudge (k : Nat) (s : State) : State :=
  let e := rdN s (Reg.DR_BST_ESR k)
  let was := s.thm.esrHi.contains k
  let now := decide (esrMax s k < e) || (was && decide (e = esrMax s k))
  if was = now then s
  else
    let s := { s with thm := { s.thm with esrHi := (s.thm.esrHi.filter (· ≠ k)) ++ (if now then [k] else []) } }
    raiseN 0x0C07 (bstDie k) (b2n now * 0x10000 + k % 2 * 256) e s

/-- BOOST_RECHARGE_DONE (R299, R468, R469): VCAP has reached VSET; the ESR is the voltage step of the first switching cycle in mV over
the mean charging current in mA. -/
def effBoostRechargeDone (k mv dv ma : Nat) (s : State) : State :=
  match (bstOf s k).chg with
  | none => s
  | some t =>
    if mv < bstSet_mV s k then bstVcap k mv s else
    let esr := if ma = 0 then ((Config.divZero dv).extractLsb' 0 32).toNat else (roundAway (dv * 1000 : Nat) ma).toNat
    let s := bstStop k (bstVcap k mv s)
    let s := wrN (wrN s (Reg.DR_BST_RECHG k) (min 0xFFFFFFFF ((s.clk.tb0 - t).toNat / 100))) (Reg.DR_BST_ESR k) (min 0xFFFFFFFF esr)
    let s := esrJudge k s
    let e := rdN s (Reg.DR_BST_ESR k)
    let e0 := tget (fun _ => 0) s.thm.esr0 k
    if ((e : Int) - e0).natAbs * 10 > e0 then replan 4 s else s

/-- BOOST_RECHARGE_DONE (R299): the converter, VCAP in mV, the voltage step in mV and the mean charging current in mA. -/
def execBoostRechargeDone (k mv dv ma : Nat) (s : State) : Host.Outcome State Fault Refusal :=
  guardIx k 4 (run (effBoostRechargeDone k mv dv ma) s)

/-- BOOST_FAULT (R296). -/
def boostFault (k reason mv : Nat) (s : State) : State :=
  raiseN 0x0503 (bstDie k) (reason * 0x10000 + k % 2 * 256) mv s

/-- BOOST_ABS (R296): VCAP is above 80.0 V. -/
def effBoostAbs (k mv : Nat) (s : State) : State :=
  if running s && decide (80000 < mv) && !(bstOf s k).abs then
    boostFault k 1 mv (bstSet (bstVcap k mv s) k { bstOf s k with abs := true })
  else s

/-- BOOST_ABS (R296): the converter and VCAP in mV. -/
def execBoostAbs (k mv : Nat) (s : State) : Host.Outcome State Fault Refusal := guardIx k 4 (run (effBoostAbs k mv) s)

/-- BOOST_NO_CHARGE (R296): 100 ms of switching without VCAP reaching VMIN. -/
def effBoostNoCharge (k mv : Nat) (s : State) : State :=
  match (bstOf s k).chg with
  | none => s
  | some t =>
    if (s.clk.tb0 - t).toNat ≥ 10000000 ∧ mv < rdF s (Reg.DR_BST_LIM k) 7 0 * 1000 then
      boostFault k 2 mv (bstStop k (bstVcap k mv s))
    else s

/-- BOOST_NO_CHARGE (R296): the converter and VCAP in mV. -/
def execBoostNoCharge (k mv : Nat) (s : State) : Host.Outcome State Fault Refusal := guardIx k 4 (run (effBoostNoCharge k mv) s)

/-- VCAP_THRESHOLD_CROSSING (R296, R298): VCAP as measured; below VOV the lock-out of R296 ends. -/
def effVcapThresholdCrossing (k mv : Nat) (s : State) : State :=
  let s := if diesUp s then bstVcap k mv s else s
  if mv < rdF s (Reg.DR_BST_LIM k) 15 8 * 1000 then bstSet s k { bstOf s k with abs := false } else s

/-- VCAP_THRESHOLD_CROSSING (R296): the converter and VCAP in mV. -/
def execVcapThresholdCrossing (k mv : Nat) (s : State) : Host.Outcome State Fault Refusal :=
  guardIx k 4 (run (effVcapThresholdCrossing k mv) s)

/-! ### The coil model (R293, R306 to R308) -/

/-- The saturated Q16.16 product of R306. -/
def qm (x y : Int) : Int := sat32 (qmulRaw x y)
/-- The saturated Q16.16 quotient of R306; by zero a free value. -/
def qd (x y : Int) : Int :=
  if y = 0 then ((Config.divZero x).extractLsb' 0 32).toInt else sat32 (rdivRaw (x * 65536) y)
/-- One hundredth of a Q16.16 value. -/
def centi (x : Int) : Int := rdivRaw x 100

/-- RMEAS_WINDOW (R293): a 100 ms window that began in a clean HOLD: `d` the fraction in FROM_VIN, `vin` and `i` the means in V and A
(Q16.16), `vinOk` whether VIN stayed within ± 2 %. -/
def effRmeasWindow (x : Nat) (d vin i : Int) (vinOk : Bool) (s : State) : State :=
  let v := vOf s x
  match v.clean with
  | none => s
  | some t =>
    if vOn s x && vinOk && decide (10000000 ≤ (s.clk.tb0 - t).toNat) then
      let n := 10 * d * vin - 7 * (65536 - d) * 65536
      let q := if i = 0 then ((Config.divZero n).extractLsb' 0 32).toInt else rdivRaw n (10 * i)
      let r := sat32 (q - rdI s (Reg.DR_VCH_RPATH x))
      wrI (vSet s x { v with rm := some r, clean := some s.clk.tb0 }) (Reg.DR_VCH_RMEAS x) r
    else s

/-- RMEAS_WINDOW (R293): the valve channel, the fraction d, the mean VIN, the mean current, and whether VIN stayed within ± 2 %. -/
def execRmeasWindow (x : Nat) (d vin i : Int) (vinOk : Bool) (s : State) : Host.Outcome State Fault Refusal :=
  guardIx x 24 (run (effRmeasWindow x d vin i vinOk) s)

/-- The model's update (R306): i2 in A², the new tw and tc, and rcold_est with a valid measurement. -/
def coilModel (s : State) (x : Nat) (i2 : Int) : Int × Int × Option Int :=
  let rcold := rdI s (Reg.DR_VCH_RCOLD x)
  let alpha := rdI s (Reg.DR_VCH_ALPHA x)
  let tw := rdI s (Reg.DR_VCH_TW x)
  let tc := rdI s (Reg.DR_VCH_TC x)
  let ta := rdI s (Reg.DR_VCH_TA x)
  let r := qm rcold (sat32 (65536 + qm alpha (sat32 (tw - q16 20))))
  let p := qm i2 r
  let q := qd (sat32 (tw - tc)) (rdI s (Reg.DR_VCH_RWC x))
  let tw1 := sat32 (tw + qd (centi (sat32 (p - q))) (rdI s (Reg.DR_VCH_CW x)))
  let tc1 := sat32 (tc + qd (centi (sat32 (q - qd (sat32 (tc - ta)) (rdI s (Reg.DR_VCH_RCA x))))) (rdI s (Reg.DR_VCH_CC x)))
  match (vOf s x).rm with
  | none => (tw1, tc1, none)
  | some m =>
    let est := qd m (sat32 (65536 + qm alpha (sat32 (tw1 - q16 20))))
    let t := sat32 (q16 20 + qd (sat32 (qd m rcold - 65536)) alpha)
    (sat32 (tw1 + qm (rdI s (Reg.DR_VCH_KR x)) (sat32 (t - tw1))), tc1, some est)

/-- The coil drift check (R471). -/
def coilDrift (x : Nat) (s : State) : State :=
  let rc := rdI s (Reg.DR_VCH_RCOLD x)
  if rc ≤ 0 then s
  else
    let ratio := (roundAway (rdI s (Reg.DR_VCH_RCOLD_EST x) * 65536) rc.natAbs).toNat
    driftSet 1 (x % 12) (vDie x) ratio (ratioOff ratio (rdF s Reg.SV_THM_DRIFT 31 24)) s

/-- COIL_THERMAL_UPDATE (R306, R308): each 10 ms of TB0, with the mean current in mA, the mean square in A², and the energy in mJ that the
channel drew from and returned to its capacitor (R298). -/
def effCoilThermalUpdate (x ma : Nat) (i2 : Int) (drawn recov : Nat) (s : State) : State :=
  if running s && rdB s (Reg.DR_VCH_CFG x) 31 && decide (1000000 ≤ (s.clk.tb0 - (vOf s x).thermAt).toNat) then
    let k := bankBst (vBank x)
    let s := addS31 (Reg.DR_BST_ERECOV k) recov (addS31 (Reg.DR_BST_EDRAW k) drawn s)
    let s := wrF s (Reg.DR_VCH_I x) 31 16 (min 0xFFFF ma)
    let (tw, tc, est) := coilModel s x i2
    let s := wrI (wrI (vSet s x { vOf s x with rm := none, thermAt := s.clk.tb0 }) (Reg.DR_VCH_TW x) tw) (Reg.DR_VCH_TC x) tc
    let s := match est with
      | none => s
      | some e => coilDrift x (wrI s (Reg.DR_VCH_RCOLD_EST x) e)
    if vRunning (vState s x) ∧ rdI s (Reg.DR_VCH_TW_MAX x) ≤ tw then vFault x 7 (i32 tw) s else vRate x s
  else s

/-- COIL_THERMAL_UPDATE (R306): the valve channel, the mean current in mA, the mean square in A² (Q16.16), and the energies drawn and
returned in mJ over the 10 ms. -/
def execCoilThermalUpdate (x ma : Nat) (i2 : Int) (drawn recov : Nat) (s : State) : Host.Outcome State Fault Refusal :=
  guardIx x 24 (run (effCoilThermalUpdate x ma i2 drawn recov) s)

/-! ### The start check (R313) -/

/-- Does a microcode word break R287? -/
def wordBad (s : State) (d w : Nat) : Bool :=
  let op := ucOp s d w
  let hi := ucHi s d w
  let lo := rd s (ucAddr d w)
  decide (4 < op) || decide (ucSrc s d w = 3) || decide (2 ≤ ucDecay s d w) || decide (bits hi 21 20 ≠ 0)
    || (decide (op = 4) && (decide (bits hi 25 0 ≠ 0) || decide (bits lo 31 10 ≠ 0)))
    || (decide (op = 0 ∨ op = 3) && decide (bits hi 25 12 ≠ 0))
    || (decide (op = 1) && decide (bits hi 23 12 ≠ 0))
    || (decide (op = 2) && decide (ucBand s d w = 0))

/-- Does entry PROF of a channel break R287 or R290? -/
def profBad (s : State) (x : Nat) : Bool :=
  let (base, len) := profSpan s x
  let inside := fun n => decide (base ≤ n ∧ n < base + len)
  decide (1024 < base + len) || !((List.range 5).all fun b => inside (profOn s x b)) || !inside (profOff s x)
    || decide (bits (profWord s x 0) 31 30 ≠ 0 ∨ bits (profWord s x 1) 31 30 ≠ 0 ∨ bits (profWord s x 2) 30 26 ≠ 0
      ∨ bits (profWord s x 2) 15 10 ≠ 0 ∨ bits (profWord s x 3) 31 16 ≠ 0)
    || ((List.range len).any fun i => wordBad s (vDie x) (base + i))

/-- Has a channel's profile a boost word? -/
def profBoosts (s : State) (x : Nat) : Bool :=
  let (base, len) := profSpan s x
  (List.range len).any fun i => decide (ucSrc s (vDie x) (base + i) = 2)

/-- The reason of R313 a channel fails with, 0 for none; 7 a reserved MODE (Table 11-2), for which the
list has no reason. -/
def vchReason (s : State) (x : Nat) : Nat :=
  let m := vMode s x
  let bd := rd s (Reg.DR_VCH_BIND x)
  let imax := rdF s (Reg.DR_VCH_CFG x) 15 0
  let pos := fun a => decide (rdI s a ≤ 0)
  if profBad s x then 1
  else if (if rdB s (Reg.DR_VCH_CFG x) 28 then 20000 else 3000) < imax
      ∨ rdF s (Reg.DR_VCH_HOLD x) 15 0 < rdF s (Reg.DR_VCH_HOLD x) 31 16 then 2
  else if bit bd 31 ∧ (bits bd 26 24 < 1 ∨ 4 < bits bd 26 24 ∨ sigKind s (bits bd 26 24) (bits bd 10 0) ≠ 3) then 3
  else if pos (Reg.DR_VCH_RCOLD x) || pos (Reg.DR_VCH_CW x) || pos (Reg.DR_VCH_CC x) || pos (Reg.DR_VCH_RWC x)
      || pos (Reg.DR_VCH_RCA x) || decide (rdI s (Reg.DR_VCH_TW_MAX x) ≤ rdI s (Reg.DR_VCH_TW_DERATE x)) then 4
  else if profBoosts s x ∧ !rdB s (Reg.DR_BST_CFG (bankBst (vBank x))) 31 then 5
  else if rdF s (Reg.DR_BNK_CFG (vBank x)) 31 30 = 3 then 6
  else if m = 3 then 7
  else 0

/-- The start check of a valve channel, and its model at ambient (R306, R313); the reason for a reserved MODE is a free value. -/
def vchStartCheck (x : Nat) (s : State) : State :=
  if rdB s (Reg.DR_VCH_CFG x) 31 then
    let ta := rd s (Reg.DR_VCH_TA x)
    let s := wr (wr (vSet s x { vOf s x with thermAt := s.clk.tb0 }) (Reg.DR_VCH_TW x) ta) (Reg.DR_VCH_TC x) ta
    match vchReason s x with
    | 0 => s
    | 7 =>
      let (f, s) := takeFree s
      raise 0x0506 (vDie x) (w32 (x % 12)) f (vPut x 9 s)
    | r => raiseN 0x0506 (vDie x) (x % 12) r (vPut x 9 s)
  else s

end Sys2Proof.Machine
end

