-- ==== Sys2Proof/Machine/Motion.lean ====
section
/-!
DEFINITION. The motion channels (chapter 12), the interlock (R309 to R311), the published items of the drive dies (R312, R331), and
the actuation of loop outputs (R34).
-/
namespace Sys2Proof.Machine

/-! ### Names -/

/-- Motion channel `x` (0 to 15). -/
def mOf (s : State) (x : Nat) : MotSt := tget motInit s.drv.mot x
/-- Replace motion channel `x`. -/
def mSet (s : State) (x : Nat) (v : MotSt) : State := { s with drv := { s.drv with mot := tput motInit s.drv.mot x v } }
/-- The drive die of motion channel `x`. -/
def mDie (x : Nat) : Nat := 5 + x / 8
/-- Bit of DR_MOT_CFG. -/
def mCfg (s : State) (x i : Nat) : Bool := rdB s (Reg.DR_MOT_CFG x) i
/-- TACH_EN. -/
def mTach (s : State) (x : Nat) : Bool := mCfg s x 26
/-- CS_EN. -/
def mCs (s : State) (x : Nat) : Bool := mCfg s x 25
/-- SAFE_DUTY in %. -/
def mSafeDuty (s : State) (x : Nat) : Nat := rdF s (Reg.DR_MOT_DUTY x) 31 24
/-- Is a channel enabled and past its start check? -/
def mOn (s : State) (x : Nat) : Bool := running s && mCfg s x 31 && decide ((mOf s x).ph ≠ 8)
/-- Does a channel stand at its safe value (R322)? -/
def mSafe (s : State) (x : Nat) : Bool := decide (devState s = 4) || s.drv.seqOff.contains (true, x)
/-- d in 0.01 % (DR_MOT_SPEED.DUTY). -/
def mDuty (s : State) (x : Nat) : Nat := rdF s (Reg.DR_MOT_SPEED x) 15 0
/-- I_MEAS in mA. -/
def mCur (s : State) (x : Nat) : Nat := rdF s (Reg.DR_MOT_I x) 31 16
/-- The retry counter k. -/
def mRetries (s : State) (x : Nat) : Nat := rdF s (Reg.DR_MOT_STAT x) 15 8
/-- STATE (Table 12-3): the first of CFG_ERR, FORCED, FAILED, SAFE_VAL that applies, else the phase (R321 to R323). -/
def mStateNow (s : State) (x : Nat) : Nat :=
  let v := mOf s x
  if !mCfg s x 31 then 0
  else if v.ph = 8 then 8 else if v.forced then 7 else if v.ph = 5 then 5 else if mSafe s x then 6 else v.ph
/-- STATE and ACTIVE follow the phase (R329). -/
def mRefresh (x : Nat) (s : State) : State :=
  let st := mStateNow s x
  let act := decide (1 ≤ st ∧ st ≤ 4) || (decide (st = 6) && decide (mSafeDuty s x ≠ 0))
  wrB (wrF s (Reg.DR_MOT_STAT x) 3 0 st) (Reg.DR_MOT_STAT x) 6 act
/-- w6 of a channel's events (R333). -/
def mW6 (s : State) (x : Nat) : Nat := x % 8 + rdF s (Reg.DR_MOT_CFG x) 30 29 * 16
/-- Set d. -/
def mPutD (x d : Nat) (s : State) : State := wrF s (Reg.DR_MOT_SPEED x) 15 0 d
/-- Set ARMED. -/
def mArm (x : Nat) (b : Bool) (s : State) : State := wrB s (Reg.DR_MOT_STAT x) 7 b
/-- Set FAULT. -/
def mFault (x c : Nat) (s : State) : State := wrF s (Reg.DR_MOT_STAT x) 23 16 c

/-! ### Phases (R315 to R327) -/

/-- The duty a channel in RUN carries, in 0.01 % (R315, R322). -/
def mWant (s : State) (x : Nat) : Nat :=
  if mSafe s x then mSafeDuty s x * 100
  else
    let h := (roundAway ((mOf s x).cmd * 100) 65536).toNat
    max (rdF s (Reg.DR_MOT_DUTY x) 23 16 * 100) (min 10000 h)

/-- The newest auxiliary speed at the drive die (R320): none when none has arrived within the last 1 s of TB0 (R109). -/
def mAux (s : State) (x : Nat) : Option Int :=
  match (mOf s x).aux.reverse.find? fun a => reached s.clk.tb1 a.1 with
  | none => none
  | some a => if tb1To0 s (s.clk.tb1 - a.1).toNat ≤ secTicks then some a.2 else none

/-- w7 of MOT_TACH_LOST. -/
def mTlW7 (s : State) (x : Nat) : Nat :=
  if mCs s x then mCur s x else (((mAux s x).getD 0) / 65536).toNat

/-- TACH_LOST is left, whatever the way: MOT_TACH_LOST (R326). -/
def mLeave (x : Nat) (s : State) : State :=
  if (mOf s x).ph = 3 then raiseN 0x0603 (mDie x) (mW6 s x) (mTlW7 s x) s else s

/-- The channel before its first stall or tach loss in a tick is kept (Table 12-2). -/
def mMark (x : Nat) (s : State) : State :=
  let v := mOf s x
  if (match v.mark with | some k => decide (k.at0 = s.clk.tb0) | none => false) then s
  else
    let k : MotMark := { at0 := s.clk.tb0, ph := v.ph, stat := rd s (Reg.DR_MOT_STAT x), stalls := rd s (Reg.DR_MOT_STALL_CNT x),
                         losses := rd s (Reg.DR_MOT_TL_CNT x) }
    mSet s x { v with mark := some k }

/-- Forcing in the same tick as a stall or a tach loss (Table 12-2): the channel as before, and no record of it. -/
def mUnmark (x : Nat) (s : State) : State :=
  match (mOf s x).mark with
  | none => s
  | some k =>
    if k.at0 ≠ s.clk.tb0 then s
    else
      let s := wr (wr (wr s (Reg.DR_MOT_STAT x) k.stat) (Reg.DR_MOT_STALL_CNT x) k.stalls) (Reg.DR_MOT_TL_CNT x) k.losses
      let mine := fun (e : Ev) => decide (e.tick = s.clk.tb0 ∧ e.unit = mDie x ∧ 0x0601 ≤ e.code ∧ e.code ≤ 0x0603 ∧ bits e.p0 2 0 = x % 8)
      let s := { s with log := { s.log with raised := s.log.raised.filter fun e => !mine e } }
      mSet s x { mOf s x with ph := k.ph, mark := none }

/-- IDLE is entered: d, the retry counter and FAULT go to 0 (R327, R328). -/
def mIdle (x : Nat) (s : State) : State :=
  let s := mLeave x s
  let s := mSet s x { mOf s x with ph := 0, slow := none, locked := none, ok := none }
  mRefresh x (wrF (mFault x 0 (mPutD x 0 s)) (Reg.DR_MOT_STAT x) 15 8 0)

/-- A kick begins (R318). -/
def mKick (x : Nat) (s : State) : State :=
  let s := mSet s x { mOf s x with ph := 1, kickAt := s.clk.tb0 }
  mRefresh x (mPutD x (rdF s (Reg.DR_MOT_DUTY x) 15 8 * 100) s)

/-- The duty in force becomes `d` (R318): a change from 0 to above 0 is a start, with a kick. -/
def mDutyTo (x d : Nat) (s : State) : State := if mDuty s x = 0 ∧ 0 < d then mKick x s else mRefresh x (mPutD x d s)

/-- RUN is entered (R318). -/
def mRun (x : Nat) (s : State) : State :=
  let s := mSet s x { mOf s x with ph := 2, runAt := s.clk.tb0, slow := none, locked := none, ok := none }
  mRefresh x (mPutD x (mWant s x) s)

/-- The wait of retry `k` in TB0 ticks (R327): BACKOFF is Q4.4. -/
def retryTicks (s : State) (x k : Nat) : Nat :=
  let r := rdF s (Reg.DR_MOT_RETRY x) 31 16
  let b := rdF s (Reg.DR_MOT_RETRY x) 15 8
  min (r * b ^ (k - 1) * secTicks / 16 ^ (k - 1)) (65535 * secTicks)

/-- A stall (R327). -/
def mStall (x code : Nat) (s : State) : State :=
  let s := mLeave x (mMark x s)
  let s := count31 (Reg.DR_MOT_STALL_CNT x) (mPutD x 0 (mFault x code s))
  let k := mRetries s x
  if rdF s (Reg.DR_MOT_RETRY x) 7 0 ≤ k then
    let s := mRefresh x (mArm x false (mSet s x { mOf s x with ph := 5, slow := none, locked := none, ok := none }))
    raiseN 0x0602 (mDie x) (mW6 s x + code * 0x10000 + 0x100) 0 s
  else
    let w := retryTicks s x (k + 1)
    let s := wrF s (Reg.DR_MOT_STAT x) 15 8 (k + 1)
    let s := mSet s x { mOf s x with
      ph := 4, retryAt := s.clk.tb0 + BitVec.ofNat 64 w, slow := none, locked := none, ok := none }
    raiseN 0x0601 (mDie x) (mW6 s x + code * 0x10000) ((k + 1) * 0x10000 + w / secTicks) (mRefresh x s)

/-- TACH_LOST is entered (R326); a channel at its safe value stays there (R322), and TL_DUTY above a d of 0 is a start (R318). -/
def mTachLost (x : Nat) (s : State) : State :=
  let s := mMark x s
  let s := mSet s x { mOf s x with ph := 3, slow := none, locked := none, ok := none }
  let s := count31 (Reg.DR_MOT_TL_CNT x) (mFault x 5 s)
  let tl := rdF s (Reg.DR_MOT_DUTY x) 7 0 * 100
  let s := if mCfg s x 23 && !mSafe s x && decide (0 < mDuty s x ∨ tl = 0) then mPutD x tl s else s
  let s := raiseN 0x0603 (mDie x) (mW6 s x + 0x100) (mTlW7 s x) (mRefresh x s)
  if mCfg s x 23 && !mSafe s x && decide (mDuty s x = 0 ∧ 0 < tl) then mKick x (mLeave x s) else s

/-- RUN is entered from TACH_LOST (R326). -/
def mTachBack (x : Nat) (s : State) : State :=
  let s := mLeave x s
  if mDuty s x = 0 ∧ 0 < mWant s x then mKick x s else mRun x s

/-- A channel goes to its safe value (R322, Table 12-2); out of TACH_LOST, its supervision starts anew. -/
def mSafeEnter (x : Nat) (s : State) : State :=
  let v := mOf s x
  if v.forced ∨ v.ph = 5 ∨ v.ph = 8 then s
  else if mSafeDuty s x = 0 then mIdle x s
  else if v.ph = 0 then mKick x s
  else if v.ph = 2 then mDutyTo x (mSafeDuty s x * 100) s
  else if v.ph = 3 then
    let s := mLeave x s
    mDutyTo x (mSafeDuty s x * 100)
      (mSet s x { mOf s x with ph := 2, runAt := s.clk.tb0, last := none, slow := none, locked := none, ok := none })
  else mRefresh x s

/-- A FAILED channel leaves for IDLE, disarmed (R328), and in SAFE goes on to its safe value (R322); `why` 1 the command OFF, 2 the
owner. -/
def mUnfail (x why : Nat) (s : State) : State :=
  let code := rdF s (Reg.DR_MOT_STAT x) 23 16
  let s := mArm x false (mIdle x s)
  let s := raiseN 0x0602 (mDie x) (mW6 s x + code * 0x10000) why s
  if mSafe s x then mSafeEnter x s else s

/-- A motion channel follows SAFE and its sequence enable (R322). -/
def mSafeSync (x : Nat) (s : State) : State :=
  if mCfg s x 31 && decide ((mOf s x).ph ≠ 8) then
    let sv := mSafe s x
    let was := (mOf s x).sv
    let s := mSet s x { mOf s x with sv := sv }
    if sv && !was then mSafeEnter x s
    else if was && !sv && !(mOf s x).forced && decide ((mOf s x).ph ≠ 5) then mIdle x s
    else mRefresh x s
  else s

/-- Is motion channel `x` forced (R321)? -/
def mForcedNow (s : State) (x : Nat) : Bool :=
  driveRailBad s || ilkForces s (mDie x) (Reg.DR_ILK_CFG2 (mDie x)) (x % 8)

/-- Forcing of a motion channel begins or ends (R321). -/
def mForce (x : Nat) (s : State) : State :=
  if mCfg s x 31 && decide ((mOf s x).ph ≠ 8) then
    let f := mForcedNow s x
    let v := mOf s x
    if f = v.forced then s
    else if f then
      let s := mLeave x (mUnmark x s)
      let v := mOf s x
      let s := mPutD x 0 (mSet s x { v with forced := true, ph := if v.ph = 5 then 5 else 0, slow := none, locked := none, ok := none })
      mRefresh x s
    else
      let s := mSet s x { v with forced := false }
      let s := if v.ph = 5 then mRefresh x s else mIdle x s
      let s := if mCfg s x 24 then s else mArm x false s
      if mSafe s x then mSafeEnter x s else s
  else s

/-- Forcing and the safe values judged on every drive channel. -/
def driveJudge (s : State) : State :=
  let s := vForceAll s
  let s := forEach (List.range 16) (fun x s => mSafeSync x (mForce x s)) s
  bstJudge s

/-- A value reaches motion channel `x` at its actuation instant (R315, R317, R318, R322, R326, R328). -/
def mApply (x : Nat) (val : Int) (s : State) : State :=
  if mOn s x then
    let s := mSet s x { mOf s x with cmd := val }
    let v := mOf s x
    let on := decide (0 < val)
    if v.forced then s
    else if v.ph = 5 then (if on then s else mUnfail x 1 s)
    else
      let s := if on then s else mArm x true s
      if mSafe s x then s
      else if !on then (if v.ph = 0 then s else mIdle x s)
      else if v.ph = 0 then (if rdB s (Reg.DR_MOT_STAT x) 7 then mKick x s else s)
      else if v.ph = 2 then mDutyTo x (mWant s x) s
      else s
  else s

/-- One actuation: the oldest loop output on its way to the channel whose instant has come is applied, or, not there by
then, leaves the previous command in force. -/
def driveOne (mot : Bool) (x : Nat) (late : Option Nat) (s : State) : State :=
  match s.drv.acts.find? fun a => decide (a.mot = mot ∧ a.x = x) && reached s.clk.tb1 a.at1 with
  | none => s
  | some a =>
    let s := { s with drv := { s.drv with acts := s.drv.acts.erase a } }
    match late with
    | some n => towpathLate (if mot then mDie x else vDie x) (if mot then x % 8 else x % 12) n s
    | none => if mot then mApply x a.value s else vApply x a.value s

/-- DRIVE_ACTUATION (R34, R35): the actuation of a channel. An output due at the lower channel of a valve bank at this tick comes first
(Table 11-8). -/
def effDriveActuation (mot : Bool) (x : Nat) (late : Option Nat) (s : State) : State :=
  let s := if !mot && decide (x % 2 = 1) then driveOne false (x - 1) none s else s
  driveOne mot x late s

/-- DRIVE_ACTUATION (R34): a motion (or valve) channel, and the lateness in ticks when the command has not arrived. -/
def execDriveActuation (mot : Bool) (x : Nat) (late : Option Nat) (s : State) : Host.Outcome State Fault Refusal :=
  guardIx x (if mot then 16 else 24) (run (effDriveActuation mot x late) s)

/-! ### Feedback (R319, R320, R324 to R327) -/

/-- Has a level that rose at `t` stayed for the filter time (R319, R144), and is the edge that far from the one before it: two stable
levels lie between rising edges? -/
def tachGood (s : State) (x : Nat) (t : Tick) : Bool :=
  let f := rdF s (Reg.DR_MOT_TACH x) 15 0 * 10
  decide (f ≤ (s.clk.tb0 - t).toNat) && !laterN 64 t.toNat s.clk.tb0.toNat
    && (match (mOf s x).last with
        | none => true
        | some l => decide (2 * f ≤ (t - l).toNat) && laterN 64 t.toNat l.toNat)

/-- TACH_EDGE (R319): a rising edge accepted after its filter, timestamped at TB0 tick `t`. -/
def effTachEdge (x : Nat) (t : Tick) (s : State) : State :=
  if mOn s x && mTach s x && tachGood s x t then
    let v := mOf s x
    mSet s x { v with edges := v.edges ++ [t], last := some t }
  else s

/-- TACH_EDGE (R319): the motion channel, 0 to 15, and the TB0 tick of the edge. -/
def execTachEdge (x : Nat) (t : Tick) (s : State) : Host.Outcome State Fault Refusal := guardIx x 16 (run (effTachEdge x t) s)

/-- TACH_TO in ticks. -/
def tachTo (s : State) (x : Nat) : Nat := rdF s (Reg.DR_MOT_TACH x) 31 16 * 100000

/-- The speed at a publication instant (R319, in the manner of R146), and the window kept. -/
def mSpeed (s : State) (x : Nat) : MotSt :=
  let v := mOf s x
  let now := s.clk.tb0
  let lo := now - 10000000
  let old := v.edges.filter fun t => !laterN 64 t.toNat lo.toNat
  let win := v.edges.filter fun t => laterN 64 t.toNat lo.toNat
  let ref := match old.getLast? with | some t => some t | none => v.ref
  let ppr := max 1 (rdF s (Reg.DR_MOT_CFG x) 21 16)
  let rpm := match ref with
    | none => 0
    | some r =>
      match win.getLast? with
      | some l => win.length * 6000000000 / (ppr * max 1 (l - r).toNat)
      | none => min v.rpm (6000000000 / (ppr * max 1 (now - r).toNat))
  let quiet := match v.last with | none => true | some l => decide (tachTo s x < (now - l).toNat)
  if quiet then { v with edges := win, ref := none, rpm := 0 } else { v with edges := win, ref := ref, rpm := rpm }

/-- The start of a condition that still holds. -/
def heldSince (since : Option Tick) (c : Bool) (now : Tick) : Option Tick :=
  if c then (match since with | some t => some t | none => some now) else none

/-- TACH_SPEED_UPDATE (R318 to R320, R324, R326): at each 10 ms instant the speed and the mean current are formed; a kick or a tach loss
is judged; the conditions of R324 are noted. -/
def effTachSpeedUpdate (x ma : Nat) (s : State) : State :=
  if mOn s x && onGrid s 10000 0 then
    let s := if mTach s x then
        let v := mSpeed s x
        wrF (mSet s x v) (Reg.DR_MOT_SPEED x) 31 16 (min 0xFFFF v.rpm)
      else s
    let s := if mCs s x then wrF s (Reg.DR_MOT_I x) 31 16 (min 0xFFFF ma) else s
    let v := mOf s x
    let now := s.clk.tb0
    let stallRpm := rdF s (Reg.DR_MOT_STALL x) 31 16
    let lock := mCs s x && decide (rdF s (Reg.DR_MOT_IBAND x) 31 16 ≤ ma)
    let fresh := match v.last with | none => false | some l => decide ((now - l).toNat ≤ tachTo s x)
    if v.forced then s
    else if v.ph = 1 then (if mTach s x && decide (rdF s (Reg.DR_MOT_KICK x) 31 16 ≤ v.rpm) then mRun x s else s)
    else if v.ph = 2 ∧ mTach s x then
      mSet s x { v with slow := heldSince v.slow (fresh && decide (v.rpm < stallRpm)) now, locked := heldSince v.locked lock now }
    else if v.ph = 3 then
      let ok := heldSince v.ok (decide (stallRpm ≤ v.rpm)) now
      let s := mSet s x { v with ok := ok, locked := heldSince v.locked lock now }
      match ok with
      | some t =>
        if secTicks ≤ (now - t).toNat then mTachBack x s else s
      | none => s
    else s
  else s

/-- TACH_SPEED_UPDATE (R319): the motion channel and its mean current over the last 100 ms in mA. -/
def execTachSpeedUpdate (x ma : Nat) (s : State) : Host.Outcome State Fault Refusal :=
  guardIx x 16 (run (effTachSpeedUpdate x ma) s)

/-- KICK_TIMEOUT (R318, Table 12-2): KICK_MS has expired; at a publication instant the speed is the one formed there. -/
def effKickTimeout (x : Nat) (s : State) : State :=
  let v := mOf s x
  if mOn s x && decide (v.ph = 1) && decide (rdF s (Reg.DR_MOT_KICK x) 15 0 * 100000 ≤ (s.clk.tb0 - v.kickAt).toNat) then
    let rpm := if onGrid s 10000 0 then (mSpeed s x).rpm else v.rpm
    if mTach s x && decide (rpm < rdF s (Reg.DR_MOT_KICK x) 31 16) then mStall x 1 s else mRun x s
  else s

/-- KICK_TIMEOUT (R318): the motion channel. -/
def execKickTimeout (x : Nat) (s : State) : Host.Outcome State Fault Refusal := guardIx x 16 (run (effKickTimeout x) s)

/-- Has a condition lasted STALL_MS? -/
def mLasted (s : State) (x : Nat) (c : Option Tick) : Bool :=
  match c with
  | none => false
  | some t => decide (rdF s (Reg.DR_MOT_STALL x) 15 0 * 100000 ≤ (s.clk.tb0 - t).toNat)

/-- MOT_STALL (R324, R326): LOCKED or SLOW has lasted STALL_MS; LOCKED is taken when both have. -/
def effMotStall (x : Nat) (s : State) : State :=
  let v := mOf s x
  if mOn s x && !v.forced && decide (v.ph = 2 ∨ v.ph = 3) then
    if mLasted s x v.locked then mStall x 2 s
    else if v.ph = 2 ∧ mLasted s x v.slow then mStall x 3 s
    else s
  else s

/-- MOT_STALL (R324): the motion channel. -/
def execMotStall (x : Nat) (s : State) : Host.Outcome State Fault Refusal := guardIx x 16 (run (effMotStall x) s)

/-- TACH_TIMEOUT (R325): no tach edge for TACH_TO in RUN, classified by Table 12-1; a stall by R324 of the same tick goes first
(Table 12-2). -/
def effTachTimeout (x ma : Nat) (s : State) : State :=
  let v := mOf s x
  if mOn s x && !v.forced && decide (v.ph = 2) && mTach s x
      && decide (tachTo s x ≤ (s.clk.tb0 - (v.last.getD v.runAt)).toNat) then
    if mLasted s x v.locked then mStall x 2 s
    else if mLasted s x v.slow then mStall x 3 s
    else
    let s := mSet s x { v with rpm := 0, ref := none }
    let s := wrF s (Reg.DR_MOT_SPEED x) 31 16 0
    if mCs s x then
      let s := wrF s (Reg.DR_MOT_I x) 31 16 (min 0xFFFF ma)
      if rdF s (Reg.DR_MOT_IBAND x) 31 16 ≤ ma then mStall x 2 s
      else if rdF s (Reg.DR_MOT_IBAND x) 15 0 ≤ ma then mTachLost x s
      else mStall x 4 s
    else
      match mAux s x with
      | some a => if (rdF s (Reg.DR_MOT_STALL x) 31 16 * 65536 : Nat) ≤ a then mTachLost x s else mStall x 4 s
      | none => mStall x 4 s
  else s

/-- TACH_TIMEOUT (R325): the motion channel and its mean current in mA. -/
def execTachTimeout (x ma : Nat) (s : State) : Host.Outcome State Fault Refusal := guardIx x 16 (run (effTachTimeout x ma) s)

/-- RETRY_KICK (R327): a retry wait has ended. -/
def effRetryKick (x : Nat) (s : State) : State :=
  let v := mOf s x
  if mOn s x && !v.forced && decide (v.ph = 4) && reached s.clk.tb0 v.retryAt then mKick x s else s

/-- RETRY_KICK (R327): the motion channel. -/
def execRetryKick (x : Nat) (s : State) : Host.Outcome State Fault Refusal := guardIx x 16 (run (effRetryKick x) s)

/-- RETRY_COUNT_CLEAR (R327): 600 s of continuous RUN. -/
def effRetryCountClear (x : Nat) (s : State) : State :=
  let v := mOf s x
  if mOn s x && decide (v.ph = 2) && decide (600 * secTicks ≤ (s.clk.tb0 - v.runAt).toNat) then
    wrF s (Reg.DR_MOT_STAT x) 15 8 0
  else s

/-- RETRY_COUNT_CLEAR (R327): the motion channel. -/
def execRetryCountClear (x : Nat) (s : State) : Host.Outcome State Fault Refusal := guardIx x 16 (run (effRetryCountClear x) s)

/-- The write of DR_MOT_CTRL.RESET (R328): REFUSED in any state but FAILED. -/
def opMotReset (x : Nat) : WOp := fun s => if rdF s (Reg.DR_MOT_STAT x) 3 0 = 5 then (.ok, mUnfail x 2) else (.refused, id)

/-- MOT_RESET (R328): the writing port and the motion channel. -/
def execMotReset (p : PortId) (x : Nat) (s : State) : Host.Outcome State Fault Refusal :=
  guardIx x 16 (run (ownerWrite p (Reg.DR_MOT_CTRL x) (opMotReset x)) s)

/-- The reason of R332 a motion channel fails with, 0 for none. -/
def motReason (s : State) (x : Nat) : Nat :=
  let bad := fun w => bit w 31 && decide (bits w 26 24 < 1 ∨ 4 < bits w 26 24 ∨ sigKind s (bits w 26 24) (bits w 10 0) ≠ 3)
  let c := rd s (Reg.DR_MOT_CFG x)
  let du := rd s (Reg.DR_MOT_DUTY x)
  let ib := rd s (Reg.DR_MOT_IBAND x)
  if bad (rd s (Reg.DR_MOT_BIND x)) || bad (rd s (Reg.DR_MOT_AUX x)) then 1
  else if bits c 28 27 = 3 ∨ bits c 15 0 < 20 ∨ 25000 < bits c 15 0 then 2
  else if (bit c 26 ∧ bits c 21 16 = 0) ∨ (bit c 25 ∧ rdF s (Reg.DR_MOT_CS x) 31 16 = 0) ∨ bits ib 31 16 ≤ bits ib 15 0 then 3
  else if rdF s (Reg.DR_MOT_RETRY x) 15 8 < 16 then 4
  else if 100 < bits du 31 24 ∨ 100 < bits du 23 16 ∨ 100 < bits du 15 8 ∨ 100 < bits du 7 0 then 5
  else 0

/-- The start check of a motion channel (R332). -/
def motStartCheck (x : Nat) (s : State) : State :=
  if mCfg s x 31 then
    match motReason s x with
    | 0 => s
    | r => raiseN 0x0604 (mDie x) (mW6 s x) r (mRefresh x (mSet s x { mOf s x with ph := 8 }))
  else s

/-! ### The interlock (R309 to R311) -/

/-- The inputs open on a die. -/
def ilkBits (s : State) (d : Nat) : Nat := rdF s (Reg.DR_ILK_STAT d) 1 0

/-- Input `b` (0 ILK_A, 1 ILK_B) opens on drive die `d` (R311). -/
def ilkOpenDie (b : Nat) (d : Nat) (s : State) : State :=
  let s := hwSet (wrB s (Reg.DR_ILK_STAT d) b true) (Reg.DR_ILK_STAT d) (4 + b)
  let s := wr (count31 (Reg.DR_ILK_TRIP_CNT d) s) (Reg.DR_ILK_TS d) (s.clk.tb0.extractLsb' 0 32)
  let vm := (List.range 12).filter fun c => rdB s (Reg.DR_ILK_CFG d) (16 * b + c) && rdB s (Reg.DR_VCH_CFG ((d - 5) * 12 + c)) 31
  let mm := (List.range 8).filter fun c => rdB s (Reg.DR_ILK_CFG2 d) (16 * b + c) && mCfg s ((d - 5) * 8 + c) 31
  let w7 := vm.foldl (fun a c => a + 2 ^ c) 0 + mm.foldl (fun a c => a + 2 ^ (16 + c)) 0
  raiseN 0x0504 d (ilkBits s d * 0x10000) w7 s

/-- ILK_OPEN (R309 to R311): the input has been low for 5 µs. -/
def effIlkOpen (b : Nat) (s : State) : State :=
  if rdB s (Reg.DR_ILK_STAT 5) b ∨ !diesUp s then s
  else
    let s := { s with drv := { s.drv with ilk := (s.drv.ilk.filter fun y => decide (y.1 ≠ b)) ++ [(b, s.clk.tb0)] } }
    driveJudge (ilkOpenDie b 6 (ilkOpenDie b 5 s))

/-- ILK_OPEN (R310): the input, 0 ILK_A or 1 ILK_B. -/
def execIlkOpen (b : Nat) (s : State) : Host.Outcome State Fault Refusal := guardIx b 2 (run (effIlkOpen b) s)

/-- ILK_CLOSED (R311): the input is high again. -/
def effIlkClosed (b : Nat) (s : State) : State :=
  if rdB s (Reg.DR_ILK_STAT 5) b then
    let t0 := match s.drv.ilk.find? fun y => decide (y.1 = b) with | some y => y.2 | none => s.clk.tb0
    let us := min 0xFFFFFFFF ((s.clk.tb0 - t0).toNat / 100)
    let shut := fun (d : Nat) (s : State) =>
      let s := wrB s (Reg.DR_ILK_STAT d) b false
      raiseN 0x0505 d (ilkBits s d * 0x10000) us s
    driveJudge (shut 6 (shut 5 s))
  else s

/-- ILK_CLOSED (R311): the input, 0 ILK_A or 1 ILK_B. -/
def execIlkClosed (b : Nat) (s : State) : Host.Outcome State Fault Refusal := guardIx b 2 (run (effIlkClosed b) s)

/-! ### Published items (R312, R331) -/

/-- The value of item `i` of drive die `5 + k`, none where it is not written (Tables 11-9, 12-5). -/
def driveItem (s : State) (k i : Nat) : Option Int :=
  let milli : Nat → Int := fun m => rdivRaw (m * 65536 : Nat) 1000
  if i < 12 then some (vState s (12 * k + i) * 65536 : Nat)
  else if i < 24 then some (milli (rdF s (Reg.DR_VCH_I (12 * k + (i - 12))) 31 16))
  else if i < 36 then some (rdI s (Reg.DR_VCH_TW (12 * k + (i - 24))))
  else if i < 38 then some (milli (rdF s (Reg.DR_BST_STAT (2 * k + (i - 36))) 16 0))
  else if i < 64 then none
  else if i < 72 then some (rdF s (Reg.DR_MOT_STAT (8 * k + (i - 64))) 3 0 * 65536 : Nat)
  else if i < 80 then
    let x := 8 * k + (i - 72)
    if mTach s x ∧ rdF s (Reg.DR_MOT_STAT x) 3 0 ≠ 3 then some (sat32 ((mOf s x).rpm * 65536 : Nat)) else none
  else if i < 88 then let x := 8 * k + (i - 80); if mCs s x then some (milli (mCur s x)) else none
  else if i < 96 then some (rdivRaw (mDuty s (8 * k + (i - 88)) * 65536 : Nat) 100)
  else none

/-- The loop-die entries that import items of drive die `5 + k`, as die, entry and item. -/
def itemImports (s : State) (k : Nat) : List (Nat × Nat × Nat) :=
  [1, 2, 3, 4].flatMap fun d =>
    ((List.range 2048).filter fun e => decide (sigKind s d e = 4 ∧ sigSrcDie s d e = 5 + k)).map fun e => (d, e, sigSrc s d e)

/-- DRIVE_ITEM_PUBLISH (R32, R312): on the 10 ms grid each imported item is sent, to be visible one period later. -/
def effDriveItemPublish (k : Nat) (s : State) : State :=
  if running s && onGrid s 10000 0 then
    forEach (itemImports s k) (fun x s =>
      match driveItem s k x.2.2 with
      | none => s
      | some v => exportPut (BitVec.ofNat 64 ((tb3us s + 10000) * 100)) x.1 x.2.1 (i32 v) (nowUs s) s) s
  else s

/-- DRIVE_ITEM_PUBLISH (R312): the drive die, 0 or 1. -/
def execDriveItemPublish (k : Nat) (s : State) : Host.Outcome State Fault Refusal := guardIx k 2 (run (effDriveItemPublish k) s)

end Sys2Proof.Machine
end

