-- ==== Sys2Proof/Machine/Net.lean ====
section
/-!
DEFINITION. Bridge and hierarchy (chapter 14): routes, the bridge store, forwarding by class and deficit round robin, joins,
bindings, the census and proxying.
-/
namespace Sys2Proof.Machine

/-! ### Roles and channels -/

/-- Is Nn a downstream channel (NW_HIER_CFG.DOWN, R364)? -/
def isDown (s : State) (n : Nat) : Bool := rdB s Reg.NW_HIER_CFG (16 + n)
/-- Does the device serve segments (R364: ROOT or MANAGER)? -/
def isManager (s : State) : Bool := let r := rdF s Reg.NW_HIER_CFG 31 30; decide (r = 1 ∨ r = 2)
/-- The depth of the segments this device serves (R364). -/
def segDepth (s : State) : Nat := if isRoot s then 1 else rdF s Reg.NW_HIER_STAT 10 8 + 1
/-- May frames be put into the TX buffers of Nn (R383: in bus off or CFG_ERR frames stay queued)? -/
def outOk (s : State) (n : Nat) : Bool := chanOn s n && decide (opst s n ≠ 5 ∧ opst s n ≠ 6)

/-! ### The bridge store (R380 to R382) -/

/-- The identifier of a frame as an event shows it: 29 bits of an extended frame, 11 of another. -/
def frameIdent (f : CanFrame) : Nat := f.id

/-- The queue of output `o` and class `c`, from arrival channel `b` for classes 1 to 3, oldest first (R380). -/
def brgQueue (s : State) (o c : Nat) (b : Option Nat) : List BrgFrame :=
  s.net.store.filter fun x => decide (x.out = o ∧ x.cls = c) && (match b with | none => true | some k => decide (x.arr = k))

/-- The head of a class-0 queue: the highest priority, the oldest among equals (R380). -/
def c0Head : List BrgFrame → Option BrgFrame
  | [] => none
  | x :: r =>
    match c0Head r with
    | none => some x
    | some y => if arbRank y.frame < arbRank x.frame then some y else some x

/-- The number of slots in use shows in NW_BRG_STAT.USED. -/
def showUsed (s : State) : State := wrF s Reg.NW_BRG_STAT 9 0 s.net.store.length

/-- Put a frame into the store. -/
def storePut (x : BrgFrame) (s : State) : State :=
  showUsed { s with net := { s.net with store := s.net.store ++ [x] } }
/-- Take a frame out of the store. -/
def storeDrop (x : BrgFrame) (s : State) : State :=
  showUsed { s with net := { s.net with store := s.net.store.erase x } }

/-- Load a forwarded frame into a TX buffer of `o` in `lo` to `hi`, or an XL frame into the XL TX buffer; none with none free
(R381, R382). -/
def brgLoad (o lo hi : Nat) (x : BrgFrame) (s : State) : Option State :=
  if x.frame.fmt = .xl then
    match xlSend s o x.frame with
    | none => none
    | some s => let c := canOf s o; some (canSet s o { c with fwd := if x.cls = 0 then c.fwd else c.fwd ++ [32] })
  else
    match freeBuf s o lo hi with
    | none => none
    | some b =>
      let s := txLoad s o b x.frame none
      let c := canOf s o
      if x.cls = 0 then
        some (canSet s o { c with c0rx := (c.c0rx.filter fun y => decide (y.1 ≠ b)) ++ [(b, x.rx0)] })
      else some (canSet s o { c with fwd := c.fwd ++ [b] })

/-- A frame discarded under R379 or R380 is counted for its output. -/
def brgDrop (o : Nat) (s : State) : State := count31 (Reg.NW_BRG_DROP_CNT o) s

/-- A class-0 frame discarded under R380: counted and logged. -/
def brgC0Drop (x : BrgFrame) (s : State) : State :=
  raiseN 0x0806 7 x.out (frameIdent x.frame) (count31 (Reg.NW_BRG_C0_DROP_CNT x.out) s)

/-- Forward the head of the class-0 queue of `o`, when a class-0 buffer is free (R381). -/
def c0Forward (o : Nat) (s : State) : State :=
  match c0Head (brgQueue s o 0 none) with
  | none => s
  | some x =>
    if outOk s o then
      match brgLoad o 0 3 x s with
      | none => s
      | some s => storeDrop x s
    else s

/-- A class 1 to 3 frame that took the store's last slot in this tick gives it to a class-0 frame of the same tick (Table 14-7). -/
def c0Room (o : Nat) (s : State) : State :=
  if s.net.store.length < 512 then s
  else match (s.net.store.filter fun x => decide (x.cls ≠ 0 ∧ x.out = o ∧ x.rx0 = s.clk.tb0)).getLast? with
    | some x => brgDrop o (storeDrop x s)
    | none => s

/-- A class-0 frame enters the queue of its output (R380, R381): with the queue (or the store) full, the oldest of the queue is
discarded instead. -/
def c0Enter (x : BrgFrame) (s : State) : State :=
  let s := c0Room x.out s
  let q := brgQueue s x.out 0 none
  let full := q.length ≥ rdF s Reg.NW_BRG_QLIM 23 16 ∨ s.net.store.length ≥ 512
  if full then
    match q with
    | [] => brgC0Drop x s
    | old :: _ => c0Forward x.out (storePut x (brgC0Drop old (storeDrop old s)))
  else c0Forward x.out (storePut x s)

/-- A frame of class 1 to 3 enters its queue, or is discarded with the queue or the store full (R380). -/
def bulkEnter (x : BrgFrame) (s : State) : State :=
  if (brgQueue s x.out x.cls (some x.arr)).length ≥ rdF s Reg.NW_BRG_QLIM 7 0 ∨ s.net.store.length ≥ 512 then brgDrop x.out s
  else storePut x s

/-- The round robin of output `o` and class `c` before anything was forwarded. -/
def drrInit (_ : Nat) : Drr := { cur := 0, dc := [], visited := [] }

/-- The next branch after `b` with a frame queued for `o` in class `c`, around the channels; `b` itself last. -/
def nextBranch (s : State) (o c b : Nat) : Nat :=
  ((([1, 2, 3, 4, 5, 6, 7, 8] : List Nat).map fun k => (b + k) % 8).find? fun k => !(brgQueue s o c (some k)).isEmpty).getD b

/-- One pass of the deficit round robin of R382: the state of the round, and the frame to forward when this pass serves one. -/
def drrPass (s : State) (o c : Nat) (r : Drr) : Drr × Option BrgFrame :=
  let b := r.cur
  let z : Nat → Nat := fun _ => 0
  let a := rdF s (Reg.NW_BRG_ACTIVE b) 15 0
  let r := if b ∈ r.visited then r
    else { r with dc := tput z r.dc b (tget z r.dc b + rdF s Reg.NW_BRG_CFG 15 0 * max a 1), visited := b :: r.visited }
  match (brgQueue s o c (some b)).head? with
  | none => ({ cur := nextBranch s o c b, dc := tput z r.dc b 0, visited := r.visited.filter (· ≠ b) }, none)
  | some x =>
    let cost := x.frame.data.length + 16
    if cost ≤ tget z r.dc b then ({ r with dc := tput z r.dc b (tget z r.dc b - cost) }, some x)
    else ({ r with cur := nextBranch s o c b, visited := r.visited.filter (· ≠ b) }, none)

/-- Passes of the round robin until one serves a frame; 64 passes are more than eight branches need at the least quantum. -/
def drrServe (s : State) (o c : Nat) : Nat → Drr → Drr × Option BrgFrame
  | 0, r => (r, none)
  | n + 1, r =>
    match drrPass s o c r with
    | (r, some x) => (r, some x)
    | (r, none) => drrServe s o c n r

/-- The bridge forwards on `o` (R381, R382): class 0 first, then, with fewer than two forwarded frames pending, the lowest class
that has a frame queued. -/
def effBridgeForward (o : Nat) (s : State) : State :=
  let s := c0Forward o s
  if !outOk s o ∨ (canOf s o).fwd.length ≥ 2 then s
  else
    match [1, 2, 3].find? fun c => !(brgQueue s o c none).isEmpty with
    | none => s
    | some c =>
      let (r, hit) := drrServe s o c 64 (tget drrInit s.net.drr (o * 4 + c))
      match hit with
      | none => s
      | some x =>
        match brgLoad o 4 (devBufHi s o) x s with
        | none => s
        | some s =>
          let s := storeDrop x s
          { s with net := { s.net with drr := tput drrInit s.net.drr (o * 4 + c) r } }

/-- BRIDGE_FORWARD (R382): the output channel whose buffer freed. -/
def execBridgeForward (o : Nat) (s : State) : Host.Outcome State Fault Refusal := guardIx o 8 (run (effBridgeForward o) s)

/-! ### Routes (R378, R379) -/

/-- Does route entry `i` match a frame that arrived on Nn (R378)? -/
def routeMatch (s : State) (i n : Nat) (f : CanFrame) : Bool :=
  let w0 := rd s (routeAddr i)
  let w1 := rd s (routeAddr i + 4)
  let w2 := rd s (routeAddr i + 8)
  let src := keySrc (frameKey f)
  let obj := keyObj (frameKey f)
  bit w0 31 && bit w0 (24 + frameClass f) && bit w0 (16 + n) && decide (bits w1 11 0 ≤ src ∧ src ≤ bits w1 27 16)
    && decide (bits w2 14 0 ≤ obj ∧ obj ≤ bits w2 30 16)

/-- One copy of a frame for output `o` (R379, R380): more than 64 data bytes are never forwarded. -/
def brgCopy (n : Nat) (f : CanFrame) (o : Nat) (s : State) : State :=
  let x : BrgFrame := { frame := f, out := o, arr := n, cls := frameClass f, rx0 := s.clk.tb0 }
  if f.data.length > 64 then brgDrop o s
  else if x.cls = 0 then c0Enter x s
  else effBridgeForward o (bulkEnter x s)

/-- Deliver a bridged frame locally (R379): to the import records, else to RX FIFO 0 of its arrival channel. -/
def brgLocal (n flt : Nat) (f : CanFrame) (sof : Tick) (s : State) : State :=
  let (taken, s) := importFrame n f s
  if taken then s else fifoStore n 0 flt f sof s

/-- A frame is compared with the routes in index order (R378): the first that matches decides. -/
def bridgeRoute (n flt : Nat) (f : CanFrame) (sof : Tick) (s : State) : State :=
  if !rdB s Reg.NW_BRG_CFG 31 ∨ hierErr s then s
  else
    match (List.range 2048).find? fun i => routeMatch s i n f with
    | none => count31 Reg.NW_BRG_NOROUTE_CNT s
    | some i =>
      let w0 := rd s (routeAddr i)
      let s := forEach ((maskBits (bits w0 15 8) 8).filter (· ≠ n)) (brgCopy n f) s
      if bit w0 7 then brgLocal n flt f sof s else s

/-! ### Proxying (R376, R377) -/

/-- Proxy entry `k` ends (R377): granted or timed out. -/
def proxyEnd (k : Nat) (granted : Bool) (s : State) : State :=
  match s.net.proxies.find? fun x => decide (x.1 = k) with
  | none => s
  | some (_, x) =>
    let s := { s with net := { s.net with proxies := s.net.proxies.filter fun y => decide (y.1 ≠ k) } }
    let s := wrB s (Reg.NW_HIER_PROXY k) 30 false
    raiseN 0x0805 7 (b2n granted * 256 + k) (min x.count 0xFFFFFFFF) s

/-- Proxy entry `k` becomes ACTIVE for a serial (R376). -/
def proxyOn (ser k : Nat) (s : State) : State :=
  if s.net.proxies.any fun x => decide (x.1 = k) then s
  else
    let s := { s with net := { s.net with
      proxies := s.net.proxies ++ [(k, { serial := ser, last := s.clk.tb0, count := 0, same := [] })] } }
    let s := wrB s (Reg.NW_HIER_PROXY k) 30 true
    raiseN 0x0804 7 (rdF s (Reg.NW_HIER_PROXY k) 11 0 * 0x10000 + k) (ser % 2 ^ 32) s

/-- The enabled proxy entries of an address. -/
def proxiesOf (s : State) (a : Nat) : List Nat :=
  (List.range 32).filter fun k => rdB s (Reg.NW_HIER_PROXY k) 31 && decide (rdF s (Reg.NW_HIER_PROXY k) 11 0 = a)

/-- The frame a manager re-sends for a PROXY_DATA on Nm (R376). -/
def proxyFrame (s : State) (k m : Nat) (data : List Byte) : CanFrame :=
  { fmt := .ext, fdf := true, brs := rdB s (Reg.NW_CH_CFG m) 26,
    id := sysId 0 (rdF s (Reg.NW_HIER_PROXY k) 11 0) (beAt data 4 2 % 2 ^ 15), data := (data.drop 6).take 12 }

/-- A PROXY_DATA from Nn is re-sent by entry `k` under the original identifier (R376): as class-0 traffic of the bridge, which waits for
the first of buffers 0 to 3 that frees (R381). -/
def proxyServe (n : Nat) (data : List Byte) (k : Nat) (s : State) : State :=
  let now := s.clk.tb0
  let s := { s with net := { s.net with proxies := s.net.proxies.map fun y =>
    if y.1 = k then (k, { y.2 with last := now, count := y.2.count + 1, same := (if y.2.last = now then y.2.same else []) ++ [(n, data)] })
    else y } }
  forEach ((maskBits (rdF s (Reg.NW_HIER_PROXY k) 23 16) 8).filter fun m => decide (m ≠ n))
    (fun m s => c0Enter { frame := proxyFrame s k m data, out := m, arr := n, cls := 0, rx0 := now } s) s

/-- PROXY_DATA received on Nn (R376): every entry that is ACTIVE for its serial re-sends it. -/
def effProxyDataRx (n : Nat) (data : List Byte) (s : State) : State :=
  if !isManager s ∨ !isDown s n ∨ hierErr s then s
  else forEach ((s.net.proxies.filter fun x => decide (x.2.serial % 2 ^ 32 = beAt data 0 4)).map fun x => x.1) (proxyServe n data) s

/-- The frames that a PROXY_DATA of this tick from Nn left on Nm are taken back (Table 14-7: the grant comes first). -/
def proxyTake (n k : Nat) (data : List Byte) (m : Nat) (s : State) : State :=
  let f := proxyFrame s k m data
  match s.net.store.find? fun x => decide (x.out = m ∧ x.arr = n ∧ x.cls = 0 ∧ x.rx0 = s.clk.tb0 ∧ x.frame = f) with
  | some x => storeDrop x s
  | none =>
    match (canOf s m).c0rx.find? fun x => decide (x.2 = s.clk.tb0) && txPending s m x.1 && decide (txFrame s m x.1 = f) with
    | some (b, _) =>
      let c := canOf s m
      let s := canSet s m { c with c0rx := c.c0rx.filter fun x => decide (x.1 ≠ b), reqAt := c.reqAt.filter fun x => decide (x.1 ≠ b) }
      wrB (wrB s (Reg.NW_CH_TXREQ m) b false) (Reg.NW_CH_TXPEND m) b false
    | none => s
/-- The PROXY_DATA of this tick are discarded where a grant of the same tick ends their entry (Table 14-7). -/
def proxyBack (k : Nat) (s : State) : State :=
  match s.net.proxies.find? fun x => decide (x.1 = k) with
  | none => s
  | some (_, x) =>
    if x.last = s.clk.tb0 then
      let s := { s with net := { s.net with proxies := s.net.proxies.map fun y =>
        if y.1 = k then (k, { y.2 with count := y.2.count - x.same.length, same := [] }) else y } }
      forEach x.same (fun d s => forEach ((maskBits (rdF s (Reg.NW_HIER_PROXY k) 23 16) 8).filter fun m => decide (m ≠ d.1))
        (proxyTake d.1 k d.2) s) s
    else s

/-- PROXY_DATA_RX (R376): arrival channel and payload. -/
def execProxyDataRx (n : Nat) (data : List Byte) (s : State) : Host.Outcome State Fault Refusal :=
  guardIx n 8 (run (effProxyDataRx n data) s)

/-- PROXY_TIMEOUT (R377): 10 s of TB0 since the last PROXY_DATA of an entry. -/
def effProxyTimeout (s : State) : State :=
  match s.net.proxies.find? fun x => decide ((s.clk.tb0 - x.2.last).toNat ≥ 10 * secTicks) with
  | none => s
  | some (k, _) => proxyEnd k false s

/-- PROXY_TIMEOUT (R377). -/
def execProxyTimeout (s : State) : Host.Outcome State Fault Refusal := run effProxyTimeout s

/-! ### Joins (R368 to R373) -/

/-- JOIN_START (R368): a device that is not ROOT starts its join once step 11 is past; a clash or a REJOIN starts one at once. -/
def effJoinStart (s : State) : State :=
  if decide (devState s = 2 ∨ devState s = 3 ∨ devState s = 4) && s.net.join.isNone
      && decide (rdF s Reg.NW_HIER_STAT 2 0 = 0 ∨ rdF s Reg.NW_HIER_STAT 2 0 = 3) then startJoin s
  else s

/-- JOIN_START (R368). -/
def execJoinStart (s : State) : Host.Outcome State Fault Refusal := run effJoinStart s

/-- JOIN_RETRY (R370): 100 ms and the back-off have passed with no JOIN_ACK. -/
def effJoinRetry (s : State) : State :=
  match s.net.join with
  | none => s
  | some x =>
    if !reached s.clk.tb0 x.due then s
    else if x.sent then joinSend ((x.j + 1) % 256) (x.k + 1) s
    else joinSend x.j x.k s

/-- JOIN_RETRY (R370). -/
def execJoinRetry (s : State) : Host.Outcome State Fault Refusal := run effJoinRetry s

/-- Is an address bound? -/
def addrBound (s : State) (a : Nat) : Bool := s.net.bindings.any fun x => decide (x.2.addr = a)

/-- The lowest unbound address of the pool (R365, R371). -/
def poolFree (s : State) : Option Nat :=
  let lo := rdF s Reg.NW_HIER_BLOCK 11 0
  ((List.range (rdF s Reg.NW_HIER_POOL 11 0 + 1 - lo)).map (· + lo)).find? fun a => !addrBound s a

/-- Does an address lie in the pool (R365)? -/
def inPool (s : State) (a : Nat) : Bool :=
  decide (rdF s Reg.NW_HIER_BLOCK 11 0 ≤ a ∧ a ≤ rdF s Reg.NW_HIER_POOL 11 0)

/-- The lowest free binding index (R371: 512 bindings). -/
def bindFree (s : State) : Option Nat := (List.range 512).find? fun k => s.net.bindings.all fun x => decide (x.1 ≠ k)

/-- The JOIN_ACK of a request (R371, Table 14-3). -/
def ackFrame (s : State) (n ser addr status : Nat) : CanFrame :=
  ownFrame s n 1 0x7E01
    (beBytes 8 ser ++ beBytes 2 addr ++ beBytes 1 status ++ beBytes 1 (segDepth s) ++ [0, 0, 0, 0])

/-- Send a JOIN_ACK on Nn. -/
def sendAck (n ser addr status : Nat) (s : State) : State :=
  (txQueue s n 4 (devBufHi s n) (ackFrame s n ser addr status) none).getD s

/-- Refuse a join (R371): 2 FULL, 3 POOL, 4 DEPTH. -/
def refuseJoin (n ser status : Nat) (s : State) : State :=
  raiseN 0x0802 7 (n * 0x1000000 + status) (ser % 2 ^ 32) (sendAck n ser 0xFFFF status s)

/-- Grant an address (R371), which ends the proxying of the device (R377). -/
def grantJoin (n ser pref addr : Nat) (s : State) : State :=
  let s := sendAck n ser addr (if addr = pref then 0 else 1) s
  let s := raiseN 0x0803 7 (n * 0x1000000 + addr) (ser % 2 ^ 32) s
  forEach ((s.net.proxies.filter fun x => decide (x.2.serial = ser)).map fun x => x.1) (fun k s => proxyEnd k true (proxyBack k s)) s

/-- JOIN_REQ received on Nn (R371, R376, R383). -/
def effJoinReqRx (n : Nat) (data : List Byte) (s : State) : State :=
  if !isManager s ∨ !isDown s n ∨ hierErr s then s
  else
    let ser := beAt data 0 8
    let pref := beAt data 8 2
    let fl := (byteAt data 10).toNat
    let s := if fl % 2 = 1 then forEach (proxiesOf s (beAt data 12 2)) (proxyOn ser) s else s
    if !maySendOwn s then s
    else
      let here := s.net.bindings.filter fun x => decide (x.2.ch = n)
      if here.length ≥ 62 ∧ (here.all fun x => decide (x.2.serial ≠ ser)) then refuseJoin n ser 2 s
      else if fl / 2 % 2 = 1 ∧ segDepth s ≥ 4 then refuseJoin n ser 4 s
      else
        match s.net.bindings.find? fun x => decide (x.2.serial = ser) with
        | some (k, b) =>
          let s := if b.ch = n then s
            else noteStored { s with net := { s.net with
              bindings := s.net.bindings.map fun y => if y.1 = k then (k, { y.2 with ch := n }) else y } }
          grantJoin n ser pref b.addr s
        | none =>
          match (if inPool s pref && !addrBound s pref then some pref else poolFree s), bindFree s with
          | some a, some k =>
            let s := noteStored { s with net := { s.net with
              bindings := s.net.bindings ++ [(k, { serial := ser, addr := a, ch := n })] } }
            grantJoin n ser pref a s
          | _, _ => refuseJoin n ser 3 s

/-- JOIN_REQ_RX (R371): arrival channel and payload. -/
def execJoinReqRx (n : Nat) (data : List Byte) (s : State) : Host.Outcome State Fault Refusal :=
  guardIx n 8 (run (effJoinReqRx n data) s)

/-- JOIN_ACK received on Nn from `src` (R372): on UP_CH, with the device's own serial, while it joins. -/
def effJoinAckRx (n src : Nat) (data : List Byte) (s : State) : State :=
  if n = upCh s ∧ !isRoot s ∧ s.net.join.isSome ∧ beAt data 0 8 = serial s then
    let addr := beAt data 8 2
    let status := (byteAt data 10).toNat
    let depth := (byteAt data 11).toNat
    if status ≤ 1 then
      let old := rdF s Reg.NW_HIER_ADDR 11 0
      let s := { s with net := { s.net with join := none } }
      let s := noteStored (wrN s Reg.NW_HIER_ADDR (0x80000000 + src * 0x10000 + addr % 4096))
      let s := clearClash s
      let s := wrF (wrF s Reg.NW_HIER_STAT 2 0 2) Reg.NW_HIER_STAT 10 8 depth
      let s := wrF s Reg.NW_SYN_MASTER 11 0 src
      let s := raiseN 0x0801 7 (src * 0x10000 + addr % 4096) (status + depth * 256) s
      if status = 1 then abortOwn old false s else s
    else wrF s Reg.NW_HIER_STAT 2 0 5
  else s

/-- JOIN_ACK_RX (R372): arrival channel, the manager's address and the payload. -/
def execJoinAckRx (n src : Nat) (data : List Byte) (s : State) : Host.Outcome State Fault Refusal :=
  guardIx n 8 (run (effJoinAckRx n src data) s)

/-- REJOIN (R368): REFUSED for ROOT. -/
def opRejoin : WOp := fun s => if isRoot s then (.refused, id) else (.ok, startJoin)

/-- REJOIN (R368): the writing port. -/
def execHierRejoin (p : PortId) (s : State) : Host.Outcome State Fault Refusal := run (ownerWrite p Reg.NW_HIER_CTRL opRejoin) s

/-- FREE (R371): removes the binding NW_HIER_BIND_IDX selects; REFUSED while its address is in an ACTIVE proxy entry. -/
def opFree : WOp := fun s =>
  let k := rdF s Reg.NW_HIER_BIND_IDX 8 0
  match s.net.bindings.find? fun x => decide (x.1 = k) with
  | none => (.ok, id)
  | some (_, b) =>
    if s.net.proxies.any fun x => decide (rdF s (Reg.NW_HIER_PROXY x.1) 11 0 = b.addr) then (.refused, id)
    else (.ok, fun s => noteStored { s with net := { s.net with bindings := s.net.bindings.filter fun x => decide (x.1 ≠ k) } })

/-- FREE (R371): the writing port. -/
def execHierFree (p : PortId) (s : State) : Host.Outcome State Fault Refusal := run (ownerWrite p Reg.NW_HIER_CTRL opFree) s

/-- A write of NW_HIER_ADDR (R373): a stored word, and the write clears CLASH. -/
def effHierAddrWrite (w : Word) (s : State) : State :=
  let s := noteStored (wr s Reg.NW_HIER_ADDR (w &&& 0x8FFF0FFF))
  if inClash s then
    let st := if hierErr s then 6 else if isRoot s then 4 else if s.net.join.isSome then 1 else 0
    wrF (clearClash s) Reg.NW_HIER_STAT 2 0 st
  else s

/-- The owner's write of NW_HIER_ADDR (R373). -/
def opHierAddrWrite (w : Word) : WOp := wOk (effHierAddrWrite w)

/-- HIER_ADDR_WRITE (R373): the writing port and the word. -/
def execHierAddrWrite (p : PortId) (w : Word) (s : State) : Host.Outcome State Fault Refusal :=
  run (ownerWrite p Reg.NW_HIER_ADDR (opHierAddrWrite w)) s

/-! ### Census (R374, R375) -/

/-- 25 s in ticks (R375). -/
def censusLife : Nat := 25 * secTicks

/-- The sums of a branch (R375): ACTIVE and DEVICES, saturating. -/
def branchSum (s : State) (n : Nat) : Nat × Nat :=
  let l := s.net.census.filter fun x => decide (x.ch = n ∧ (s.clk.tb0 - x.at0).toNat < censusLife)
  (min 0xFFFF (l.foldl (fun a x => a + x.active) 0), min 0xFFFF (l.foldl (fun a x => a + x.devices) 0))

/-- NW_BRG_ACTIVE of Nn follows its sums. -/
def showBranch (n : Nat) (s : State) : State :=
  let (a, d) := branchSum s n
  wrN s (Reg.NW_BRG_ACTIVE n) (d * 0x10000 + a)

/-- Is this device an active source (R375)? -/
def selfActive (s : State) : Bool :=
  (List.range 8).any fun n =>
    match (canOf s n).lastOwn with
    | none => false
    | some t => decide ((s.clk.tb0 - t).toNat ≤ 10 * secTicks)

/-- CENSUS_SEND (R374): at the TB1 instants k · 10 s + ADDR · 2 ms. -/
def effCensusSend (s : State) : State :=
  let a := (ownAddr s).getD 0
  if maySendOwn s && !isRoot s && !hierErr s && chanOn s (upCh s)
      && decide (s.clk.tb1.toNat % (10 * secTicks) = a * 200000) then
    let downs := (List.range 8).filter fun n => isDown s n
    let act := min 0xFFFF (downs.foldl (fun k n => k + rdF s (Reg.NW_BRG_ACTIVE n) 15 0) (b2n (selfActive s)))
    let dev := min 0xFFFF (downs.foldl (fun k n => k + rdF s (Reg.NW_BRG_ACTIVE n) 31 16) 1)
    let fl := b2n (decide (devState s = 4)) + b2n (decide (devState s = 2)) * 2 + b2n (decide (logState s = 2)) * 4
    let data := beBytes 2 act ++ beBytes 2 dev ++ beBytes 1 (rdF s Reg.NW_HIER_STAT 10 8) ++ beBytes 1 fl
      ++ beBytes 1 s.net.censusSeq ++ [0]
    let s := { s with net := { s.net with censusSeq := (s.net.censusSeq + 1) % 256 } }
    let s := wrN s Reg.NW_HIER_CENSUS (dev * 0x10000 + act)
    (txQueue s (upCh s) 4 (devBufHi s (upCh s)) (ownFrame s (upCh s) 2 0x7E02 data) none).getD s
  else s

/-- CENSUS_SEND (R374). -/
def execCensusSend (s : State) : Host.Outcome State Fault Refusal := run effCensusSend s

/-- CENSUS received on Nn from `src` (R375). -/
def effCensusRx (n src : Nat) (data : List Byte) (s : State) : State :=
  if !isDown s n ∨ hierErr s then s
  else
    let rest := s.net.census.filter fun x => decide (¬ (x.src = src ∧ x.ch = n))
    let x : CensusSrc := { src := src, ch := n, active := beAt data 0 2, devices := beAt data 2 2, at0 := s.clk.tb0 }
    showBranch n { s with net := { s.net with census := rest ++ [x] } }

/-- CENSUS_RX (R375): arrival channel, source address, payload. -/
def execCensusRx (n src : Nat) (data : List Byte) (s : State) : Host.Outcome State Fault Refusal :=
  guardIx n 8 (run (effCensusRx n src data) s)

/-- CENSUS_LOST (R375): the first source silent for 25 s leaves its branch's sum. -/
def effCensusLost (s : State) : State :=
  match s.net.census.find? fun x => decide ((s.clk.tb0 - x.at0).toNat ≥ censusLife) with
  | none => s
  | some x =>
    let s := showBranch x.ch { s with net := { s.net with census := s.net.census.erase x } }
    raiseN 0x0807 7 (x.src * 0x10000 + x.ch) x.active s

/-- CENSUS_LOST (R375). -/
def execCensusLost (s : State) : Host.Outcome State Fault Refusal := run effCensusLost s

/-! ### Frames for the hierarchy engine (R366, R367) -/

/-- Take a frame of the hierarchy engine, when it is one: none when the frame is for the routes. -/
def hierTake (n : Nat) (f : CanFrame) (s : State) : Option State :=
  match f.fmt with
  | .base =>
    if 0x200 ≤ f.id ∧ f.id ≤ 0x2FF then some (effJoinReqRx n f.data s)
    else if 0x100 ≤ f.id ∧ f.id ≤ 0x1FF then some (effProxyDataRx n f.data s)
    else none
  | .ext =>
    let obj := keyObj f.id
    if obj = 0x7E01 then some (effJoinAckRx n (keySrc f.id) f.data s)
    else if obj = 0x7E02 then some (effCensusRx n (keySrc f.id) f.data s)
    else none
  | .xl => none

end Sys2Proof.Machine
end

