-- ==== Sys2Proof/Machine/Safe.lean ====
section
/-!
DEFINITION. SAFE: its causes, entry and exit (R93 to R97), what a change of TB1 does to the instants under way (R101, R107, R108), and
the resets every restart shares.
-/
namespace Sys2Proof.Machine

/-! ### Sequences halted (R275) -/

/-- A sequence before anything happened on it. -/
def seqInit (_ : Nat) : SeqSt :=
  { entered := false, initDue := false, at1 := none, pick := none, want := [], counts := [], stale := [], episodes := [], lat := [], since := 0,
    frozen := none, secBase := 0, resumed := false, rterm := none, askSafe := false, askHib := false }
/-- Sequence `n` (0 to 7). -/
def seqOf (s : State) (n : Nat) : SeqSt := tget seqInit s.seq n
/-- Replace sequence `n`. -/
def seqSet (s : State) (n : Nat) (v : SeqSt) : State := { s with seq := tput seqInit s.seq n v }
/-- RSTATE (SV_SEQ_STAT): 0 STOPPED, 1 RUNNING, 2 HALTED, 3 CFG_ERR. -/
def seqR (s : State) (n : Nat) : Nat := rdF s (Reg.SV_SEQ_STAT n) 31 30
/-- Set RSTATE. -/
def seqRPut (n r : Nat) (s : State) : State := wrF s (Reg.SV_SEQ_STAT n) 31 30 r
/-- Word `w` of directory entry `n` (Table 10-2). -/
def seqDir (s : State) (n w : Nat) : Word := rd s (0x800000 + 16 * n + 4 * w)
/-- TICK_MS of a sequence. -/
def seqTick (s : State) (n : Nat) : Nat := bits (seqDir s n 1) 31 16
/-- PHASE_MS of a sequence. -/
def seqPhase (s : State) (n : Nat) : Nat := bits (seqDir s n 2) 31 16
/-- Is this an evaluation instant of sequence `n` (R267)? -/
def atEval (s : State) (n : Nat) : Bool := onGrid s (seqTick s n * 1000) (seqPhase s n * 1000)
/-- Is this a transition instant of sequence `n`: 5 ms after an evaluation instant (R267)? -/
def atTrans (s : State) (n : Nat) : Bool := onGrid s (seqTick s n * 1000) (seqPhase s n * 1000 + 5000)
/-- The state timer in TB0 ticks (R275). -/
def seqTimer (s : State) (n : Nat) : Nat :=
  match (seqOf s n).frozen with
  | some t => t
  | none => (s.clk.tb0 - (seqOf s n).since).toNat

/-- A sequence halts with the device's entry into SAFE (R275): what falls after this instant is discarded, but for INIT at the start
(R273); the timer freezes. -/
def seqHalt (n : Nat) (s : State) : State :=
  let v := seqOf s n
  let now := atTrans s n
  let v := { v with want := if now then v.want.filter fun w => decide (w.us ≠ tb3us s) else [], pick := if now then v.pick else none, resumed := false }
  if seqR s n = 1 then seqRPut n 2 (seqSet s n { v with frozen := some (seqTimer s n) }) else seqSet s n v

/-- A resume reaches a sequence (R275): a halted one acts at its next evaluation; no resume term is left. -/
def seqResume (n : Nat) (s : State) : State :=
  let v := { seqOf s n with rterm := none }
  if seqR s n = 2 then seqSet s n { v with resumed := true, pick := none } else seqSet s n v

/-! ### Causes (R94, R95, Table 03-15) -/

/-- The causes present. -/
def causes (s : State) : Nat := rdF s Reg.SV_BOOT_SAFE_CAUSE 8 0
/-- The causes a resume clears: OWNER, SEQUENCE, START_HOLD. -/
def resumable : Nat := 0xB0

/-- SAFE is entered (R94): every channel to its safe value, every sequence halted. -/
def safeEnter (s : State) : State :=
  let s := { s with boot := { s.boot with safeAt := s.clk.tb0, safeFrom := devState s, seen := causes s } }
  let s := wrF s Reg.SV_BOOT_STAT 2 0 4
  driveJudge (forEach (List.range 8) seqHalt s)

/-- A resume that is refused (R96): outside SAFE, w6 is 0. -/
def resumeRefused (port : Nat) (s : State) : State := raiseN 0x000A 0 (if devState s = 4 then causes s else 0) port s

/-- The resume of this TB0 tick, taken before a cause of the same tick: the cause goes first (R97). -/
def exitNow (s : State) : Option ExitMark :=
  match s.boot.exit with
  | some x => if x.at0 = s.clk.tb0 ∧ (devState s = 2 ∨ devState s = 3) then some x else none
  | none => none
/-- SAFE as it stood before the resume of this tick (R97): its SAFE_EXIT is not logged, the causes it cleared are present. -/
def exitUndo (x : ExitMark) (s : State) : State :=
  let gone := fun (e : Ev) => decide (e.tick = x.at0 ∧ e.code = 0x0004)
  let s := { s with
    log := { s.log with raised := s.log.raised.filter fun e => !gone e }
    seq := x.seq
    boot := { s.boot with safeAt := x.safeAt, safeFrom := x.safeFrom, seen := x.seen, clearAt := x.clearAt, exit := none } }
  driveJudge (wrF (wrF s Reg.SV_BOOT_SAFE_CAUSE 8 0 (causes s ||| x.causes)) Reg.SV_BOOT_STAT 2 0 4)
/-- The resume is judged after the cause (R97): refused, and an owner's write answered so. -/
def exitRefused (x : ExitMark) (s : State) : State :=
  match x.port with
  | none => s
  | some p =>
    let s := match s.port.resp with
      | some r => if r.port = p ∧ r.status = .ok then { s with port := { s.port with resp := some { r with status := .refused } } } else s
      | none => s
    logViol p 2 .refused Reg.SV_BOOT_CTRL (resumeRefused (portCode p) s)

/-- A cause becomes present (R94, R95): `m` is its bit's mask. During BOOT it waits for step 11. -/
def causeAdd (m : Nat) (s : State) : State :=
  let c := causes s
  if c &&& m = m then s
  else
    let s := wrF s Reg.SV_BOOT_SAFE_CAUSE 8 0 (c ||| m)
    let s := hwMark Reg.SV_BOOT_SAFE_HIST m (wrF s Reg.SV_BOOT_SAFE_HIST 8 0 (rdF s Reg.SV_BOOT_SAFE_HIST 8 0 ||| m))
    let st := devState s
    if st = 2 ∨ st = 3 then raiseN 0x0003 0 m st (safeEnter s)
    else if st = 4 then raiseN 0x0003 0 m 4 { s with boot := { s.boot with seen := s.boot.seen ||| m } }
    else s

/-- A cause becomes present (R94, R95, R97): a resume of the same TB0 tick that it forbids has not left SAFE; one that clears it has. -/
def causeSet (m : Nat) (s : State) : State :=
  match exitNow s with
  | none => causeAdd m s
  | some x =>
    if m &&& resumable = m then
      let gone := fun (e : Ev) => decide (¬(e.tick = x.at0 ∧ e.code = 0x0004))
      let late := s.log.raised.dropWhile gone
      let s := hwMark Reg.SV_BOOT_SAFE_HIST m (wrF s Reg.SV_BOOT_SAFE_HIST 8 0 (rdF s Reg.SV_BOOT_SAFE_HIST 8 0 ||| m))
      { s with log := { s.log with raised := s.log.raised.takeWhile gone ++ evNow s 0x0003 0 (w32 m) 4 :: late } }
    else exitRefused x (causeAdd m (exitUndo x s))

/-- A cause ends: the delay of R96 runs from the instant at which the last one has. -/
def causeClear (m : Nat) (s : State) : State :=
  let c := causes s
  if c &&& m = 0 then s
  else { wrF s Reg.SV_BOOT_SAFE_CAUSE 8 0 (c &&& (0x1FF - m)) with boot := { s.boot with clearAt := s.clk.tb0 } }

/-- SAFE is left (R93, R96): to TRIAL when SV_BOOT_STAT.TRIAL is 1, to RUN otherwise; `port` wrote the resume, where one did. -/
def safeExit (who : Nat) (port : Option PortId) (s : State) : State :=
  let x : ExitMark := { at0 := s.clk.tb0, port := port, causes := causes s &&& resumable, safeAt := s.boot.safeAt,
                        safeFrom := s.boot.safeFrom, seen := s.boot.seen, clearAt := s.boot.clearAt, seq := s.seq }
  let s := causeClear resumable { s with boot := { s.boot with exit := some x } }
  let s := raiseN 0x0004 0 who (min 0xFFFFFFFF ((s.clk.tb0 - s.boot.safeAt).toNat / secTicks)) s
  let s := wrF s Reg.SV_BOOT_STAT 2 0 (if rdB s Reg.SV_BOOT_STAT 10 then 2 else 3)
  driveJudge (forEach (List.range 8) seqResume s)

/-- May a resume leave SAFE: no cause that a resume cannot clear (R96)? -/
def mayResume (s : State) : Bool := decide (devState s = 4 ∧ causes s &&& (0x1FF - resumable) = 0)

/-- The owner write of SV_BOOT_CTRL.SAFE_REQ (R94). -/
def opSafeReq : WOp := wOk (causeSet 0x10)

/-- SAFE_REQ (R94): the writing port. -/
def execSafeReq (p : PortId) (s : State) : Host.Outcome State Fault Refusal := run (ownerWrite p Reg.SV_BOOT_CTRL opSafeReq) s

/-- The owner write of SV_BOOT_CTRL.RESUME (R96). -/
def opResume (p : PortId) : WOp := fun s =>
  if mayResume s then (.ok, safeExit (portCode p) (some p)) else (.refused, resumeRefused (portCode p))

/-- RESUME (R96): the writing port. -/
def execResume (p : PortId) (s : State) : Host.Outcome State Fault Refusal := run (ownerWrite p Reg.SV_BOOT_CTRL (opResume p)) s

/-- RESUME_DELAY in seconds (SV_BOOT_RESUME_CFG: larger values act as 600). -/
def resumeDelay (s : State) : Nat := min 600 (rdF s Reg.SV_BOOT_RESUME_CFG 9 0)

/-- AUTO_RESUME (R96). -/
def effAutoResume (s : State) : State :=
  let mask := rdF s Reg.SV_BOOT_RESUME_CFG 24 16 &&& 0x103
  if devState s = 4 ∧ resumeDelay s ≠ 0 ∧ causes s = 0 ∧ s.boot.seen &&& (0x1FF - mask) = 0
      ∧ resumeDelay s * secTicks ≤ (s.clk.tb0 - s.boot.clearAt).toNat then safeExit 0 none s
  else s

/-- AUTO_RESUME (R96). -/
def execAutoResume (s : State) : Host.Outcome State Fault Refusal := run effAutoResume s

/-! ### A change of TB1 takes effect (R101, R107, R108) -/

/-- The sample of pulse input `x` taken at most 50 µs ago, whose result a hard step moves (R126). -/
def plsPending (s : State) (x : Nat) : Option Conv :=
  let T := rdN s (Reg.LP_PLS_PERIOD x)
  let r := (tb3us s + T - rdN s (Reg.LP_PLS_PHASE x) % max T 1) % max T 1
  let S := tb3Tick s - BitVec.ofNat 64 (r * 100)
  if plsOn s x && (plsOf s x).moved.isNone && decide (r < 50) && inDue s (80 + x) S then
    some { at1 := S, at0 := s.clk.tb0 - BitVec.ofNat 64 (tb1To0 s (s.clk.tb1 - S).toNat) }
  else none
/-- The results of pulse inputs on their way are kept before a hard step. -/
def plsHold (s : State) : State :=
  forEach (List.range 32) (fun x s =>
    match plsPending s x with | some c => plsSet s x { plsOf s x with moved := some c } | none => s) s

/-- The instants under way keep their local places: each moves with TB1. -/
def shiftTb1 (d : Tick) (s : State) : State :=
  let cv := fun (c : Conv) => ({ c with at1 := c.at1 + d } : Conv)
  { s with
    loops := s.loops.map fun x => (x.1, { x.2 with
      per := x.2.per.map fun p => { p with latch := p.latch + d, commit := p.commit + d }, endAt := x.2.endAt + d })
    trk := s.trk.map fun x => (x.1, { x.2 with
      upd := x.2.upd.map fun u => { u with at1 := u.at1 + d, commit := u.commit + d }, endAt := x.2.endAt + d })
    sense := { s.sense with
      ends := s.sense.ends.map fun x => (x.1, x.2 + d)
      pls := s.sense.pls.map fun x => (x.1, { x.2 with moved := x.2.moved.map cv })
      ain := s.sense.ain.map fun x => (x.1, cv x.2)
      prb := s.sense.prb.map fun x => (x.1, { x.2 with conv := x.2.conv.map cv }) }
    str := s.str.map fun x => (x.1, { x.2 with
      scan := x.2.scan.map fun c => { c with at1 := c.at1 + d }
      next := x.2.next.map cv })
    sig := { s.sig with
      exports := s.sig.exports.map fun x => { x with at1 := x.at1 + d }
      sys := s.sig.sys.map fun x => { x with at1 := x.at1 + d } }
    drv := { s.drv with
      acts := s.drv.acts.map fun x => { x with at1 := x.at1 + d }
      mot := s.drv.mot.map fun x => (x.1, { x.2 with aux := x.2.aux.map fun a => (a.1 + d, a.2) }) }
    seq := s.seq.map fun x => (x.1, { x.2 with at1 := x.2.at1.map fun t => t + d }) }

/-- One change of TB1 (R101, R107). TB1_STEP shows whole microseconds, rounded to nearest, ties away from zero (R124 names no rounding:
DESIGN CHOICE, log entry 19). -/
def applyChange (c : TimeChange) (s : State) : State :=
  let s := match c.rate with
    | some r => { s with clk := { s.clk with rate := clampRate r } }
    | none => s
  match c.step with
  | none => s
  | some d =>
    let old := s.clk.tb1.toNat % 2 ^ 32
    let s := keepClk (shiftTb1 (BitVec.ofInt 64 d)) { plsHold s with clk := { s.clk with tb1 := s.clk.tb1 + BitVec.ofInt 64 d, slewAt := s.clk.slewAt + BitVec.ofInt 64 d } }
    let s := if d < 0 then forEach (List.range 8) (fun n s => launchBack n old (s.clk.tb1.toNat % 2 ^ 32) s) s else s
    let us := max (-2147483648) (min 2147483647 (roundAway d 100))
    raise 0x0101 0 (i32 us) (w32 c.src) (count16 Reg.SV_TIME_STEP_CNT s)

/-- TIME_CHANGE_APPLY (R101): every change whose tick has come takes effect, oldest first. -/
def effTimeChangeApply (s : State) : State :=
  let due := s.time.changes.filter fun c => reached s.clk.tb0 c.at0
  forEach due applyChange { s with time := { s.time with changes := s.time.changes.filter fun c => !reached s.clk.tb0 c.at0 } }

/-- TIME_CHANGE_APPLY (R101). -/
def execTimeChangeApply (s : State) : Host.Outcome State Fault Refusal := runClk effTimeChangeApply s

end Sys2Proof.Machine
end

