-- ==== Sys2Proof/Machine/Settings.lean ====
section
/-!
DEFINITION. What the NOR holds beside the log: the boot header (R72 to R75) and the settings journal (R453 to R458).
-/
namespace Sys2Proof.Machine

/-! ### CRC-32 (Table 03-3) -/

/-- One bit of CRC-32: reflected, polynomial 0x04C1_1DB7. -/
def crcBit (c : Word) : Word := if c.getLsbD 0 then (c >>> 1) ^^^ 0xEDB88320 else c >>> 1
/-- One byte of CRC-32. -/
def crcByte (c : Word) (b : Byte) : Word :=
  let x := c ^^^ b.setWidth 32
  crcBit (crcBit (crcBit (crcBit (crcBit (crcBit (crcBit (crcBit x)))))))
/-- `f n`, by a match that has the kernel evaluate `n` first; `forced_eq` says so. -/
def forced {α : Type} (n : Nat) (f : Nat → α) : α :=
  match n with
  | 0 => f 0
  | k + 1 => f (k + 1)
/-- The register of a CRC-32 after further bytes. -/
def crcFold : List Byte → Nat → Nat
  | [], c => c
  | b :: r, c => forced (crcByte (w32 c) b).toNat (crcFold r)
/-- CRC-32 of a byte string: initial value and final XOR 0xFFFF_FFFF. -/
def crc32 (l : List Byte) : Word := w32 (crcFold l 0xFFFFFFFF) ^^^ 0xFFFFFFFF

/-- `n` bytes of a string from `i` as a number, least significant byte first (R7). -/
def leAt (l : List Byte) (i n : Nat) : Nat := ofBe ((l.drop i).take n).reverse
/-- `n` bytes of a number, least significant byte first. -/
def leOf (n v : Nat) : List Byte := (beBytes n v).reverse
/-- The string with `p` in place of its bytes from `i`. -/
def patch (i : Nat) (p l : List Byte) : List Byte := l.take i ++ p ++ l.drop (i + p.length)

/-! ### The boot header (R72 to R75) -/

/-- The record of header region `r` (R70). -/
def hdrRead (s : State) (r : Nat) : List Byte := norBytes s (r * 0x10000) 256
/-- Is a header record valid (R74)? -/
def hdrValid (h : List Byte) : Bool :=
  decide (leAt h 0 4 = 0x48445841 ∧ leAt h 4 2 = 1 ∧ leAt h 6 2 = 0x100 ∧ w32 (leAt h 0xFC 4) = crc32 (h.take 0xFC))
/-- The region in use (R74): the valid one of later GENERATION; region 0 where that does not decide. -/
def hdrUse (s : State) : Option Nat :=
  match hdrValid (hdrRead s 0), hdrValid (hdrRead s 1) with
  | true, true => if laterN 32 (leAt (hdrRead s 1) 8 4) (leAt (hdrRead s 0) 8 4) then some 1 else some 0
  | true, false => some 0
  | false, true => some 1
  | false, false => none
/-- A record for a NOR that holds none: every slot EMPTY. -/
def hdrBlank (s : State) : List Byte :=
  leOf 4 0x48445841 ++ leOf 2 1 ++ leOf 2 0x100 ++ leOf 4 0 ++ leOf 1 0 ++ leOf 1 s.boot.sector ++ List.replicate 242 0
/-- The record in use. -/
def hdrCur (s : State) : List Byte := match hdrUse s with | some r => hdrRead s r | none => hdrBlank s
/-- ACTIVE_SLOT. -/
def hdrActive (s : State) : Nat := (byteAt (hdrCur s) 0x0C).toNat
/-- The state of slot `k` (Table 03-4). -/
def slotSt (s : State) (k : Nat) : Nat := (byteAt (hdrCur s) (0x10 + k)).toNat
/-- A header write (R75): the record as `f` changes it, with GENERATION + 1, into the region not in use. -/
def hdrWrite (f : List Byte → List Byte) (s : State) : State :=
  let r := match hdrUse s with | some r => 1 - r | none => 0
  let g := (leAt (hdrCur s) 8 4 + 1) % 2 ^ 32
  let h := patch 8 (leOf 4 g) (f (hdrCur s))
  let h := patch 0xFC (leOf 4 (crc32 (h.take 0xFC)).toNat) h
  let s := noteErase r 0 (norErase s (r * 0x10000) (r * 0x10000 + 0x10000))
  let s := norPutBytes s (r * 0x10000) h
  wrN { s with boot := { s.boot with hdrDone := true } } Reg.SV_BOOT_HDR_GEN g
/-- A header write of the start (R74, R75, R78): one that fails leaves the region not in use erased, and counts. -/
def hdrWriteStart (f : List Byte → List Byte) (s : State) : State :=
  if s.boot.pins.hdrFail then
    let r := match hdrUse s with | some r => 1 - r | none => 0
    count31 Reg.SV_NVM_ERR_CNT (noteErase r 0 (norErase s (r * 0x10000) (r * 0x10000 + 0x10000)))
  else hdrWrite f s
/-- The record with slot `k` in state `v`. -/
def hdrState (k v : Nat) (h : List Byte) : List Byte := patch (0x10 + k) (leOf 1 v) h
/-- The record naming slot `k` as ACTIVE_SLOT. -/
def hdrName (k : Nat) (h : List Byte) : List Byte := patch 0x0C (leOf 1 k) h
/-- NOR base of slot `k` (Table 03-2). -/
def slotBase (k : Nat) : Nat := if k = 0 then 0x00100000 else 0x00D00000

/-! ### The journal (R453, R454) -/

/-- NOR base of journal `j`. -/
def jBase (j : Nat) : Nat := 0x01900000 + j * 0x100000
/-- The header of journal `j`. -/
def jHdr (s : State) (j : Nat) : List Byte := norBytes s (jBase j) 0x29
/-- Is journal `j` valid (R453)? -/
def jValid (s : State) (j : Nat) : Bool :=
  let h := jHdr s j
  decide (leAt h 0 4 = 0x4A535841 ∧ leAt h 6 2 = 0x100 ∧ w32 (leAt h 0x1C 4) = crc32 (h.take 0x1C))
/-- SETTINGS_VER of journal `j`. -/
def jVer (s : State) (j : Nat) : Nat := leAt (jHdr s j) 4 2
/-- GEN of journal `j`. -/
def jGen (s : State) (j : Nat) : Nat := leAt (jHdr s j) 8 4
/-- Is journal `j` a shadow (R457)? -/
def jShadow (s : State) (j : Nat) : Bool :=
  jValid s j && decide (leAt (jHdr s j) 0xC 4 % 2 = 1) && decide (byteAt (jHdr s j) 0x28 = 0xFF)
/-- The image that wrote journal `j`. -/
def jImage (s : State) (j : Nat) : Nat := leAt (jHdr s j) 0x10 8
/-- The start marks of journal `j` used (R452). -/
def jMarks (s : State) (j : Nat) : Nat := (List.range 8).countP fun i => decide (byteAt (jHdr s j) (0x20 + i) = 0)

/-- The numbers of the slots of journal `j` that are not erased, ascending. -/
def jUsed (s : State) (j : Nat) : List Nat :=
  let l := (s.nor.filter fun c => decide (jBase j + 0x100 ≤ c.1 ∧ c.1 < jBase j + 0x100000)).map fun c => (c.1 - jBase j - 0x100) / 16
  l.foldr (fun x r => if r.head? = some x then r else x :: r) []
/-- The slots of journal `j` in use up to its last. -/
def jFill (s : State) (j : Nat) : Nat := match (jUsed s j).getLast? with | some k => k + 1 | none => 0
/-- Address of entry `i` of journal `j`. -/
def jEntry (j i : Nat) : Nat := jBase j + 0x100 + 16 * i
/-- The entry of 16 bytes, if its CRC is right (R454): address, value, ESEQ. -/
def entryOf16 (b : List Byte) : Option (Nat × Word × Nat) :=
  if w32 (leAt b 12 4) = crc32 (b.take 12) then some (leAt b 0 4, w32 (leAt b 4 4), leAt b 8 4) else none
/-- The valid entries of journal `j` (R454): address, value, ESEQ. -/
def jEntries (s : State) (j : Nat) : List (Nat × Word × Nat) :=
  (jUsed s j).filterMap fun i => entryOf16 (norBytes s (jEntry j i) 16)
/-- The value of each address (R454): that of the entry with the latest ESEQ. -/
def lastValues (es : List (Nat × Word × Nat)) : List (Nat × Word) :=
  let l := es.foldl (fun (acc : List (Nat × Word × Nat)) e =>
    match acc.find? fun x => decide (x.1 = e.1) with
    | none => acc ++ [e]
    | some x => if laterN 32 e.2.2 x.2.2 then acc.map fun y => if y.1 = e.1 then e else y else acc) []
  l.map fun x => (x.1, x.2.1)
/-- The values journal `j` holds. -/
def jValues (s : State) (j : Nat) : List (Nat × Word) := lastValues (jEntries s j)
/-- The next ESEQ of journal `j`. -/
def jNext (s : State) (j : Nat) : Nat := match (jEntries s j).getLast? with | some e => (e.2.2 + 1) % 2 ^ 32 | none => 0

/-- Program one entry at slot `i` of journal `j`. -/
def jProgram (j i eseq addr : Nat) (v : Word) (s : State) : State :=
  let b := leOf 4 addr ++ leOf 4 v.toNat ++ leOf 4 eseq
  norPutBytes s (jEntry j i) (b ++ leOf 4 (crc32 b).toNat)

/-- Write a journal header (R453, Table 17-8). -/
def jHeader (j ver gen : Nat) (trial : Bool) (img : Nat) (s : State) : State :=
  let b := leOf 4 0x4A535841 ++ leOf 2 ver ++ leOf 2 0x100 ++ leOf 4 gen ++ leOf 4 (b2n trial) ++ leOf 8 img ++ leOf 4 0
  norPutBytes s (jBase j) (b ++ leOf 4 (crc32 b).toNat)

/-- Erase a journal. -/
def jErase (j : Nat) (s : State) : State :=
  let s := { s with upd := { s.upd with binds := s.upd.binds.filter fun x => decide (x.1 ≠ j) } }
  (List.range 16).foldl (fun s k => noteErase (4 + j) k s) (norErase s (jBase j) (jBase j + 0x100000))
/-- The bindings stored with journal `j` (R371). -/
def jBinds (s : State) (j : Nat) : List (Nat × Binding) := ((s.upd.binds.find? fun x => decide (x.1 = j)).map fun x => x.2).getD []
/-- Bindings are stored with journal `j` (R371, R455). -/
def jBindStore (j : Nat) (l : List (Nat × Binding)) (s : State) : State :=
  { s with upd := { s.upd with binds := s.upd.binds.filter (fun x => decide (x.1 ≠ j)) ++ (if l.isEmpty then [] else [(j, l)]) } }
/-- The bindings of journal `j` are restored (R371, R454). -/
def jBindLoad (j : Nat) (s : State) : State := { s with net := { s.net with bindings := jBinds s j } }

/-! ### Stored words (R16, R40, R454) -/

/-- The RWS bits of the word at an address: those of its register table, all of SV_OWN_TKO_SET (the
stored takeover code), or all of w0 of a HOST_PARAM entry with STORED 1. SV_THM_NOR_ERASE.OVF, of class SET but W1C, is not among them:
whether the journal stores it is not said (DESIGN CHOICE, log entry 78). -/
def rwsMask (s : State) (a : Nat) : Word :=
  let d := dieOf a
  let o := a % winSize
  let base := if d = 0 then 0xA0000 else 0xB00000
  if (d = 0 ∨ (1 ≤ d ∧ d ≤ 4)) ∧ base ≤ o ∧ o < base + 16 * sigCount d ∧ o % 16 = 0 then
    let e := (o - base) / 16
    if sigKind s d e = 7 ∧ rdB s (a + 12) 27 then 0xFFFFFFFF else 0
  else if a = Reg.SV_OWN_TKO_SET then 0xFFFFFFFF
  else match findRow a with | some r => w32 r.rws | none => 0

/-- The addresses of stored words that may differ from what they read without a journal. -/
def storedAddrs (s : State) : List Nat :=
  let rs := (s.regs.map fun x => x.1).filter fun a => decide (rwsMask s a ≠ 0)
  let ms := (s.mem.filter fun c => c.1 % 16 = 15).map fun c => c.1 / 16 * 16
  rs ++ ms.filter fun a => decide (rwsMask s a ≠ 0)

/-- Restore one value (R454: only the RWS fields). -/
def restoreWord (x : Nat × Word) (s : State) : State :=
  let m := rwsMask s x.1
  if m = 0 then s else wr s x.1 ((rd s x.1 &&& ~~~m) ||| (x.2 &&& m))

/-! ### Commits (R455, R456) -/

/-- The current journal (SV_UPD_STAT.JRNL). -/
def jCur (s : State) : Nat := rdF s Reg.SV_UPD_STAT 10 10
/-- Is there a current journal? A shadow is one only while it holds the trial's settings (R457). -/
def jHas (s : State) : Bool := jValid s (jCur s) && (!jShadow s (jCur s) || rdB s Reg.SV_UPD_STAT 9)
/-- SV_UPD_JRNL and SV_UPD_JGEN show journal `j`. -/
def jShow (j : Nat) (s : State) : State :=
  let s := wrF s Reg.SV_UPD_STAT 10 10 j
  let s := wrN s Reg.SV_UPD_JRNL (jVer s j * 0x10000 + (65520 - jFill s j))
  wrN s Reg.SV_UPD_JGEN (jGen s j)

/-- Every address that may hold a stored word: those of the last commit and those of `storedAddrs`. -/
def storedAll (s : State) : List Nat :=
  let l := s.upd.base.map fun x => x.1
  l ++ (storedAddrs s).filter fun a => !l.contains a
/-- A stored word as the last commit, or step 9 of the start, left it. -/
def baseWord (s : State) (a : Nat) : Word :=
  match s.upd.base.find? fun x => decide (x.1 = a) with
  | some x => x.2
  | none => if usesMem a then 0 else resetWord a &&& rwsMask s a
/-- Is the word at an address in force, and not only held for a slot that is not loaded (R69)? -/
def inForce (s : State) (a : Nat) : Bool := s.boot.loaded || decide (a < winSize)
/-- The stored words changed since the last commit (R455), with their values. -/
def changedWords (s : State) : List (Nat × Word) :=
  (storedAll s).filterMap fun a =>
    let m := rwsMask s a
    let v := rd s a &&& m
    if inForce s a ∧ m ≠ 0 ∧ v ≠ baseWord s a then some (a, v) else none
/-- Every stored word with its value. -/
def storedVals (s : State) : List (Nat × Word) :=
  (storedAll s).filterMap fun a =>
    if !inForce s a then some (a, baseWord s a)
    else
      let m := rwsMask s a
      if m = 0 then none else some (a, rd s a &&& m)
/-- The stored words as they are become the base of the next commit. -/
def rebase (s : State) : State := { s with upd := { s.upd with base := storedVals s } }

/-- Append entries to journal `j` from slot `i`, the last ESEQ rising. -/
def jAppend (j : Nat) : Nat → Nat → List (Nat × Word) → State → State
  | _, _, [], s => s
  | i, e, x :: r, s => jAppend j (i + 1) ((e + 1) % 2 ^ 32) r (jProgram j i e x.1 x.2 s)

/-- A failed commit (R455, R456). -/
def commitFail (addr kind : Nat) (timeout : Bool) (s : State) : State :=
  raiseN 0x0B08 0 addr (kind + b2n timeout * 256) (count31 Reg.SV_UPD_CFAIL_CNT s)

/-- SETTINGS_VER of the loaded image (SV_BOOT_IMG_INFO). -/
def imgSettings (s : State) : Nat := rdF s Reg.SV_BOOT_IMG_INFO 31 16
/-- IMAGE_ID of the loaded image. -/
def imgId (s : State) : Nat := rdN s Reg.SV_BOOT_IMG_ID_HI * 2 ^ 32 + rdN s Reg.SV_BOOT_IMG_ID_LO

/-- The bindings that a commit stores: those in force, or with no slot loaded (R69) those of the current journal. -/
def bindsNow (s : State) : List (Nat × Binding) := if s.boot.loaded then s.net.bindings else jBinds s (jCur s)

/-- Write a new journal `j` (R456): erased, one entry for every stored word, its header last. -/
def jNew (j ver gen : Nat) (trial : Bool) (vals : List (Nat × Word)) (s : State) : State :=
  let s := jBindStore j (bindsNow s) (jAppend j 0 0 vals (jErase j s))
  jShow j (jHeader j ver gen trial (imgId s) s)

/-- A commit that failed leaves its values for the next one, 1 s later (R455). -/
def again (s : State) : State := { s with upd := { s.upd with dirty := some s.clk.tb0 } }

/-- May settings be written to a journal now (Table 03-13, R458)? -/
def mayCommit (s : State) : Bool :=
  let st := devState s
  !rdB s Reg.SV_UPD_STAT 11 && (decide (st = 2 ∨ st = 3) || (decide (st = 4) && decide (s.boot.safeFrom ≠ 1)))

/-- A commit (R455, R456): `fails` counts the attempts of its first entry that fail; a third failure leaves the values for the next
commit. A compaction whose first operation fails leaves the old journal current. During a NOR reset it waits (R479). -/
def commit (fails : Nat) (timeout : Bool) (s : State) : State :=
  if !mayCommit s then s
  else if rdB s Reg.SV_NVM_STAT 3 then { s with upd := { s.upd with dirty := some (s.clk.tb0 - BitVec.ofNat 64 secTicks) } }
  else
    let l := changedWords s
    let s := { s with upd := { s.upd with dirty := none } }
    if l.isEmpty ∧ bindsNow s = (if jHas s then jBinds s (jCur s) else []) then s
    else if !jHas s then
      if fails ≠ 0 then again (commitFail (jBase 0) 2 timeout (count31 Reg.SV_NVM_ERR_CNT s))
      else rebase (jNew 0 (imgSettings s) 1 false (storedVals s) s)
    else
      let j := jCur s
      let i := jFill s j
      if !rdB s Reg.SV_BOOT_STAT 10 && decide (65520 < i + l.length + 4096) then
        if fails ≠ 0 then again (commitFail (jBase (1 - j)) 2 timeout (count31 Reg.SV_NVM_ERR_CNT s))
        else rebase (jNew (1 - j) (imgSettings s) ((jGen s j + 1) % 2 ^ 32) false (storedVals s) s)
      else
        let bad := fun (k : Nat) (s : State) => norPut (count31 Reg.SV_NVM_ERR_CNT s) (jEntry j (i + k)) 0
        let s := forEach (List.range (min 3 fails)) bad s
        if 3 ≤ fails ∨ 65520 < i + fails + l.length then
          again (jShow j (commitFail (jEntry j i) 1 timeout s))
        else rebase (jShow j (jBindStore j (bindsNow s) (jAppend j (i + fails) (jNext s j) l s)))

end Sys2Proof.Machine
end

