-- ==== Sys2Proof/Machine/Power.lean ====
section
/-!
DEFINITION. The rails and the always-on island (chapter 2): rail faults, HIBERNATE and wake, and what a restart resets (Table 00-6).
-/
namespace Sys2Proof.Machine

/-! ### What a restart resets (R17, Table 00-6) -/

/-- The bits of a register that a restart keeps: 0 a warm restart, 1 a wake or a loss with the island powered, 2 a power-on with VBAT
absent. The rail bits of SV_PWR_STAT follow the rails, and OTP keeps what is programmed. -/
def keepMask (kind addr : Nat) : Word :=
  if addr = Reg.SV_UPD_OTP then 0xFFFFFFFF
  else
    match findRow addr with
    | none => 0
    | some r =>
      let m := if kind = 0 then w32 r.por ||| w32 r.ao else if kind = 1 then w32 r.ao else 0
      if addr = Reg.SV_PWR_STAT then m ||| 0x1F else m

/-- The registers after a restart; a SET field waits for the settings store (R18). -/
def resetRegs (kind : Nat) (l : List (Nat × Word)) : List (Nat × Word) :=
  l.filterMap fun x =>
    let k := keepMask kind x.1
    let v := (x.2 &&& k) ||| (resetWord x.1 &&& ~~~k)
    if v = resetWord x.1 then none else some (x.1, v)

/-- SV_SEQ_LAST[n] takes the state in force as the run ends (R273). -/
def seqLast (n : Nat) (s : State) : State :=
  let v := if (seqR s n = 1 ∨ seqR s n = 2) ∧ (seqOf s n).entered then rdF s (Reg.SV_SEQ_STAT n) 13 8 else 0xFF
  wrF s (Reg.SV_SEQ_LAST n) 7 0 v

/-- Is this byte in a TX element, whose outcome a warm restart leaves to be read (R356, log entry 5)? -/
def inTxElem (a : Nat) : Bool := decide (0x07800000 ≤ a ∧ a < 0x0781A000 ∧ (a - 0x07800000) % 0x3400 < 2560)

/-- The dies are reset (R17): registers by class, memories as nothing has written them, every engine at its beginning. The NOR, the
island, the time bases, the log's numbering and drawer, the wear counts, the site key and the bindings stored with the journals stay. -/
def resetDies (kind : Nat) (s : State) : State :=
  let z := State.reset
  { z with
    clk := s.clk, regs := resetRegs kind s.regs, nor := s.nor, pwr := s.pwr
    mem := if kind = 0 then s.mem.filter fun c => inTxElem c.1 else []
    time := { z.time with rtcAbsent := s.time.rtcAbsent }
    log := { s.log with raised := [], runs := [], retryAt := none, wrong := [], upl := none }
    upd := { z.upd with binds := s.upd.binds, erases := s.upd.erases, site := s.upd.site }
    free := s.free, pending := s.pending }

/-- A channel is disabled by a restart: its pending buffers end with ABORTED (R356). -/
def canEnd (n : Nat) (s : State) : State :=
  let s := forEach ((List.range 32).filter fun b => txPending s n b) (fun b => txFinish n b 4 0) s
  if rdB s (Reg.NW_CH_XLS n) 1 then xlFinish n 4 0 s else s

/-- A run ends: the state in force of each sequence is kept (R273), and the dies are reset. -/
def restartBase (kind : Nat) (s : State) : State := resetDies kind (forEach (List.range 8) seqLast s)

/-- A warm restart begins (R98, R404, R422, R444, R496): `why` as RESTART's w6. The runs close first; the owner is lost; the dies are
held until RESET_RELEASE. A restart of the island hands its RESTART over at step 1 of the start. -/
def warmBegin (island : Bool) (why port : Nat) (s : State) : State :=
  let s := closeAllRuns (drainAll s)
  let s := uploadEnd 3 (count16 Reg.SV_BOOT_RESTART_CNT s)
  let e := evNow s 0x0005 0 (w32 why) (w32 port)
  let s := if island then { s with pwr := { s.pwr with island := s.pwr.island ++ [e] } } else raiseN 0x0005 0 why port s
  let s := match s.port.owner with
    | none => s
    | some p => raiseN 0x0902 0 (portCode p * 16 + 5 * 256 + portAddr p * 0x10000) 0 (count31 Reg.SV_OWN_CHG_CNT s)
  let s := drainAll s
  let s := restartBase 0 (forEach (List.range 8) canEnd s)
  { s with pwr := { s.pwr with rst := true, cold := false, woke := false, ownerRestart := decide (why = 1) } }

/-! ### Rails (R46 to R49) -/

/-- Is rail `r` good (0 VIN, 1 V5, 2 VIO, 3 VCORE, 4 VBAT)? -/
def railOk (s : State) (r : Nat) : Bool := rdB s Reg.SV_PWR_STAT r
/-- The monitor of rail `r` reads `mv`: a reading at a transition is shown at once, any other at the next refresh. -/
def railShow (r mv : Nat) (s : State) : State :=
  let s := { s with pwr := { s.pwr with mon := tput (fun _ => 0) s.pwr.mon r mv } }
  if diesUp s then monShow r s else s

/-- RAIL_FAULT `f` is handed to the recorder (R48), behind what is on its way but before a V5 fault handed over in this tick. -/
def railOrder (f : RailFault) (s : State) : State :=
  let e := { f.ev with p1 := w32 f.low }
  let l := s.log.raised
  let l := if f.rail = 0 ∧ s.pwr.handed = some s.clk.tb0 then
      l.takeWhile (fun x => decide (¬(x.code = 0x0010 ∧ x.p0 = 1))) ++ e :: l.dropWhile fun x => decide (¬(x.code = 0x0010 ∧ x.p0 = 1))
    else l ++ [e]
  { s with log := { s.log with raised := l }, pwr := { s.pwr with handed := if f.rail = 1 then some s.clk.tb0 else s.pwr.handed } }
/-- A RAIL_FAULT reaches the recorder, with its own instant and its lowest reading (R48). -/
def railRecord (f : RailFault) (s : State) : State := railOrder f (count16 Reg.SV_PWR_FAULT_CNT s)

/-- Is this the open fault of rail `r`? -/
def railOpen (r : Nat) (f : RailFault) : Bool := decide (f.rail = r) && !f.held
/-- The hand-over of rail `r`'s fault, with a reading since. -/
def railHand (r low : Nat) (s : State) : State :=
  match s.pwr.faults.find? (railOpen r) with
  | none => s
  | some f =>
    railRecord { f with low := min f.low low } { s with pwr := { s.pwr with faults := s.pwr.faults.filter fun f => !railOpen r f } }
/-- The open fault of rail `r` has a lower reading, or is closed while no recorder runs. -/
def railLow (r low : Nat) (close : Bool) (s : State) : State :=
  { s with pwr := { s.pwr with
    faults := s.pwr.faults.map fun f => if railOpen r f then { f with low := min f.low low, held := close } else f } }

/-- VBAT and VIO are both gone: what the island held is lost (R53, R59, R120). -/
def islandLost (s : State) : State :=
  if !railOk s 2 && !railOk s 4 then
    let s := { s with regs := resetRegs 2 s.regs }
    { s with
      pwr := { s.pwr with aoLost := true, lost := [], loss := none, island := [], ownerRestart := false, waking := false, latched := 0,
                          woke := false, hibAt := 0, fired := false, goodAt := none }
      log := { s.log with drawer := [], next := 0, lastEra := 0 }
      time := { s.time with rtcAbsent := false }
      clk := { s.clk with sec := 0, frac := 0, sub := 0, era := 0, slew := 0, slewSum := 0, ops := 0, opsAcc := 0 } }
  else s

/-- The RAIL_FAULT of rail `r` becoming bad now. -/
def railFault (r mv : Nat) (s : State) : RailFault := { rail := r, ev := evNow s 0x0010 0 (w32 r) 0, low := mv, held := false }

/-- An unplanned power loss (R46, R59): the dies are reset, and the island keeps what the next start writes. -/
def powerLoss (r mv : Nat) (s : State) : State :=
  let s := drainAll s
  let fs := s.pwr.faults ++ [railFault r mv s]
  let s := wrN s Reg.SV_PWR_LOSS_TIME s.clk.sec.toNat
  let s := if s.pwr.rst then resetDies 1 s else restartBase 1 s
  { s with pwr := { s.pwr with faults := [], lost := fs, loss := some (s.clk.sec, s.clk.era), off := true, cold := true, woke := false } }

/-- VIO or VCORE becomes bad (R46, R48): a loss of power, in HIBERNATE a planned one (R55). Of a rail that follows the other the island
keeps the last reading taken before. -/
def coreBad (r mv was : Nat) (s : State) : State :=
  if diesUp s || s.pwr.rst then powerLoss r mv s
  else
    let s := if devState s ≠ 0 ∧ s.pwr.off then { s with pwr := { s.pwr with lost := s.pwr.lost ++ [railFault r was s] } } else s
    { s with pwr := { s.pwr with off := true } }

/-- VBAT becomes bad (Table 02-2): VBAT_LOW, which the island keeps for the next start while no recorder runs. -/
def vbatBad (mv : Nat) (s : State) : State :=
  if diesUp s then raiseN 0x0014 0 mv 0 s
  else if railOk s 2 then { s with pwr := { s.pwr with island := s.pwr.island ++ [evNow s 0x0014 0 (w32 mv) 0] } }
  else s

/-- VIN or V5 becomes bad (Table 02-2, R47, R48): its fault awaits its hand-over, and the drive goes off; with the dies held in reset
the fault waits for the start. -/
def driveBad (r mv : Nat) (s : State) : State :=
  let s := if diesUp s || s.pwr.rst then { s with pwr := { s.pwr with faults := s.pwr.faults ++ [railFault r mv s] } } else s
  if diesUp s then
    let s := if r = 1 then forEach (List.range 8) strOff s else s
    driveJudge (causeSet (2 ^ r) s)
  else s

/-- What a rail that becomes bad brings about (Table 02-2, R46 to R48), but for what the island loses. -/
def railBadOn (r mv : Nat) (s : State) : State :=
  let was := monOf s r
  let s := wrB (railShow r mv s) Reg.SV_PWR_STAT r false
  let s := if r < 4 then { s with pwr := { s.pwr with goodAt := none } } else s
  if r = 4 then vbatBad mv s else if r = 2 ∨ r = 3 then coreBad r mv was s else driveBad r mv s

/-- RAIL_BAD (R46, R47): rail `r` becomes bad, its monitor at `mv`; of a rail that is bad already, a further reading. -/
def effRailBad (r mv : Nat) (s : State) : State :=
  if !railOk s r then keepClk (fun s => railLow r mv false (railShow r mv s)) s
  else
    let s := keepClk (railBadOn r mv) s
    if 2 ≤ r then islandLost s else s

/-- RAIL_BAD (R46): the rail (0 VIN, 1 V5, 2 VIO, 3 VCORE, 4 VBAT) and its monitor's reading in mV. -/
def execRailBad (r mv : Nat) (s : State) : Host.Outcome State Fault Refusal := guardIx r 5 (runClk (effRailBad r mv) s)

/-- Are VIN, V5, VIO and VCORE all good? -/
def railsAll (s : State) : Bool := railOk s 0 && railOk s 1 && railOk s 2 && railOk s 3
/-- TB2 units of 2^-16 s since an instant of TB2. -/
def tb2Since (s : State) (t : Nat) : Nat := (tb2Val s.clk + 2 ^ 48 - t) % 2 ^ 48
/-- A wake waits for its rails (R57): the instant at which all four are good, within 500 ms. -/
def wakeRails (s : State) : State :=
  if s.pwr.waking && railsAll s && s.pwr.goodAt.isNone && decide (tb2Since s s.pwr.wakeAt ≤ 32768) then
    { s with pwr := { s.pwr with goodAt := some (tb2Val s.clk) } }
  else s

/-- RAIL_GOOD (R46, R48): rail `r` becomes good again, its monitor at `mv`, the lowest reading since it became bad `low`; of a rail that
is good already, a further reading. -/
def effRailGood (r mv low : Nat) (s : State) : State :=
  if railOk s r then railShow r mv s
  else
    let s := wakeRails (wrB (railShow r mv s) Reg.SV_PWR_STAT r true)
    let s := if r = 1 then { s with pwr := { s.pwr with v5At := s.clk.tb0 } } else s
    if 2 ≤ r then s
    else if diesUp s then
      driveJudge (causeClear (2 ^ r) (railHand r low s))
    else railLow r low true s

/-- RAIL_GOOD (R46): the rail, its monitor's reading, and the lowest reading since the rail became bad, in mV. -/
def execRailGood (r mv low : Nat) (s : State) : Host.Outcome State Fault Refusal := guardIx r 5 (run (effRailGood r mv low) s)

/-- Has the open fault of rail `r` waited for 1 s (R48)? -/
def railDue (r : Nat) (s : State) : Bool :=
  match s.pwr.faults.find? (railOpen r) with
  | none => false
  | some f => diesUp s && decide (secTicks ≤ (s.clk.tb0 - f.ev.tick).toNat)
/-- RAIL_FAULT_HANDOVER (R48): VIN or V5 has been bad for 1 s; VIN goes first. -/
def effRailFaultHandover (r low : Nat) (s : State) : State :=
  let s := if r = 1 ∧ railDue 0 s then railHand 0 0xFFFFFFFF s else s
  if railDue r s then railHand r low s else s

/-- RAIL_FAULT_HANDOVER (R48): the rail, 0 VIN or 1 V5, and the lowest reading in mV. -/
def execRailFaultHandover (r low : Nat) (s : State) : Host.Outcome State Fault Refusal :=
  guardIx r 2 (run (effRailFaultHandover r low) s)

/-! ### HIBERNATE and wake (R54 to R58) -/

/-- Is grain moving (R54, R329, Table 17-5): a conveyor, discharge or metering channel active, or an edge within 60 s on a pulse input
that advances an enabled PLUG column? -/
def grainMoving (s : State) : Bool :=
  (List.range 16).any (fun x => decide (rdF s (Reg.DR_MOT_CFG x) 30 29 ≠ 0) && rdB s (Reg.DR_MOT_STAT x) 6)
  || (List.range 16).any fun c =>
    colEn s c && decide (colMode s c = 0) && !rdB s (Reg.LP_TRK_CFG c) 24 &&
      (match (plsOf s (8 * (c / 4) + rdF s (Reg.LP_TRK_CFG c) 23 21)).last with
       | none => false
       | some t => decide ((s.clk.tb0 - t).toNat ≤ 60 * secTicks))

/-- The alarm is due (R56): enabled, and TB2 seconds at or after it. -/
def alarmDue (s : State) : Bool :=
  rdB s Reg.SV_PWR_WAKE_CFG 4 && (decide (s.clk.sec.toNat = rdN s Reg.SV_PWR_ALARM) || laterN 32 s.clk.sec.toNat (rdN s Reg.SV_PWR_ALARM))
/-- Is an enabled wake source asserted (R54)? A pin counts as asserted while it stands at the level its enabled edge leads to: the
rule gives edges only (DESIGN CHOICE, log entry 81). -/
def wakeAsserted (s : State) : Bool :=
  let c := rd s Reg.SV_PWR_WAKE_CFG
  (bit c 0 && (s.pwr.pin0 == bit c 1)) || (bit c 2 && (s.pwr.pin1 == bit c 3)) || alarmDue s

/-- Why a request for HIBERNATE is refused (R54): 0 it is not; 1 grain moving; 2 a wake source asserted; 3 the device is neither in RUN
nor in SAFE. -/
def hibRefusal (s : State) : Nat :=
  if devState s ≠ 3 ∧ devState s ≠ 4 then 3 else if grainMoving s then 1 else if wakeAsserted s then 2 else 0

/-- HIBERNATE is entered (Table 02-5): the faults in hand handed over, the drawer flushed, the settings committed, HIBERNATE_ENTER
written, the dies held in reset. The island keeps SV_PWR_WAKE_CFG until the next start. -/
def hibEnter (who : Nat) (s : State) : State :=
  let cfg := rd s Reg.SV_PWR_WAKE_CFG
  let s := forEach [0, 1] (fun r => railHand r 0xFFFF) (drainAll s)
  let s := closeAllRuns (drainAll s)
  let s := commit 0 false s
  let s := drainAll (raiseN 0x0012 0 who 0 s)
  let s := if mayProgram s then (if rdB s Reg.SV_NVM_STAT 2 then flushPending 65 s else effRecordProgramDone s) else s
  let s := wr (wrF (restartBase 1 s) Reg.SV_BOOT_STAT 2 0 0) Reg.SV_PWR_WAKE_CFG cfg
  { s with pwr := { s.pwr with cold := true, woke := true, latched := 0, waking := false, faults := [], lost := [], loss := none,
                               hibAt := tb2Val s.clk } }

/-- A request for HIBERNATE (R54): HIBERNATE_REFUSED carries the reason. -/
def hibRequest (who : Nat) (s : State) : State :=
  match hibRefusal s with
  | 0 => hibEnter who s
  | 3 => s
  | r => raiseN 0x0015 0 r who s

/-- The owner write of SV_PWR_CTRL (R54). -/
def opHib (p : PortId) : WOp := fun s =>
  if hibRefusal s = 0 then (.ok, hibRequest (portCode p)) else (.refused, hibRequest (portCode p))

/-- HIB_REQ (R54): the writing port. -/
def execHibReq (p : PortId) (s : State) : Host.Outcome State Fault Refusal :=
  run (ownerWrite p Reg.SV_PWR_CTRL (opHib p)) s

/-- Have `n` units of 2^-16 s of TB2 passed since `t`? With the RTC stopped no time can be measured (R121). -/
def tb2Past (s : State) (t n : Nat) : Bool := s.time.rtcAbsent || decide (n ≤ tb2Since s t)
/-- 100 ms since step 5 of the entry have passed (R55), by TB2. -/
def hibSettled (s : State) : Bool := tb2Past s s.pwr.hibAt 6554

/-- The alarm fires (R56): once, clearing its enable; in HIBERNATE the island remembers it for the start. -/
def alarmFire (s : State) : State :=
  let s := wrB s Reg.SV_PWR_WAKE_CFG 4 false
  if devState s = 0 then { s with pwr := { s.pwr with fired := true } } else noteStored s

/-- A wake (R56, R57): the sources asserted are recorded together, a due alarm among them, and PWR_EN goes high. -/
def wakeNow (s : State) : State :=
  let m := s.pwr.latched ||| (if alarmDue s then 4 else 0)
  let s := if alarmDue s then alarmFire s else s
  let s := wrF s Reg.SV_PWR_WAKE_SRC 2 0 m
  wakeRails { s with pwr := { s.pwr with waking := true, latched := 0, wakeAt := tb2Val s.clk, goodAt := none } }

/-- Wake source `k` asserts (R55, R56): latched until the wake, or recorded with one of the same moment. -/
def wakeAssert (k : Nat) (s : State) : State :=
  if devState s ≠ 0 then s
  else if s.pwr.waking then
    if s.pwr.wakeAt = tb2Val s.clk then wrB s Reg.SV_PWR_WAKE_SRC k true else s
  else
    let s := { s with pwr := { s.pwr with latched := s.pwr.latched ||| 2 ^ k } }
    if hibSettled s then wakeNow s else s

/-- WAKE_EDGE (R56): an edge on WAKEk, filtered for 1 ms. -/
def effWakeEdge (k : Nat) (rising : Bool) (s : State) : State :=
  let c := rd s Reg.SV_PWR_WAKE_CFG
  let s := if k = 0 then { s with pwr := { s.pwr with pin0 := rising } } else { s with pwr := { s.pwr with pin1 := rising } }
  if bit c (2 * k) && (bit c (2 * k + 1) == rising) then wakeAssert k s else s

/-- WAKE_EDGE (R56): the pin, 0 or 1, and whether the edge rises. -/
def execWakeEdge (k : Nat) (rising : Bool) (s : State) : Host.Outcome State Fault Refusal := guardIx k 2 (run (effWakeEdge k rising) s)

/-- RTC_ALARM (R56): the alarm fires once and clears its enable. -/
def effRtcAlarm (s : State) : State :=
  if alarmDue s then wakeAssert 2 (alarmFire s) else s

/-- RTC_ALARM (R56). -/
def execRtcAlarm (s : State) : Host.Outcome State Fault Refusal := run effRtcAlarm s

/-- LATCHED_WAKE (R55): 100 ms after step 5. -/
def effLatchedWake (s : State) : State :=
  if devState s = 0 ∧ s.pwr.waking = false ∧ s.pwr.latched ≠ 0 ∧ hibSettled s then wakeNow s else s

/-- LATCHED_WAKE (R55). -/
def execLatchedWake (s : State) : Host.Outcome State Fault Refusal := run effLatchedWake s

/-- WAKE_RAIL_TIMEOUT (R57): 500 ms after a wake without all rails good, PWR_EN goes low again. -/
def effWakeRailTimeout (s : State) : State :=
  if s.pwr.waking && s.pwr.goodAt.isNone && tb2Past s s.pwr.wakeAt 32768 then
    let s := wrB s Reg.SV_PWR_WAKE_SRC 3 true
    { s with pwr := { s.pwr with waking := false, latched := 0 } }
  else s

/-- WAKE_RAIL_TIMEOUT (R57). -/
def execWakeRailTimeout (s : State) : Host.Outcome State Fault Refusal := run effWakeRailTimeout s

end Sys2Proof.Machine
end

