-- ==== Sys2Proof/Machine/Seq.lean ====
section
/-!
DEFINITION. The sequence interpreter (chapter 10): records, terms, evaluation, transitions, actions, commands, start checks.
-/
namespace Sys2Proof.Machine

/-! ### Records (R263 to R266) -/

/-- Word `w` of state record `i`. -/
def seqState (s : State) (i w : Nat) : Word := rd s (0x802000 + 16 * i + 4 * w)
/-- Word `w` of transition record `i`. -/
def seqTrans (s : State) (i w : Nat) : Word := rd s (0x804000 + 16 * i + 4 * w)
/-- Word `w` of term record `i`. -/
def seqTerm (s : State) (i w : Nat) : Word := rd s (0x808000 + 16 * i + 4 * w)
/-- Word `w` of action record `i`. -/
def seqAct (s : State) (i w : Nat) : Word := rd s (0x810000 + 16 * i + 4 * w)
/-- Is sequence `n` enabled (EN)? -/
def seqEn (s : State) (n : Nat) : Bool := bit (seqDir s n 0) 31
/-- INIT. -/
def seqInitOf (s : State) (n : Nat) : Nat := bits (seqDir s n 0) 13 8
/-- NSTATES. -/
def seqCount (s : State) (n : Nat) : Nat := bits (seqDir s n 0) 5 0 + 1
/-- The record of local state `st` of sequence `n` (R264). -/
def seqRec (s : State) (n st : Nat) : Nat := bits (seqDir s n 1) 8 0 + st
/-- The local state in force (SV_SEQ_STAT.STATE). -/
def seqNow (s : State) (n : Nat) : Nat := rdF s (Reg.SV_SEQ_STAT n) 13 8
/-- The transition records of state record `i`, in order. -/
def transOf (s : State) (i : Nat) : List Nat := (List.range (bits (seqState s i 0) 20 16)).map fun j => bits (seqState s i 0) 9 0 + j
/-- The entry actions of state record `i`. -/
def entryOf (s : State) (i : Nat) : List Nat := (List.range (bits (seqState s i 1) 22 16)).map fun j => bits (seqState s i 1) 10 0 + j
/-- The terms of transition record `t`. -/
def termsOf (s : State) (t : Nat) : List Nat := (List.range (bits (seqTrans s t 0) 20 16)).map fun j => bits (seqTrans s t 0) 10 0 + j
/-- The actions of transition record `t`. -/
def actsOf (s : State) (t : Nat) : List Nat := (List.range (bits (seqTrans s t 1) 22 16)).map fun j => bits (seqTrans s t 1) 10 0 + j
/-- TARGET of transition record `t`. -/
def targetOf (s : State) (t : Nat) : Nat := bits (seqTrans s t 0) 29 24
/-- The state records of sequence `n`. -/
def statesOf (s : State) (n : Nat) : List Nat := (List.range (seqCount s n)).map (seqRec s n)
/-- Every action record of sequence `n`. -/
def allActs (s : State) (n : Nat) : List Nat :=
  (statesOf s n).flatMap fun i => entryOf s i ++ (transOf s i).flatMap (actsOf s)
/-- Every term record of sequence `n`. -/
def allTerms (s : State) (n : Nat) : List Nat := (statesOf s n).flatMap fun i => (transOf s i).flatMap (termsOf s)

/-! ### Actions (R266, R270) -/

/-- A write to a stored word starts the commit timer (R16, R455). -/
def wrStored (addr : Nat) (w : Word) (s : State) : State := if rwsMask s addr ≠ 0 then noteStored (wr s addr w) else wr s addr w

/-- WRITE_SIG and COPY_SIG: a value for entry TARGET of die DIE, of kind SEQUENCE or HOST_PARAM (R39); a port's write of the same tick
comes after it (R271). -/
def actSig (a : Nat) (v : Word) (s : State) : State :=
  let d := bits (seqAct s a 0) 23 16
  let e := bits (seqAct s a 0) 15 0
  if d ≤ 4 ∧ e < sigCount d ∧ (sigKind s d e = 6 ∨ sigKind s d e = 7) then
    let s := if sigKind s d e = 7 ∧ rdB s (sigAddr d e + 12) 27 then noteStored s else s
    sigWrite d e (if portMarked s 0 (d * 4096 + e) then rd s (sigAddr d e) else v) (nowUs s) s
  else s

/-- WRITE_SIG. -/
def actWriteSig (a : Nat) (s : State) : State := actSig a (seqAct s a 1) s
/-- COPY_SIG: the system signal as latched at the evaluation instant. -/
def actCopySig (n a : Nat) (s : State) : State :=
  let src := bits (seqAct s a 2) 8 0
  let v := match (seqOf s n).lat.find? fun x => decide (x.1 = src) with | some x => x.2 | none => sigVal s 0 src
  actSig a (i32 v) s
/-- The global number of a target on a loop die with `k` instances per die. -/
def actLp (s : State) (a k : Nat) : Nat := (bits (seqAct s a 0) 23 16 - 1) * k + bits (seqAct s a 0) 15 0
/-- LOOP_REQ (R235); a port's request of the same tick comes after it (R271). -/
def actLoopReq (a : Nat) (s : State) : State :=
  let g := actLp s a 64
  if portMarked s 1 g && loopLatches s g then s else loopRequest g (seqAct s a 1).toNat 4 s
/-- LOOP_MANVAL; a port's write of the same tick comes after it (R271). -/
def actLoopManval (a : Nat) (s : State) : State :=
  let g := actLp s a 64
  if portMarked s 2 g then s else wrStored (Reg.LP_LOOP_MANVAL g) (seqAct s a 1) s
/-- The channel of a CHAN action: motion, and its global number. -/
def actChanOf (s : State) (a : Nat) : Bool × Nat :=
  let t := bits (seqAct s a 0) 15 0
  let k := bits (seqAct s a 0) 23 16 - 5
  if t / 256 % 2 = 1 then (true, k * 8 + t % 16) else (false, k * 12 + t % 16)
/-- CHAN (R274). -/
def actChan (a : Nat) (s : State) : State :=
  let c := actChanOf s a
  let off := s.drv.seqOff.filter fun x => decide (x ≠ c)
  driveJudge { s with drv := { s.drv with seqOff := if seqAct s a 1 = 0 then off ++ [c] else off } }
/-- TRK_CMD (R204); the ports' commands and bias writes of the same tick come after it (R271). -/
def actTrkCmd (a : Nat) (s : State) : State :=
  let c := actLp s a 4
  let x := trkOf s c
  let n := x.cmds.length - (s.sig.ports.filter fun y => decide (y = (3, c))).length
  let k : TrkCmd := { act := match (seqAct s a 1).toNat with | 1 => 0 | 2 => 1 | _ => 2, port := 0, word := 0, logged := false }
  trkSet s c { x with cmds := x.cmds.take n ++ k :: x.cmds.drop n }
/-- PLS_CLR (R147). -/
def actPlsClr (a : Nat) (s : State) : State := plsClear (actLp s a 8) s
/-- SAFE (R276): the cause is set at the end of the instant's actions; the resume term's count starts at 0. -/
def actSafe (n a : Nat) (s : State) : State :=
  let w := seqAct s a 2
  seqSet s n { seqOf s n with askSafe := true, rterm := if bit w 31 then some (bits w 10 0, 0) else none }
/-- HIBERNATE. -/
def actHib (n : Nat) (s : State) : State := seqSet s n { seqOf s n with askHib := true }
/-- LOG. -/
def actLog (n a : Nat) (s : State) : State := raiseN 0x0022 0 (n + seqNow s n * 256) (seqAct s a 1).toNat s
/-- A sequence stops (R277): in no state, nothing waits but what `keep` takes. What the instant under way has latched and asked for stands
(R266, R276). -/
def seqStop (n : Nat) (keep : SeqPick → Bool) (s : State) : State :=
  let v := seqOf s n
  seqRPut n 0 (seqSet s n { seqInit n with want := v.want.filter keep, lat := v.lat, askSafe := v.askSafe, askHib := v.askHib })
/-- Was this command given by a port in this microsecond? -/
def seqPortNow (s : State) (w : SeqPick) : Bool := decide (w.port ≠ 0 ∧ w.us = tb3us s)
/-- SEQ_CTL (R266); a port's START, GOTO or STOP of the same tick comes after it (R271). -/
def actSeqCtl (a : Nat) (s : State) : State :=
  let m := bits (seqAct s a 0) 2 0
  let keep := fun w => portMarked s 4 m && seqPortNow s w
  if !seqEn s m ∨ seqR s m = 3 then s
  else if seqAct s a 1 = 0 then seqStop m keep s
  else if portMarked s 5 m then s
  else
    let v := seqOf s m
    let w : SeqPick := { kind := 18, target := seqInitOf s m, port := 0, us := tb3us s }
    seqSet s m { v with want := (v.want.filter fun x => !keep x) ++ w :: v.want.filter keep }

/-- An action of sequence `n` (Table 10-6). -/
def seqDo (n a : Nat) (s : State) : State :=
  match bits (seqAct s a 0) 31 24 with
  | 1 => actWriteSig a s
  | 2 => actCopySig n a s
  | 3 => actLoopReq a s
  | 4 => actLoopManval a s
  | 5 => actChan a s
  | 6 => actTrkCmd a s
  | 7 => actPlsClr a s
  | 8 => actSafe n a s
  | 9 => actHib n s
  | 10 => actLog n a s
  | 11 => actSeqCtl a s
  | _ => s

/-- What the instant's actions asked for beyond the sequences (R54, R276). -/
def seqAsked (n : Nat) (s : State) : State :=
  let v := seqOf s n
  let s := seqSet s n { v with askSafe := false, askHib := false }
  let s := if v.askSafe then causeSet 0x20 s else s
  if v.askHib then hibRequest 0 s else s

/-! ### Terms (R265, R268, R269) -/

/-- The system signals the terms of a list name: SIG operands and signals used as B. -/
def sigsOf (s : State) (l : List Nat) : List Nat :=
  l.flatMap fun t =>
    let w := seqTerm s t 0
    (if bits w 31 28 = 0 then [bits w 8 0] else []) ++ (if bit w 23 then [bits w 20 12] else [])

/-- Is a signal stale for a term with STALE_EV `ev` (R269)? -/
def seqStale (s : State) (n g ev : Nat) : Bool :=
  !sigValid s 0 g ||
    (decide (ev ≠ 0) && (match (seqOf s n).stale.find? fun x => decide (x.1 = g) with | some x => decide (ev ≤ x.2.2) | none => false))

/-- Operand A of a term (Table 10-4). -/
def termA (s : State) (n : Nat) (w : Word) : Int :=
  let i := bits w 8 0
  match bits w 31 28 with
  | 0 => sigVal s 0 i
  | 1 => min 0x7FFFFFFF (seqTimer s n * 65536 / (60 * secTicks) : Nat)
  | 2 => let m := i % 8; (if (seqR s m = 1 ∨ seqR s m = 2) ∧ (seqOf s m).entered then seqNow s m else 255) * 65536
  | _ => rdF s (Reg.SV_SEQ_LAST (i % 8)) 7 0 * 65536

/-- The stale signals of a term. -/
def termStale (s : State) (n t : Nat) : List Nat :=
  (sigsOf s [t]).filter fun g => seqStale s n g (bits (seqTerm s t 3) 15 0)

/-- A stale episode ends when its signal is no longer stale for its term (R269). -/
def seqEnded (n : Nat) (s : State) : State :=
  let v := seqOf s n
  seqSet s n { v with episodes := v.episodes.filter fun x => (termStale s n x.1).contains x.2 }

/-- The UPDs latched at this evaluation, with the evaluations each has not changed over (R269). -/
def seqSeen (n : Nat) (s : State) : State :=
  let v := seqOf s n
  let l := sigsOf s (allTerms s n ++ (match v.rterm with | some r => [r.1] | none => []))
  let l := l.foldr (fun x r => if r.contains x then r else x :: r) []
  let seen := l.map fun g =>
    let u := sigUpd s 0 g
    match v.stale.find? fun x => decide (x.1 = g) with
    | some x => (g, u, if x.2.1 = u then x.2.2 + 1 else 0)
    | none => (g, u, 0)
  seqEnded n (seqSet s n { v with stale := seen })

/-- The raw value of a term (R265, R269). -/
def termRaw (s : State) (n t : Nat) : Bool :=
  let w := seqTerm s t 0
  if (termStale s n t).isEmpty then
    let b := (seqTerm s t 1).toInt
    let b := if bit w 23 then sat32 (sigVal s 0 (bits w 20 12) + b) else b
    testCnd (termA s n w) (bits w 26 24) b
  else bit (seqTerm s t 3) 16

/-- The count above which a term with a hold is true (R268). -/
def termHold (s : State) (n t : Nat) : Nat := let k := max 1 (seqTick s n); ((seqTerm s t 2).toNat + k - 1) / k

/-- The stale episodes a term opens and closes (R269). -/
def termEpisodes (n t : Nat) (s : State) : State :=
  let st := termStale s n t
  let v := seqOf s n
  let fresh := st.filter fun g => !v.episodes.contains (t, g)
  let s := seqSet s n { v with episodes := (v.episodes.filter fun x => decide (x.1 ≠ t)) ++ st.map fun g => (t, g) }
  forEach fresh (fun g s => raiseN 0x0025 0 (n + t * 0x10000) g s) s

/-- One term of one transition at an evaluation (R268): its count advances. -/
def termEval (n key t : Nat) (s : State) : Bool × State :=
  let s := termEpisodes n t s
  let v := seqOf s n
  let c := if termRaw s n t then min 65535 (tget (fun _ => 0) v.counts key + 1) else 0
  (decide (termHold s n t < c), seqSet s n { v with counts := tput (fun _ => 0) v.counts key c })

/-- Every term of a transition. -/
def termsEval (n key : Nat) : List Nat → State → Bool × State
  | [], s => (true, s)
  | t :: r, s =>
    let (b, s) := termEval n key t s
    let (c, s) := termsEval n (key + 1) r s
    (b && c, s)

/-- Every transition of the present state, in record order: the first whose terms are all true (R267). -/
def transEval (n : Nat) : Nat → List Nat → State → Option SeqPick × State
  | _, [], s => (none, s)
  | j, t :: r, s =>
    let (b, s) := termsEval n (16 * j) (termsOf s t) s
    let (o, s) := transEval n (j + 1) r s
    (if b then some { kind := j, target := targetOf s t, port := 0, us := 0 } else o, s)

/-! ### Evaluation (R267 to R269, R273, R275, R276) -/

/-- SV_SEQ_SLACK and SV_SEQ_MIN_SLACK. -/
def seqSlack (us : Nat) (s : State) : State :=
  let s := wrN s Reg.SV_SEQ_SLACK us
  wrN s Reg.SV_SEQ_MIN_SLACK (min (rdN s Reg.SV_SEQ_MIN_SLACK) us)

/-- The system signals the sequence's COPY_SIG actions read, latched at the evaluation instant. -/
def seqLatch (n : Nat) (s : State) : State :=
  let l := ((allActs s n).filter fun a => decide (bits (seqAct s a 0) 31 24 = 2)).map fun a => bits (seqAct s a 2) 8 0
  seqSet s n { seqOf s n with at1 := some s.clk.tb1, lat := l.map fun g => (g, sigVal s 0 g) }

/-- SV_SEQ_TIME.SEC as it reads now (class S). -/
def seqSec (s : State) (n : Nat) : Nat :=
  if (seqOf s n).entered then min 0x7FFFFFFF ((seqTimer s n - (seqOf s n).secBase) / secTicks) else 0

/-- SEC at its maximum sets OVF and logs once (R22). -/
def seqSecLimit (n : Nat) (s : State) : State :=
  if seqSec s n = 0x7FFFFFFF ∧ rdB s (Reg.SV_SEQ_TIME n) 31 = false then
    raiseN 0x0A06 0 (Reg.SV_SEQ_TIME n) 0 (hwSet s (Reg.SV_SEQ_TIME n) 31)
  else s

/-- The transitions of the present state are evaluated (R267). -/
def seqChoose (n slack : Nat) (s : State) : State :=
  let s := seqSlack slack (seqSeen n s)
  let (o, s) := transEval n 0 (transOf s (seqRec s n (seqNow s n))) s
  seqSet s n { seqOf s n with pick := o }

/-- The resume term of a halted sequence is evaluated (R276). -/
def seqResumeTerm (n slack : Nat) (r : Nat × Nat) (s : State) : State :=
  let s := termEpisodes n r.1 (seqSlack slack (seqSeen n s))
  let c := if termRaw s n r.1 then min 65535 (r.2 + 1) else 0
  let p : Option SeqPick := if termHold s n r.1 < c then some { kind := 21, target := 0, port := 0, us := 0 } else none
  seqSet s n { seqOf s n with rterm := some (r.1, c), pick := p }

/-- The evaluation of a sequence is kept for the rest of its tick (R31). -/
def seqKeep (n slack : Nat) (s : State) : State :=
  { s with sig := { s.sig with evals := (s.sig.evals.filter fun x => decide (x.n ≠ n)) ++ [⟨n, s.clk.tb0, slack, seqOf s n⟩] } }

/-- SEQ_EVALUATE (R267): at an evaluation instant. -/
def effSeqEvaluate (n slack : Nat) (s : State) : State :=
  if s.boot.loaded && seqEn s n && decide (seqR s n ≠ 3) && atEval s n then
    let s := seqSecLimit n (seqLatch n s)
    let v := seqOf s n
    let live := decide (devState s = 2 ∨ devState s = 3)
    if live && decide (seqR s n = 1) then seqChoose n slack (seqKeep n slack s)
    else if live && v.resumed then
      let s := seqSlack slack s
      let rt := bits (seqState s (seqRec s n (seqNow s n)) 2) 7 0
      if rt = 0xFF then
        let t := v.frozen.getD 0
        seqRPut n 1 (seqSet s n { v with resumed := false, counts := [], since := s.clk.tb0 - BitVec.ofNat 64 t, frozen := none })
      else seqSet s n { v with counts := [], pick := some { kind := 16, target := rt, port := 0, us := 0 } }
    else if devState s = 4 ∧ seqR s n = 2 then
      match v.rterm with
      | none => s
      | some r => seqResumeTerm n slack r (seqKeep n slack s)
    else s
  else s

/-- Is this event one that the evaluation of sequence `n` raised in this tick? -/
def evalEv (s : State) (n : Nat) (e : Ev) : Bool := decide (e.tick = s.clk.tb0 ∧ e.code = 0x0025 ∧ bits e.p0 2 0 = n)

/-- The evaluation of sequence `n` in this tick is made again on the signals that come before it (R31, R267); what has been commanded
since stands. -/
def evalAgain (n : Nat) (s : State) : State :=
  let v := seqOf s n
  if v.at1 ≠ some s.clk.tb1 then s
  else
    match s.sig.evals.find? fun x => decide (x.n = n ∧ x.at0 = s.clk.tb0) with
    | none => seqLatch n s
    | some x =>
      let s := { s with log := { s.log with raised := s.log.raised.filter fun e => !evalEv s n e } }
      let s := seqLatch n (seqSet s n { x.st with want := v.want, secBase := v.secBase })
      if devState s = 4 then (match x.st.rterm with | some r => seqResumeTerm n x.slack r s | none => s)
      else if seqR s n = 1 then seqChoose n x.slack s
      else s

/-- A signal of die `d` (0: a system signal) has been written: what was latched, sampled or evaluated on it in the same tick comes after
the write (R31, R39, R142, R176, R223, R267, Table 08-10). -/
def sigAgain (d : Nat) (s : State) : State :=
  if d = 0 then forEach (List.range 8) evalAgain (sysAgain s) else trkAgain d (prbAgain d (relatch d s))
/-- Signals of any die may have been written. -/
def sigAgainAll (s : State) : State := forEach (List.range 5) sigAgain s

/-- SEQ_EVALUATE (R267): the sequence, and the margin measured before the transition instant in µs. -/
def execSeqEvaluate (n slack : Nat) (s : State) : Host.Outcome State Fault Refusal := guardIx n 8 (run (effSeqEvaluate n slack) s)

/-! ### Transitions (R270, R272, R273, R275 to R277) -/

/-- A state is entered (R270 step 3). -/
def seqEnter (n : Nat) (p : SeqPick) (s : State) : State :=
  let v := seqOf s n
  let old := if v.entered then seqNow s n else 0x3F
  let halted := decide (devState s = 4)
  let a := Reg.SV_SEQ_STAT n
  let s := if v.entered then wrF s a 5 0 old else s
  let s := wrF (wrF s a 13 8 p.target) a 31 30 (if halted then 2 else 1)
  let s := seqSet s n { v with
    entered := true, initDue := false, counts := [], since := s.clk.tb0, frozen := if halted then some 0 else none, secBase := 0, resumed := false }
  let s := if bit (seqDir s n 2) 15 then sigWrite 0 (bits (seqDir s n 2) 8 0) (w32 (p.target * 65536)) (nowUs s) s else s
  if p.kind = 19 ∨ p.kind = 20 then
    raiseN 0x0021 0 (n + (if p.kind = 19 then 2 else 4) * 256 + p.target * 0x10000) p.port s
  else
    raiseN 0x0020 0 (n + p.target * 256 + old * 0x10000 + p.kind * 0x1000000) (seqState s (seqRec s n p.target) 3).toNat
      (count16 (Reg.SV_SEQ_TRANS_CNT n) s)

/-- The actions of sequence `n` at its transition instant, with its entry (R270 steps 2 to 4). A command given in this microsecond acts at
a later instant (R266, R277). -/
def seqPerform (n : Nat) (p : SeqPick) (s : State) : State :=
  let acts := if p.kind < 16 then actsOf s (bits (seqState s (seqRec s n (seqNow s n)) 0) 9 0 + p.kind) else []
  let v := seqOf s n
  let s := seqSet s n { v with pick := none, want := v.want.filter fun w => decide (w.us = tb3us s) }
  let s := forEach acts (seqDo n) s
  let s := seqEnter n p s
  forEach (entryOf s (seqRec s n p.target)) (seqDo n) s

/-- Was the sequence evaluated 5 ms before this instant? -/
def seqFresh (s : State) (n : Nat) : Bool :=
  match (seqOf s n).at1 with | none => false | some t => decide (tb3us s = t.toNat / 100 + 5000)

/-- The work of an evaluation instant is not complete (R272): its transitions are discarded. Of SEQ_LATE's w6, [2:0] carries the sequence
(R279); with more than one affected it is stated nowhere which, and is a free value (log entry 84). -/
def seqLate (s : State) : State :=
  let l := (List.range 8).filter fun n => seqFresh s n && (seqOf s n).pick.isSome
  let s := forEach l (fun n s => seqSet s n { seqOf s n with pick := none }) s
  let mask := l.foldl (fun a n => a + 2 ^ (8 + n)) 0
  let s := seqSlack 0 s
  let us := (tb3us s + 2 ^ 32 - 5000) % 2 ^ 32
  match l with
  | [] => s
  | [n] => raiseN 0x0024 0 (mask + n) us s
  | _ => let (f, s) := takeFree s; raiseN 0x0024 0 (mask + f.toNat % 8) us s

/-- The work of sequence `n` at a transition instant of its own (R270, R273, R275 to R277): a waiting command, its entry into INIT, or what
the evaluation chose. -/
def seqOne (n : Nat) (s : State) : State :=
  if !atTrans s n || decide (seqR s n = 3) then s
  else
    let v := seqOf s n
    let live := decide (devState s = 2 ∨ devState s = 3)
      || decide (devState s = 4 ∧ s.boot.safeAt = s.clk.tb0 ∧ s.boot.safeFrom ≠ 1)
    match (v.want.filter fun w => decide (w.us ≠ tb3us s)).getLast?, v.initDue with
    | some w, _ => if live then seqPerform n w s else s
    | none, true => if live then seqPerform n { kind := 17, target := seqInitOf s n, port := 0, us := 0 } s else s
    | none, false =>
      match v.pick with
      | none => s
      | some p =>
        if !seqFresh s n then s
        else if p.kind = 21 then
          let s := seqSet s n { v with pick := none }
          if devState s = 4 then
            let s := causeClear 0x20 s
            if mayResume s then safeExit 4 none s else resumeRefused 0 s
          else s
        else if live then seqPerform n p s else s

/-- SEQ_TRANSITION (R270): a transition instant. The sequences that have it now are taken in ascending number; what they asked for beyond
themselves comes after (R276), and in SAFE nothing given at this instant is left to act (R275). -/
def effSeqTransition (late : Bool) (s : State) : State :=
  if s.boot.loaded && (List.range 8).any fun n => atTrans s n then
    let s := if late then seqLate s else s
    let s := forEach (List.range 8) seqAsked (forEach (List.range 8) seqOne s)
    let s := if devState s = 4 then forEach (List.range 8) (fun n s => seqSet s n { seqOf s n with want := [] }) s else s
    sigAgainAll s
  else s

/-- SEQ_TRANSITION (R270): a sequence, and whether the evaluations' work is late. The first such command of an instant makes the
instant's transitions of every sequence, in the order of R270 whichever sequence it names (DEDUCED, log entry 35). -/
def execSeqTransition (n : Nat) (late : Bool) (s : State) : Host.Outcome State Fault Refusal :=
  guardIx n 8 (run (effSeqTransition late) s)

/-! ### Owner commands (R277) -/

/-- May sequence `n` be commanded? -/
def seqMay (s : State) (n : Nat) : Bool := s.boot.loaded && seqEn s n && decide (seqR s n ≠ 3)

/-- START, or GOTO with a state. -/
def opSeqGo (p : PortId) (n kind st : Nat) : WOp := fun s =>
  if seqMay s n && decide (devState s ≠ 4) && decide (st < seqCount s n) then
    (.ok, fun s => portMark 4 n (seqSet s n { seqOf s n with
      want := (seqOf s n).want ++ [{ kind := kind, target := st, port := portCode p, us := tb3us s }] }))
  else (.refused, id)
/-- STOP. -/
def opSeqStop (p : PortId) (n : Nat) : WOp := fun s =>
  if seqMay s n then
    (.ok, fun s => portMark 5 n (raiseN 0x0021 0 (n + 0x100) (portCode p) (seqStop n (fun _ => false) s)))
  else (.refused, id)

/-- SEQ_START (R277): the writing port and the sequence. -/
def execSeqStart (p : PortId) (n : Nat) (s : State) : Host.Outcome State Fault Refusal :=
  guardIx n 8 (run (ownerWrite p (Reg.SV_SEQ_CMD n) fun s => opSeqGo p n 19 (seqInitOf s n) s) s)
/-- SEQ_GOTO (R277): the writing port, the sequence and the state. -/
def execSeqGoto (p : PortId) (n st : Nat) (s : State) : Host.Outcome State Fault Refusal :=
  guardIx n 8 (run (ownerWrite p (Reg.SV_SEQ_CMD n) (opSeqGo p n 20 st)) s)
/-- SEQ_STOP (R277): the writing port and the sequence. -/
def execSeqStop (p : PortId) (n : Nat) (s : State) : Host.Outcome State Fault Refusal :=
  guardIx n 8 (run (ownerWrite p (Reg.SV_SEQ_CMD n) (opSeqStop p n)) s)

/-! ### Start checks (R272, R278) -/

/-- GEOMETRY. -/
def seqGeomBad (s : State) (n : Nat) : Bool :=
  let k := seqCount s n
  let base := bits (seqDir s n 1) 8 0
  decide (seqDir s n 3 ≠ 0) || decide (512 < base + k) || decide (k ≤ seqInitOf s n)
  || (statesOf s n).any fun i =>
    let w0 := seqState s i 0
    let w1 := seqState s i 1
    let rt := bits (seqState s i 2) 7 0
    decide (16 < bits w0 20 16 ∨ 1024 < bits w0 9 0 + bits w0 20 16 ∨ 64 < bits w1 22 16 ∨ 2048 < bits w1 10 0 + bits w1 22 16
      ∨ (rt ≠ 0xFF ∧ k ≤ rt))
    || (entryOf s i).any (fun a => decide (seqAct s a 3 ≠ 0))
    || (transOf s i).any fun t =>
      let x0 := seqTrans s t 0
      let x1 := seqTrans s t 1
      decide (k ≤ bits x0 29 24 ∨ 16 < bits x0 20 16 ∨ 2048 < bits x0 10 0 + bits x0 20 16 ∨ 64 < bits x1 22 16
        ∨ 2048 < bits x1 10 0 + bits x1 22 16 ∨ seqTrans s t 2 ≠ 0 ∨ seqTrans s t 3 ≠ 0)
      || (actsOf s t).any (fun a => decide (seqAct s a 3 ≠ 0))

/-- The terms that the check judges: those of the transitions and the resume terms of SAFE actions (R276). -/
def checkTerms (s : State) (n : Nat) : List Nat :=
  allTerms s n ++ ((allActs s n).filter fun a => decide (bits (seqAct s a 0) 31 24 = 8) && bit (seqAct s a 2) 31).map fun a => bits (seqAct s a 2) 10 0

/-- TERM. -/
def seqTermBad (s : State) (n : Nat) : Bool :=
  let k := seqTick s n
  decide (k < 10 ∨ 60000 < k ∨ k ≤ seqPhase s n)
  || (bit (seqDir s n 2) 15 && decide (sigKind s 0 (bits (seqDir s n 2) 8 0) ≠ 6))
  || (checkTerms s n).any fun t =>
    let w := seqTerm s t 0
    decide (3 < bits w 31 28 ∨ 5 < bits w 26 24 ∨ ((bits w 31 28 = 2 ∨ bits w 31 28 = 3) ∧ 7 < bits w 8 0)
      ∨ 65534 * k < (seqTerm s t 2).toNat)

/-- Is an action record good (Table 10-7 ACTION)? -/
def actGood (s : State) (a : Nat) : Bool :=
  let w := seqAct s a 0
  let d := bits w 23 16
  let t := bits w 15 0
  let v := (seqAct s a 1).toNat
  let lp := decide (1 ≤ d ∧ d ≤ 4)
  match bits w 31 24 with
  | 1 | 2 => decide (d ≤ 4) && decide (t < sigCount d) && decide (sigKind s d t = 6 ∨ sigKind s d t = 7)
  | 3 => lp && decide (t < 64) && decide (v = 1 ∨ v = 2 ∨ v = 4)
  | 4 => lp && decide (t < 64)
  | 5 => decide (d = 5 ∨ d = 6) && decide (t < 12 ∨ (256 ≤ t ∧ t < 264)) && decide (v ≤ 1)
  | 6 => lp && decide (t < 4) && decide (v = 1 ∨ v = 2 ∨ v = 4)
  | 7 => lp && decide (t < 8) && decide (plsMode s ((d - 1) * 8 + t) = 1)
  | 8 | 9 | 10 => true
  | 11 => decide (t < 8) && decide (v ≤ 1)
  | _ => false

/-- The term load of a sequence (R272). -/
def termLoad (s : State) (n : Nat) : Nat :=
  (statesOf s n).foldl (fun m i => max m (((transOf s i).map fun t => (termsOf s t).length).foldl (· + ·) 0)) 0
/-- The action load of a sequence (R272). -/
def actLoad (s : State) (n : Nat) : Nat :=
  (statesOf s n).foldl (fun m i =>
    let here := (entryOf s i).length
    let l := (transOf s i).map fun t => (actsOf s t).length + (entryOf s (seqRec s n (targetOf s t))).length
    max m (l.foldl max here)) 0

/-- The first reason of 1 to 3 that applies, 0 for none. -/
def seqReason (s : State) (n : Nat) : Nat :=
  if seqGeomBad s n then 1 else if seqTermBad s n then 2 else if (allActs s n).any (fun a => !actGood s a) then 3 else 0

/-- A sequence fails its check. -/
def seqFail (n r : Nat) (s : State) : State :=
  raiseN 0x0023 0 n r (wrF (seqRPut n 3 s) (Reg.SV_SEQ_STAT n) 19 16 r)

/-- Reasons 1 to 3 of one sequence (R278). -/
def seqCheck (n : Nat) (s : State) : State :=
  if seqEn s n then (match seqReason s n with | 0 => s | k => seqFail n k s) else s

/-- The load rule over the sequences that have passed, in ascending number, with the loads added so far (R272, R278); one that passes
enters INIT at its first transition instant (R273). -/
def seqLoads : List Nat → Nat → Nat → State → State
  | [], _, _, s => s
  | n :: r, tl, al, s =>
    if seqEn s n && decide (seqR s n ≠ 3) then
      let t := tl + termLoad s n
      let a := al + actLoad s n
      if 512 < t ∨ 128 < a then seqLoads r tl al (seqFail n 4 s)
      else seqLoads r t a (seqSet s n { seqInit n with initDue := true })
    else seqLoads r tl al s

/-- The sequences at a start: checked, and the channels their CHAN actions name disabled (R274, R278). -/
def seqStartAll (s : State) : State :=
  let s := seqLoads (List.range 8) 0 0 (forEach (List.range 8) seqCheck s)
  let ns := (List.range 8).filter fun n => seqEn s n && decide (seqR s n ≠ 3)
  let cs := ns.flatMap fun n => ((allActs s n).filter fun a => decide (bits (seqAct s a 0) 31 24 = 5)).map (actChanOf s)
  let cs := cs.foldr (fun x r => if r.contains x then r else x :: r) []
  { s with drv := { s.drv with seqOff := cs } }

end Sys2Proof.Machine
end

