-- ==== Sys2Proof/Machine/Grid.lean ====
section
/-!
DEFINITION. The commands that write signals: what was latched, sampled or evaluated on the written signals in the same TB0 tick comes
after the write (R31, R39, R223, R267, Table 08-10).
-/
namespace Sys2Proof.Machine

/-! ### Sensing results, tracker outputs and loop outputs -/

/-- AIN_DELIVERY (R126): the input, the measurement in the units of LP_AIN_RAW (RTD2: with its lead), whether the excitation is
overloaded and whether the circuit is open. -/
def execAinDelivery (x : Nat) (meas : Int) (overload opened : Bool) (s : State) : Host.Outcome State Fault Refusal :=
  guardIx x 64 (run (fun s => sigAgain (ainDie x) (effAinDelivery x meas overload opened s)) s)

/-- PRB_DELIVERY (R143): the probe, the correction its reference measurement yields in Q16.16, whether the excitation limit was
reached, whether the sense amplitude was below 2 % throughout, and B and G of each frequency as measured, in µS, Q16.16. -/
def execPrbDelivery (x : Nat) (ref : Int) (exc sense : Bool) (ys : List (Int × Int)) (s : State) :
    Host.Outcome State Fault Refusal := guardIx x 16 (run (fun s => sigAgain (prbDie x) (effPrbDelivery x ref exc sense ys s)) s)

/-- PLS_SAMPLE (R146): the pulse input, 0 to 31. -/
def execPlsSample (x : Nat) (s : State) : Host.Outcome State Fault Refusal := guardIx x 32 (run (fun s => sigAgain (plsDie x) (effPlsSample x s)) s)

/-- STR_DELIVERY (R164): the port. -/
def execStrDelivery (x : Nat) (s : State) : Host.Outcome State Fault Refusal := guardIx x 8 (run (fun s => sigAgain (strDie x) (effStrDelivery x s)) s)

/-- TRK_COMMIT (R176): the column. -/
def execTrkCommit (c : Nat) (s : State) : Host.Outcome State Fault Refusal := guardIx c 16 (run (fun s => sigAgain (colDie c) (effTrkCommit c s)) s)

/-- LOOP_COMMIT (R213): the loop, and the charged steps outside the program done when the period did not complete. -/
def execLoopCommit (g extra : Nat) (s : State) : Host.Outcome State Fault Refusal :=
  guardIx g 256 (run (fun s => sigAgain (loopDie g) (effLoopCommit g extra s)) s)

/-! ### Values from other dies -/

/-- EXPORT_APPLY (R222): the destination die and entry, and its lateness in ticks. -/
def execExportApply (d e : Nat) (late : Option Nat) (s : State) : Host.Outcome State Fault Refusal :=
  run (fun s => sigAgain d (effExportApply d e late s)) s

/-- SYSSIG_IMPORT_APPLY (R223): the destination die and entry, and its lateness in ticks. -/
def execSyssigImportApply (d e : Nat) (late : Option Nat) (s : State) : Host.Outcome State Fault Refusal :=
  run (fun s => sigAgain d (effSyssigImportApply d e late s)) s

/-- IMPORT_APPLY (R361): the destination die and entry. -/
def execImportApply (d e : Nat) (s : State) : Host.Outcome State Fault Refusal := run (fun s => sigAgain d (effImportApply d e s)) s

/-! ### Action rows (R266) -/

/-- An action row on its own: record `a`, of operation `op`, applied for sequence `n`. -/
def seqRow (op n a : Nat) (s : State) : State :=
  if a < 2048 ∧ bits (seqAct s a 0) 31 24 = op then sigAgainAll (seqAsked n (seqDo n a s)) else s

/-- WRITE_SIG (R266): the sequence and the action record. -/
def execWriteSig (n a : Nat) (s : State) : Host.Outcome State Fault Refusal := guardIx n 8 (run (seqRow 1 n a) s)
/-- COPY_SIG (R266): the sequence and the action record. -/
def execCopySig (n a : Nat) (s : State) : Host.Outcome State Fault Refusal := guardIx n 8 (run (seqRow 2 n a) s)
/-- LOOP_REQ (R266): the sequence and the action record. -/
def execLoopReq (n a : Nat) (s : State) : Host.Outcome State Fault Refusal := guardIx n 8 (run (seqRow 3 n a) s)
/-- LOOP_MANVAL (R266): the sequence and the action record. -/
def execLoopManval (n a : Nat) (s : State) : Host.Outcome State Fault Refusal := guardIx n 8 (run (seqRow 4 n a) s)
/-- CHAN (R274): the sequence and the action record. -/
def execSeqChan (n a : Nat) (s : State) : Host.Outcome State Fault Refusal := guardIx n 8 (run (seqRow 5 n a) s)
/-- TRK_CMD (R266): the sequence and the action record. -/
def execTrkCmd (n a : Nat) (s : State) : Host.Outcome State Fault Refusal := guardIx n 8 (run (seqRow 6 n a) s)
/-- PLS_CLR (R266): the sequence and the action record. -/
def execPlsClr (n a : Nat) (s : State) : Host.Outcome State Fault Refusal := guardIx n 8 (run (seqRow 7 n a) s)
/-- SEQ_ACT_SAFE (R276): the sequence and the action record. -/
def execSeqActSafe (n a : Nat) (s : State) : Host.Outcome State Fault Refusal := guardIx n 8 (run (seqRow 8 n a) s)
/-- SEQ_ACT_HIBERNATE (R266): the sequence and the action record. -/
def execSeqActHibernate (n a : Nat) (s : State) : Host.Outcome State Fault Refusal := guardIx n 8 (run (seqRow 9 n a) s)
/-- SEQ_ACT_LOG (R266): the sequence and the action record. -/
def execSeqActLog (n a : Nat) (s : State) : Host.Outcome State Fault Refusal := guardIx n 8 (run (seqRow 10 n a) s)
/-- SEQ_CTL (R266): the sequence and the action record. -/
def execSeqCtl (n a : Nat) (s : State) : Host.Outcome State Fault Refusal := guardIx n 8 (run (seqRow 11 n a) s)

end Sys2Proof.Machine
end

