-- ==== Sys2Proof/Machine/Crypto.lean ====
section
/-!
DEFINITION. The standards that the spec names and does not restate (R431, R437 to R440): SHA-256 (FIPS 180-4), HMAC (FIPS 198-1), AES-256 in
GCM (FIPS 197, SP 800-38D) and the verification of ECDSA over P-256 (FIPS 186-5). PRESUMED as those standards give them: log entry 3.
-/
namespace Sys2Proof.Machine

/-! ### SHA-256 and HMAC -/

/-- The round constants of SHA-256. -/
def shaK : List Nat :=
  [0x428A2F98, 0x71374491, 0xB5C0FBCF, 0xE9B5DBA5, 0x3956C25B, 0x59F111F1, 0x923F82A4, 0xAB1C5ED5]
  ++ [0xD807AA98, 0x12835B01, 0x243185BE, 0x550C7DC3, 0x72BE5D74, 0x80DEB1FE, 0x9BDC06A7, 0xC19BF174]
  ++ [0xE49B69C1, 0xEFBE4786, 0x0FC19DC6, 0x240CA1CC, 0x2DE92C6F, 0x4A7484AA, 0x5CB0A9DC, 0x76F988DA]
  ++ [0x983E5152, 0xA831C66D, 0xB00327C8, 0xBF597FC7, 0xC6E00BF3, 0xD5A79147, 0x06CA6351, 0x14292967]
  ++ [0x27B70A85, 0x2E1B2138, 0x4D2C6DFC, 0x53380D13, 0x650A7354, 0x766A0ABB, 0x81C2C92E, 0x92722C85]
  ++ [0xA2BFE8A1, 0xA81A664B, 0xC24B8B70, 0xC76C51A3, 0xD192E819, 0xD6990624, 0xF40E3585, 0x106AA070]
  ++ [0x19A4C116, 0x1E376C08, 0x2748774C, 0x34B0BCB5, 0x391C0CB3, 0x4ED8AA4A, 0x5B9CCA4F, 0x682E6FF3]
  ++ [0x748F82EE, 0x78A5636F, 0x84C87814, 0x8CC70208, 0x90BEFFFA, 0xA4506CEB, 0xBEF9A3F7, 0xC67178F2]

/-- The eight words of a SHA-256 state. -/
structure Sha where
  a : Word
  b : Word
  c : Word
  d : Word
  e : Word
  f : Word
  g : Word
  h : Word
  deriving DecidableEq, Repr

/-- The state that a message begins with. -/
def shaInit : Sha := ⟨0x6A09E667, 0xBB67AE85, 0x3C6EF372, 0xA54FF53A, 0x510E527F, 0x9B05688C, 0x1F83D9AB, 0x5BE0CD19⟩

/-- The message schedule, latest word first: `n` words more. -/
def shaSched : Nat → List Word → List Word
  | 0, w => w
  | n + 1, w =>
    let x := w.getD 14 0
    let y := w.getD 1 0
    let s0 := x.rotateRight 7 ^^^ x.rotateRight 18 ^^^ (x >>> 3)
    let s1 := y.rotateRight 17 ^^^ y.rotateRight 19 ^^^ (y >>> 10)
    shaSched n ((s1 + w.getD 6 0 + s0 + w.getD 15 0) :: w)

/-- One round: the round constant and the schedule word. -/
def shaRound (v : Sha) (x : Nat × Word) : Sha :=
  let s1 := v.e.rotateRight 6 ^^^ v.e.rotateRight 11 ^^^ v.e.rotateRight 25
  let ch := (v.e &&& v.f) ^^^ (~~~v.e &&& v.g)
  let t1 := v.h + s1 + ch + BitVec.ofNat 32 x.1 + x.2
  let s0 := v.a.rotateRight 2 ^^^ v.a.rotateRight 13 ^^^ v.a.rotateRight 22
  let maj := (v.a &&& v.b) ^^^ (v.a &&& v.c) ^^^ (v.b &&& v.c)
  ⟨t1 + (s0 + maj), v.a, v.b, v.c, v.d + t1, v.e, v.f, v.g⟩

/-- One block of 64 bytes. -/
def shaBlock (v : Sha) (b : List Byte) : Sha :=
  let w := (List.range 16).map fun i => BitVec.ofNat 32 (beAt b (4 * i) 4)
  let r := (shaK.zip (shaSched 48 w.reverse).reverse).foldl shaRound v
  ⟨v.a + r.a, v.b + r.b, v.c + r.c, v.d + r.d, v.e + r.e, v.f + r.f, v.g + r.g, v.h + r.h⟩

/-- `n` blocks in turn. -/
def shaBlocks : Nat → List Byte → Sha → Sha
  | 0, _, v => v
  | n + 1, l, v => shaBlocks n (l.drop 64) (shaBlock v (l.take 64))

/-- SHA-256 of a byte string, 32 bytes. -/
def sha256 (m : List Byte) : List Byte :=
  let p := m ++ [0x80] ++ List.replicate ((119 - m.length % 64) % 64) 0 ++ beBytes 8 (8 * m.length % 2 ^ 64)
  let v := shaBlocks (p.length / 64) p shaInit
  [v.a, v.b, v.c, v.d, v.e, v.f, v.g, v.h].flatMap fun w => beBytes 4 w.toNat

/-- HMAC-SHA-256 of a message under a key. -/
def hmacSha256 (key m : List Byte) : List Byte :=
  let k := if 64 < key.length then sha256 key else key
  let k := k ++ List.replicate (64 - k.length) 0
  sha256 (k.map (· ^^^ 0x5C) ++ sha256 (k.map (· ^^^ 0x36) ++ m))

/-! ### AES-256 and GCM -/

/-- Multiplication by x in GF(2^8). -/
def gfX (b : Byte) : Byte := if b.getLsbD 7 then (b <<< 1) ^^^ 0x1B else b <<< 1
/-- Multiplication in GF(2^8). -/
def gfMul (a b : Byte) : Byte :=
  ((List.range 8).foldl (fun (x : Byte × Byte) i => (if b.getLsbD i then x.1 ^^^ x.2 else x.1, gfX x.2)) (0, a)).1
/-- The multiplicative inverse in GF(2^8), a^254; 0 for 0. -/
def gfInv (a : Byte) : Byte :=
  ((List.range 7).foldl (fun (x : Byte × Byte) _ => let q := gfMul x.2 x.2; (gfMul x.1 q, q)) (1, a)).1
/-- SubBytes of one byte: the inverse, then the affine map. -/
def aesSub (a : Byte) : Byte :=
  let b := gfInv a
  b ^^^ b.rotateLeft 1 ^^^ b.rotateLeft 2 ^^^ b.rotateLeft 3 ^^^ b.rotateLeft 4 ^^^ 0x63

/-- The bytes of two strings added. -/
def xorBytes (a b : List Byte) : List Byte := List.zipWith (· ^^^ ·) a b

/-- The key schedule, latest word first, a word being four bytes: `n` words more, from word number `i`, with round constant `c`. -/
def aesKeys : Nat → Nat → Byte → List (List Byte) → List (List Byte)
  | 0, _, _, w => w
  | n + 1, i, c, w =>
    let t := w.getD 0 []
    let u := if i % 8 = 0 then xorBytes ((t.rotateLeft 1).map aesSub) [c, 0, 0, 0] else if i % 8 = 4 then t.map aesSub else t
    aesKeys n (i + 1) (if i % 8 = 0 then gfX c else c) (xorBytes (w.getD 7 []) u :: w)

/-- The fifteen round keys of a 32-byte key. -/
def aesRoundKeys (key : List Byte) : List (List Byte) :=
  let w := (aesKeys 52 8 1 ((List.range 8).map fun i => (key.drop (4 * i)).take 4).reverse).reverse
  (List.range 15).map fun i => ((w.drop (4 * i)).take 4).flatten

/-- ShiftRows: byte r + 4 c of the state comes from column c + r. -/
def aesShift (s : List Byte) : List Byte := (List.range 16).map fun i => byteAt s ((i + 4 * (i % 4)) % 16)
/-- MixColumns. -/
def aesMix (s : List Byte) : List Byte :=
  (List.range 16).map fun i =>
    let b := fun (k : Nat) => byteAt s (i / 4 * 4 + (i + k) % 4)
    gfX (b 0) ^^^ (gfX (b 1) ^^^ b 1) ^^^ b 2 ^^^ b 3

/-- The rounds after the first key: the last has no MixColumns. -/
def aesRounds : List (List Byte) → List Byte → List Byte
  | [], s => s
  | [k], s => xorBytes (aesShift (s.map aesSub)) k
  | k :: r, s => aesRounds r (xorBytes (aesMix (aesShift (s.map aesSub))) k)
/-- AES-256 encryption of one block under round keys. -/
def aesBlock (ks : List (List Byte)) (b : List Byte) : List Byte :=
  match ks with
  | [] => b
  | k :: r => aesRounds r (xorBytes b k)

/-- Multiplication in the field of GHASH. -/
def ghMul (x y : BitVec 128) : BitVec 128 :=
  ((List.range 128).foldl (fun (a : BitVec 128 × BitVec 128) i =>
    (if x.getMsbD i then a.1 ^^^ a.2 else a.1,
     if a.2.getLsbD 0 then (a.2 >>> 1) ^^^ (0xE1#128 <<< 120) else a.2 >>> 1)) (0, y)).1
/-- GHASH under `h` over `n` blocks, the last filled up with zeros. -/
def ghash (h : BitVec 128) : Nat → List Byte → BitVec 128 → BitVec 128
  | 0, _, y => y
  | n + 1, l, y =>
    let b := l.take 16
    ghash h n (l.drop 16) (ghMul (y ^^^ BitVec.ofNat 128 (ofBe b * 256 ^ (16 - b.length))) h)
/-- GHASH over a string, whole blocks of it. -/
def ghashOver (h : BitVec 128) (l : List Byte) (y : BitVec 128) : BitVec 128 := ghash h ((l.length + 15) / 16) l y

/-- Counter mode: `n` blocks from a counter under a 96-bit nonce. -/
def gctr (ks : List (List Byte)) (iv : List Byte) : Nat → Nat → List Byte → List Byte
  | 0, _, _ => []
  | n + 1, c, l => xorBytes (l.take 16) (aesBlock ks (iv ++ beBytes 4 (c % 2 ^ 32))) ++ gctr ks iv n (c + 1) (l.drop 16)

/-- AES-256-GCM decryption: key, 96-bit nonce, additional data, ciphertext and tag; none where the tag is wrong. -/
def aesGcmOpen (key iv aad c tag : List Byte) : Option (List Byte) :=
  let ks := aesRoundKeys key
  let h := BitVec.ofNat 128 (ofBe (aesBlock ks (List.replicate 16 0)))
  let y := ghashOver h (beBytes 8 (8 * aad.length) ++ beBytes 8 (8 * c.length)) (ghashOver h c (ghashOver h aad 0))
  if xorBytes (beBytes 16 y.toNat) (aesBlock ks (iv ++ beBytes 4 1)) = tag then some (gctr ks iv ((c.length + 15) / 16) 2 c) else none

/-! ### ECDSA over P-256 -/

/-- The prime of P-256. -/
def pP : Nat := 0xFFFFFFFF00000001000000000000000000000000FFFFFFFFFFFFFFFFFFFFFFFF
/-- The order of its base point. -/
def pN : Nat := 0xFFFFFFFF00000000FFFFFFFFFFFFFFFFBCE6FAADA7179E84F3B9CAC2FC632551
/-- The coefficient b; a is p - 3. -/
def pB : Nat := 0x5AC635D8AA3A93E7B3EBBD55769886BC651D06B0CC53B0F63BCE3C3E27D2604B
/-- The base point's x. -/
def pGx : Nat := 0x6B17D1F2E12C4247F8BCE6E563A440F277037D812DEB33A0F4A13945D898C296
/-- The base point's y. -/
def pGy : Nat := 0x4FE342E2FE1A7F9B8EE7EB4A7C0F9E162BCE33576B315ECECBB6406837BF51F5

/-- A point in Jacobian coordinates; z = 0 is the point at infinity. -/
structure Pt where
  x : Nat
  y : Nat
  z : Nat
  deriving DecidableEq, Repr

/-- x ^ e modulo m, for an exponent below 2^256. -/
def modPow (m x e : Nat) : Nat :=
  (List.range 256).foldl (fun a i => let q := a * a % m; if e.testBit (255 - i) then q * x % m else q) 1
/-- The inverse modulo a prime. -/
def modInv (m x : Nat) : Nat := modPow m x (m - 2)
/-- A difference modulo p. -/
def pSub (a b : Nat) : Nat := (a + pP - b % pP) % pP

/-- A point doubled. -/
def ptDouble (a : Pt) : Pt :=
  let zz := a.z * a.z % pP
  let yy := a.y * a.y % pP
  let s := 4 * a.x * yy % pP
  let m := 3 * pSub a.x zz * (a.x + zz) % pP
  let x := pSub (m * m) (2 * s)
  ⟨x, pSub (m * pSub s x) (8 * yy * yy), 2 * a.y * a.z % pP⟩

/-- Two points added. -/
def ptAdd (a b : Pt) : Pt :=
  if a.z = 0 then b
  else if b.z = 0 then a
  else
    let za := a.z * a.z % pP
    let zb := b.z * b.z % pP
    let ua := a.x * zb % pP
    let ub := b.x * za % pP
    let sa := a.y * zb * b.z % pP
    let sb := b.y * za * a.z % pP
    if ua = ub then if sa = sb then ptDouble a else ⟨1, 1, 0⟩
    else
      let h := pSub ub ua
      let r := pSub sb sa
      let hh := h * h % pP
      let hhh := hh * h % pP
      let v := ua * hh % pP
      let x := pSub (r * r) (hhh + 2 * v)
      ⟨x, pSub (r * pSub v x) (sa * hhh), a.z * b.z * h % pP⟩

/-- A point times a number below 2^256. -/
def ptMul (k : Nat) (a : Pt) : Pt :=
  (List.range 256).foldl (fun q i => let d := ptDouble q; if k.testBit (255 - i) then ptAdd d a else d) ⟨1, 1, 0⟩

/-- Does an ECDSA P-256 signature r, s over the SHA-256 of a message verify under the public key X, Y? -/
def ecdsaOk (key m sig : List Byte) : Bool :=
  let x := beAt key 0 32
  let y := beAt key 32 32
  let r := beAt sig 0 32
  let s := beAt sig 32 32
  let w := modInv pN s
  let q := ptAdd (ptMul (ofBe (sha256 m) * w % pN) ⟨pGx, pGy, 1⟩) (ptMul (r * w % pN) ⟨x, y, 1⟩)
  let z := modInv pP q.z
  decide (x < pP ∧ y < pP ∧ y * y % pP = (x * x * x + (pP - 3) * x + pB) % pP)
    && decide (1 ≤ r ∧ r < pN ∧ 1 ≤ s ∧ s < pN ∧ q.z ≠ 0 ∧ q.x * z % pP * z % pP % pN = r)

end Sys2Proof.Machine
end

