-- ==== Sys2Proof/Machine/Image.lean ====
section
/-!
DEFINITION. Which words the address space maps (R474, R475, Table 19-2), the configuration image and the package that carries it
(R79 to R85, R438 to R440): what a load and a verification check.
-/
namespace Sys2Proof.Machine

/-! ### Mapped words (R474, R475, Table 19-2) -/

/-- The memories of a die class: offset and size in bytes (Table 19-2). -/
def memsOf : DieClass → List (Nat × Nat)
  | .sv => [(0x800000, 0x80), (0x802000, 0x16000), (0xA00000, 0x400000), (0xE00000, 0x800)]
  | .lp => [(0x800000, 0x10000), (0x900000, 0x10000), (0xA00000, 0x10000), (0xB00000, 0x8000), (0xB08000, 0x800), (0xC00000, 0x4000),
      (0xD00000, 0x4000), (0xD04000, 0x1000), (0xD05000, 0x400), (0xD0C000, 0x1000)]
  | .dr => [(0x800000, 0x2000), (0x900000, 0x200)]
  | .nw => [(0x800000, 0x20000), (0xA00000, 0x4000), (0xB00000, 0x8000)]

/-- Is the byte address in a memory of its die, the 512 system signals of R480 among them? -/
def inMem (a : Nat) : Bool :=
  let o := a % winSize
  (memsOf (dieClass (dieOf a))).any (fun m => decide (m.1 ≤ o ∧ o < m.1 + m.2)) || (decide (dieOf a = 0 ∧ 0xA0000 ≤ o ∧ o < 0xA2000))

/-- Is the byte address in a hole of the message RAM (R342)? -/
def ramHole (a : Nat) : Bool :=
  let o := a - 0x07800000
  decide (0x07800000 ≤ a ∧ a < 0x07820000) && (decide (o < 0x1A000 ∧ 0x3340 ≤ o % 0x3400)
    || decide (0x1A000 ≤ o ∧ o < 0x1E000 ∧ 0x820 ≤ (o - 0x1A000) % 0x1000))

/-- Does the word address map a register or a memory word? -/
def mapped (a : Nat) : Bool := decide (a % 4 = 0 ∧ a < 8 * winSize) && ((inMem a && !ramHole a) || (findRow a).isSome)

/-! ### The image (R79, R80) -/

/-- A section of the image, as its directory entry gives it (Table 03-7). -/
structure ImgSec where
  kind : Nat
  index : Nat
  off : Nat
  len : Nat
  crc : Word
  deriving DecidableEq, Repr

/-- The section directory. -/
def imgSecs (img : List Byte) : List ImgSec :=
  (List.range (leAt img 0xC 2)).map fun i =>
    let e := leAt img 0x20 4 + 16 * i
    { kind := leAt img e 1, index := leAt img (e + 2) 2, off := leAt img (e + 4) 4, len := leAt img (e + 8) 4, crc := w32 (leAt img (e + 12) 4) }
/-- The bytes of a section. -/
def secBytes (img : List Byte) (x : ImgSec) : List Byte := (img.drop x.off).take x.len
/-- The first section of a type. -/
def secOf (img : List Byte) (k : Nat) : Option ImgSec := (imgSecs img).find? fun x => decide (x.kind = k)
/-- The bytes of the first section of a type; none gives an empty string. -/
def secData (img : List Byte) (k : Nat) : List Byte := ((secOf img k).map (secBytes img)).getD []
/-- The MEMORY section of an INDEX. -/
def memSec (img : List Byte) (ix : Nat) : Option ImgSec := (imgSecs img).find? fun x => decide (x.kind = 3 ∧ x.index = ix)

/-- Word `w` of entry `i` of the initialisation list (Table 03-9). -/
def initW (img : List Byte) (i w : Nat) : Nat := leAt (secData img 2) (16 * i + 4 * w) 4
/-- OP of entry `i`. -/
def initOp (img : List Byte) (i : Nat) : Nat := initW img i 0 / 0x1000000
/-- ARG of entry `i`. -/
def initArg (img : List Byte) (i : Nat) : Nat := initW img i 0 % 0x1000000
/-- The whole entries of the list's section. -/
def initMax (img : List Byte) : Nat := (secData img 2).length / 16
/-- The words a LOAD copies. -/
def loadLen (img : List Byte) (i : Nat) : Nat := match memSec img (initW img i 2) with | some x => x.len / 4 | none => 0
/-- The entries before the first END; none where there is no END. -/
def initEnd (img : List Byte) : Option Nat := (List.range (initMax img)).find? fun i => decide (initOp img i = 0)

/-! ### What a load checks (Table 03-5) -/

/-- The first image header field that fails, by its offset (R79). -/
def hdrBad (img : List Byte) : Option Nat :=
  if leAt img 0 4 ≠ 0x47495841 then some 0
  else if leAt img 4 2 ≠ 1 then some 4
  else if leAt img 6 2 ≠ 0x40 then some 6
  else if leAt img 8 4 ≠ img.length ∨ img.length % 16 ≠ 0 then some 8
  else if leAt img 0xC 2 < 1 ∨ 256 < leAt img 0xC 2 then some 0xC
  else if leAt img 0x20 4 % 16 ≠ 0 ∨ leAt img 0x20 4 < 0x40 ∨ img.length < leAt img 0x20 4 + 16 * leAt img 0xC 2 then some 0x20
  else if w32 (leAt img 0x3C 4) ≠ crc32 (img.take 0x3C) then some 0x3C
  else none

/-- Do two byte ranges meet? -/
def overlap (a n b m : Nat) : Bool := decide (0 < n ∧ 0 < m ∧ a < b + m ∧ b < a + n)

/-- The directory entries that fail (R80, Table 03-8), in order. A RUNTIME section with no room for its signature fails here: no rule names
the reason (DESIGN CHOICE, log entry 79). -/
def dirBadFrom (img : List Byte) : List ImgSec → List ImgSec → Option Nat
  | _, [] => none
  | before, x :: r =>
    let dir := leAt img 0x20 4
    let bad := decide (x.kind < 1 ∨ 6 < x.kind ∨ x.off % 16 ≠ 0 ∨ x.len % 4 ≠ 0 ∨ img.length < x.off + x.len)
      || overlap x.off x.len 0 0x40 || overlap x.off x.len dir (16 * leAt img 0xC 2)
      || before.any (fun y => overlap x.off x.len y.off y.len || decide (y.index = x.index)
          || (decide (y.kind = x.kind) && decide (x.kind = 1 ∨ x.kind = 2 ∨ x.kind = 5)))
      || (decide (x.kind = 1) && decide (x.len < 64))
    if bad then some (dir + 16 * before.length) else dirBadFrom img (before ++ [x]) r

/-- Image offset of entry `i` of the initialisation list. -/
def initOff (img : List Byte) (i : Nat) : Nat := ((secOf img 2).map fun x => x.off).getD 0 + 16 * i

/-- The first entry up to END that breaks R81 or R84; with no END, the end of the list. -/
def listBad (img : List Byte) : Option Nat :=
  let n := match initEnd img with | some e => e | none => initMax img
  match (List.range n).find? fun i =>
      decide (6 < initOp img i) || (decide (initOp img i = 3) &&
        match memSec img (initW img i 2) with
        | none => true
        | some x => decide (initArg img i ≠ 0 ∧ initArg img i * 4 ≠ x.len)) with
  | some i => some i
  | none => if (initEnd img).isSome then none else some n

/-- The image offset of the first failing field or entry of header, directory and initialisation list (Table 03-5, R81). For a section that
is missing it is that of SECTION_COUNT (R77 names none: DESIGN CHOICE, log entry 80). -/
def formatBad (img : List Byte) : Option Nat :=
  match hdrBad img with
  | some o => some o
  | none =>
    match dirBadFrom img [] (imgSecs img) with
    | some o => some o
    | none =>
      if !([1, 2, 5].all fun k => (secOf img k).isSome) then some 0xC
      else (listBad img).map (initOff img)

/-- May an initialisation list entry target this word (R85)? -/
def initTarget (a : Nat) : Bool :=
  mapped a && (decide (1 ≤ dieOf a) ||
    decide ((0x30000 ≤ a ∧ a < 0x40000) ∨ (0x70000 ≤ a ∧ a < 0x90000) ∨ (0xA0000 ≤ a ∧ a < 0xA2000) ∨ (0x800000 ≤ a ∧ a < 0x818000)
      ∨ a = Reg.SV_BOOT_RESUME_CFG ∨ a = Reg.SV_LOG_CFG ∨ (Reg.SV_LOG_POLICY 0 ≤ a ∧ a ≤ Reg.SV_LOG_POLICY 63) ∨ a = Reg.SV_UPD_CFG
      ∨ a = Reg.SV_UPD_TCFG ∨ a = Reg.SV_UPD_HOLD))

/-- The words entry `i` targets: its own ADDR, and the range of a FILL or a LOAD. -/
def initSpan (img : List Byte) (i : Nat) : Nat :=
  match initOp img i with
  | 1 => 1 | 2 => max 1 (initArg img i) | 3 => max 1 (loadLen img i) | 4 => 1 | _ => 0

/-- The first entry up to END whose target breaks R85. -/
def targetBad (img : List Byte) : Option Nat :=
  (List.range ((initEnd img).getD 0)).find? fun i =>
    (List.range (initSpan img i)).any fun k => !initTarget (initW img i 1 + 4 * k)

/-! ### The package (R438 to R440) -/

/-- PKG_LEN of the package in slot `k`. -/
def pkgLen (s : State) (k : Nat) : Nat := (norWord s (slotBase k + 8)).toNat
/-- The header of the package in slot `k`. -/
def pkgHdr (s : State) (k : Nat) : List Byte := norBytes s (slotBase k) 256
/-- The settings versions the package of slot `k` reads. -/
def pkgReads (s : State) (k : Nat) : List Nat := ((List.range 4).map fun i => leAt (pkgHdr s k) (0x20 + 2 * i) 2).filter fun v => decide (v ≠ 0)
/-- The anti-rollback number of the package in slot `k`. -/
def pkgArb (s : State) (k : Nat) : Nat := leAt (pkgHdr s k) 0x18 4
/-- IMAGE_ID of the package in slot `k`. -/
def pkgId (s : State) (k : Nat) : Nat := leAt (pkgHdr s k) 0x10 8

/-- Do the package header's own fields pass (R438, R440)? -/
def pkgHdrOk (h : List Byte) : Bool :=
  decide (leAt h 0 4 = 0x4B505841 ∧ leAt h 4 2 = 1 ∧ leAt h 6 2 = 0x100 ∧ w32 (leAt h 0xFC 4) = crc32 (h.take 0xFC)
    ∧ leAt h 8 4 ≤ 12582912 ∧ leAt h 8 4 = 256 + leAt h 0xC 4 + 64 ∧ leAt h 0x18 4 ≤ 255)
/-- Does the header agree with the image header inside (R440, Table 17-2)? -/
def pkgAgrees (h img : List Byte) : Bool :=
  decide (leAt h 0xC 4 = leAt img 8 4 ∧ leAt h 0x10 8 = leAt img 0x10 8 ∧ leAt h 0x1C 1 = leAt img 0x18 1 ∧ leAt h 0x1D 1 = leAt img 0x19 1
    ∧ leAt h 0x1E 2 = leAt img 0x1A 2)
/-- The ciphertext of slot `k`. -/
def pkgCipher (s : State) (k : Nat) : List Byte := norBytes s (slotBase k + 256) (leAt (pkgHdr s k) 0xC 4)
/-- The plaintext of slot `k` where its tag is right (R439). -/
def pkgImage (s : State) (k : Nat) : Option (List Byte) :=
  let h := pkgHdr s k
  aesGcmOpen Config.otpPkgKey ((h.drop 0x2C).take 12) (h.take 0x2C) (pkgCipher s k) ((h.drop 0x38).take 16)
/-- Is the OEM's signature right (R439)? -/
def oemOk (s : State) (k : Nat) : Bool :=
  let h := pkgHdr s k
  let key := (h.drop 0x48).take 64
  decide (sha256 key = beBytes 32 Config.otpPubHash.toNat)
    && ecdsaOk key (h ++ pkgCipher s k) (norBytes s (slotBase k + 256 + leAt h 0xC 4) 64)
/-- Is Viroth's signature over the RUNTIME section right (R439)? -/
def virothOk (img : List Byte) : Bool :=
  let b := secData img 1
  ecdsaOk Config.virothKey (b.take (b.length - 64)) (b.drop (b.length - 64))
/-- The image offset of Viroth's signature where it fails (Table 03-5 puts it before IMAGE_FORMAT): the directory lies in the image and
names a RUNTIME section that does too and has room for a signature; where not, the format fails. -/
def virothBad (img : List Byte) : Option Nat :=
  match secOf img 1 with
  | some r =>
    if leAt img 0x20 4 + 16 * leAt img 0xC 2 ≤ img.length ∧ 64 ≤ r.len ∧ r.off + r.len ≤ img.length ∧ virothOk img = false then
      some (r.off + r.len - 64)
    else none
  | none => none
/-- Is the silicon step of every die within the image's range (Table 03-5)? -/
def stepsOk (img : List Byte) : Bool :=
  (List.range 8).all fun d => decide (leAt img 0x18 1 ≤ (Config.fuseStep d).toNat ∧ (Config.fuseStep d).toNat ≤ leAt img 0x19 1)
/-- Does the header agree with the image inside, as far as the image can be read? -/
def agreesOk (s : State) (k : Nat) : Bool := match pkgImage s k with | some img => pkgAgrees (pkgHdr s k) img | none => true
/-- The first section whose CRC fails. -/
def crcBad (img : List Byte) : Option ImgSec := (imgSecs img).find? fun x => decide (x.crc ≠ crc32 (secBytes img x))
/-- The OTP anti-rollback counter. -/
def otpArb (s : State) : Nat := rdF s Reg.SV_UPD_OTP 7 0

/-- The checks of Table 03-5 from STEP through SECTION_CRC, on an image whose header and directory pass: reason and address of the first
that fails. -/
def bodyCheck (base : Nat) (img : List Byte) : Option (Nat × Nat) :=
  if !stepsOk img then some (0x07, base + 0x118)
  else match crcBad img with
    | some x => some (0x08, base + 0x100 + x.off)
    | none => none

/-- The checks of slot `k` from ROLLBACK through SECTION_CRC (Table 03-5, R440), `own` false where the package header's own checks
have passed before: its plaintext, or the first reason and its address (R77). -/
def pkgCheck (own : Bool) (s : State) (k : Nat) : Except (Nat × Nat) (List Byte) :=
  let b := slotBase k
  if pkgArb s k < otpArb s then .error (0x04, b + 0x18)
  else if own && !(pkgHdrOk (pkgHdr s k) && agreesOk s k) then .error (0x03, b + 0xFC)
  else if !oemOk s k then .error (0x03, b + pkgLen s k - 64)
  else match pkgImage s k with
    | none => .error (0x05, b + 0x38)
    | some img =>
      match virothBad img with
      | some o => .error (0x03, b + 0x100 + o)
      | none => match formatBad img with
        | some o => .error (0x06, b + 0x100 + o)
        | none => match bodyCheck b img with
          | some e => .error e
          | none => .ok img

/-- The NOR address of a read that fails while slot `k` is loaded (R77). -/
def norBad (s : State) (k : Nat) : Option Nat :=
  match s.boot.pins.norFail with
  | none => none
  | some a => if slotBase k ≤ a ∧ a < slotBase k + 0xC00000 then some a else none

/-- The checks of a load up to the initialisation list's targets (Table 03-5). -/
def loadCheck (s : State) (k : Nat) : Except (Nat × Nat) (List Byte) :=
  match norBad s k with
  | some a => .error (0x0D, a)
  | none =>
    match pkgCheck true s k with
    | .error e => .error e
    | .ok img =>
      match targetBad img with
      | some i => .error (0x09, i)
      | none => .ok img

end Sys2Proof.Machine
end

