-- ==== Sys2Proof/Machine/NetStart.lean ====
section
/-!
DEFINITION. The start checks of the CAN channels (R338, R339, R362) and of the hierarchy (R386), and what starts with them.
-/
namespace Sys2Proof.Machine

/-- The minimum quanta of 10 ns in one bit of a nominal timing word. -/
def nomQuanta (w : Word) : Nat := (bits w 4 0 + 1) * (3 + bits w 24 16 + bits w 15 9)
/-- The minimum quanta of 10 ns in one bit of a data timing word. -/
def dataQuanta (w : Word) : Nat := (bits w 4 0 + 1) * (3 + bits w 26 21 + bits w 20 16)
/-- Is a nominal timing word good (R338, Table 13-2)? -/
def nomGood (w : Word) : Bool :=
  decide (1 ≤ bits w 24 16 ∧ bits w 24 16 ≤ 255 ∧ bits w 31 25 ≤ bits w 15 9 ∧ 100 ≤ nomQuanta w ∧ nomQuanta w ≤ 800)
/-- Is a data timing word good beside a nominal one, with at least `least` quanta per bit (R338, R339)? -/
def dataGood (s : State) (n : Nat) (nom w : Word) (least : Nat) : Bool :=
  decide (bits w 31 27 ≤ bits w 20 16 ∧ least ≤ dataQuanta w ∧ dataQuanta w ≤ nomQuanta nom)
    && (rdB s (Reg.NW_CH_LDC n) 31 || !decide (bits w 4 0 ≤ 1 ∧ dataQuanta w < 100))

/-- Is an object reserved for the system (R366, Table 14-1)? -/
def objReserved (o : Nat) : Bool :=
  decide ((0x4000 ≤ o ∧ o ≤ 0x6FFF) ∨ (0x7E00 ≤ o ∧ o ≤ 0x7EFF) ∨ o = 0x7F00 ∨ o = 0x7F01)

/-- The candidates of a channel (R341). -/
def candidates (s : State) (n : Nat) : List Nat := (List.range 16).filter fun k => decide (rd s (Reg.NW_CH_RATE_N n k) ≠ 0)

/-- TIMING. -/
def canTimingBad (s : State) (n : Nat) : Bool :=
  let c := rd s (Reg.NW_CH_CFG n)
  let sets := if bits c 30 29 = 2 then
      (candidates s n).map fun k => (rd s (Reg.NW_CH_RATE_N n k), rd s (Reg.NW_CH_RATE_D n k))
    else [(rd s (Reg.NW_CH_NBT n), rd s (Reg.NW_CH_DBT n))]
  sets.any fun p => !nomGood p.1 || (bit c 28 && decide (p.2 ≠ 0) && !dataGood s n p.1 p.2 13)
    || (bit c 27 && !dataGood s n p.1 (rd s (Reg.NW_CH_XBT n)) 5)

/-- Does an enabled publication record break R360 or R366 on this channel? -/
def pubBad (s : State) (n : Nat) : Bool :=
  (List.range 256).any fun p =>
    let w0 := rd s (pubAddr p)
    let w1 := rd s (pubAddr p + 4)
    bit w0 31 && bit w0 (16 + n) &&
      (!rdB s (Reg.NW_CH_CFG n) 28 || objReserved (bits w0 14 0) || decide (bits w1 26 24 < 1 ∨ 4 < bits w1 26 24)
        || decide (rd s (pubAddr p + 12) ≠ 0))

/-- Does an enabled import record break R361 or R366 on this channel? -/
def impBad (s : State) (n : Nat) : Bool :=
  (List.range 256).any fun i =>
    let w0 := rd s (impAddr i)
    let w1 := rd s (impAddr i + 4)
    let d := bits w1 26 24
    let e := bits w1 10 0
    bit w0 31 && rdB s (impAddr i + 12) n &&
      (objReserved (bits w0 14 0) || decide (4 < d) || decide (sigCount d ≤ e) || decide (sigKind s d e ≠ 5) || decide (sigSrc s d e ≠ i))

/-- Has Nn no data set: NW_CH_DBT, or in RATE_DETECT, which loads it from a candidate (R341), any candidate's? -/
def noDataSet (s : State) (n : Nat) : Bool :=
  decide (rd s (Reg.NW_CH_DBT n) = 0)
    && !(decide (rdF s (Reg.NW_CH_CFG n) 30 29 = 2) && (candidates s n).any fun k => decide (rd s (Reg.NW_CH_RATE_D n k) ≠ 0))
/-- FORMAT. -/
def canFormatBad (s : State) (n : Nat) : Bool :=
  let c := rd s (Reg.NW_CH_CFG n)
  decide (bits c 30 29 = 3) || (bit c 27 && !bit c 28) || (bit c 25 && !bit c 27)
    || (bit c 26 && noDataSet s n)
    || decide (2 < rdF s (Reg.NW_CH_RXCFG n) 31 29) || pubBad s n || impBad s n

/-- The filter elements of Nn: first and count. -/
def fltRange (s : State) (n : Nat) : Nat × Nat := (rdF s (Reg.NW_CH_FLT n) 9 0, rdF s (Reg.NW_CH_FLT n) 26 16)
/-- Is a filter element bad (R345, R362)? -/
def elemBad (s : State) (e : Nat) : Bool :=
  let w0 := rd s (filtAddr e)
  let w1 := rd s (filtAddr e + 4)
  let w2 := rd s (filtAddr e + 8)
  decide (bits w0 24 0 ≠ 0 ∨ bits w1 31 29 ≠ 0 ∨ bits w2 31 29 ≠ 0 ∨ rd s (filtAddr e + 12) ≠ 0
    ∨ (bits w0 31 30 = 0 ∧ w2.toNat < w1.toNat))
/-- Does another enabled channel own filter element `e` too? -/
def elemShared (s : State) (n e : Nat) : Bool :=
  (List.range 8).any fun m =>
    let (b, k) := fltRange s m
    decide (m ≠ n) && rdB s (Reg.NW_CH_CFG m) 31 && decide (b ≤ e ∧ e < b + k)
/-- The first failing element of Nn, if any (R362): outside the memory, another channel's too, or bad. -/
def fltBad (s : State) (n : Nat) : Option Nat :=
  let (b, k) := fltRange s n
  ((List.range k).map fun i => b + i).find? fun e => decide (1024 ≤ e) || elemShared s n e || elemBad s e

/-- The XL buffers the enabled channels claim, one entry per claim. -/
def xlClaims (s : State) : List Nat :=
  ((List.range 8).filter fun n => rdB s (Reg.NW_CH_CFG n) 31).flatMap fun n =>
    let w := rd s (Reg.NW_CH_XLCFG n)
    (if bit w 31 then [bits w 29 28] else []) ++ (if bit w 27 then [bits w 25 24] else [])
/-- XL. -/
def canXlBad (s : State) (n : Nat) : Bool :=
  let w := rd s (Reg.NW_CH_XLCFG n)
  let mine := (if bit w 31 then [bits w 29 28] else []) ++ (if bit w 27 then [bits w 25 24] else [])
  mine.any fun x => decide (1 < (xlClaims s).count x)

/-- The first reason of R362, 0 for none. -/
def canReason (s : State) (n : Nat) : Nat :=
  if canTimingBad s n then 1 else if canFormatBad s n then 2 else if (fltBad s n).isSome then 3 else if canXlBad s n then 4
  else if rdF s (Reg.NW_CH_CFG n) 30 29 = 2 ∧ candidates s n = [] then 5 else 0

/-- The start of Nn at step 10 (R340, R362): checked, then integrating. -/
def canStart (n : Nat) (s : State) : State :=
  if rdB s (Reg.NW_CH_CFG n) 31 then
    match canReason s n with
    | 0 => let s := opstSet n 1 s; if rdF s (Reg.NW_CH_CFG n) 30 29 = 2 then startDetect n s else s
    | r =>
      let s := if r = 3 ∧ !rdB s Reg.NW_FLT_CHK 31 then
          wrN s Reg.NW_FLT_CHK (0x80000000 + n * 0x10000 + (fltBad s n).getD 0 % 1024) else s
      raiseN 0x0706 7 n r (opstSet n 7 s)
  else s

/-- The first reason of R386, 0 for none. -/
def hierReason (s : State) : Nat :=
  let c := rd s Reg.NW_HIER_CFG
  let role := bits c 31 30
  let up := bits c 26 24
  let down := bits c 23 16
  let lo := rdF s Reg.NW_HIER_BLOCK 11 0
  let hi := rdF s Reg.NW_HIER_BLOCK 27 16
  let pool := rdF s Reg.NW_HIER_POOL 11 0
  let off := fun n => !rdB s (Reg.NW_CH_CFG n) 31
  if role = 3 ∨ (role = 0 ∧ down ≠ 0) ∨ (role ≠ 0 ∧ down = 0) then 1
  else if (maskBits down 8).any off || (decide (role ≠ 2) && (decide (down / 2 ^ up % 2 = 1) || off up || decide (rdF s Reg.NW_SYN_CFG 10 8 ≠ up)))
    then 2
  else if role ≠ 0 ∧ (hi < lo ∨ pool < lo ∨ hi < pool) then 3
  else if (List.range 32).any fun k =>
      let w := rd s (Reg.NW_HIER_PROXY k)
      bit w 31 && (maskBits (bits w 23 16) 8).any fun n => !(decide (down / 2 ^ n % 2 = 1) || decide (n = up))
    then 4
  else 0

/-- The start of the hierarchy at step 10 (R386). -/
def hierStart (s : State) : State :=
  match hierReason s with
  | 0 => if isRoot s then wrF s Reg.NW_HIER_STAT 2 0 4 else s
  | r => raiseN 0x0808 7 0 r (wrF s Reg.NW_HIER_STAT 2 0 6)

end Sys2Proof.Machine
end

