-- ==== Sys2Proof/Machine/Thermal.lean ====
section
/-!
DEFINITION. Die diodes and bands, thermal SAFE, canaries, and the drift checks (R461 to R466, R471).
-/
namespace Sys2Proof.Machine

/-- May the measurement with this key be taken (at most every `period` ticks since the start)? -/
def thmMay (s : State) (key period : Nat) : Bool :=
  match s.thm.runs.find? fun x => decide (x.1 = key) with
  | some (_, t) => decide (period ≤ (s.clk.tb0 - t).toNat)
  | none => true
/-- The measurement with this key is taken now. -/
def thmRan (key : Nat) (s : State) : State :=
  { s with thm := { s.thm with runs := (s.thm.runs.filter fun x => decide (x.1 ≠ key)) ++ [(key, s.clk.tb0)] } }

/-! ### Diodes (R461 to R465) -/

/-- A die's reading (x_THM_TEMP). -/
def dieTemp (s : State) (d : Nat) : Int := rdI s (thmTemp d)
/-- The hottest die, the lowest of equals. -/
def hottest (s : State) : Nat :=
  (List.range 8).foldl (fun m d => if dieTemp s m < dieTemp s d then d else m) 0
/-- TJ_SAFE in Q16.16 °C. -/
def tjSafe (s : State) : Int := rdF s Reg.SV_THM_CFG 23 16 * 65536

/-- The thermal cause after a reading (R465). -/
def thermalJudge (s : State) : State :=
  let above := (List.range 8).any fun d => decide (tjSafe s ≤ dieTemp s d)
  let cool := (List.range 8).all fun d => decide (dieTemp s d ≤ tjSafe s - 655360)
  let hot := above || (s.thm.hot && !cool)
  let s := { s with thm := { s.thm with hot := hot } }
  let now := hot || (rdB s Reg.SV_THM_CFG 31 && decide (pkgBand s = 4))
  let was := decide (causes s / 256 % 2 = 1)
  let h := hottest s
  if now && !was then causeSet 0x100 (raise 0x0C05 0 (w32 (0x10000 + h)) (rd s (thmTemp h)) s)
  else if was && !now then causeClear 0x100 (raise 0x0C05 0 (w32 h) (rd s (thmTemp h)) s)
  else s

/-- The NOR clock follows the SV die's band (R464), after BOOT. -/
def norClock (s : State) : State :=
  let half := decide (selBand s 0 = 4) && decide (devState s ≠ 1)
  wrB (wrF s Reg.SV_NVM_STAT 15 8 (if half then s.boot.mhz / 2 else s.boot.mhz)) Reg.SV_NVM_STAT 4 half

/-- A die's band changes (R4, R461, R462, R468). -/
def bandChange (d new : Nat) (t : Int) (s : State) : State :=
  let old := selBand s d
  let s := wrF s Reg.SV_THM_BANDS (3 * d + 2) (3 * d) new
  let pkg := ((List.range 8).map (selBand s)).foldl max 0
  let s := wrF s Reg.SV_THM_BANDS 26 24 pkg
  let s := wrLater (thmStat d) 2 0 new s
  let s := raise 0x0C01 d (w32 (new + old * 16 + pkg * 256)) (i32 t) s
  replan 3 (if d = 0 then norClock s else s)

/-- The reading enters the loop die's signal entries of source die diode (Table 08-7), while sensing results are written (R47). -/
def diodeWrite (d : Nat) (t : Int) (s : State) : State :=
  let l := (List.range 2048).filter fun e => decide (sigKind s d e = 1 ∧ sigSrc s d e = 1280)
  if running s && v5Good s then sigAgain d (forEach l (fun e s => produce d e (i32 t) (nowUs s) 10000 s.clk.tb1 s) s) else s

/-- DIODE_READING (R461): die `d` reads `t` in Q16.16 °C, every 10 ms. -/
def effDiodeReading (d : Nat) (t : Int) (s : State) : State :=
  if diesUp s && thmMay s d 1000000 then
    let s := thmRan d s
    let t := sat32 t
    let s := wrI s (thmTemp d) t
    let s := if rdI s (thmTmax d) < t then wrI s (thmTmax d) t else s
    let first := !s.thm.seen.contains d
    let s := if first then { s with thm := { s.thm with seen := s.thm.seen ++ [d] } } else s
    let new := if first then bandOf t else nextBand (selBand s d) t
    let s := if 1 ≤ d ∧ d ≤ 4 then diodeWrite d t s else s
    let s := if new = selBand s d then s else bandChange d new t s
    thermalJudge s
  else s

/-- DIODE_READING (R461): the die and its reading in Q16.16 °C. -/
def execDiodeReading (d : Nat) (t : Int) (s : State) : Host.Outcome State Fault Refusal := guardIx d 8 (run (effDiodeReading d t) s)

/-! ### Canaries (R466) -/

/-- A canary run of die `d`: its laps, VCORE in mV, and whether VCORE or the band changed during the window. -/
def canary (d laps mv : Nat) (moved : Bool) (s : State) : State :=
  if moved then { s with thm := { s.thm with canary := s.thm.canary ++ [(d, s.clk.tb0 + BitVec.ofNat 64 (10 * secTicks))] } }
  else
    let a := ageFactor (Config.otpRef d mv (dieTemp s d)) laps
    let old := ageOf s d
    let base := match s.thm.logA.find? fun x => decide (x.1 = d) with | some x => x.2 | none => old
    let s := wrF s (thmCanary d) 15 0 (min 0xFFFF laps)
    let s := if a = rdN s (Reg.SV_THM_AGE d) then s else noteStored (wrN s (Reg.SV_THM_AGE d) a)
    let shift := decide (base * 100 + 65536 ≤ a * 100)
    let rest := s.thm.logA.filter fun x => decide (x.1 ≠ d)
    let s := { s with thm := { s.thm with logA := rest ++ [(d, if shift then a else base)] } }
    let s := if shift then raiseN 0x0C02 d laps a s else s
    replan 2 s

/-- CANARY_RUN (R466): first at step 10 of the start, then every 10 minutes. -/
def effCanaryRun (d laps mv : Nat) (moved : Bool) (s : State) : State :=
  if diesUp s && s.boot.loaded && thmMay s (16 + d) (600 * secTicks) then canary d laps mv moved (thmRan (16 + d) s) else s

/-- CANARY_RUN (R466): the die, its laps, VCORE in mV, and whether VCORE or the band changed during the window. -/
def execCanaryRun (d laps mv : Nat) (moved : Bool) (s : State) : Host.Outcome State Fault Refusal :=
  guardIx d 8 (run (effCanaryRun d laps mv moved) s)

/-- CANARY_RETRY (R466): 10 s after a discarded run. -/
def effCanaryRetry (d laps mv : Nat) (moved : Bool) (s : State) : State :=
  if s.thm.canary.any fun x => decide (x.1 = d) && reached s.clk.tb0 x.2 then
    canary d laps mv moved { s with thm := { s.thm with canary := s.thm.canary.filter fun x => decide (x.1 ≠ d) } }
  else s

/-- CANARY_RETRY (R466): as CANARY_RUN. -/
def execCanaryRetry (d laps mv : Nat) (moved : Bool) (s : State) : Host.Outcome State Fault Refusal :=
  guardIx d 8 (run (effCanaryRetry d laps mv moved) s)

/-! ### Drift (R471) -/

/-- Is a drift check of motion channel or probe `x` due (R471): after an hour of RUN with TACH_EN 1, or a day of an enabled probe? -/
def driftDue (probe : Bool) (x : Nat) (s : State) : Bool :=
  if probe then rdB s (Reg.LP_PRB_CFG x) 20 && thmMay s (48 + x) (86400 * secTicks)
  else mTach s x && decide (mStateNow s x = 2) && thmMay s (32 + x) (3600 * secTicks)

/-- DRIFT_CHECK (R471, Table 18-2): the mean of motion channel or probe `x` over its hour or day, against its baseline. -/
def effDriftCheck (probe : Bool) (x mean : Nat) (s : State) : State :=
  if running s && driftDue probe x s then
    let s := thmRan (if probe then 48 + x else 32 + x) s
    let a := if probe then Reg.LP_THM_GBASE (1 + x / 4) (x % 4) else Reg.DR_THM_FANBASE (5 + x / 8) (x % 8)
    let b := rdN s a
    if b = 0 then noteStored (wrN s a mean)
    else
      let pct := if probe then rdF s Reg.SV_THM_DRIFT 15 8 else rdF s Reg.SV_THM_DRIFT 23 16
      let ratio := (roundAway (mean * 65536 : Nat) b).toNat
      if probe then driftSet 3 (x % 4) (1 + x / 4) ratio (ratioOff ratio pct) s
      else driftSet 2 (x % 8) (5 + x / 8) ratio (ratioOff ratio pct) s
  else s

/-- DRIFT_CHECK (R471): whether a probe or a motion channel, its number, and the mean in Q16.16. -/
def execDriftCheck (probe : Bool) (x mean : Nat) (s : State) : Host.Outcome State Fault Refusal :=
  guardIx x 16 (run (effDriftCheck probe x mean) s)

end Sys2Proof.Machine
end

