-- ==== Sys2Proof/Machine/Boot.lean ====
section
/-!
DEFINITION. The start up to the initialisation list (chapter 3, Table 03-12 steps 1 to 7): the island's hand-over, REF_CLK, the NOR, the
boot header, slot selection and fallback.
-/
namespace Sys2Proof.Machine

/-! ### Step 1: what the island hands over (R17, R48, R59, R60, R413, R496) -/

/-- The newest NOR record, word by word. -/
def norRec (s : State) (w : Nat) : Option Word := s.log.norLast.map fun n => norWord s (slotAddr n + 4 * w)

/-- Operating seconds, TB2 and its era from the newest NOR record (R120, R411). -/
def aoClock (s : State) : State :=
  let era := ((norRec s 3).getD 0).extractLsb' 0 8
  { s with clk := { s.clk with ops := (norRec s 2).getD 0, sec := (norRec s 4).getD 0, frac := 0, sub := 0, era := era, slew := 0, slewSum := 0 } }

/-- A start after the island lost its state: the power-cycle count from the newest NOR record (R411), numbering continues past a whole
drawer (R413), and LOG_GAP is the first record. -/
def aoRecord (s : State) : State :=
  let q := (norRec s 0).getD 0xFFFFFFFF
  let w3 := (norRec s 3).getD 0
  let era := w3.extractLsb' 0 8
  let s := wrB (wrB s Reg.SV_TIME_STAT 5 false) Reg.SV_TIME_STAT 6 (decide (era = 255))
  let s := wrB (wrF s Reg.SV_LOG_PCYC 31 8 (bits w3 31 8)) Reg.SV_LOG_STAT 5 (decide (bits w3 31 8 = 0xFFFFFF))
  let s := { s with log := { s.log with next := q + 65, lastEra := era } }
  writeRec (evNow s 0x0A05 0 (q + 1) (q + 64)) 0 false false s

/-- The power-cycle count rises (R60): class S over 24 bits, its flag SV_LOG_STAT.PC_OVF. -/
def pcycCount (s : State) : State :=
  let c := pcyc s
  if c = 0xFFFFFF then s
  else
    let s := wrF s Reg.SV_LOG_PCYC 31 8 (c + 1)
    if c + 1 = 0xFFFFFF then raiseN 0x0A06 0 Reg.SV_LOG_PCYC 0 (wrB s Reg.SV_LOG_STAT 5 true) else s

/-- The records of the island (R48, R59, R67, R121, R496), before any other of this start. -/
def islandRecords (p : PwrSt) (s : State) : State :=
  let s := forEach p.island (fun e => record { e with preboot := true }) s
  let s := forEach ((List.range 4).flatMap fun r => p.lost.filter fun f => decide (f.rail = r))
    (fun f s => drainAll (railRecord { f with ev := { f.ev with preboot := true } } s)) s
  let s := match p.cold && !p.woke && !p.aoLost, p.loss with
    | true, some (sec, era) => record (evNow s 0x0011 0 sec (era.setWidth 32)) s
    | _, _ => s
  let s := if p.cold && p.woke && !p.aoLost then
      record (evNow s 0x0013 0 (rd s Reg.SV_PWR_WAKE_SRC) (w32 (((tb2Val s.clk + 2 ^ 48 - p.hibAt) % 2 ^ 48) / 65536))) s else s
  if s.time.rtcAbsent then record (evNow s 0x0107 0 1 0) { s with time := { s.time with rtcAbsent := false } } else s

/-- The count, the island's records and the nonce of step 1, and the causes present (R60, R94, R431). -/
def startRecords (p : PwrSt) (s : State) : State :=
  let s := if p.cold then pcycCount s else s
  let s := drainAll (islandRecords p s)
  let s := drainAll (forEach ([0, 1].flatMap fun r => s.pwr.faults.filter fun f => decide (f.rail = r) && f.held)
    (fun f => railRecord { f with ev := { f.ev with preboot := true } }) { s with pwr := { s.pwr with faults := s.pwr.faults.filter fun f => !f.held } })
  let (n, s) := takeFree s
  let s := wr s Reg.SV_LOG_NONCE n
  let s := wrF s Reg.SV_LOG_STAT 21 16 (s.log.head / 2048)
  forEach [0, 1] (fun r s => if railOk s r then s else causeSet (2 ^ r) s) s

/-- Step 1 (Table 03-12). -/
def startStep1 (s : State) : State :=
  let p := s.pwr
  let s := { s with pwr := { p with off := false, rst := false, cold := false, woke := false, aoLost := false, waking := false, latched := 0,
                                    lost := [], loss := none, island := [], goodAt := none } }
  let s := wrF s Reg.SV_BOOT_STAT 2 0 1
  let s := if p.cold && p.aoLost then hwSet s Reg.SV_PWR_STAT 17 else wrB s Reg.SV_PWR_STAT 17 false
  let s := if p.cold && !p.woke && !p.aoLost && p.loss.isSome then hwSet s Reg.SV_PWR_STAT 16 else wrB s Reg.SV_PWR_STAT 16 false
  let s := if p.cold then wr s Reg.SV_PWR_WAKE_CFG (resetWord Reg.SV_PWR_WAKE_CFG) else s
  let s := if p.cold && p.aoLost then keepClk aoRecord (aoClock s) else s
  keepClk (startRecords p) s

/-! ### Failure of a load (R77, R78) -/

/-- The reason and address of a load failure are shown, and IMAGE_REJECT is logged (R77, Table 03-16). -/
def rejectShow (slot : Option Nat) (r a : Nat) (s : State) : State :=
  let s := wrN (wrF s Reg.SV_BOOT_STAT 23 16 r) Reg.SV_BOOT_ERR_ADDR a
  let sl := match slot with | some k => k * 256 | none => 0x200
  raiseN 0x0002 0 (sl + r) a s

/-- What a load has written is undone (R77): die memories, the loop, drive and NW dies, and the SV die words of the list. -/
def loadUndo (s : State) : State :=
  let regs := s.regs.filterMap fun x =>
    if winSize ≤ x.1 then
      let k := keepMask 0 x.1
      let v := (x.2 &&& k) ||| (resetWord x.1 &&& ~~~k)
      if v = resetWord x.1 then none else some (x.1, v)
    else if s.boot.wrote.contains x.1 && initTarget x.1 then none
    else some x
  let s := { s with regs := regs, mem := [], boot := { s.boot with loaded := false, img := [], pc := 0, since := none, wrote := [] } }
  let s := wrB (wrB (wrF s Reg.SV_BOOT_STAT 7 4 1) Reg.SV_BOOT_STAT 8 false) Reg.SV_BOOT_STAT 10 false
  wr (wr (wr s Reg.SV_BOOT_IMG_ID_LO 0) Reg.SV_BOOT_IMG_ID_HI 0) Reg.SV_BOOT_IMG_INFO 0

/-- The load of slot `k` fails (R77, R78): undone, reported, and, but for NOR_READ, the slot marked DAMAGED. -/
def loadReject (k r a : Nat) (s : State) : State :=
  let s := rejectShow (some k) r a (loadUndo s)
  if r = 0x0D then s
  else hdrWriteStart (fun h => hdrState k 5 (if hdrActive s % 2 = k ∧ slotSt s (1 - k) = 3 then hdrName (1 - k) h else h)) s

/-- NOR base of the header region in use. -/
def hdrBase (s : State) : Nat := (hdrUse s).getD 0 * 0x10000

/-- SLOT_FALLBACK: slot `k` is not loaded, the other is tried (R76, R78). -/
def fallback (k r : Nat) (s : State) : State :=
  raiseN 0x0006 0 (k * 256 + r) (leAt (hdrCur s) 8 4) (wrB s Reg.SV_BOOT_STAT 9 true)

/-- Slot `k` passes: its image is ready for the initialisation list (Table 03-12 step 7). -/
def loadBegin (k : Nat) (img : List Byte) (s : State) : State :=
  let s := wrF (wrF s Reg.SV_BOOT_STAT 7 4 3) Reg.SV_BOOT_STAT 8 8 k
  let s := wrB s Reg.SV_BOOT_STAT 10 (decide (slotSt s k = 2))
  let s := wrN (wrN s Reg.SV_BOOT_IMG_ID_LO (leAt img 0x10 4)) Reg.SV_BOOT_IMG_ID_HI (leAt img 0x14 4)
  let s := wrN s Reg.SV_BOOT_IMG_INFO (leAt img 0x1A 2 * 0x10000 + leAt img 4 2)
  { s with boot := { s.boot with loaded := true, img := img, pc := 0, since := some s.clk.tb0, wrote := [] } }

/-! ### The log opens (R418) and a start that loads nothing (R69) -/

/-- The log region opens, once in a start (R418, R424). -/
def logOpen (s : State) : State :=
  let s := drainAll s
  if logState s ≠ 0 then s
  else if sectorBad s (s.log.head / 2048) then
    { wrF s Reg.SV_LOG_STAT 1 0 2 with log := { s.log with retryAt := some s.clk.tb0, lostEp := 0, dropEp := 0 } }
  else
    let s := wrF s Reg.SV_LOG_STAT 1 0 1
    if rdB s Reg.SV_NVM_STAT 2 then flushPending 65 s else effRecordProgramDone s

/-- The header repair of step 11 (R74). -/
def headerRepair (s : State) : State :=
  match s.boot.hdrDone, s.boot.repair with
  | false, some _ => hdrWriteStart id s
  | _, _ => s

/-- Step 11 (R89, R95, R407, Table 03-14): the state is entered, SAFE_ENTER before BOOT_DONE. -/
def bootDone (s : State) : State :=
  let s := headerRepair s
  let s := if s.boot.loaded && decide (leAt s.boot.img 0xE 2 % 2 = 1) then causeSet 0x80 s else s
  let c := causes s
  let trial := rdB s Reg.SV_BOOT_STAT 10
  let st := if c ≠ 0 then 4 else if trial then 2 else 3
  let us := min 0xFFFFFFFF ((s.clk.tb0.toNat + s.boot.lead) / 100)
  let s := if c ≠ 0 then safeEnter (raiseN 0x0003 0 c 1 s) else wrF s Reg.SV_BOOT_STAT 2 0 st
  let s := wrN (wrF s Reg.SV_BOOT_STAT 7 4 5) Reg.SV_BOOT_TIME us
  let s := raiseN 0x0001 0 (st * 0x10000 + rdF s Reg.SV_BOOT_STAT 8 8 * 256 + rdF s Reg.SV_BOOT_STAT 13 12) us s
  let s := hwSet s Reg.SV_OWN_ATTN 0
  let s := if trial then
      let s := hwSet (wrF s Reg.SV_UPD_STAT 3 0 5) Reg.SV_OWN_ATTN 6
      { s with upd := { s.upd with trialAt := some s.clk.tb0 } }
    else s
  norClock s

/-- The values of a journal are in force (R454), and are what the next commit compares with. -/
def restoreAll (vals : List (Nat × Word)) (s : State) : State :=
  let s := forEach (vals.filter fun x => inForce s x.1) restoreWord s
  rebase { s with upd := { s.upd with base := vals } }

/-- The regular journals: valid and not a shadow (R457). -/
def regular (s : State) (j : Nat) : Bool := jValid s j && !jShadow s j
/-- The regular journal of later GEN, journal 0 where that does not decide (R457). -/
def curJournal (s : State) : Option Nat :=
  match regular s 0, regular s 1 with
  | true, true => if laterN 32 (jGen s 1) (jGen s 0) then some 1 else some 0
  | true, false => some 0
  | false, true => some 1
  | false, false => none

/-- An alarm that fired in HIBERNATE stays disabled, whatever the journal restored (R56): it is a change since the last commit. -/
def alarmStays (s : State) : State :=
  if s.pwr.fired then
    let s := { s with pwr := { s.pwr with fired := false } }
    if rdB s Reg.SV_PWR_WAKE_CFG 4 then noteStored (wrB s Reg.SV_PWR_WAKE_CFG 4 false) else s
  else s

/-- A start that loads no slot ends under the recovery runtime (R69): SV die settings, the log open, SAFE. -/
def noSlot (cause : Nat) (s : State) : State :=
  let s := causeSet cause (logOpen s)
  let s := alarmStays (match curJournal s with
    | some j => restoreAll (jValues s j) (jShow j s)
    | none => rebase s)
  { bootDone s with pwr := { s.pwr with ownerRestart := false } }

/-! ### Slot selection (R76, R78, R91) -/

/-- Slot `k` is tried after the other could not be loaded. -/
def loadOther (k : Nat) (s : State) : State :=
  match loadCheck s k with
  | .ok img => loadBegin k img s
  | .error (r, a) => noSlot 4 (loadReject k r a s)

/-- The load of slot `k` has failed (R78): the other slot in the same start, once, if it is CONFIRMED. R78 does not say whether NOR_READ, which
marks no slot, falls back too, nor that the first slot is tried again: it falls back, and it is not (DESIGN CHOICE, log entry 86). -/
def loadFail (k r a : Nat) (s : State) : State :=
  let s := loadReject k r a s
  if !rdB s Reg.SV_BOOT_STAT 9 && decide (slotSt s (1 - k) = 3) then loadOther (1 - k) (fallback k r s) else noSlot 4 s

/-- A slot is chosen and tried (R76). -/
def slotSelect (s : State) : State :=
  let s := wrF s Reg.SV_BOOT_STAT 7 4 1
  let a := hdrActive s % 2
  let st := slotSt s a
  if st = 2 ∨ st = 3 then
    match loadCheck s a with
    | .ok img => loadBegin a img s
    | .error (r, e) => loadFail a r e s
  else if slotSt s (1 - a) = 3 then
    let s := wrN (wrF s Reg.SV_BOOT_STAT 23 16 0x0F) Reg.SV_BOOT_ERR_ADDR (hdrBase s)
    loadOther (1 - a) (fallback a 0x0F s)
  else if st = 4 ∨ st = 5 then noSlot 4 (wrN (wrF s Reg.SV_BOOT_STAT 23 16 0x0F) Reg.SV_BOOT_ERR_ADDR (hdrBase s))
  else noSlot 4 (rejectShow none 0x02 (hdrBase s) s)

/-! ### Steps 2 to 4 -/

/-- The cause of a start that loads nothing: RECOVERY in a recovery mode, NO_IMAGE otherwise (Table 03-15). -/
def noneCause (s : State) : Nat := if 2 ≤ s.boot.pins.mode % 4 then 8 else 4

/-- The boot header is read (R71, R74): its generation, and a region to repair. -/
def headerSelect (s : State) : State :=
  let v0 := hdrValid (hdrRead s 0)
  let v1 := hdrValid (hdrRead s 1)
  let quad := s.boot.pins.mode % 2 = 1
  let sec := if quad then s.boot.pins.sector else if (hdrUse s).isSome then (byteAt (hdrCur s) 0xD).toNat else s.boot.sector
  let s := wrF { s with boot := { s.boot with sector := sec } } Reg.SV_NVM_STAT 23 16 sec
  let s := if v0 || v1 then wrN s Reg.SV_BOOT_HDR_GEN (leAt (hdrCur s) 8 4) else s
  if v0 != v1 then
    let bad := if v0 then 1 else 0
    raiseN 0x0007 0 bad (leAt (hdrCur s) 8 4) { s with boot := { s.boot with repair := some bad } }
  else s

/-- Step 4: the NOR is identified, the headers read and, in a normal start, a slot chosen. -/
def startNor (s : State) : State :=
  let p := s.boot.pins
  let s := { s with boot := { s.boot with mhz := p.mhz } }
  let s := wr s Reg.SV_NVM_ID p.jedec
  let s := wrF (wrF s Reg.SV_NVM_STAT 31 24 p.size) Reg.SV_NVM_STAT 15 8 p.mhz
  let early := match p.norFail with | some a => if a < 0x100000 then some a else none | none => none
  let s := wrB (wrB s Reg.SV_NVM_STAT 0 (decide (p.mode % 2 = 1))) Reg.SV_NVM_STAT 2 early.isNone
  match early with
  | some a => noSlot (noneCause s) (rejectShow none 0x0D a s)
  | none =>
    let s := headerSelect s
    if (hdrUse s).isNone then noSlot (noneCause s) (rejectShow none 0x01 0 s)
    else if 2 ≤ p.mode % 4 then noSlot 8 s
    else slotSelect s

/-- The time bases at step 2 (R100, R103): TB0 from 0, TB1 from TB2; a rail fault in hand keeps its distance in TB0. -/
def startClocks (s : State) : State :=
  let c := s.clk
  let tb1 := c.sec.toNat * secTicks + c.frac.toNat * secTicks / 65536
  let s := { s with pwr := { s.pwr with v5At := s.pwr.v5At - c.tb0, faults := s.pwr.faults.map fun (f : RailFault) =>
    { f with ev := { f.ev with tick := f.ev.tick - c.tb0 } } } }
  { s with boot := { s.boot with lead := (c.tb0 - s.boot.refAt).toNat }, clk := { c with tb0 := 0, tb1 := BitVec.ofNat 64 tb1, acc := 0, rate := 0 } }

/-- Step 2 (R488): the REF_CLK check passes and the start goes on. -/
def startStep2 (s : State) : State := keepClk startNor (startClocks { s with boot := { s.boot with wait := false, loaded := false } })

/-- A start (Table 03-12): step 1, then the REF_CLK check. -/
def start (r : StartPins) (s : State) : State :=
  let s := startStep1 { s with boot := { BootSt.init with pins := r, refAt := s.clk.tb0 } }
  let s := wrB (wrF s Reg.SV_BOOT_STAT 13 12 r.mode) Reg.SV_BOOT_STAT 14 (decide (r.mode % 2 = 1))
  if r.refOk then startStep2 s
  else
    keepClk (fun s => let s := rejectShow none 0x0E 0 s; { s with boot := { s.boot with wait := true } }) s

/-! ### The commands of a start -/

/-- POWER_ON (R49): VIO, V5 and VCORE become good with RST_N high. -/
def effPowerOn (r : StartPins) (s : State) : State :=
  if s.pwr.off ∧ devState s ≠ 0 then start r (wrF s Reg.SV_PWR_STAT 3 1 7) else s

/-- POWER_ON (R49): what the start finds. -/
def execPowerOn (r : StartPins) (s : State) : Host.Outcome State Fault Refusal := runClk (effPowerOn r) s

/-- WAKE_RELEASE (R57): all rails have been good for 10 ms and the island releases the dies. -/
def effWakeRelease (r : StartPins) (s : State) : State :=
  match s.pwr.goodAt with
  | some g => if devState s = 0 ∧ s.pwr.waking ∧ railsAll s ∧ tb2Past s g 656 then start r s else s
  | none => s

/-- WAKE_RELEASE (R57): what the start finds. -/
def execWakeRelease (r : StartPins) (s : State) : Host.Outcome State Fault Refusal := runClk (effWakeRelease r) s

/-- RESET_ASSERT (R496): RST_N has been low for 1 µs; the island holds the RESTART event for step 1 of the start. -/
def effResetAssert (s : State) : State :=
  if diesUp s then warmBegin true 0 0 s else s

/-- RESET_ASSERT (R496). -/
def execResetAssert (s : State) : Host.Outcome State Fault Refusal := run effResetAssert s

/-- RESET_RELEASE (R89): the dies are released after a warm restart. -/
def effResetRelease (r : StartPins) (s : State) : State := if s.pwr.rst ∧ s.pwr.off = false then start r s else s

/-- RESET_RELEASE (R89): what the start finds. -/
def execResetRelease (r : StartPins) (s : State) : Host.Outcome State Fault Refusal := runClk (effResetRelease r) s

/-- REFCLK_LOSS (R488): every channel off and a warm restart from the island, in every state except HIBERNATE. -/
def effRefclkLoss (s : State) : State := if diesUp s ∧ s.boot.wait = false then warmBegin true 3 0 s else s

/-- REFCLK_LOSS (R488). -/
def execRefclkLoss (s : State) : Host.Outcome State Fault Refusal := run effRefclkLoss s

/-- REFCLK_CHECK (R488): a start waiting at step 2 repeats its check. -/
def effRefclkCheck (ok : Bool) (s : State) : State := if s.boot.wait && ok then startStep2 s else s

/-- REFCLK_CHECK (R488): whether the check passes. -/
def execRefclkCheck (ok : Bool) (s : State) : Host.Outcome State Fault Refusal := runClk (effRefclkCheck ok) s

end Sys2Proof.Machine
end

