-- ==== Sys2Proof/Machine/View.lean ====
section
/-!
DEFINITION. Words that follow the state: what a register reads as now, whoever reads it.
-/
namespace Sys2Proof.Machine

/-- The binding that NW_HIER_BIND_IDX selects. -/
def bindSel (s : State) : Option Binding :=
  (s.net.bindings.find? fun x => decide (x.1 = rdF s Reg.NW_HIER_BIND_IDX 8 0)).map fun x => x.2

/-- Whole seconds until the next retry kick of a motion channel, rounded up (R327). -/
def motNext (s : State) (x : Nat) : Nat :=
  if (mOf s x).ph = 4 then min 0xFFFF (((mOf s x).retryAt - s.clk.tb0).toNat / secTicks + b2n (decide (((mOf s x).retryAt - s.clk.tb0).toNat % secTicks ≠ 0)))
  else 0

/-- Does R63 limit the 0 to 10 V output of a motion channel now? d is in 0.01 %, 1 mV each. -/
def aoutLim (s : State) (x : Nat) : Bool :=
  let sel := rdF s (Reg.DR_MOT_CFG x) 28 27
  decide (sel = 1 ∨ sel = 2) && decide (0 < rdF s (Reg.DR_MOT_SPEED x) 15 0 ∧ monOf s 0 < 3000 + rdF s (Reg.DR_MOT_SPEED x) 15 0)

/-- The die and entry whose w0 is at an address, when one is (R221, R480). -/
def sigAt (a : Nat) : Option (Nat × Nat) :=
  let d := dieOf a
  let o := a % winSize
  let base := if d = 0 then 0xA0000 else 0xB00000
  if (d = 0 ∨ (1 ≤ d ∧ d ≤ 4)) ∧ base ≤ o ∧ o < base + 16 * sigCount d ∧ o % 16 = 0 then some (d, (o - base) / 16) else none

/-- A word of the SV die that follows the state. -/
def liveSv (s : State) (a : Nat) (w : Word) : Word :=
  if a = Reg.SV_TIME_STAT then setBits w 1 0 (inUse s)
  else match (List.range 8).find? fun n => decide (a = Reg.SV_SEQ_TIME n) with
    | some n => setBits w 30 0 (seqSec s n)
    | none => w
/-- A word of the NW die that follows the state. -/
def liveNw (s : State) (a : Nat) (w : Word) : Word :=
  if a = Reg.NW_HIER_BIND_SER_LO then w32 (((bindSel s).map fun b => b.serial).getD 0)
  else if a = Reg.NW_HIER_BIND_SER_HI then w32 (((bindSel s).map fun b => b.serial / 2 ^ 32).getD 0)
  else if a = Reg.NW_HIER_BIND_ADDR then w32 (((bindSel s).map fun b => 0x80000000 + b.ch * 0x1000000 + b.addr).getD 0)
  else w
/-- A word of a drive die that follows the state. -/
def liveDr (s : State) (a : Nat) (w : Word) : Word :=
  let o := a % winSize
  let x := (dieOf a - 5) * 8 + (o - 0x50000) / 0x100
  if 0x50000 ≤ o ∧ o < 0x50800 ∧ a = Reg.DR_MOT_NEXT x then w32 (motNext s x)
  else if 0x50000 ≤ o ∧ o < 0x50800 ∧ a = Reg.DR_MOT_STAT x then setBit w 5 (aoutLim s x && decide (rdF s a 3 0 ≠ 0 ∧ rdF s a 3 0 ≠ 7))
  else w
/-- A register word as it reads: WO fields read 0 (R11), and the words that follow the state are formed now. -/
def liveReg (s : State) (r : RegRow) (a : Nat) : Word :=
  let w := rd s a &&& ~~~ (w32 r.wo)
  match dieClass (dieOf a) with
  | .sv => liveSv s a w
  | .lp => if a % winSize = 0x1000C then Config.engBusy (dieOf a) s.clk.tb0.toNat else w
  | .dr => liveDr s a w
  | .nw => liveNw s a w
/-- The word at an address as the device itself reads it. -/
def liveWord (s : State) (a : Nat) : Word :=
  match timeWord s a with
  | some w => w
  | none => match findRow a with | some r => liveReg s r a | none => rd s a

end Sys2Proof.Machine
end

