-- ==== Sys2Proof/Machine/BootEnd.lean ====
section
/-!
DEFINITION. The initialisation list (R81 to R85) and the end of a start (Table 03-12 steps 8 to 11): settings, start marks, budget, start
checks; restarts and trial failure (R98, R451), and LOCKSTEP.
-/
namespace Sys2Proof.Machine

/-! ### Trial failure (R451) -/

/-- The loaded slot (SV_BOOT_STAT.SLOT). -/
def slotNow (s : State) : Nat := rdF s Reg.SV_BOOT_STAT 8 8
/-- Is the loaded slot unconfirmed (SV_BOOT_STAT.TRIAL)? -/
def inTrial (s : State) : Bool := rdB s Reg.SV_BOOT_STAT 10

/-- Was the trial confirmed at this very tick (R459)? -/
def confirmedNow (s : State) : Bool := match s.upd.undo with | some u => decide (u.tick = s.clk.tb0) | none => false
/-- A confirmation of this tick is undone: a failure of the same tick prevails (R459). -/
def trialUndo (s : State) : State :=
  match s.upd.undo with
  | none => s
  | some u =>
    if u.tick = s.clk.tb0 then
      let a := u.region * 0x10000
      let s := norPutBytes (norErase s a (a + 0x10000)) a u.bytes
      let b := jBase (jCur s) + 0x28
      let s := if u.mark then wrB (norErase s b (b + 1)) Reg.SV_UPD_STAT 9 true else s
      let s := wrN (wrF s Reg.SV_UPD_OTP 7 0 u.arb) Reg.SV_BOOT_HDR_GEN u.gen
      let s := wrN (wrF (wrB s Reg.SV_BOOT_STAT 10 true) Reg.SV_UPD_STAT 3 0 u.state) Reg.SV_UPD_TSEC u.tsec
      { s with
        upd := { s.upd with undo := none, trialAt := u.trialAt }
        log := { s.log with raised := s.log.raised.filter fun e => !decide (e.tick = s.clk.tb0 ∧ (e.code = 0x0B05 ∨ e.code = 0x0B09)) } }
    else s

/-- The trial fails (R451): `unread` gives the journal version found and the address not placed, for cause SETTINGS. -/
def trialFail (cause : Nat) (unread : Option (Nat × Nat)) (s : State) : State :=
  let s := trialUndo s
  let k := slotNow s
  let s := match unread with
    | some (v, a) => raiseN 0x0B07 0 v (a / 2 * 2 + 1) s
    | none => s
  let s := raiseN 0x0B06 0 (k * 256 + cause * 0x10000) (rdF s Reg.SV_UPD_TRIAL 11 8) s
  let s := hdrWrite (fun h => hdrState k 4 (if slotSt s (1 - k) = 3 then hdrName (1 - k) h else h)) s
  warmBegin false 2 0 (wrF s Reg.SV_UPD_TRIAL 19 16 cause)

/-! ### Step 9: the settings store (R18, R40, R452, R457, R458) -/

/-- The values of the image's SETTINGS_DEFAULTS section (Table 03-8). -/
def defaultVals (s : State) : List (Nat × Word) :=
  let b := secData s.boot.img 4
  lastValues ((List.range (b.length / 16)).filterMap fun i => entryOf16 ((b.drop (16 * i)).take 16))

/-- Entries migrated by the loaded runtime (R457), or the first that can be neither placed nor declared obsolete. -/
def migrateAll (was new : Nat) : List (Nat × Word) → Except Nat (List (Nat × Word))
  | [] => .ok []
  | x :: r =>
    match (if was = new then some (some (w32 x.1, x.2)) else Config.migrate was new (w32 x.1) x.2) with
    | none => .error x.1
    | some y =>
      match migrateAll was new r with
      | .error a => .error a
      | .ok l => .ok (match y with | none => l | some (a, v) => (a.toNat, v) :: l)

/-- SETTINGS_DEFAULTS are in force (R18, R457). -/
def applyDefaults (s : State) : State := rebase (forEach (defaultVals s) restoreWord s)

/-- The journal cannot be read outside TRIAL (R458). -/
def settingsRo (c a : Nat) (s : State) : State :=
  let s := applyDefaults (jShow c s)
  raiseN 0x0B07 0 (jVer s c) (a / 2 * 2) (wrB s Reg.SV_UPD_STAT 11 true)

/-- A shadow is written in TRIAL (R457). -/
def shadowNew (j gen : Nat) (vals : List (Nat × Word)) (s : State) : State :=
  restoreAll vals (wrB (jNew j (imgSettings s) gen true vals s) Reg.SV_UPD_STAT 9 true)

/-- The journal of this start outside TRIAL (R457, R458). -/
def settingsRegular (s : State) : State :=
  match curJournal s with
  | none => applyDefaults s
  | some c =>
    if !(pkgReads s (slotNow s)).contains (jVer s c) then settingsRo c 0 s
    else if jVer s c = imgSettings s then restoreAll (jValues s c) (jBindLoad c (jShow c s))
    else match migrateAll (jVer s c) (imgSettings s) (jValues s c) with
      | .error a => settingsRo c a s
      | .ok vals => restoreAll vals (jNew (1 - c) (imgSettings s) ((jGen s c + 1) % 2 ^ 32) false vals (jBindLoad c s))

/-- The journal of this start in TRIAL (R457). -/
def settingsTrial (s : State) : State :=
  match curJournal s with
  | none =>
    let s := applyDefaults s
    shadowNew 0 1 (storedVals s) s
  | some c =>
    if !(pkgReads s (slotNow s)).contains (jVer s c) then trialFail 1 (some (jVer s c, 0)) s
    else match migrateAll (jVer s c) (imgSettings s) (jValues s c) with
      | .error a => trialFail 1 (some (jVer s c, a)) s
      | .ok vals => shadowNew (1 - c) ((jGen s c + 1) % 2 ^ 32) vals (jBindLoad c s)

/-- The settings at step 9 (R457). -/
def settingsStart (s : State) : State :=
  let s := wrB (wrB s Reg.SV_UPD_STAT 9 false) Reg.SV_UPD_STAT 11 false
  match [0, 1].find? fun j => jShadow s j && decide (jImage s j = imgId s) with
  | some j =>
    if slotSt s (slotNow s) = 3 then settingsRegular (norPutBytes s (jBase j + 0x28) [0])
    else if inTrial s then restoreAll (jValues s j) (jBindLoad j (jShow j (wrB s Reg.SV_UPD_STAT 9 true)))
    else settingsRegular s
  | none => if inTrial s then settingsTrial s else settingsRegular s

/-- The start mark of a start in TRIAL (R452). -/
def startMark (s : State) : State :=
  if inTrial s then
    let j := jCur s
    let m := jMarks s j
    let s := wrF s Reg.SV_UPD_TRIAL 11 8 m
    if s.pwr.ownerRestart then s
    else if 4 ≤ m then trialFail 2 none s
    else wrF (norPutBytes s (jBase j + 0x20 + m) [0]) Reg.SV_UPD_TRIAL 11 8 (m + 1)
  else s

/-! ### Step 9: the budget (R87, R88) -/

/-- The producer period in µs of an entry that its own die writes (R222): 0 where nothing does. -/
def srcPeriod (s : State) (d e : Nat) : Nat :=
  let v := sigSrc s d e
  let i := v % 256
  match sigKind s d e with
  | 1 =>
    match v / 256 with
    | 0 => if i < 16 then rdN s (Reg.LP_AIN_PERIOD (16 * (d - 1) + i)) else 0
    | 1 | 2 => if i < 4 then rdN s (Reg.LP_PRB_PERIOD (4 * (d - 1) + i)) else 0
    | 3 => if i < 8 then rdN s (Reg.LP_PLS_PERIOD (8 * (d - 1) + i)) else 0
    | 4 => if i < 128 then rdN s (Reg.LP_STR_PERIOD (2 * (d - 1) + i / 64)) else 0
    | 5 => 10000
    | _ => 0
  | 2 => colT s (4 * (d - 1) + i / 8 % 4)
  | 3 => loopT s (64 * (d - 1) + i / 4)
  | _ => 0

/-- The producer period of any loop-die entry. -/
def entryPeriod (s : State) (d e : Nat) : Nat :=
  match sigKind s d e with
  | 4 =>
    let q := sigSrcDie s d e
    if q = 0 then 10000 else if q ≤ 4 then srcPeriod s q (sigSrc s d e) else if q ≤ 6 then 10000 else 0
  | 5 => if sigSrc s d e < 256 then rdN s (impAddr (sigSrc s d e) + 8) else 0
  | _ => srcPeriod s d e

/-- The sum of the rates of periods in µs, per second, rounded up (R87). -/
def rateSum (l : List Nat) : Nat :=
  let q : Rat := l.foldl (fun a T => if T = 0 then a else a + (1000000 : Rat) / (T : Rat)) 0
  (-(Int.fdiv (-q.num) q.den)).toNat

/-- The transfers on the link of die `l`, as periods (R87). -/
def linkPeriods (s : State) (l : Nat) : List Nat :=
  let exps := [1, 2, 3, 4].flatMap fun d => ((List.range 512).filter fun i =>
      let w := rd s (expAddr d i)
      bit w 31 && decide ((if bits w 26 24 = 0 then d else bits w 26 24) = l)).map fun i => srcPeriod s d (bits (rd s (expAddr d i)) 10 0)
  let imps := if 1 ≤ l ∧ l ≤ 4 then
      ((List.range 2048).filter fun e => decide (sigKind s l e = 4 ∧ (sigSrcDie s l e = 0 ∨ sigSrcDie s l e = 5 ∨ sigSrcDie s l e = 6))).map
        fun _ => 10000
    else []
  let bound := fun (w : Word) => srcPeriod s (bits w 26 24) (bits w 10 0)
  let drv := if l = 5 ∨ l = 6 then
      ((List.range 12).map fun i => (rd s (Reg.DR_VCH_CFG (12 * (l - 5) + i)), rd s (Reg.DR_VCH_BIND (12 * (l - 5) + i))))
        ++ ((List.range 8).map fun i => (rd s (Reg.DR_MOT_CFG (8 * (l - 5) + i)), rd s (Reg.DR_MOT_BIND (8 * (l - 5) + i))))
    else []
  let binds := (drv.filter fun x => bit x.1 31 && bit x.2 31).map fun x => bound x.2
  let pubs := if l = 7 then ((List.range 256).filter fun p => rdB s (pubAddr p) 31).map fun p =>
      entryPeriod s (rdF s (pubAddr p + 4) 26 24) (rdF s (pubAddr p + 4) 10 0) else []
  let bus := ((List.range 256).filter fun i =>
      let d := rdF s (impAddr i + 4) 26 24
      rdB s (impAddr i) 31 && decide ((if d = 0 then 7 else d) = l)).map fun i => rdN s (impAddr i + 8)
  exps ++ imps ++ binds ++ pubs ++ bus

/-- The budget record's word `i` (Table 03-11). -/
def budgetRec (s : State) (i : Nat) : Nat := leAt (secData s.boot.img 5) (4 * i) 4

/-- The loads are recomputed (R87). -/
def budgetLoads (s : State) : State :=
  { s with thm := { s.thm with loads := [1, 2, 3, 4, 5, 6, 7].map fun l => (l, rateSum (linkPeriods s l)) } }

/-- The reason for which the budget rejects the image (R87), 0 for none. -/
def budgetReason (s : State) : Nat :=
  if ([1, 2, 3, 4].any fun d => decide (budgetRec s (d - 1) ≠ stepLoad s d))
      || ([1, 2, 3, 4, 5, 6, 7].any fun d => decide (budgetRec s (d + 3) ≠ linkLoad s d)) then 0x0C
  else if ([1, 2, 3, 4].any fun d => decide (12000000 < stepLoad s d)) || ([1, 2, 3, 4, 5, 6, 7].any fun d => decide (2000000 < linkLoad s d))
    then 0x0B
  else 0

/-- BUDGET_SHORT (R88), once for each die concerned. -/
def budgetShort (s : State) : State :=
  let m := fun d => ((s.thm.plan.find? fun x => decide (x.1 = d)).map fun x => x.2.2.1).getD 65536
  forEach [1, 2, 3, 4, 5, 6, 7] (fun d s =>
    if stepShort s d (m d) then raiseN 0x0009 0 d (rdN s (Reg.LP_ENG_LOAD d)) s
    else if linkShort s d (m 0) (m d) then raiseN 0x0009 0 d (linkLoad s d) s
    else s) s

/-! ### Steps 10 and 11 -/

/-- Step 10 (Table 03-12): front ends, columns, loops, sequences, drive dies and CAN controllers are checked and enabled. -/
def startUnits (s : State) : State :=
  let s := forEach (List.range 64) ainStartCheck s
  let s := forEach (List.range 16) prbStartCheck s
  let s := forEach (List.range 32) plsStartCheck s
  let s := forEach (List.range 8) strStartCheck s
  let s := forEach [1, 2, 3, 4] trkDieCheck s
  let s := forEach [1, 2, 3, 4] loopDieStart s
  let s := seqStartAll s
  let s := forEach (List.range 24) vchStartCheck s
  let s := forEach (List.range 16) motStartCheck s
  let s := forEach (List.range 8) canStart s
  hierStart s

/-- The anti-rollback counter advances to the number of a CONFIRMED package (R448). -/
def arbAdvance (arb : Nat) (s : State) : State :=
  let old := otpArb s
  if old < arb then raiseN 0x0B09 0 old arb (wrF s Reg.SV_UPD_OTP 7 0 arb) else s

/-- Step 11 with an image loaded. -/
def startRun (s : State) : State :=
  let s := if slotSt s (slotNow s) = 3 then arbAdvance (pkgArb s (slotNow s)) s else s
  startJoin (driveJudge (bootDone s))

/-- Steps 9 to 11 (Table 03-12), after the initialisation list. -/
def bootFinish (s : State) : State :=
  let s := settingsStart (logOpen (wrF s Reg.SV_BOOT_STAT 7 4 4))
  if s.pwr.rst then s
  else
    let s := startMark s
    if s.pwr.rst then s
    else
      let s := alarmStays { s with pwr := { s.pwr with ownerRestart := false } }
      let s := budgetLoads (forEach [1, 2, 3, 4] loopDieCheck s)
      match budgetReason s with
      | 0 => startRun (startUnits (budgetShort (replan 1 s)))
      | r =>
        let k := slotNow s
        loadFail k r (slotBase k + 0x100 + ((secOf s.boot.img 5).map fun x => x.off).getD 0) s

/-! ### The initialisation list (R81 to R85) -/

/-- Is the list at an entry with this OP? -/
def initAt (op : Nat) (s : State) : Bool :=
  s.boot.loaded && decide (rdF s Reg.SV_BOOT_STAT 7 4 = 3) && decide (devState s = 1) && decide (initOp s.boot.img s.boot.pc = op)
/-- ADDR of the entry the list is at. -/
def initAddr (s : State) : Nat := initW s.boot.img s.boot.pc 1
/-- The list goes on to its next entry. -/
def initNext (s : State) : State := { s with boot := { s.boot with pc := s.boot.pc + 1, since := some s.clk.tb0 } }
/-- Microseconds since the entry was reached. -/
def initWaited (s : State) : Nat := match s.boot.since with | some t => (s.clk.tb0 - t).toNat / 100 | none => 0

/-- The bits that a memory word holds: reserved fields are ignored and read 0 (R13; Table 07-3, R210, R361, Tables 08-6 and 08-8). -/
def memMask (a : Nat) : Word :=
  let d := dieOf a
  let o := a % winSize
  if (sigAt (a / 16 * 16)).isSome then
    if o % 16 = 4 then 0x1FFFF else if o % 16 = 12 then 0xFF0007FF else 0xFFFFFFFF
  else if 1 ≤ d ∧ d ≤ 4 then
    if 0x900000 ≤ o ∧ o < 0x910000 ∧ o % 8 = 4 then 0x1F
    else if 0xB08000 ≤ o ∧ o < 0xB08800 then 0x873FFFFF
    else if 0xC00000 ≤ o ∧ o < 0xC04000 ∧ o % 32 = 24 then 0xF7F
    else 0xFFFFFFFF
  else if d = 7 ∧ 0x81F000 ≤ o ∧ o < 0x820000 ∧ o % 16 = 12 then 0xFFFF80FF
  else 0xFFFFFFFF
/-- Is the word a state word Z of a loop (R254: it holds what the list wrote)? -/
def isLoopZ (a : Nat) : Bool :=
  let o := a % winSize
  let g := (dieOf a - 1) * 64 + (o - 0x20000) / 0x100
  decide (1 ≤ dieOf a ∧ dieOf a ≤ 4 ∧ 0x20000 ≤ o ∧ o < 0x24000) && (List.range 16).any fun k => decide (a = Reg.LP_LOOP_Z g k)

/-- The list writes the bits `m` of the word at `a` (R83): fields that a write can change; a 1 clears a W1C bit. -/
def initPut (a : Nat) (v m : Word) (s : State) : State :=
  let old := rd s a
  let s := if a < winSize then { s with boot := { s.boot with wrote := s.boot.wrote ++ [wordBase a] } } else s
  if inMem a then wr s a ((old &&& ~~~(m &&& memMask a)) ||| (v &&& m &&& memMask a))
  else if isLoopZ a then wr s a ((old &&& ~~~m) ||| (v &&& m))
  else match findRow a with
    | none => s
    | some r =>
      let k := m &&& (w32 r.cfg ||| w32 r.rw ||| w32 r.rws)
      wr s a (((old &&& ~~~k) ||| (v &&& k)) &&& ~~~(v &&& m &&& ~~~(hwBits s a) &&& w32 r.w1c))

/-- INIT_WRITE (R81, R82): a masked write of one word; one of the sequence tables has no effect there (R263). -/
def effInitWrite (s : State) : State :=
  if initAt 1 s then
    let a := initAddr s
    if dieOf a = 0 ∧ 0x800000 ≤ a ∧ a < 0x818000 then initNext s
    else initNext (initPut a (w32 (initW s.boot.img s.boot.pc 2)) (w32 (initW s.boot.img s.boot.pc 3)) s)
  else s

/-- INIT_WRITE (R81). -/
def execInitWrite (s : State) : Host.Outcome State Fault Refusal := run effInitWrite s

/-- INIT_FILL (R81): ARG words from ADDR take VALUE. -/
def effInitFill (s : State) : State :=
  if initAt 2 s then
    let a := initAddr s
    let v := w32 (initW s.boot.img s.boot.pc 2)
    initNext (forEach (List.range (initArg s.boot.img s.boot.pc)) (fun i => initPut (a + 4 * i) v 0xFFFFFFFF) s)
  else s

/-- INIT_FILL (R81). -/
def execInitFill (s : State) : Host.Outcome State Fault Refusal := run effInitFill s

/-- INIT_LOAD (R81, R84): a MEMORY section is copied to ADDR. -/
def effInitLoad (s : State) : State :=
  if initAt 3 s then
    let a := initAddr s
    let b := ((memSec s.boot.img (initW s.boot.img s.boot.pc 2)).map (secBytes s.boot.img)).getD []
    initNext (forEach (List.range (b.length / 4)) (fun i => initPut (a + 4 * i) (w32 (leAt b (4 * i) 4)) 0xFFFFFFFF) s)
  else s

/-- INIT_LOAD (R81). -/
def execInitLoad (s : State) : Host.Outcome State Fault Refusal := run effInitLoad s

/-- Does the word a POLL reads satisfy it? It is the word as it reads now (Table 03-10). -/
def pollHolds (s : State) : Bool :=
  let w := liveWord s (initAddr s)
  decide (w &&& w32 (initW s.boot.img s.boot.pc 3) = w32 (initW s.boot.img s.boot.pc 2))

/-- INIT_POLL (R81): the list goes on once the masked word equals VALUE. -/
def effInitPoll (s : State) : State := if initAt 4 s && pollHolds s then initNext s else s

/-- INIT_POLL (R81). -/
def execInitPoll (s : State) : Host.Outcome State Fault Refusal := run effInitPoll s

/-- INIT_POLL_TIMEOUT (R77, R78): ARG µs have passed without it. -/
def effInitPollTimeout (s : State) : State :=
  if initAt 4 s && !pollHolds s && decide (initArg s.boot.img s.boot.pc ≤ initWaited s) then loadFail (slotNow s) 0x0A s.boot.pc s else s

/-- INIT_POLL_TIMEOUT (R77). -/
def execInitPollTimeout (s : State) : Host.Outcome State Fault Refusal := run effInitPollTimeout s

/-- INIT_BARRIER (R82): every earlier write has been acknowledged. -/
def execInitBarrier (s : State) : Host.Outcome State Fault Refusal := run (fun s => if initAt 5 s then initNext s else s) s

/-- INIT_DELAY (R81): ARG µs have passed. -/
def effInitDelay (s : State) : State :=
  if initAt 6 s && decide (initArg s.boot.img s.boot.pc ≤ initWaited s) then initNext s else s

/-- INIT_DELAY (R81). -/
def execInitDelay (s : State) : Host.Outcome State Fault Refusal := run effInitDelay s

/-- INIT_END (R81): the list ends and the start goes on to step 11. -/
def effInitEnd (s : State) : State := if initAt 0 s then bootFinish s else s

/-- INIT_END (R81). -/
def execInitEnd (s : State) : Host.Outcome State Fault Refusal := run effInitEnd s

/-! ### Restarts (R98, R446) and LOCKSTEP (Table 03-15, R451) -/

/-- The owner write of SV_BOOT_CTRL.RESTART (R98): the restart follows 10 ms after. -/
def opRestart (p : PortId) : WOp := wOk fun s => { s with boot := { s.boot with restartAt := some (s.clk.tb0 + 1000000, portCode p) } }

/-- RESTART (R98): the writing port. -/
def execRestart (p : PortId) (s : State) : Host.Outcome State Fault Refusal := run (ownerWrite p Reg.SV_BOOT_CTRL (opRestart p)) s

/-- OWNER_RESTART_EXEC (R98): 10 ms after the write was acknowledged. -/
def effOwnerRestartExec (s : State) : State :=
  match s.boot.restartAt with
  | some (t, port) => if diesUp s && reached s.clk.tb0 t then warmBegin false 1 port s else s
  | none => s

/-- OWNER_RESTART_EXEC (R98). -/
def execOwnerRestartExec (s : State) : Host.Outcome State Fault Refusal := run effOwnerRestartExec s

/-- ACTIVATION_RESTART (R446): 10 ms after the activation's header write. -/
def effActivationRestart (s : State) : State :=
  match s.upd.restartAt with
  | some t => if diesUp s && reached s.clk.tb0 t then warmBegin false 3 0 s else s
  | none => s

/-- ACTIVATION_RESTART (R446). -/
def execActivationRestart (s : State) : Host.Outcome State Fault Refusal := run effActivationRestart s

/-- LOCKSTEP_FAULT (Table 03-15, Table 03-16, R451): the SV cores disagree. -/
def effLockstepFault (pc : Nat) (s : State) : State :=
  if diesUp s then
    let s := causeSet 0x40 (raise 0x000B 0 (w32 pc) (s.clk.tb0.extractLsb' 0 32) s)
    if inTrial s || confirmedNow s then trialFail 5 none s else s
  else s

/-- LOCKSTEP_FAULT: the core's program counter at detection. -/
def execLockstepFault (pc : Nat) (s : State) : Host.Outcome State Fault Refusal := run (effLockstepFault pc) s

end Sys2Proof.Machine
end

