-- ==== Sys2Proof/Machine/Update.lean ====
section
/-!
DEFINITION. Field update (chapter 17): the session, verification, activation, the trial, commits, the site key; and the NOR reset of R479.
-/
namespace Sys2Proof.Machine

/-! ### The session (R441 to R444) -/

/-- SV_UPD_STAT.STATE: 0 IDLE, 1 RECEIVING, 2 VERIFYING, 3 READY, 4 ACTIVATING, 5 TRIAL, 6 REJECTED, 7 ABORTED. -/
def updState (s : State) : Nat := rdF s Reg.SV_UPD_STAT 3 0
/-- The state changes, and SV_OWN_ATTN.UPD is set (R407). -/
def updGo (v : Nat) (s : State) : State :=
  if updState s = v then s else hwSet (wrF s Reg.SV_UPD_STAT 3 0 v) Reg.SV_OWN_ATTN 6
/-- The target slot (R441): the one not loaded; with none loaded B where only A is CONFIRMED, A otherwise. -/
def updTarget (s : State) : Nat :=
  if s.boot.loaded then 1 - slotNow s else if slotSt s 0 = 3 ∧ slotSt s 1 ≠ 3 then 1 else 0
/-- SV_UPD_NEXT. -/
def updNext (s : State) : Nat := rdN s Reg.SV_UPD_NEXT

/-- Erase slot `k`. -/
def slotErase (k : Nat) (s : State) : State :=
  (List.range 192).foldl (fun s i => noteErase (2 + k) i s) (norErase s (slotBase k) (slotBase k + 0xC00000))

/-- UPD_REFUSED (R441, R445). -/
def updRefused (guards act port : Nat) (s : State) : State := raiseN 0x0B03 0 guards (act + port * 256) s

/-- NEXT has reached the length: the slot is read back (R444). -/
def updFull (s : State) : State := if updNext s = s.upd.size then updGo 2 s else s

/-- A session opens (R441): the target is marked EMPTY before it is erased. -/
def updOpen (p : PortId) (s : State) : State :=
  let k := updTarget s
  let s := slotErase k (hdrWrite (hdrState k 0) s)
  let s := wrN (wrN s Reg.SV_UPD_NEXT 0) Reg.SV_UPD_SRC (portAddr p * 0x10000 + portCode p)
  let s := { s with upd := { s.upd with size := rdN s Reg.SV_UPD_LEN, idle := s.clk.tb0, prog := false } }
  updFull (updGo 1 s)

/-- The owner write of SV_UPD_CTRL.BEGIN (R441). -/
def opBegin (p : PortId) : WOp := fun s =>
  if updState s = 1 ∨ updState s = 2 ∨ updState s = 3 ∨ updState s = 4 ∨ inTrial s then (.refused, updRefused 0x20 1 (portCode p))
  else (.ok, updOpen p)

/-- BEGIN (R441): the writing port. -/
def execUpdBegin (p : PortId) (s : State) : Host.Outcome State Fault Refusal := run (ownerWrite p Reg.SV_UPD_CTRL (opBegin p)) s

/-- Package bytes are placed at NEXT (R442, R443). -/
def updPlace (b : List Byte) (s : State) : State :=
  let s := norPutBytes s (slotBase (updTarget s) + updNext s) b
  let s := wrN s Reg.SV_UPD_NEXT (updNext s + b.length)
  let s := wrB s Reg.SV_UPD_STAT 8 true
  updFull { s with upd := { s.upd with idle := s.clk.tb0, prog := true } }

/-- The bytes of SV_UPD_DATA, byte 0 in bits [7:0] of word 0 (R442). -/
def updData (s : State) (n : Nat) : List Byte := ((List.range (n / 4)).flatMap fun i => leBytes (rd s (Reg.SV_UPD_DATA i)))

/-- May `n` bytes follow NEXT in this session? -/
def updFits (s : State) (n : Nat) : Bool :=
  decide (updState s = 1 ∧ updNext s + n ≤ s.upd.size ∧ updNext s + n ≤ 0xC00000)

/-- The owner write of SV_UPD_CHUNK (R442): `n` is the byte count. -/
def opChunk (n : Nat) : WOp := fun s =>
  if updFits s n ∧ n % 4 = 0 ∧ 4 ≤ n ∧ n ≤ 256 ∧ (n = 256 ∨ updNext s + n = s.upd.size) then
    (.ok, fun s => let s := { s with upd := { s.upd with chunk := some (s.clk.tb0, n) } }; updPlace (updData s n) s)
  else (.refused, id)

/-- Does a write to SV_UPD_DATA or SV_UPD_CHUNK wait for the previous chunk (R442)? -/
def updHeld (s : State) : Bool := s.upd.prog

/-- The package is rejected (R444): the slot stays EMPTY. -/
def updReject (reason addr : Nat) (s : State) : State :=
  let s := raiseN 0x0B02 0 (updTarget s * 256 + reason) addr s
  let s := wrB (wrF s Reg.SV_UPD_STAT 23 16 reason) Reg.SV_UPD_STAT 8 false
  updGo 6 { s with upd := { s.upd with prog := false } }

/-- CHUNK_PROGRAM_DONE (R442, Table 17-3): `fail` gives the NOR address of a program or erase that failed or timed out. -/
def effChunkProgramDone (fail : Option Nat) (s : State) : State :=
  if s.upd.prog && !rdB s Reg.SV_NVM_STAT 3 then
    match fail with
    | some a => updReject 0x12 a (count31 Reg.SV_NVM_ERR_CNT s)
    | none => { wrB s Reg.SV_UPD_STAT 8 false with upd := { s.upd with prog := false } }
  else s

/-- CHUNK_PROGRAM_DONE (R442): the NOR address of a failure. -/
def execChunkProgramDone (fail : Option Nat) (s : State) : Host.Outcome State Fault Refusal := run (effChunkProgramDone fail) s

/-- UPDATE_FRAME_RX (R443, Table 17-4): a CAN XL update frame from `src` reaches the target. -/
def effUpdateFrameRx (src : Nat) (data : List Byte) (s : State) : State :=
  let n := beAt data 4 2
  if rdF s Reg.SV_UPD_SRC 1 0 = 3 ∧ rdF s Reg.SV_UPD_SRC 27 16 = src ∧ beAt data 0 4 = updNext s ∧ updFits s n ∧ 1 ≤ n ∧ n ≤ 2040
      ∧ (n % 4 = 0 ∨ updNext s + n = s.upd.size) ∧ 8 + n ≤ data.length then updPlace ((data.drop 8).take n) s
  else s

/-- UPDATE_FRAME_RX (R443): the source address and the payload. -/
def execUpdateFrameRx (src : Nat) (data : List Byte) (s : State) : Host.Outcome State Fault Refusal := run (effUpdateFrameRx src data) s

/-- A session under way ends ABORTED, its target left EMPTY (R444). -/
def sessionAbort (s : State) : State :=
  if updState s = 1 ∨ updState s = 2 then
    let s := wrB s Reg.SV_UPD_STAT 8 false
    updGo 7 { s with upd := { s.upd with prog := false } }
  else s

/-- The owner write of SV_UPD_CTRL.ABORT (R444); with no session there is nothing to end. -/
def opAbort : WOp := fun s => if updState s = 1 ∨ updState s = 2 then (.ok, sessionAbort) else (.refused, id)

/-- A chunk placed at this very tick is not written (R459: an owner change of the same tick prevails). -/
def chunkUndo (s : State) : State :=
  match s.upd.chunk with
  | some (t, n) =>
    if t = s.clk.tb0 ∧ (updState s = 1 ∨ updState s = 2) then
      let a := slotBase (updTarget s) + updNext s
      let s := wrN (norErase s (a - n) a) Reg.SV_UPD_NEXT (updNext s - n)
      { s with upd := { s.upd with chunk := none } }
    else s
  | none => s

/-- ABORT (R444): the writing port. -/
def execUpdAbort (p : PortId) (s : State) : Host.Outcome State Fault Refusal := run (ownerWrite p Reg.SV_UPD_CTRL opAbort) s

/-- SESSION_IDLE_TIMEOUT (R444): 600 s with no accepted piece. -/
def effSessionIdleTimeout (s : State) : State :=
  if updState s = 1 ∧ 600 * secTicks ≤ (s.clk.tb0 - s.upd.idle).toNat then sessionAbort s else s

/-- SESSION_IDLE_TIMEOUT (R444). -/
def execSessionIdleTimeout (s : State) : Host.Outcome State Fault Refusal := run effSessionIdleTimeout s

/-! ### Verification (R440, R444) -/

/-- Do the versions a package reads name that of the current journal? With no journal there is none to name. -/
def readsOk (s : State) (k : Nat) : Bool := !jHas s || (pkgReads s k).contains (jVer s (jCur s))

/-- The reason for which the written package is rejected (R440, Table 17-3), 0 for none. -/
def verifyReason (s : State) : Nat :=
  let k := updTarget s
  let h := pkgHdr s k
  let len := leAt h 8 4
  if leAt h 0 4 ≠ 0x4B505841 ∨ leAt h 4 2 ≠ 1 ∨ leAt h 6 2 ≠ 0x100 ∨ w32 (leAt h 0xFC 4) ≠ crc32 (h.take 0xFC) then 0x13
  else if 12582912 < len ∨ len ≠ s.upd.size then 0x11
  else if !(pkgHdrOk h && agreesOk s k) then 0x13
  else match pkgCheck false s k with
    | .error (r, _) => r
    | .ok _ => if readsOk s k then 0 else 0x10

/-- The header after a verification that passed (R444): LEN, IMGID and ARB of the slot, and WRITTEN. -/
def hdrWritten (k len id arb : Nat) (h : List Byte) : List Byte :=
  hdrState k 1 (patch (0x14 + 4 * k) (leOf 4 len) (patch (0x1C + 8 * k) (leOf 8 id) (patch (0x2C + 4 * k) (leOf 4 arb) h)))

/-- VERIFY_DONE (R444): READY, or REJECTED. -/
def effVerifyDone (s : State) : State :=
  if updState s = 2 ∧ s.upd.prog = false then
    let k := updTarget s
    let id := pkgId s k
    match verifyReason s with
    | 0 =>
      let s := hdrWrite (hdrWritten k s.upd.size id (pkgArb s k)) s
      let s := wrN (wrN s Reg.SV_UPD_PKG_ID_LO (id % 2 ^ 32)) Reg.SV_UPD_PKG_ID_HI (id / 2 ^ 32)
      raiseN 0x0B01 0 (k * 256) (id % 2 ^ 32) (updGo 3 s)
    | r => updReject r 0 s
  else s

/-- VERIFY_DONE (R444). -/
def execVerifyDone (s : State) : Host.Outcome State Fault Refusal := run effVerifyDone s

/-! ### Activation (R445, R446) -/

/-- A GAS valve channel is at work (Table 17-5). -/
def gasAtWork (s : State) : Bool :=
  (List.range 24).any fun x => rdB s (Reg.DR_VCH_CFG x) 27 && decide (1 ≤ rdF s (Reg.DR_VCH_STAT x) 3 0 ∧ rdF s (Reg.DR_VCH_STAT x) 3 0 ≤ 6)
/-- VIN in mV as its monitor last showed it (SV_PWR_VMON0). -/
def vinMv (s : State) : Nat := rdF s Reg.SV_PWR_VMON0 31 16
/-- The hold-up estimate is too low (Table 17-5): C_HOLD in µF, VIN in mV, HOLDUP_MIN in mJ. -/
def holdupLow (s : State) : Bool :=
  decide ((rdF s Reg.SV_UPD_HOLD 15 0 : Int) * ((vinMv s : Int) ^ 2 - 72250000) < (rdF s Reg.SV_UPD_CFG 31 16 : Int) * 2000000000)

/-- The activation guards now holding (Table 17-5). -/
def updGuards (s : State) : Nat :=
  b2n (grainMoving s) + 2 * b2n (gasAtWork s) + 4 * b2n (decide (vinMv s < rdF s Reg.SV_UPD_CFG 15 8 * 1000)) + 8 * b2n (holdupLow s)
    + 16 * b2n (rdB s Reg.SV_OWN_CTRL 0) + 32 * b2n (decide (updState s ≠ 3) || inTrial s || decide (devState s = 1))
    + 64 * b2n (decide (updState s = 3) && !readsOk s (updTarget s))

/-- An accepted activation (R446). -/
def updActivate (s : State) : State :=
  let k := updTarget s
  let s := commit 0 false s
  let s := hdrWrite (fun h => hdrState k 2 (hdrName k h)) s
  let s := raiseN 0x0B04 0 (k * 256) (pkgArb s k) s
  updGo 4 { s with upd := { s.upd with restartAt := some (s.clk.tb0 + 1000000) } }

/-- The owner write of SV_UPD_CTRL.ACTIVATE (R445). -/
def opActivate (p : PortId) : WOp := fun s =>
  let g := updGuards s
  if g = 0 then (.ok, updActivate) else (.refused, updRefused g 2 (portCode p))

/-- ACTIVATE (R445): the writing port, and the VIN monitor's reading in mV at the acknowledgement. -/
def execUpdActivate (p : PortId) (mv : Nat) (s : State) : Host.Outcome State Fault Refusal :=
  run (fun s => ownerWrite p Reg.SV_UPD_CTRL (opActivate p) (railShow 0 mv s)) s

/-! ### The trial (R449 to R451) -/

/-- TSEC (R449). -/
def tsec (s : State) : Nat :=
  match s.upd.trialAt with
  | some t => (s.clk.tb0 - t).toNat / secTicks
  | none => rdN s Reg.SV_UPD_TSEC

/-- The trial is confirmed (R450). -/
def trialConfirm (auto : Bool) (s : State) : State :=
  let k := slotNow s
  let t := tsec s
  let r := match hdrUse s with | some r => 1 - r | none => 0
  let u : TrialUndo := { tick := s.clk.tb0, region := r, bytes := hdrRead s r, mark := rdB s Reg.SV_UPD_STAT 9, arb := otpArb s,
                         gen := rdN s Reg.SV_BOOT_HDR_GEN, state := updState s, tsec := rdN s Reg.SV_UPD_TSEC, trialAt := s.upd.trialAt }
  let s := hdrWrite (hdrState k 3) (commit 0 false { s with upd := { s.upd with undo := some u } })
  let s := if rdB s Reg.SV_UPD_STAT 9 then norPutBytes s (jBase (jCur s) + 0x28) [0] else s
  let s := arbAdvance (pkgArb s k) s
  let s := wrN (wrB (wrB s Reg.SV_BOOT_STAT 10 false) Reg.SV_UPD_STAT 9 false) Reg.SV_UPD_TSEC t
  let s := updGo 0 { s with upd := { s.upd with trialAt := none } }
  raiseN 0x0B05 0 (k * 256 + b2n auto * 0x10000) t s

/-- Has TSEC reached CONFIRM_S (R450, R451)? -/
def trialDue (s : State) : Bool := s.upd.trialAt.isSome && decide (rdF s Reg.SV_UPD_TCFG 23 0 ≤ tsec s)

/-- The owner write of SV_UPD_CTRL.CONFIRM (R450); one that meets the time-out of the trial comes too late (R459). -/
def opConfirm : WOp := fun s =>
  if inTrial s then (.ok, if trialDue s && !rdB s Reg.SV_UPD_TCFG 31 then trialFail 3 none else trialConfirm false) else (.refused, id)

/-- CONFIRM (R450): the writing port. -/
def execUpdConfirm (p : PortId) (s : State) : Host.Outcome State Fault Refusal := run (ownerWrite p Reg.SV_UPD_CTRL opConfirm) s

/-- TRIAL_TIMER_EXPIRY (R450, R451): TSEC has reached CONFIRM_S. -/
def effTrialTimerExpiry (s : State) : State :=
  if inTrial s && trialDue s then
    if rdB s Reg.SV_UPD_TCFG 31 then trialConfirm true s else trialFail 3 none s
  else s

/-- TRIAL_TIMER_EXPIRY (R450, R451). -/
def execTrialTimerExpiry (s : State) : Host.Outcome State Fault Refusal := run effTrialTimerExpiry s

/-- The owner write of SV_UPD_CTRL.REJECT_TRIAL (R451); it prevails over a confirmation of its tick (R459). -/
def opRejectTrial : WOp := fun s => if inTrial s || confirmedNow s then (.ok, trialFail 4 none) else (.refused, id)

/-- REJECT_TRIAL (R451): the writing port. -/
def execRejectTrial (p : PortId) (s : State) : Host.Outcome State Fault Refusal := run (ownerWrite p Reg.SV_UPD_CTRL opRejectTrial) s

/-! ### Commits, SETTINGS_RESET and the site key (R437, R455, R458) -/

/-- The owner write of SV_UPD_CTRL.COMMIT (R455). -/
def opCommit (fails : Nat) (timeout : Bool) : WOp := wOk (commit fails timeout)

/-- COMMIT (R455): the writing port, the attempts of its first NOR operation that fail, and whether they time out. -/
def execUpdCommit (p : PortId) (fails : Nat) (timeout : Bool) (s : State) : Host.Outcome State Fault Refusal :=
  run (ownerWrite p Reg.SV_UPD_CTRL (opCommit fails timeout)) s

/-- SETTINGS_COMMIT_TIMER (R455): 1 s after the first uncommitted write, once no NOR reset holds it (R479). -/
def effSettingsCommitTimer (fails : Nat) (timeout : Bool) (s : State) : State :=
  match s.upd.dirty with
  | some t => if secTicks ≤ (s.clk.tb0 - t).toNat ∧ rdB s Reg.SV_NVM_STAT 3 = false then commit fails timeout s else s
  | none => s

/-- SETTINGS_COMMIT_TIMER (R455): as COMMIT. -/
def execSettingsCommitTimer (fails : Nat) (timeout : Bool) (s : State) : Host.Outcome State Fault Refusal :=
  run (effSettingsCommitTimer fails timeout) s

/-- The values in force go into a new journal of the image's version (R458). -/
def settingsReset (s : State) : State :=
  let j := if jHas s then 1 - jCur s else 0
  let gen := if jHas s then (jGen s (jCur s) + 1) % 2 ^ 32 else 1
  rebase (wrB (jNew j (imgSettings s) gen false (storedVals s) s) Reg.SV_UPD_STAT 11 false)

/-- The owner write of SV_UPD_CTRL.SETTINGS_RESET (R458). -/
def opSettingsReset : WOp := fun s => if rdB s Reg.SV_UPD_STAT 11 then (.ok, settingsReset) else (.refused, id)

/-- SETTINGS_RESET (R458): the writing port. -/
def execSettingsReset (p : PortId) (s : State) : Host.Outcome State Fault Refusal := run (ownerWrite p Reg.SV_UPD_CTRL opSettingsReset) s

/-- The site key staged in SV_UPD_SITEKEY: word 0 bits [31:24] hold key byte 0 (R437). -/
def siteStaged (s : State) : List Byte := (List.range 8).flatMap fun k => beBytes 4 (rdN s (Reg.SV_UPD_SITEKEY k))

/-- The owner write of SV_UPD_CTRL.SITEKEY (R437): once. -/
def opSitekey : WOp := fun s =>
  if rdB s Reg.SV_UPD_OTP 8 then (.refused, id)
  else (.ok, fun s => { wrB s Reg.SV_UPD_OTP 8 true with upd := { s.upd with site := siteStaged s } })

/-- SITEKEY (R437): the writing port. -/
def execSiteKey (p : PortId) (s : State) : Host.Outcome State Fault Refusal := run (ownerWrite p Reg.SV_UPD_CTRL opSitekey) s

/-! ### The NOR reset (R479) -/

/-- The owner write of SV_NVM_CTRL.RESET (R479, SV_NVM_CTRL). -/
def opNvmReset : WOp := fun s =>
  if rdB s Reg.SV_NVM_STAT 3 ∨ rdB s Reg.SV_UPD_STAT 8 then (.refused, id) else (.ok, fun s => wrB s Reg.SV_NVM_STAT 3 true)

/-- NVM_RESET (R479): the writing port. -/
def execNvmReset (p : PortId) (s : State) : Host.Outcome State Fault Refusal := run (ownerWrite p Reg.SV_NVM_CTRL opNvmReset) s

/-- NVM_RESET_DONE (R479): IDENT is what the identification finds. -/
def effNvmResetDone (ok : Bool) (s : State) : State :=
  if rdB s Reg.SV_NVM_STAT 3 then wrB (wrB s Reg.SV_NVM_STAT 3 false) Reg.SV_NVM_STAT 2 ok else s

/-- NVM_RESET_DONE (R479): whether the NOR is identified. -/
def execNvmResetDone (ok : Bool) (s : State) : Host.Outcome State Fault Refusal := run (effNvmResetDone ok) s

end Sys2Proof.Machine
end

