-- ==== Sys2Proof/Machine/LogOps.lean ====
section
/-!
DEFINITION. Reading, uploading and clearing the log (R426 to R434), and the relay of upload and update frames (R428, R443).
-/
namespace Sys2Proof.Machine

/-! ### The read window and the snapshot (R426, R427) -/

/-- Is a record of this sequence number at or after the present tail? -/
def fromTail (s : State) (q : Word) : Bool := !laterN 32 s.log.tailSeq.toNat q.toNat

/-- The words of a record (R409). -/
def recWords (r : Rec) : List Word := [r.seq, r.w1, r.w2, r.w3, r.w4, r.w5, r.w6, r.w7]

/-- The eight words NOR slot `n` shows (R426). -/
def slotShown (s : State) (n : Nat) : List Word :=
  let l := (List.range 8).map fun w => norWord s (slotAddr n + 4 * w)
  if bits (l.getD 1 0) 31 16 ≠ 0xFFFF && fromTail s (l.getD 0 0) then l else List.replicate 8 0xFFFFFFFF
/-- The eight words drawer slot `d` shows (R426). -/
def drawerShown (s : State) (d : Nat) : List Word :=
  match s.log.drawer.find? fun x => decide (x.1 = d) with
  | some x => if fromTail s x.2.r.seq then recWords x.2.r else List.replicate 8 0xFFFFFFFF
  | none => List.replicate 8 0xFFFFFFFF

/-- Window address of slot `k` of the NOR, or of the drawer. -/
def windowAddr (drawer : Bool) (k : Nat) : Nat := (if drawer then 0xE00000 else 0xA00000) + 32 * k
/-- A word of the read window (R426). -/
def windowWord (s : State) (a : Nat) : Word :=
  let l := if 0xE00000 ≤ a then drawerShown s ((a - 0xE00000) / 32) else slotShown s ((a - 0xA00000) / 32)
  l.getD (a % 32 / 4) 0

/-- LOG_WINDOW_READ (R426): a read of w0 of a slot latches w1 to w7 for the reading port. -/
def effLogWindowRead (p : PortId) (drawer : Bool) (k : Nat) (s : State) : State :=
  if k < (if drawer then 64 else logSlots) then latchWords p (windowWord s) 7 (windowAddr drawer k + 4) s else s

/-- LOG_WINDOW_READ (R426): the reading port, whether the drawer, and the slot. -/
def execLogWindowRead (p : PortId) (drawer : Bool) (k : Nat) (s : State) : Host.Outcome State Fault Refusal :=
  run (portAct p (windowAddr drawer k) (effLogWindowRead p drawer k)) s

/-- The four words of a snapshot taken now (R427). -/
def snapNow (s : State) : List (Nat × Word) :=
  [(Reg.SV_LOG_SNAP_TAIL_SEQ, s.log.tailSeq), (Reg.SV_LOG_SNAP_TAIL_SLOT, w32 s.log.tailSlot),
   (Reg.SV_LOG_SNAP_NOR_SLOT, match s.log.norLast with | some n => w32 n | none => 0x80000000),
   (Reg.SV_LOG_SNAP_HEAD_SEQ, rd s Reg.SV_LOG_HEAD_SEQ)]

/-- SNAPSHOT_READ (R427): a read of SV_LOG_SNAP_TAIL_SEQ takes a snapshot for the reading port. -/
def effSnapshotRead (p : PortId) (s : State) : State :=
  let rest := s.port.snaps.filter fun x => decide (x.1 ≠ p)
  { s with port := { s.port with snaps := rest ++ (snapNow s).map fun x => (p, x.1, x.2) } }

/-- SNAPSHOT_READ (R427): the reading port. -/
def execSnapshotRead (p : PortId) (s : State) : Host.Outcome State Fault Refusal := run (portAct p Reg.SV_LOG_SNAP_TAIL_SEQ (effSnapshotRead p)) s

/-- A snapshot word of a port; 0 before its first snapshot. -/
def snapWord (s : State) (p : PortId) (a : Nat) : Word :=
  match s.port.snaps.find? fun x => decide (x.1 = p ∧ x.2.1 = a) with | some x => x.2.2 | none => 0

/-! ### Upload (R428, Table 16-4) -/

/-- The readable records: those of the NOR, and those of the drawer that it does not hold. -/
def readable (s : State) : List (List Word) :=
  let l := ((logUsed s).map (slotShown s)).filter fun r => decide (bits (r.getD 1 0) 31 16 ≠ 0xFFFF)
  let d := (s.log.drawer.map fun x => drawerShown s x.1).filter fun r => decide (bits (r.getD 1 0) 31 16 ≠ 0xFFFF)
  l ++ d.filter fun r => l.all fun x => decide (x.head? ≠ r.head?)

/-- The distance of a record from sequence number `q`. -/
def seqFrom (q : Word) (r : List Word) : Nat := (r.headD 0 - q).toNat
/-- Insert a record by its distance from `q`. -/
def seqInsert (q : Word) (r : List Word) : List (List Word) → List (List Word)
  | [] => [r]
  | x :: l => if seqFrom q r < seqFrom q x then r :: x :: l else x :: seqInsert q r l

/-- The readable records from `q` up to `last`, in sequence order. -/
def uploadRecs (s : State) (q last : Word) : List (List Word) :=
  if laterN 32 q.toNat last.toNat then []
  else ((readable s).filter fun r => decide (seqFrom q r ≤ (last - q).toNat)).foldr (seqInsert q) []

/-- A CAN XL class-3 frame with a source address and an object (R335). -/
def xlOwn (src obj : Nat) (data : List Byte) : CanFrame := { fmt := .xl, id := 0x600, af := src * 0x8000 + obj, data := data }

/-- The payload of an upload frame. -/
def uploadData (q : Word) (rs : List (List Word)) (fin : Bool) : List Byte :=
  let first := (rs.headD []).headD 0
  beBytes 4 first.toNat ++ beBytes 2 rs.length ++ [BitVec.ofNat 8 (b2n fin + 2 * b2n (decide (first ≠ q))), 0]
    ++ rs.flatMap fun r => r.flatMap fun w => beBytes 4 w.toNat

/-- The owner write of SV_LOG_UPL_CTRL with START (R428); a second START while one is sending is refused. -/
def opUploadStart (dest : Nat) : WOp := fun s =>
  if inClash s ∨ (ownAddr s).isNone ∨ s.log.upl.isSome then (.refused, id)
  else (.ok, fun s =>
    let u : Upload := { dest := dest, next := rd s Reg.SV_LOG_UPL_FROM, last := rd s Reg.SV_LOG_HEAD_SEQ, sent := 0, due := s.clk.tb0 + 5000000 }
    wrN { s with log := { s.log with upl := some u } } Reg.SV_LOG_UPL_STAT 0x40000000)

/-- UPLOAD_START (R428): the writing port and DEST. -/
def execUploadStart (p : PortId) (dest : Nat) (s : State) : Host.Outcome State Fault Refusal :=
  run (ownerWrite p Reg.SV_LOG_UPL_CTRL (opUploadStart (dest % 4096))) s

/-- The owner write of SV_LOG_UPL_CTRL with ABORT (R428). -/
def opUploadAbort : WOp := wOk (uploadEnd 3)

/-- UPLOAD_ABORT (R428): the writing port. -/
def execUploadAbort (p : PortId) (s : State) : Host.Outcome State Fault Refusal := run (ownerWrite p Reg.SV_LOG_UPL_CTRL opUploadAbort) s

/-- UPLOAD_FRAME (R428): the next frame of the upload, 50 ms after the last; a busy XL buffer leaves it for the next time. -/
def effUploadFrame (s : State) : State :=
  match s.log.upl with
  | none => s
  | some u =>
    if !reached s.clk.tb0 u.due ∨ !maySendOwn s then s
    else
      let l := uploadRecs s u.next u.last
      let rs := l.take 63
      if rs.isEmpty then uploadEnd 2 s
      else
        let fin := decide (l.length ≤ 63)
        match xlSend s (upCh s) (xlOwn ((ownAddr s).getD 0) (0x6000 + u.dest) (uploadData u.next rs fin)) with
        | none => { s with log := { s.log with upl := some { u with due := s.clk.tb0 + 5000000 } } }
        | some s =>
          let last := (rs.getLastD []).headD 0
          let u := { u with next := last + 1, sent := u.sent + rs.length, due := s.clk.tb0 + 5000000 }
          let s := wrN { s with log := { s.log with upl := some u } } Reg.SV_LOG_UPL_STAT (0x40000000 + u.sent)
          if fin then uploadEnd 2 s else s

/-- UPLOAD_FRAME (R428). -/
def execUploadFrame (s : State) : Host.Outcome State Fault Refusal := run effUploadFrame s

/-- The channel towards a device (R428): downstream by its binding, upstream otherwise. -/
def relayCh (s : State) (dest : Nat) : Nat :=
  match s.net.bindings.find? fun x => decide (x.2.addr = dest) with | some x => x.2.ch | none => upCh s

/-- XL_RELAY (R428, R443): a manager relays an upload or update frame for another address, unchanged. -/
def effXlRelay (f : CanFrame) (s : State) : State :=
  let obj := f.af % 0x8000
  let dest := obj % 0x1000
  if f.fmt = .xl ∧ (obj / 0x1000 = 6 ∨ obj / 0x1000 = 4) ∧ s.boot.loaded ∧ isManager s ∧ ownAddr s ≠ some dest then (xlSend s (relayCh s dest) f).getD s else s

/-- XL_RELAY (R428, R443): the frame. -/
def execXlRelay (f : CanFrame) (s : State) : Host.Outcome State Fault Refusal := run (effXlRelay f) s

/-! ### Clearing (R431 to R433) -/

/-- The site key in force (R437). -/
def siteKey (s : State) : List Byte := if s.upd.site.isEmpty then Config.otpSiteKey else s.upd.site

/-- The authorisation code now expected (R431). -/
def clearCode (s : State) : List Byte :=
  let m := [0x41, 0x58, 0x47, 0x43] ++ beBytes 4 (rdN s Reg.NW_HIER_SERIAL_HI) ++ beBytes 4 (rdN s Reg.NW_HIER_SERIAL_LO)
    ++ beBytes 4 (rdN s Reg.SV_LOG_NONCE)
  (hmacSha256 (siteKey s) m).take 16
/-- The code staged in SV_LOG_AUTH. -/
def authStaged (s : State) : List Byte := (List.range 4).flatMap fun k => beBytes 4 (rdN s (Reg.SV_LOG_AUTH k))
/-- The wrong codes of the last 60 s (R432). -/
def wrongNow (s : State) : List Tick := s.log.wrong.filter fun t => decide ((s.clk.tb0 - t).toNat < 60 * secTicks)
/-- A new random nonce (R431). -/
def nonceNew (s : State) : State :=
  let (n, s) := takeFree s
  wr s Reg.SV_LOG_NONCE n

/-- The reason for which a clear is refused (R432), 0 for none. -/
def clearReason (s : State) : Nat :=
  if 3 ≤ (wrongNow s).length then 4
  else if authStaged s ≠ clearCode s then 1
  else if logState s = 2 then 2
  else if rdB s Reg.SV_LOG_STAT 2 then 3
  else 0

/-- A refused clear (R432): a wrong code counts, and the third within 60 s starts the back-off. -/
def clearRefused (p : PortId) (r : Nat) (s : State) : State :=
  let s := if r = 1 then
      let w := wrongNow s ++ [s.clk.tb0]
      wrB { s with log := { s.log with wrong := w } } Reg.SV_LOG_STAT 3 (decide (3 ≤ w.length))
    else s
  raiseN 0x0A04 0 r (portAddr p * 0x10000 + portCode p) (nonceNew s)

/-- An accepted clear (R433): the tail moves to LOG_CLEAR, and every log sector but the one that holds it is erased. -/
def logClear (p : PortId) (s : State) : State :=
  let s := nonceNew s
  let s := if mayProgram s then flushPending 65 s else s
  let q := s.log.next
  let s := { s with log := { s.log with tailSeq := q, tailSlot := s.log.head } }
  let s := writeRec (evNow s 0x0A03 0 (q - 1) (w32 (portAddr p * 0x10000 + portCode p))) 0 false false s
  let k := s.log.head / 2048
  let s := forEach ((List.range 64).filter fun j => decide (j ≠ k)) eraseSector s
  wrB s Reg.SV_LOG_STAT 2 true

/-- The owner write of SV_LOG_CLR (R432). -/
def opLogClear (p : PortId) : WOp := fun s =>
  match clearReason s with
  | 0 => (.ok, logClear p)
  | r => (.refused, clearRefused p r)

/-- LOG_CLEAR (R432, R433): the writing port. -/
def execLogClear (p : PortId) (s : State) : Host.Outcome State Fault Refusal := run (ownerWrite p Reg.SV_LOG_CLR (opLogClear p)) s

/-- LOG_CLEAR_ERASE_DONE (R433): the background erase is over. -/
def execLogClearEraseDone (s : State) : Host.Outcome State Fault Refusal := run (fun s => wrB s Reg.SV_LOG_STAT 2 false) s

/-- CLEAR_BACKOFF_END (R432): fewer than three wrong codes lie within the last 60 s. -/
def effClearBackoffEnd (s : State) : State := if (wrongNow s).length < 3 then wrB s Reg.SV_LOG_STAT 3 false else s

/-- CLEAR_BACKOFF_END (R432). -/
def execClearBackoffEnd (s : State) : Host.Outcome State Fault Refusal := run effClearBackoffEnd s

end Sys2Proof.Machine
end

