-- ==== Sys2Proof/Machine/Ports.lean ====
section
/-!
DEFINITION. What a port's word access does (chapters 15 and 19, R11 to R16): what each word reads as and what its reading does,
what each word takes and when it declines, claims and the owner (R399 to R406).
-/
namespace Sys2Proof.Machine

/-! ### Reading (R123, R175, R213, R221, R426, R427, R15) -/

/-- SV_OWN_STAT as the port reads it. -/
def ownStat (p : PortId) (s : State) : Word :=
  let nx := match s.port.resv with | some (q, _) => some q | none => none
  let src := match s.port.owner with | some o => portAddr o | none => (nx.map portAddr).getD 0
  w32 (src * 0x10000 + (nx.map portCode).getD 0 * 0x1000 + portCode p * 256 + (s.port.owner.map portCode).getD 0)

/-- SV_OWN_LEASE: whole milliseconds left. -/
def leaseMs (s : State) : Nat := if s.port.owner.isSome && !reached s.clk.tb0 s.port.leaseEnd then (s.port.leaseEnd - s.clk.tb0).toNat / 100000 else 0

/-- Is a channel's interrupt bit set together with its enable (R351)? -/
def canAttn (s : State) : Bool := (List.range 8).any fun n => decide (rd s (Reg.NW_CH_IR n) &&& rd s (Reg.NW_CH_IE n) ≠ 0)

/-- SV_OWN_ATTN with its level sources (R407). -/
def attnWord (s : State) : Word :=
  setBit (setBit (setBit (rd s Reg.SV_OWN_ATTN) 5 (canAttn s)) 3 (decide (logState s = 2))) 1 (decide (devState s = 4))

/-- Is ATTN_N driven low (R407, Table 02-6: low from reset until step 11; high-impedance with the rails absent and in HIBERNATE)? -/
def attnLow (s : State) : Bool :=
  railsGood s && !s.pwr.off && decide (devState s ≠ 0)
    && (s.pwr.rst || decide (devState s = 1) || decide (attnWord s &&& rd s Reg.SV_OWN_ATTN_EN ≠ 0))

/-- SV_LOG_STAT with the counts that follow the recorder. -/
def logStatWord (s : State) : Word :=
  let bad := ((List.range 64).filter fun k => sectorBad s k).length
  setBits (setBits (setBit (rd s Reg.SV_LOG_STAT) 4 (decide (s.clk.ops = 0xFFFFFFFF))) 31 24 bad) 14 8 (pendSlots s).length


/-- A word of the SV die as the port reads it. -/
def svView (p : PortId) (s : State) (a : Nat) (w : Word) : Word :=
  if a = Reg.SV_OWN_STAT then ownStat p s
  else if a = Reg.SV_OWN_LEASE then w32 (leaseMs s)
  else if a = Reg.SV_OWN_ATTN then attnWord s
  else if a = Reg.SV_LOG_STAT then logStatWord s
  else if a = Reg.SV_LOG_OPSEC then s.clk.ops
  else if a = Reg.SV_LOG_SNAP_TAIL_SEQ then s.log.tailSeq
  else if a = Reg.SV_LOG_SNAP_TAIL_SLOT ∨ a = Reg.SV_LOG_SNAP_NOR_SLOT ∨ a = Reg.SV_LOG_SNAP_HEAD_SEQ then snapWord s p a
  else if a = Reg.SV_UPD_TSEC then w32 (tsec s)
  else if a = Reg.SV_UPD_GUARD then w32 (updGuards s)
  else w


/-- A register word as a port reads it. -/
def regView (p : PortId) (s : State) (r : RegRow) (a : Nat) : Word :=
  let w := liveReg s r a
  if dieOf a = 0 then svView p s a w else w

/-- Is the address in the log read window (R426)? -/
def inWindow (a : Nat) : Bool := decide (0xA00000 ≤ a ∧ a < 0xA00000 + 32 * logSlots) || decide (0xE00000 ≤ a ∧ a < 0xE00800)

/-- The word a port reads: the one latched for it where one is, else what the address holds now. -/
def viewWord (p : PortId) (s : State) (a : Nat) : Word :=
  match latchGet p a s with
  | some w => w
  | none =>
    match timeWord s a with
    | some w => w
    | none =>
      if inWindow a then windowWord s a
      else
        match findRow a with
        | some r => regView p s r a
        | none => rd s a

/-- A read of an RC field by the owner or the runtime sets the field to its reset value (R15). -/
def clearRc (a : Nat) (s : State) : State :=
  match findRow a with
  | some r => if r.rc = 0 then s else wr s a ((rd s a &&& ~~~ (w32 r.rc)) ||| (resetWord a &&& w32 r.rc))
  | none => s


/-- What reading a word does beside returning it. -/
def readEffect (p : PortId) (own : Bool) (a : Nat) (s : State) : State :=
  let d := dieOf a
  let o := a % winSize
  let s := if own then clearRc a s else s
  if d = 0 ∧ o / 0x10000 = 3 then effTimeLoRead p a s
  else if a = Reg.SV_LOG_SNAP_TAIL_SEQ then effSnapshotRead p s
  else if inWindow a then (if a % 32 = 0 then effLogWindowRead p (decide (0xE00000 ≤ a)) ((if 0xE00000 ≤ a then a - 0xE00000 else a - 0xA00000) / 32) s else s)
  else match sigAt a with
    | some (e, k) => effSignalEntryRead p e k s
    | none =>
      if 1 ≤ d ∧ d ≤ 4 then
        if 0xC00000 ≤ o ∧ o < 0xC04000 ∧ o % 32 = 0 then effBargeRead p (d - 1) ((o - 0xC00000) / 32) s
        else if 0x20000 ≤ o ∧ o < 0x24000 ∧ a = Reg.LP_LOOP_Z ((d - 1) * 64 + (o - 0x20000) / 0x100) 0 then
          effLoopZRead p ((d - 1) * 64 + (o - 0x20000) / 0x100) s
        else s
      else s

/-- Read one word: what it returns, and the state after. A latched word is returned once. -/
def readWord (p : PortId) (own : Bool) (a : Nat) (s : State) : Word × State :=
  (viewWord p s a, readEffect p own a (latchDrop p a s))

/-- Read words in ascending order (R390). -/
def readWords (p : PortId) (own : Bool) : Nat → Nat → State → List Word × State
  | 0, _, s => ([], s)
  | n + 1, a, s =>
    let (w, s) := readWord p own a s
    let (l, s) := readWords p own n (a + 4) s
    (w :: l, s)

/-! ### The owner (R399 to R406) -/

/-- Rank of a port (R399): SERVICE above NET above HOST. -/
def portRank : PortId → Nat
  | .service => 3 | .net _ => 2 | .host => 1 | .runtime => 0

/-- Ownership passes (R404): counted and logged with its cause, the lock and an update session end, and a new owner has 10 s. -/
def ownerChange (new : Option PortId) (cause : Nat) (s : State) : State :=
  let old := s.port.owner
  let addr := match new, old with
    | some n, some o => if portAddr n ≠ 0 then portAddr n else portAddr o
    | some n, none => portAddr n
    | none, some o => portAddr o
    | none, none => 0
  let s := { s with port := { s.port with
    owner := new, leaseEnd := s.clk.tb0 + 1000000000, resv := if new.isSome then none else s.port.resv } }
  let s := wrB s Reg.SV_OWN_CTRL 0 false
  let s := hwSet (count31 Reg.SV_OWN_CHG_CNT s) Reg.SV_OWN_ATTN 2
  let s := raiseN 0x0902 0 ((new.map portCode).getD 0 + (old.map portCode).getD 0 * 16 + cause * 256 + addr * 0x10000) 0 s
  sessionAbort (chunkUndo s)

/-- The staged takeover code of a port (R400). -/
def stagedCode (p : PortId) (s : State) : Option Word := (s.port.tko.find? fun x => decide (x.1 = p)).map fun x => x.2
/-- A claim ends the port's staged code (R400). -/
def dropCode (p : PortId) (s : State) : State :=
  { s with port := { s.port with tko := s.port.tko.filter fun x => decide (x.1 ≠ p) } }
/-- Is the staged code correct (R400)? -/
def codeRight (p : PortId) (s : State) : Bool :=
  decide (rd s Reg.SV_OWN_TKO_SET = 0) || decide (stagedCode p s = some (rd s Reg.SV_OWN_TKO_SET))

/-- The claimant for whom a handover reserves ownership, when it is another than `p` (R402). -/
def reservedOther (p : PortId) (s : State) : Option PortId :=
  match s.port.resv with
  | some (q, _) => if q = p then none else some q
  | none => none

/-- The judgement of a claim (Table 15-4). -/
inductive Claim where
  | grant (cause : Nat)
  | refuse (reason : Nat)
  deriving DecidableEq, Repr

/-- Case 4 of Table 15-4. -/
def takeover (p : PortId) (s : State) : Claim :=
  if rdB s Reg.SV_OWN_CTRL 0 then .refuse 6 else if codeRight p s then .grant 2 else .refuse 3

/-- Table 15-4, for a claimant that is not the owner. -/
def claimJudge (p : PortId) (tk : Bool) (s : State) : Claim :=
  if (match p with | .net _ => true | _ => false) && !s.boot.loaded then .refuse 5
  else
    match reservedOther p s with
    | some q => if tk ∧ portRank q < portRank p then takeover p s else .refuse 4
    | none =>
      match s.port.owner with
      | none => .grant 1
      | some o => if tk ∧ portRank o < portRank p then takeover p s else if tk then .refuse 2 else .refuse 1

/-- A write of SV_OWN_CLAIM (R399). -/
def opClaim (p : PortId) (w : Word) : WOp := fun s =>
  if bits w 31 16 ≠ 0xC1A7 ∨ bit w 0 = false ∨ p = .runtime then (.refused, id)
  else if s.port.owner = some p then (.ok, fun s => dropCode p (renewLease p s))
  else
    match claimJudge p (bit w 1) s with
    | .grant cause => (.ok, fun s => ownerChange (some p) cause (dropCode p s))
    | .refuse r => (if r = 6 then .locked else .refused,
        fun s => raiseN 0x0903 0 (portCode p + portAddr p * 0x10000) r (dropCode p s))

/-- A write of SV_OWN_TKO (R400): the code is staged for the writing port. -/
def opTko (p : PortId) (w : Word) : WOp := wOk fun s =>
  let s := dropCode p s
  { s with port := { s.port with tko := s.port.tko ++ [(p, w)] } }

/-- The port that NEXT and NEXT_SRC of a release name (R402). -/
def nextPort (w : Word) : Option PortId :=
  match bits w 15 14 with
  | 1 => some .host
  | 2 => some .service
  | 3 => some (.net (bits w 11 0))
  | _ => none

/-- A write of SV_OWN_REL (R402). -/
def opRelease (p : PortId) (w : Word) : WOp := fun _ =>
  if bits w 31 16 ≠ 0x5E1F then (.refused, id)
  else (.ok, fun s =>
    if s.port.owner = some p then
      let s := ownerChange none 3 s
      { s with port := { s.port with resv := (nextPort w).map fun q => (q, s.clk.tb0 + 200000000) } }
    else s)

/-! ### Writing -/

/-- The fields a register takes from a write (R11): RW, RWS and WO bits are set, W1C bits written 1 clear, and a counter's sticky
flag written 1 clears the counter with it (R23); the bits `hw` that hardware has set in the same tick are not cleared (R14). -/
def regTake (r : RegRow) (hw old w : Word) : Word :=
  let m := w32 (r.rw ||| r.rws ||| r.wo)
  let c := w &&& ~~~hw
  let v := ((old &&& ~~~m) ||| (w &&& m)) &&& ~~~ (c &&& w32 r.w1c)
  if c &&& w32 r.ovf = 0 then v else v &&& ~~~ (w32 (r.ovf ||| r.cnt))

/-- A write of a register without a rule of its own (R12, R13, R16). -/
def regOp (a : Nat) (w : Word) : WOp :=
  match findRow a with
  | none => wLocked
  | some r =>
    if r.rw ||| r.rws ||| r.wo ||| r.w1c ||| r.w1s = 0 then wLocked
    else (wOk fun s => let s := wr s a (regTake r (hwBits s a) (rd s a) w); if rwsMask s a ≠ 0 then noteStored s else s)

/-- A write that needs a key in [31:16] of the same write. -/
def keyed (k : Nat) (w : Word) (op : WOp) : WOp := if bits w 31 16 = k then op else wRefuse
/-- An action bit: 0 asks for nothing. -/
def onBit (w : Word) (i : Nat) (op : WOp) : WOp := if bit w i then op else wOk id
/-- Exactly one of a word's action bits, named with its action. -/
def oneAction (l : List (Nat × WOp)) (w : Word) : WOp :=
  match l.filter fun x => bit w x.1 with
  | [x] => x.2
  | _ => wRefuse

/-- The actions of a write that may ask for several: all of them, in order, or none when one declines. -/
def allActions : List WOp → WOp
  | [] => wOk id
  | op :: r => fun s =>
    match op s with
    | (.ok, f) =>
      match allActions r (f s) with
      | (.ok, g) => (.ok, fun t => g (f t))
      | (st, _) => (st, id)
    | x => x

/-- Words of the SV die. -/
def svOp (p : PortId) (a : Nat) (w : Word) : WOp :=
  if a = Reg.SV_PWR_CTRL then keyed 0x4B1D w (onBit w 0 (opHib p))
  else if a = Reg.SV_BOOT_CTRL then keyed 0xA5C3 w (oneAction [(0, opRestart p), (1, opResume p), (2, opSafeReq)] w)
  else if a = Reg.SV_OWN_CLAIM then opClaim p w
  else if a = Reg.SV_OWN_TKO then opTko p w
  else if a = Reg.SV_OWN_REL then opRelease p w
  else if a = Reg.SV_OWN_TKO_SET then wOk fun s => noteStored (wr s a w)
  else if a = Reg.SV_LOG_CLR then keyed 0xC1EA w (onBit w 0 (opLogClear p))
  else if a = Reg.SV_LOG_UPL_CTRL then
    keyed 0x7B3A w (if bit w 12 && bit w 13 then wRefuse else if bit w 13 then opUploadAbort else onBit w 12 (opUploadStart (bits w 11 0)))
  else if a = Reg.SV_UPD_CTRL then
    keyed 0x9D17 w (oneAction [(0, opBegin p), (1, opAbort), (2, opActivate p), (3, opConfirm), (4, opRejectTrial), (5, opCommit 0 false),
      (6, opSettingsReset), (7, opSitekey)] w)
  else if a = Reg.SV_UPD_CHUNK then opChunk (bits w 8 0)
  else if a = Reg.SV_NVM_CTRL then keyed 0x1E5B w (onBit w 0 opNvmReset)
  else
    let n := (a - 0x80000) / 0x20
    if 0x80000 ≤ a ∧ n < 8 ∧ a = Reg.SV_SEQ_CMD n then
      keyed 0x5E9C w (oneAction [(0, opSeqStop p n), (1, fun s => opSeqGo p n 19 (seqInitOf s n) s), (2, opSeqGo p n 20 (bits w 13 8))] w)
    else if 0x80000 ≤ a ∧ n < 8 ∧ a = Reg.SV_SEQ_TIME n then
      wOk fun s => if bit w 31 && !bit (hwBits s a) 31 then wrB (seqSet s n { seqOf s n with secBase := seqTimer s n }) a 31 false else s
    else regOp a w

/-- Words of a loop die. -/
def lpOp (p : PortId) (d a : Nat) (w : Word) : WOp :=
  let o := a % winSize
  let g := (d - 1) * 64 + (o - 0x20000) / 0x100
  let c := (d - 1) * 4 + (o - 0x30000) / 0x100
  let k := (o % 0x100 - 0x80) / 4
  let x := (d - 1) * 8 + (o - 0x60000) / 0x40
  let t := (d - 1) * 2 + (o - 0x70000) / 0x1000
  let i := (o % 0x1000 - 0x100) / 16
  if o = 0x10028 then keyed 0x6E0C w (onBit w 0 (opCoefApply p d))
  else if 0x20000 ≤ o ∧ o < 0x24000 ∧ a = Reg.LP_LOOP_MODE_REQ g then
    keyed 0x3C5A w (oneAction [(0, opModeReq p g 1), (1, opModeReq p g 2), (2, opModeReq p g 4)] w)
  else if 0x20000 ≤ o ∧ o < 0x24000 ∧ a = Reg.LP_LOOP_MANVAL g then wOk fun s => relatch d (portMark 2 g (wr s a w))
  else if 0x30000 ≤ o ∧ o < 0x30400 ∧ a = Reg.LP_TRK_CTRL c then
    if bits w 2 0 = 0 then wOk id else oneAction [(0, opTrkCtrl p c 0), (1, opTrkCtrl p c 1), (2, opTrkCtrl p c 2)] w
  else if 0x30000 ≤ o ∧ o < 0x30400 ∧ 0x80 ≤ o % 0x100 ∧ k < 8 then opTrkBias p c k w
  else if 0x60000 ≤ o ∧ o < 0x60200 ∧ a = Reg.LP_PLS_CTRL x then onBit w 0 (opClrAcc x)
  else if 0x70000 ≤ o ∧ o < 0x72000 ∧ a = Reg.LP_STR_CTRL t then onBit w 0 (opReenum t)
  else if 0x70000 ≤ o ∧ o < 0x72000 ∧ 0x100 ≤ o % 0x1000 ∧ i < 64 ∧ (o % 16 = 0 ∨ o % 16 = 4) then opNodeIdWord t i (decide (o % 16 = 4)) w
  else regOp a w

/-- Words of a drive die. -/
def drOp (d a : Nat) (w : Word) : WOp :=
  let o := a % winSize
  let x := (d - 5) * 8 + (o - 0x50000) / 0x100
  if 0x50000 ≤ o ∧ o < 0x50800 ∧ a = Reg.DR_MOT_CTRL x then keyed 0x4D07 w (onBit w 0 (opMotReset x)) else regOp a w

/-- Words of a CAN channel. -/
def chOp (p : PortId) (n a : Nat) (w : Word) : WOp :=
  if a = Reg.NW_CH_CTRL n then
    keyed 0x2C4B w (allActions [onBit w 0 (opCanRecover n), onBit w 1 (opRdRestart n)])
  else if a = Reg.NW_CH_TXREQ n then opTxreq n w.toNat
  else if a = Reg.NW_CH_TXCAN n then opTxcanWord p n w.toNat
  else if a = Reg.NW_CH_Q0_REL n then opQRel p n 0 (bits w 6 0)
  else if a = Reg.NW_CH_Q1_REL n then opQRel p n 1 (bits w 6 0)
  else if a = Reg.NW_CH_C0S n then opC0sRelease p n (bits w 3 0)
  else if a = Reg.NW_CH_XLS n then onBit w 0 (opXlRxRelease p n)
  else regOp a w

/-- Words of the NW die. -/
def nwOp (p : PortId) (a : Nat) (w : Word) : WOp :=
  let o := a % winSize
  if 0x10000 ≤ o ∧ o < 0x18000 then chOp p ((o - 0x10000) / 0x1000) a w
  else if a = Reg.NW_HIER_CTRL then
    keyed 0x3B1D w (allActions [onBit w 1 opFree, onBit w 0 opRejoin])
  else if a = Reg.NW_HIER_ADDR then opHierAddrWrite w
  else regOp a w

/-- A write of w0 of a signal entry (R38, R39, R224): only of a HOST_PARAM entry. -/
def sigOp (d e : Nat) (w : Word) : WOp := fun s =>
  if sigKind s d e = 7 then
    (.ok, fun s =>
      let s := sigAgain d (portMark 0 (d * 4096 + e) (sigWrite d e w (nowUs s) s))
      if rwsMask s (sigAddr d e) ≠ 0 then noteStored s else s)
  else (.locked, id)

/-- A write of word `r` of port TX element `e` of Nn (R343, R353): OUTCOME and TS stay the device's. -/
def txElemOp (n e r a : Nat) (w : Word) : WOp := fun s =>
  if rdB s (Reg.NW_CH_CFG n) 22 = false ∨ txPending s n e then (.locked, id)
  else (.ok, fun s =>
    if r = 0 then wr s a (w &&& 0x3FFFFFFF)
    else if r = 4 then wr s a ((w &&& 0xFE000000) ||| (rd s a &&& 0x00F00000))
    else if r = 12 then s
    else wr s a w)

/-- Words of the memories (Table 19-2). -/
def memOp (a : Nat) (w : Word) : WOp :=
  let d := dieOf a
  let o := a % winSize
  if 1 ≤ d ∧ d ≤ 4 then
    if 0x900000 ≤ o ∧ o < 0x910000 then opCoefWrite a w
    else match sigAt a with | some (d, e) => sigOp d e w | none => wLocked
  else if d = 7 then
    let n := (o - 0x800000) / 0x3400
    let q := (o - 0x800000) % 0x3400
    if n < 8 ∧ 24 ≤ q / 80 ∧ q / 80 < 32 then txElemOp n (q / 80) (q % 80) a w
    else if 0x81F000 ≤ o ∧ o < 0x820000 ∧ o % 16 = 12 then wOk fun s => if bit w 15 && !bit (hwBits s a) 15 then wr s a (rd s a &&& 0x7FFF) else s
    else wLocked
  else wLocked

/-- A write of the word at a mapped address, but for SV_TIME_CTRL. -/
def wordOp0 (p : PortId) (a : Nat) (w : Word) : WOp :=
  let d := dieOf a
  if d = 0 ∧ 0xA0000 ≤ a ∧ a < 0xB0000 then (match sigAt a with | some (d, e) => sigOp d e w | none => wLocked)
  else if 0x800000 ≤ a % winSize then memOp a w
  else match dieClass d with
    | .sv => svOp p a w
    | .lp => lpOp p d a w
    | .dr => drOp d a w
    | .nw => nwOp p a w

/-- A write of the word at a mapped address. Only SV_TIME_CTRL acts on a time base (R117). -/
def wordOp (p : PortId) (a : Nat) (w : Word) : WOp := fun s =>
  if a = Reg.SV_TIME_CTRL then keyed 0x71E5 w (onBit w 0 opSetTb2) s
  else let r := wordOp0 p a w s; (r.1, keepClk r.2)

/-- A read effect that leaves the time bases and the queue alone. -/
def readKept (p : PortId) (own : Bool) (n a : Nat) (s : State) : List Word × State :=
  let r := readWords p own n a s
  (r.1, { r.2 with clk := s.clk, pending := s.pending })

/-- The judgement of one word of a WRITE (R25, R69, R390, R405, R477); `own`: was the port the owner, `first`: the transaction's
address. -/
def judgeWord (p : PortId) (own : Bool) (first a : Nat) (w : Word) : WOp := fun s =>
  if a % 4 ≠ 0 then (.align, id)
  else if mapped a = false ∨ a / winSize ≠ first / winSize then (.unmapped, id)
  else if own = false ∧ a ≠ Reg.SV_OWN_CLAIM ∧ a ≠ Reg.SV_OWN_TKO then (.notOwner, id)
  else if s.boot.loaded = false ∧ recoveryTakes a = false then (.locked, id)
  else wordOp p a w s

/-- A word that fails its judgement: its code, its address, and what its refusal leaves behind. -/
structure WFail where
  code : Status
  addr : Nat
  left : State → State

/-- Judge the words of a WRITE in ascending order, each on the state that the ones before it leave (R390). -/
def judgeWrite (p : PortId) (own : Bool) (first : Nat) : Nat → List Word → State → State × List WFail
  | _, [], t => (t, [])
  | a, w :: r, t =>
    match judgeWord p own first a w t with
    | (.ok, f) => judgeWrite p own first (a + 4) r (f t)
    | (st, f) => let x := judgeWrite p own first (a + 4) r t; (x.1, ⟨st, a, f⟩ :: x.2)

/-- The words a READ may not reach, as addresses with codes (R476, R477). -/
def judgeRead (first : Nat) : Nat → Nat → List WFail
  | _, 0 => []
  | a, n + 1 =>
    if a % 4 ≠ 0 then ⟨.align, a, id⟩ :: judgeRead first (a + 4) n
    else if mapped a = false ∨ a / winSize ≠ first / winSize then ⟨.unmapped, a, id⟩ :: judgeRead first (a + 4) n
    else judgeRead first (a + 4) n

/-- The failure a transaction returns (R25, R390): the first code in order, at the lowest address that has it. -/
def firstFail : List WFail → Option (Status × Nat)
  | [] => none
  | x :: r =>
    match firstFail r with
    | none => some (x.code, x.addr)
    | some y => if statusRank y.1 < statusRank x.code then some y else some (x.code, x.addr)

/-- One word written on its own by a port: judged, and performed or logged (R12, R26, R390). -/
def writeOne (p : PortId) (a : Nat) (w : Word) (s : State) : State :=
  portAct p a (fun s =>
    match judgeWord p (isOwner s p) a a w (renewLease p s) with
    | (.ok, f) => f (renewLease p s)
    | (st, f) => logViol p 2 st a (keepClk f s)) s

end Sys2Proof.Machine
end

