-- ==== Sys2Proof/Machine/Trans.lean ====
section
/-!
DEFINITION. Transactions (R388 to R398): READ, WRITE and POLL, WAIT and the results held for POLL, and the commands of the ports.
-/
namespace Sys2Proof.Machine

/-! ### Each port's transactions -/

/-- A port with nothing pending or held. -/
def recNone : PortRec := { pend := none, held := [] }
/-- The transactions of a port (R392, R398). -/
def recOf (s : State) (p : PortId) : PortRec := ((s.port.recs.find? fun x => decide (x.1 = p)).map fun x => x.2).getD recNone
/-- Replace the transactions of a port. -/
def recSet (p : PortId) (r : PortRec) (s : State) : State :=
  let l := s.port.recs.filter fun x => decide (x.1 ≠ p)
  { s with port := { s.port with recs := if r = recNone then l else l ++ [(p, r)] } }

/-- Is a held result still there (R392: 1 s after its completion it is discarded)? -/
def stillHeld (s : State) (x : Resp × Tick) : Bool := decide ((s.clk.tb0 - x.2).toNat < secTicks)
/-- The port is answered. -/
def answer (p : PortId) (tag : Nat) (st : Status) (data : List Word) (s : State) : State :=
  { s with port := { s.port with resp := some { port := p, tag := tag, status := st, data := data } } }
/-- The port is answered with an error, which is logged (R26). -/
def reject (p : PortId) (cmd tag : Nat) (st : Status) (addr : Nat) (s : State) : State := answer p tag st [] (logViol p cmd st addr s)
/-- A transaction waits: it is pending, and answered with WAIT (R392). -/
def pendPut (p : PortId) (x : PendTx) (s : State) : State := answer p x.tag .wait [] (recSet p { recOf s p with pend := some x } s)
/-- A completed result is held for POLL (R392). -/
def holdResult (r : Resp) (s : State) : State := recSet r.port { recOf s r.port with held := (recOf s r.port).held ++ [(r, s.clk.tb0)] } s

/-! ### Judging and performing -/

/-- CMD of a pending transaction (Table 15-2). -/
def pendCmd (x : PendTx) : Nat := if x.write then 2 else 1

/-- Does a transaction reach a word that BOOT does not answer? -/
def beyondBoot (x : PendTx) : Bool := (List.range x.count).any fun i => !bootWord (x.addr + 4 * i)
/-- Does a WRITE wait for a chunk that is being programmed (R442)? -/
def chunkHeld (s : State) (x : PendTx) : Bool :=
  x.write && updHeld s && (List.range x.count).any fun i =>
    decide (x.addr + 4 * i = Reg.SV_UPD_CHUNK) || decide (Reg.SV_UPD_DATA 0 ≤ x.addr + 4 * i ∧ x.addr + 4 * i < Reg.SV_UPD_DATA 0 + 256)

/-- What the judgement of a transaction finds (R390): the failing words, and the state after a WRITE of them all. -/
def judge (p : PortId) (x : PendTx) (s : State) : State × List WFail :=
  if x.write then judgeWrite p x.owner x.addr x.addr x.data s else (s, judgeRead x.addr x.addr x.count)

/-- The words of a WRITE performed in ascending order after their judgement (R390, R391); one whose guard has come to decline since
then has no effect. -/
def performWrite (p : PortId) : Nat → List Word → State → State
  | _, [], s => s
  | a, w :: r, s =>
    match wordOp p a w s with
    | (.ok, f) => performWrite p (a + 4) r (f s)
    | _ => performWrite p (a + 4) r s

/-- A judged transaction is performed: its data, and the state after. -/
def perform (p : PortId) (x : PendTx) (s : State) : List Word × State :=
  if x.write then ([], performWrite p x.addr x.data s) else readKept p x.owner x.count x.addr s

/-- What refusals leave behind, in address order. -/
def leftBehind (l : List WFail) (s : State) : State := l.foldl (fun t x => keepClk x.left t) s

/-- A transaction is judged at the tick of its CRC, and performed or refused; `slow`: its result is not known in time (R390 to R392,
R401, R442). -/
def accept (p : PortId) (x : PendTx) (slow : Bool) (s : State) : State :=
  let t := renewLease p s
  match judge p x t with
  | (t', l) =>
    match firstFail l with
    | some e => reject p (pendCmd x) x.tag e.1 e.2 (leftBehind l s)
    | none =>
      if slow || chunkHeld s x then pendPut p x t
      else if x.write then answer p x.tag .ok [] t'
      else let r := readKept p x.owner x.count x.addr t; answer p x.tag .ok r.1 r.2

/-! ### Requests (R389, R392 to R398) -/

/-- The most words of a transaction (Table 15-2). -/
def maxCount : PortId → Nat
  | .net _ => 13
  | _ => 64

/-- Is this NET requester a ninth one (R398)? -/
def ninth (p : PortId) (s : State) : Bool :=
  match p with
  | .net _ => decide (8 ≤ (s.port.recs.filter fun x => match x.1 with
      | .net _ => decide (x.1 ≠ p) && (x.2.pend.isSome || x.2.held.any (stillHeld s))
      | _ => false).length)
  | _ => false

/-- Does a port take a frame now (R396, Table 03-12)? -/
def listens (p : PortId) (s : State) : Bool := portsUp s && !(decide (p = .service) && s.port.svcDiscard)

/-- POLL with its TAG (R392). -/
def pollResult (p : PortId) (tag : Nat) (s : State) : State :=
  if (match (recOf s p).pend with | some x => decide (x.tag = tag) | none => false) then answer p tag .wait [] s
  else
    match (recOf s p).held.find? fun x => decide (x.1.tag = tag) && stillHeld s x with
    | some x => answer p tag x.1.status x.1.data (recSet p { recOf s p with held := (recOf s p).held.erase x } s)
    | none => reject p 3 tag .refused 0 s

/-- A transaction whose COUNT is out of range, or whose requester is a ninth (R389, R398), is REFUSED, unless a word of it has a code that
goes before (R25): with COUNT 0, the word at ADDR. -/
def countRefused (p : PortId) (cmd tag addr count : Nat) (data : List Word) (s : State) : State :=
  let n := max 1 count
  let x : PendTx := ⟨tag, decide (cmd = 2), addr, n, if cmd = 2 then (List.range n).map (fun i => data.getD i 0) else [], isOwner s p, false⟩
  match firstFail (judge p x s).2 with
  | some e => if statusRank e.1 < statusRank .refused then reject p cmd tag e.1 e.2 s else reject p cmd tag .refused addr s
  | none => reject p cmd tag .refused addr s

/-- A request (R388): port, CMD, TAG, ADDR, COUNT and DATA, whether its CRC is right, whether its result takes too long. -/
def transact (p : PortId) (cmd tag addr count : Nat) (data : List Word) (crcOk slow : Bool) (s : State) : State :=
  if !listens p s then s
  else if !crcOk then reject p cmd tag .crc addr s
  else if cmd = 3 then
    if addr ≠ 0 ∨ count ≠ 0 then reject p 3 tag .refused addr s else pollResult p tag s
  else if cmd ≠ 1 ∧ cmd ≠ 2 then reject p cmd tag .refused addr s
  else
    match (recOf s p).pend with
    | some x => answer p x.tag .wait [] s
    | none =>
      if count = 0 ∨ maxCount p < count ∨ ninth p s then countRefused p cmd tag addr count data s
      else
        let x : PendTx := ⟨tag, decide (cmd = 2), addr, count,
          if cmd = 2 then (List.range count).map (fun i => data.getD i 0) else [], isOwner s p, false⟩
        if devState s = 1 ∧ beyondBoot x then pendPut p { x with boot := true } s else accept p x slow s

/-- A pending transaction completes (R392): one held back by BOOT is judged first (R394). -/
def complete (p : PortId) (s : State) : State :=
  match (recOf s p).pend with
  | none => s
  | some x =>
    if (x.boot ∧ devState s = 1) ∨ chunkHeld s x then s
    else
      let s := recSet p { recOf s p with pend := none } s
      let done := fun (st : Status) (d : List Word) => holdResult { port := p, tag := x.tag, status := st, data := d }
      if x.boot then
        match firstFail (judge p x s).2 with
        | some e => done e.1 [] (logViol p (pendCmd x) e.1 e.2 (leftBehind (judge p x s).2 s))
        | none => let r := perform p x (renewLease p s); done .ok r.1 r.2
      else let r := perform p x s; done .ok r.1 r.2

/-! ### The commands -/

/-- READ (R390). A CMD that Table 15-2 does not define comes here too. -/
def execRead (p : PortId) (cmd tag addr count : Nat) (crcOk slow : Bool) (s : State) : Host.Outcome State Fault Refusal :=
  run (transact p (if cmd = 2 ∨ cmd = 3 then 1 else cmd) tag addr count [] crcOk slow) s

/-- WRITE (R390): COUNT is the number of data words. -/
def execWrite (p : PortId) (tag addr : Nat) (data : List Word) (crcOk slow : Bool) (s : State) : Host.Outcome State Fault Refusal :=
  runClk (transact p 2 tag addr data.length data crcOk slow) s

/-- POLL (R392). -/
def execPoll (p : PortId) (tag addr count : Nat) (crcOk : Bool) (s : State) : Host.Outcome State Fault Refusal :=
  run (transact p 3 tag addr count [] crcOk false) s

/-- FRAME_ENDED_EARLY (R389): a HOST or SERVICE frame that ends early is only counted. -/
def effFrameEndedEarly (p : PortId) (s : State) : State :=
  if (p = .host ∨ p = .service) ∧ listens p s then count31 Reg.SV_OWN_ERR_CNT s else s
/-- FRAME_ENDED_EARLY (R389): the port. -/
def execFrameEndedEarly (p : PortId) (s : State) : Host.Outcome State Fault Refusal := run (effFrameEndedEarly p) s

/-- TRANSACTION_COMPLETE (R392): the port whose pending transaction completes. -/
def execTransactionComplete (p : PortId) (s : State) : Host.Outcome State Fault Refusal :=
  runClk (fun s => if portsUp s then complete p s else s) s

/-- RESULT_DISCARD (R392): results held for 1 s or more are discarded. -/
def effResultDiscard (s : State) : State :=
  let keep := fun (r : PortRec) => { r with held := r.held.filter (stillHeld s) }
  { s with port := { s.port with recs := (s.port.recs.map fun x => (x.1, keep x.2)).filter fun x => decide (x.2 ≠ recNone) } }
/-- RESULT_DISCARD (R392). -/
def execResultDiscard (s : State) : Host.Outcome State Fault Refusal := run effResultDiscard s

/-- CHUNK (R442): the writing port and the byte count; while the previous chunk is being programmed it is a transaction that waits. -/
def execUpdChunk (p : PortId) (n : Nat) (s : State) : Host.Outcome State Fault Refusal :=
  run (fun s => if updHeld s then transact p 2 0 Reg.SV_UPD_CHUNK 1 [w32 n] true false s
    else ownerWrite p Reg.SV_UPD_CHUNK (opChunk n) s) s

/-- SV_OWN_CLAIM (R399): the claimant and the word. -/
def execSvOwnClaim (p : PortId) (w : Word) (s : State) : Host.Outcome State Fault Refusal := run (writeOne p Reg.SV_OWN_CLAIM w) s
/-- SV_OWN_TKO (R400): the writing port and the code. -/
def execSvOwnTko (p : PortId) (w : Word) (s : State) : Host.Outcome State Fault Refusal := run (writeOne p Reg.SV_OWN_TKO w) s
/-- SV_OWN_REL (R402): the writing port and the word. -/
def execSvOwnRel (p : PortId) (w : Word) (s : State) : Host.Outcome State Fault Refusal := run (writeOne p Reg.SV_OWN_REL w) s

/-- LEASE_EXPIRY (R401): the lease has run out. -/
def effLeaseExpiry (s : State) : State :=
  if s.port.owner.isSome && reached s.clk.tb0 s.port.leaseEnd then ownerChange none 4 s else s
/-- LEASE_EXPIRY (R401). -/
def execLeaseExpiry (s : State) : Host.Outcome State Fault Refusal := run effLeaseExpiry s

/-- RESERVATION_LAPSE (R402): 2 s after a release. -/
def effReservationLapse (s : State) : State :=
  match s.port.resv with
  | some (_, t) => if reached s.clk.tb0 t then { s with port := { s.port with resv := none } } else s
  | none => s
/-- RESERVATION_LAPSE (R402). -/
def execReservationLapse (s : State) : Host.Outcome State Fault Refusal := run effReservationLapse s

/-- RC_FIELD_READ (R15): a port's read of one word that has an RC field. -/
def effRcFieldRead (p : PortId) (a : Nat) (s : State) : State :=
  portAct p a (fun s => if mapped a then let r := readWord p (isOwner s p) a s; answer p 0 .ok [r.1] r.2 else s) s
/-- RC_FIELD_READ (R15): the reading port and the address. -/
def execRcFieldRead (p : PortId) (a : Nat) (s : State) : Host.Outcome State Fault Refusal := run (effRcFieldRead p a) s

/-- REGISTER_WRITE (R12): the writing port, the address and the word. -/
def execRegisterWrite (p : PortId) (a : Nat) (w : Word) (s : State) : Host.Outcome State Fault Refusal := runClk (writeOne p a w) s

/-- HS_CS_N_RISING (R491): the response just sent to HOST was cut short; unless it was WAIT, its result is held. -/
def effHsCsNRising (s : State) : State :=
  match s.port.resp with
  | some r =>
    if r.port = .host then
      let s := { s with port := { s.port with resp := none } }
      if r.status = .wait then s else holdResult r s
    else s
  | none => s
/-- HS_CS_N_RISING (R491). -/
def execHsCsNRising (s : State) : Host.Outcome State Fault Refusal := run effHsCsNRising s

/-- PREAMBLE_OUT_OF_RANGE (R396): counted, and SERVICE discards what follows. -/
def effPreambleOutOfRange (s : State) : State :=
  if listens .service s then
    let s := count31 Reg.SV_OWN_ERR_CNT s
    { s with port := { s.port with svcDiscard := true } }
  else s
/-- PREAMBLE_OUT_OF_RANGE (R396). -/
def execPreambleOutOfRange (s : State) : Host.Outcome State Fault Refusal := run effPreambleOutOfRange s

/-- SU_RXD_IDLE (R396): SERVICE waits for a preamble again. -/
def execSuRxdIdle (s : State) : Host.Outcome State Fault Refusal := run (fun s => { s with port := { s.port with svcDiscard := false } }) s

end Sys2Proof.Machine
end

