-- ==== Sys2Proof/Machine/Rx.lean ====
section
/-!
DEFINITION. A frame received on a CAN channel (R334, R341, R345, R346, R359, R367, R397): the clash check, the filters, what each
filter action does, and ACCESS frames.
-/
namespace Sys2Proof.Machine

/-! ### CRC-16/CCITT-FALSE (R388) -/

/-- One bit of the CRC: polynomial 0x1021, not reflected. -/
def crc16Bit (c : BitVec 16) : BitVec 16 := if c.getLsbD 15 then (c <<< 1) ^^^ 0x1021 else c <<< 1
/-- One byte of the CRC. -/
def crc16Byte (c : BitVec 16) (b : Byte) : BitVec 16 :=
  (List.range 8).foldl (fun c _ => crc16Bit c) (c ^^^ (b.setWidth 16 <<< 8))
/-- The CRC of a byte string: initial value 0xFFFF, no final XOR. -/
def crc16 (l : List Byte) : BitVec 16 := l.foldl crc16Byte 0xFFFF

/-! ### ACCESS frames (R397) -/

/-- Is this an ACCESS frame for the device (R397, Table 14-1)? -/
def isAccess (s : State) (f : CanFrame) : Bool :=
  decide (f.fmt = .ext) && f.fdf && decide (keyObj f.id / 0x1000 = 5) && decide (keyClass f.id = 1 ∨ keyClass f.id = 2)
    && decide (ownAddr s = some (keyObj f.id % 0x1000))

/-- The bytes of a response (Table 15-1). -/
def respBytes (r : Resp) : List Byte :=
  let l := BitVec.ofNat 8 (0x50 + statusCode r.status) :: BitVec.ofNat 8 r.tag :: r.data.flatMap fun w => beBytes 4 w.toNat
  l ++ beBytes 2 (crc16 l).toNat

/-- Zeros up to the next CAN FD length (R397). -/
def fdPad (l : List Byte) : List Byte := l ++ List.replicate (dlcLen true (dlcOf l.length) - l.length) 0

/-- The response to requester `a` is queued on Nn in the class of its request (R397); a device that may not use its address sends
none, and one that finds no free buffer leaves the result held. -/
def accessReply (n cls a : Nat) (s : State) : State :=
  match s.port.resp with
  | none => s
  | some r =>
    if maySendOwn s then
      match txQueue s n 4 23 (ownFrame s n cls (0x5000 + a) (fdPad (respBytes r))) none with
      | some s => s
      | none => if r.status = .wait then s else holdResult r s
    else s

/-- An ACCESS frame reaches the access engine (R397): its payload is the request of Table 15-1. -/
def accessFrame (n : Nat) (f : CanFrame) (slow : Bool) (s : State) : State :=
  let d := f.data
  let a := keySrc f.id
  let cmd := beAt d 0 1
  let count := beAt d 6 1
  let k := 7 + (if cmd = 2 then 4 * count else 0)
  let crcOk := decide (k + 2 ≤ d.length) && decide (beAt d k 2 = (crc16 (d.take k)).toNat)
  let s := { s with port := { s.port with resp := none } }
  let s := transact (.net a) cmd (beAt d 1 1) (beAt d 2 4) count ((List.range count).map fun i => w32 (beAt d (7 + 4 * i) 4)) crcOk slow s
  keepClk (accessReply n (keyClass f.id) a) s

/-! ### Actions (Table 13-7) -/

/-- The frames of the synchronisation engine (R113, R114); any other is dropped. -/
def syncFrame (n : Nat) (f : CanFrame) (sof : Tick) (s : State) : State :=
  if f.fmt = .ext ∧ keyObj f.id = 0x7F00 then effSyncRx n (keySrc f.id) f.data sof s
  else if f.fmt = .ext ∧ keyObj f.id = 0x7F01 then effFollowUpRx n (keySrc f.id) f.data s
  else s

/-- The actions that leave the time bases alone; `e` is the element that matched. -/
def rxAction (n e act : Nat) (f : CanFrame) (sof : Tick) (s : State) : State :=
  match act with
  | 1 => fifoStore n 0 e f sof s
  | 2 => fifoStore n 1 e f sof s
  | 3 => c0Store n e f sof s
  | 4 => let r := importFrame n f s; if r.1 then r.2 else noMatch n r.2
  | 5 =>
    match hierTake n f s with
    | some s => s
    | none => bridgeRoute n e f sof s
  | 7 => xlStore n e f sof s
  | _ => s

/-- What NOMATCH does (R345, R346). -/
def rxNoMatch (n : Nat) (f : CanFrame) (sof : Tick) (s : State) : State :=
  match rdF s (Reg.NW_CH_RXCFG n) 31 29 with
  | 1 => fifoStore n 0 0 f sof s
  | 2 => fifoStore n 1 0 f sof s
  | _ => noMatch n s

/-- A frame past the clash check meets the filters (R345). Only the synchronisation engine and a transaction act on a time base. -/
def rxFilter (n : Nat) (f : CanFrame) (sof : Tick) (slow : Bool) (s : State) : State :=
  match filtFirst s n f with
  | none => keepClk (rxNoMatch n f sof) s
  | some (e, act) =>
    if act = 6 then syncFrame n f sof s
    else if act = 5 ∧ isAccess s f = true then accessFrame n f slow s
    else keepClk (rxAction n e act f sof) s

/-- Has the frame the device's own source address (R359)? -/
def ownSource (s : State) (f : CanFrame) : Bool := decide (f.fmt ≠ .base) && decide (ownAddr s = some (keySrc (frameKey f)))

/-- Does the channel take frames of this format (R336)? -/
def takesFmt (s : State) (n : Nat) (f : CanFrame) : Bool :=
  if f.fmt = .xl then rdB s (Reg.NW_CH_CFG n) 27 else !f.fdf || rdB s (Reg.NW_CH_CFG n) 28

/-- The reception counts: a confirmation in RATE_DETECT (R341), a successful reception in NORMAL (R357). -/
def rxCount (n : Nat) (f : CanFrame) (s : State) : State :=
  if opst s n = 4 then (if f.fmt = .xl then moveCand n s else confirmCand n f.brs s) else if opst s n = 2 then rxOkCount n s else s

/-- CAN_FRAME_RX (R345, R346, R359): an error-free frame that the channel did not send. -/
def effCanFrameRx (n : Nat) (f : CanFrame) (sof : Tick) (slow : Bool) (s : State) : State :=
  if !chanOn s n ∨ ¬ (opst s n = 2 ∨ opst s n = 3 ∨ opst s n = 4) ∨ takesFmt s n f = false then s
  else if opst s n = 4 ∧ f.brs = true ∧ rd s (Reg.NW_CH_RATE_D n (rdF s (Reg.NW_CH_STAT n) 23 20)) = 0 then keepClk (confirmCand n f.brs) s
  else
    let s := keepClk (rxCount n f) s
    if ownSource s f then keepClk (declareClash n 1 (frameKey f)) s
    else if f.rtr then keepClk (noMatch n) s
    else rxFilter n f sof slow s

/-- CAN_FRAME_RX (R345): the channel, the frame, the TB1 of its SOF, and whether the result of an ACCESS request in it takes too long. -/
def execCanFrameRx (n : Nat) (f : CanFrame) (sof : Tick) (slow : Bool) (s : State) : Host.Outcome State Fault Refusal :=
  guardIx n 8 (runClk (effCanFrameRx n f sof slow) s)

end Sys2Proof.Machine
end

