-- ==== Sys2Proof/Machine/Dispatch.lean ====
section
/-!
DEFINITION. One arm per command: a direct call of its meaning, or a rejection by name.
-/
namespace Sys2Proof.Machine

/-- The effect of a command on everything but the queue. -/
def exec (i : Instr) (s : State) : Host.Outcome State Fault Refusal :=
  match i with
  | .powerOn r => Sys2Proof.Machine.execPowerOn r s
  | .railBad r mv => Sys2Proof.Machine.execRailBad r mv s
  | .railGood r mv low => Sys2Proof.Machine.execRailGood r mv low s
  | .railFaultHandover r low => Sys2Proof.Machine.execRailFaultHandover r low s
  | .hibReq p => Sys2Proof.Machine.execHibReq p s
  | .wakeEdge k rising => Sys2Proof.Machine.execWakeEdge k rising s
  | .rtcAlarm => Sys2Proof.Machine.execRtcAlarm s
  | .latchedWake => Sys2Proof.Machine.execLatchedWake s
  | .wakeRelease r => Sys2Proof.Machine.execWakeRelease r s
  | .wakeRailTimeout => Sys2Proof.Machine.execWakeRailTimeout s
  | .resetAssert => Sys2Proof.Machine.execResetAssert s
  | .resetRelease r => Sys2Proof.Machine.execResetRelease r s
  | .initEnd => Sys2Proof.Machine.execInitEnd s
  | .initWrite => Sys2Proof.Machine.execInitWrite s
  | .initFill => Sys2Proof.Machine.execInitFill s
  | .initLoad => Sys2Proof.Machine.execInitLoad s
  | .initPoll => Sys2Proof.Machine.execInitPoll s
  | .initPollTimeout => Sys2Proof.Machine.execInitPollTimeout s
  | .initBarrier => Sys2Proof.Machine.execInitBarrier s
  | .initDelay => Sys2Proof.Machine.execInitDelay s
  | .refclkLoss => Sys2Proof.Machine.execRefclkLoss s
  | .refclkCheck ok => Sys2Proof.Machine.execRefclkCheck ok s
  | .safeReq p => Sys2Proof.Machine.execSafeReq p s
  | .resume p => Sys2Proof.Machine.execResume p s
  | .autoResume => Sys2Proof.Machine.execAutoResume s
  | .restart p => Sys2Proof.Machine.execRestart p s
  | .ownerRestartExec => Sys2Proof.Machine.execOwnerRestartExec s
  | .lockstepFault pc => Sys2Proof.Machine.execLockstepFault pc s
  | .timeChangeApply => Sys2Proof.Machine.execTimeChangeApply s
  | .ppsEdge => Sys2Proof.Machine.execPpsEdge s
  | .ppsMissing => Sys2Proof.Machine.execPpsMissing s
  | .syncSend => Sys2Proof.Machine.execSyncSend s
  | .followUpSend n => Sys2Proof.Machine.execFollowUpSend n s
  | .syncRx n src data t2 => Sys2Proof.Machine.execSyncRx n src data t2 s
  | .followUpRx n src data => Sys2Proof.Machine.execFollowUpRx n src data s
  | .netMissing => Sys2Proof.Machine.execNetMissing s
  | .setTb2 p => Sys2Proof.Machine.execSetTb2 p s
  | .rtcFail => Sys2Proof.Machine.execRtcFail s
  | .timeLoRead p addr => Sys2Proof.Machine.execTimeLoRead p addr s
  | .tb1Wrap => Sys2Proof.Machine.execTb1Wrap s
  | .ainSample x => Sys2Proof.Machine.execAinSample x s
  | .ainDelivery x meas overload opened => Sys2Proof.Machine.execAinDelivery x meas overload opened s
  | .cjMeasure d w => Sys2Proof.Machine.execCjMeasure d w s
  | .prbScan x => Sys2Proof.Machine.execPrbScan x s
  | .prbDelivery x ref exc sense ys => Sys2Proof.Machine.execPrbDelivery x ref exc sense ys s
  | .plsEdge x rise t rejected => Sys2Proof.Machine.execPlsEdge x rise t rejected s
  | .plsSample x => Sys2Proof.Machine.execPlsSample x s
  | .clrAcc p x => Sys2Proof.Machine.execClrAcc p x s
  | .strPowerUp x => Sys2Proof.Machine.execStrPowerUp x s
  | .strPowerupWaitDone x line => Sys2Proof.Machine.execStrPowerupWaitDone x line s
  | .strScanStart x line => Sys2Proof.Machine.execStrScanStart x line s
  | .strReadSlot x => Sys2Proof.Machine.execStrReadSlot x s
  | .strReply x bytes framing => Sys2Proof.Machine.execStrReply x bytes framing s
  | .strReplyTimeout x => Sys2Proof.Machine.execStrReplyTimeout x s
  | .strDelivery x => Sys2Proof.Machine.execStrDelivery x s
  | .strRead x => Sys2Proof.Machine.execStrRead x s
  | .strConvert x => Sys2Proof.Machine.execStrConvert x s
  | .strSearch x present => Sys2Proof.Machine.execStrSearch x present s
  | .strAssign x => Sys2Proof.Machine.execStrAssign x s
  | .strResetAddr x => Sys2Proof.Machine.execStrResetAddr x s
  | .strPark x => Sys2Proof.Machine.execStrPark x s
  | .strEnumPass x => Sys2Proof.Machine.execStrEnumPass x s
  | .strOvercurrent x line => Sys2Proof.Machine.execStrOvercurrent x line s
  | .strOcRetry x => Sys2Proof.Machine.execStrOcRetry x s
  | .strLowLine x line => Sys2Proof.Machine.execStrLowLine x line s
  | .strBusNoise x line => Sys2Proof.Machine.execStrBusNoise x line s
  | .reenum p x => Sys2Proof.Machine.execReenum p x s
  | .strNodeIdWrite p x k lo hi => Sys2Proof.Machine.execStrNodeIdWrite p x k lo hi s
  | .trkLatch c => Sys2Proof.Machine.execTrkLatch c s
  | .trkUpdateDone c => Sys2Proof.Machine.execTrkUpdateDone c s
  | .trkCommit c => Sys2Proof.Machine.execTrkCommit c s
  | .trkPreset p c => Sys2Proof.Machine.execTrkPreset p c s
  | .trkClear p c => Sys2Proof.Machine.execTrkClear p c s
  | .trkClrBias p c => Sys2Proof.Machine.execTrkClrBias p c s
  | .bargeRead p e n => Sys2Proof.Machine.execBargeRead p e n s
  | .loopLatch g => Sys2Proof.Machine.execLoopLatch g s
  | .loopPeriodComplete g => Sys2Proof.Machine.execLoopPeriodComplete g s
  | .loopCommit g extra => Sys2Proof.Machine.execLoopCommit g extra s
  | .stepNop g => Sys2Proof.Machine.execStepNop g s
  | .stepLdi g => Sys2Proof.Machine.execStepLdi g s
  | .stepLdk g => Sys2Proof.Machine.execStepLdk g s
  | .stepLdz g => Sys2Proof.Machine.execStepLdz g s
  | .stepStz g => Sys2Proof.Machine.execStepStz g s
  | .stepLdc g => Sys2Proof.Machine.execStepLdc g s
  | .stepOut g => Sys2Proof.Machine.execStepOut g s
  | .stepLdf g => Sys2Proof.Machine.execStepLdf g s
  | .stepAdd g => Sys2Proof.Machine.execStepAdd g s
  | .stepSub g => Sys2Proof.Machine.execStepSub g s
  | .stepMulc g => Sys2Proof.Machine.execStepMulc g s
  | .stepMul g => Sys2Proof.Machine.execStepMul g s
  | .stepDiv g => Sys2Proof.Machine.execStepDiv g s
  | .stepAbs g => Sys2Proof.Machine.execStepAbs g s
  | .stepNeg g => Sys2Proof.Machine.execStepNeg g s
  | .stepMin g => Sys2Proof.Machine.execStepMin g s
  | .stepMax g => Sys2Proof.Machine.execStepMax g s
  | .stepClamp g => Sys2Proof.Machine.execStepClamp g s
  | .stepSel g => Sys2Proof.Machine.execStepSel g s
  | .stepCmp g => Sys2Proof.Machine.execStepCmp g s
  | .stepPwl g => Sys2Proof.Machine.execStepPwl g s
  | .stepInteg g => Sys2Proof.Machine.execStepInteg g s
  | .stepLag g => Sys2Proof.Machine.execStepLag g s
  | .stepRate g => Sys2Proof.Machine.execStepRate g s
  | .stepDiff g => Sys2Proof.Machine.execStepDiff g s
  | .stepHyst g => Sys2Proof.Machine.execStepHyst g s
  | .stepRegion g => Sys2Proof.Machine.execStepRegion g s
  | .stepRep g => Sys2Proof.Machine.execStepRep g s
  | .stepTimer g => Sys2Proof.Machine.execStepTimer g s
  | .modeReqManual p g => Sys2Proof.Machine.execModeReqManual p g s
  | .modeReqAuto p g => Sys2Proof.Machine.execModeReqAuto p g s
  | .modeReqRearm p g => Sys2Proof.Machine.execModeReqRearm p g s
  | .coefWrite p addr w => Sys2Proof.Machine.execCoefWrite p addr w s
  | .coefApply p e => Sys2Proof.Machine.execCoefApply p e s
  | .signalEntryRead p d e => Sys2Proof.Machine.execSignalEntryRead p d e s
  | .loopZRead p g => Sys2Proof.Machine.execLoopZRead p g s
  | .exportApply d e late => Sys2Proof.Machine.execExportApply d e late s
  | .syssigSample => Sys2Proof.Machine.execSyssigSample s
  | .syssigImportApply d e late => Sys2Proof.Machine.execSyssigImportApply d e late s
  | .driveActuation mot x late => Sys2Proof.Machine.execDriveActuation mot x late s
  | .seqEvaluate n slack => Sys2Proof.Machine.execSeqEvaluate n slack s
  | .seqTransition n late => Sys2Proof.Machine.execSeqTransition n late s
  | .writeSig n a => Sys2Proof.Machine.execWriteSig n a s
  | .copySig n a => Sys2Proof.Machine.execCopySig n a s
  | .loopReq n a => Sys2Proof.Machine.execLoopReq n a s
  | .loopManval n a => Sys2Proof.Machine.execLoopManval n a s
  | .seqChan n a => Sys2Proof.Machine.execSeqChan n a s
  | .trkCmd n a => Sys2Proof.Machine.execTrkCmd n a s
  | .plsClr n a => Sys2Proof.Machine.execPlsClr n a s
  | .seqActSafe n a => Sys2Proof.Machine.execSeqActSafe n a s
  | .seqActHibernate n a => Sys2Proof.Machine.execSeqActHibernate n a s
  | .seqActLog n a => Sys2Proof.Machine.execSeqActLog n a s
  | .seqCtl n a => Sys2Proof.Machine.execSeqCtl n a s
  | .seqStart p n => Sys2Proof.Machine.execSeqStart p n s
  | .seqGoto p n st => Sys2Proof.Machine.execSeqGoto p n st s
  | .seqStop p n => Sys2Proof.Machine.execSeqStop p n s
  | .ucEnd x => Sys2Proof.Machine.execUcEnd x s
  | .ucRise x => Sys2Proof.Machine.execUcRise x s
  | .ucReg x => Sys2Proof.Machine.execUcReg x s
  | .ucRecov x => Sys2Proof.Machine.execUcRecov x s
  | .ucJmp x => Sys2Proof.Machine.execUcJmp x s
  | .coilCurrentCrossing x ma => Sys2Proof.Machine.execCoilCurrentCrossing x ma s
  | .valveWordTimeout x => Sys2Proof.Machine.execValveWordTimeout x s
  | .valveOvercurrent x ma => Sys2Proof.Machine.execValveOvercurrent x ma s
  | .bankGrant b => Sys2Proof.Machine.execBankGrant b s
  | .deferTimeout x => Sys2Proof.Machine.execDeferTimeout x s
  | .boostRecharge k mv => Sys2Proof.Machine.execBoostRecharge k mv s
  | .boostRechargeDone k mv dv ma => Sys2Proof.Machine.execBoostRechargeDone k mv dv ma s
  | .boostAbs k mv => Sys2Proof.Machine.execBoostAbs k mv s
  | .boostNoCharge k mv => Sys2Proof.Machine.execBoostNoCharge k mv s
  | .coilThermalUpdate x ma i2 drawn recov => Sys2Proof.Machine.execCoilThermalUpdate x ma i2 drawn recov s
  | .rmeasWindow x d vin ma vinOk => Sys2Proof.Machine.execRmeasWindow x d vin ma vinOk s
  | .ilkOpen b => Sys2Proof.Machine.execIlkOpen b s
  | .ilkClosed b => Sys2Proof.Machine.execIlkClosed b s
  | .driveItemPublish k => Sys2Proof.Machine.execDriveItemPublish k s
  | .kickTimeout x => Sys2Proof.Machine.execKickTimeout x s
  | .tachEdge x t => Sys2Proof.Machine.execTachEdge x t s
  | .tachSpeedUpdate x ma => Sys2Proof.Machine.execTachSpeedUpdate x ma s
  | .motStall x => Sys2Proof.Machine.execMotStall x s
  | .tachTimeout x ma => Sys2Proof.Machine.execTachTimeout x ma s
  | .retryKick x => Sys2Proof.Machine.execRetryKick x s
  | .retryCountClear x => Sys2Proof.Machine.execRetryCountClear x s
  | .motReset p x => Sys2Proof.Machine.execMotReset p x s
  | .canFrameRx n f sof slow => Sys2Proof.Machine.execCanFrameRx n f sof slow s
  | .canProtocolExc n id => Sys2Proof.Machine.execCanProtocolExc n id s
  | .canTxComplete n b sof meas => Sys2Proof.Machine.execCanTxComplete n b sof meas s
  | .canTxAttemptFail n b sof how => Sys2Proof.Machine.execCanTxAttemptFail n b sof how s
  | .canErrorFrame n lec rules => Sys2Proof.Machine.execCanErrorFrame n lec rules s
  | .canRecoveryDone n => Sys2Proof.Machine.execCanRecoveryDone n s
  | .canRecover p n => Sys2Proof.Machine.execCanRecover p n s
  | .rdRestart p n => Sys2Proof.Machine.execRdRestart p n s
  | .rateDwellTimeout n => Sys2Proof.Machine.execRateDwellTimeout n s
  | .txreq p n mask => Sys2Proof.Machine.execTxreq p n mask s
  | .txcan p n mask locked => Sys2Proof.Machine.execTxcan p n mask locked s
  | .launchInstant n b => Sys2Proof.Machine.execLaunchInstant n b s
  | .qRel p n q count => Sys2Proof.Machine.execQRel p n q count s
  | .c0sRelease p n mask => Sys2Proof.Machine.execC0sRelease p n mask s
  | .xlRxRelease p n => Sys2Proof.Machine.execXlRxRelease p n s
  | .importApply d e => Sys2Proof.Machine.execImportApply d e s
  | .joinStart => Sys2Proof.Machine.execJoinStart s
  | .joinRetry => Sys2Proof.Machine.execJoinRetry s
  | .joinReqRx n data => Sys2Proof.Machine.execJoinReqRx n data s
  | .joinAckRx n src data => Sys2Proof.Machine.execJoinAckRx n src data s
  | .hierRejoin p => Sys2Proof.Machine.execHierRejoin p s
  | .hierFree p => Sys2Proof.Machine.execHierFree p s
  | .hierAddrWrite p w => Sys2Proof.Machine.execHierAddrWrite p w s
  | .censusSend => Sys2Proof.Machine.execCensusSend s
  | .censusRx n src data => Sys2Proof.Machine.execCensusRx n src data s
  | .censusLost => Sys2Proof.Machine.execCensusLost s
  | .proxyDataRx n data => Sys2Proof.Machine.execProxyDataRx n data s
  | .proxyTimeout => Sys2Proof.Machine.execProxyTimeout s
  | .bridgeForward o => Sys2Proof.Machine.execBridgeForward o s
  | .read p cmd tag addr count crcOk slow => Sys2Proof.Machine.execRead p cmd tag addr count crcOk slow s
  | .write p tag addr data crcOk slow => Sys2Proof.Machine.execWrite p tag addr data crcOk slow s
  | .poll p tag addr count crcOk => Sys2Proof.Machine.execPoll p tag addr count crcOk s
  | .frameEndedEarly p => Sys2Proof.Machine.execFrameEndedEarly p s
  | .transactionComplete p => Sys2Proof.Machine.execTransactionComplete p s
  | .resultDiscard => Sys2Proof.Machine.execResultDiscard s
  | .svOwnClaim p w => Sys2Proof.Machine.execSvOwnClaim p w s
  | .svOwnTko p w => Sys2Proof.Machine.execSvOwnTko p w s
  | .svOwnRel p w => Sys2Proof.Machine.execSvOwnRel p w s
  | .leaseExpiry => Sys2Proof.Machine.execLeaseExpiry s
  | .reservationLapse => Sys2Proof.Machine.execReservationLapse s
  | .eventRaised => Sys2Proof.Machine.execEventRaised s
  | .runClose => Sys2Proof.Machine.execRunClose s
  | .recordProgramDone => Sys2Proof.Machine.execRecordProgramDone s
  | .logMediaFail erase timeout => Sys2Proof.Machine.execLogMediaFail erase timeout s
  | .logRetry fail timeout => Sys2Proof.Machine.execLogRetry fail timeout s
  | .logWindowRead p drawer k => Sys2Proof.Machine.execLogWindowRead p drawer k s
  | .snapshotRead p => Sys2Proof.Machine.execSnapshotRead p s
  | .uploadStart p dest => Sys2Proof.Machine.execUploadStart p dest s
  | .uploadAbort p => Sys2Proof.Machine.execUploadAbort p s
  | .uploadFrame => Sys2Proof.Machine.execUploadFrame s
  | .xlRelay f => Sys2Proof.Machine.execXlRelay f s
  | .logClear p => Sys2Proof.Machine.execLogClear p s
  | .logClearEraseDone => Sys2Proof.Machine.execLogClearEraseDone s
  | .updBegin p => Sys2Proof.Machine.execUpdBegin p s
  | .updChunk p n => Sys2Proof.Machine.execUpdChunk p n s
  | .chunkProgramDone fail => Sys2Proof.Machine.execChunkProgramDone fail s
  | .updateFrameRx src data => Sys2Proof.Machine.execUpdateFrameRx src data s
  | .updAbort p => Sys2Proof.Machine.execUpdAbort p s
  | .sessionIdleTimeout => Sys2Proof.Machine.execSessionIdleTimeout s
  | .verifyDone => Sys2Proof.Machine.execVerifyDone s
  | .updActivate p mv => Sys2Proof.Machine.execUpdActivate p mv s
  | .activationRestart => Sys2Proof.Machine.execActivationRestart s
  | .updConfirm p => Sys2Proof.Machine.execUpdConfirm p s
  | .trialTimerExpiry => Sys2Proof.Machine.execTrialTimerExpiry s
  | .rejectTrial p => Sys2Proof.Machine.execRejectTrial p s
  | .updCommit p fails timeout => Sys2Proof.Machine.execUpdCommit p fails timeout s
  | .settingsCommitTimer fails timeout => Sys2Proof.Machine.execSettingsCommitTimer fails timeout s
  | .settingsReset p => Sys2Proof.Machine.execSettingsReset p s
  | .siteKey p => Sys2Proof.Machine.execSiteKey p s
  | .diodeReading d t => Sys2Proof.Machine.execDiodeReading d t s
  | .canaryRun d laps mv moved => Sys2Proof.Machine.execCanaryRun d laps mv moved s
  | .canaryRetry d laps mv moved => Sys2Proof.Machine.execCanaryRetry d laps mv moved s
  | .driftCheck probe x mean => Sys2Proof.Machine.execDriftCheck probe x mean s
  | .nvmReset p => Sys2Proof.Machine.execNvmReset p s
  | .nvmResetDone ok => Sys2Proof.Machine.execNvmResetDone ok s
  | .rcFieldRead p a => Sys2Proof.Machine.execRcFieldRead p a s
  | .registerWrite p a w => Sys2Proof.Machine.execRegisterWrite p a w s
  | .busIntegration n => Sys2Proof.Machine.execBusIntegration n s
  | .vcapThresholdCrossing k mv => Sys2Proof.Machine.execVcapThresholdCrossing k mv s
  | .spaceLevelRestored x line => Sys2Proof.Machine.execSpaceLevelRestored x line s
  | .hsCsNRising => Sys2Proof.Machine.execHsCsNRising s
  | .preambleOutOfRange => Sys2Proof.Machine.execPreambleOutOfRange s
  | .suRxdIdle => Sys2Proof.Machine.execSuRxdIdle s
  | .clearBackoffEnd => Sys2Proof.Machine.execClearBackoffEnd s

end Sys2Proof.Machine
end

