-- ==== Sys2Proof/Machine/Step.lean ====
section
/-!
DEFINITION. One step of the block: the command at the front of the queue, or one clock period on an empty queue; and the
command a table word spells, put in front (the table spells none).
-/
namespace Sys2Proof.Machine

/-- One step: the front command's effect on the state with the queue's rest. On an empty queue, one period of the clock that
runs (log entry 6). -/
def step (s : State) : Host.Outcome State Fault Refusal :=
  match s.pending with
  | [] => .next (tick s)
  | c :: r => exec c { s with pending := r }

/-- The state with the command that a table word spells at the front of its queue. -/
def State.withFetchWord (s : State) (nbits w : Nat) : State :=
  match decodeTableWord nbits w with
  | none => s
  | some c => { s with pending := c :: s.pending }

end Sys2Proof.Machine
end

