-- ==== Sys2Proof/Machine/Balls.lean ====
section
/-!
DEFINITION. What the output balls carry (Table 02-6; R49, R63, R64, R280, R316, R337).
-/
namespace Sys2Proof.Machine

/-- The output balls of Table 02-6: gates and switches of banks, valve channels and converters by their global number, motion outputs,
CAN outputs, string clamps, ATTN_N and PWR_EN. -/
inductive Ball where
  | bankBoost (b : Nat)
  | bankVin (b : Nat)
  | valveGate (x : Nat)
  | valveDrain (x : Nat)
  | boostGate (k : Nat)
  | fanPwm (x : Nat)
  | fanAout (x : Nat)
  | canTxd (n : Nat)
  | canMode (n : Nat)
  | strLine (n : Nat)
  | attn
  | pwrEn
  deriving DecidableEq, Repr

/-- What a ball carries: a gate off, on or switching; an open or closed switch; a level, with or without the pull-down; a wave with its
high time in 0.01 % and its frequency in Hz; a voltage in mV; what a bus or string protocol puts there. -/
inductive Level where
  | off | on | switching
  | opened | closed
  | low | high | highZ | pulledDown
  | wave (d hz : Nat)
  | volts (mv : Nat)
  | protocol
  deriving DecidableEq, Repr

/-- The columns of Table 02-6. -/
inductive BallPhase where
  | absent | reset | runs | hibernate
  deriving DecidableEq, Repr

/-- The column that applies (R49): rails absent until VIO and VCORE are good, and V5 too before the dies first leave reset; in HIBERNATE
the last column while the rails are held up; the reset column in reset and BOOT. -/
def ballPhase (s : State) : BallPhase :=
  if !railsGood s then .absent
  else if devState s = 0 then .hibernate
  else if s.pwr.off then .absent
  else if s.pwr.rst ∨ devState s = 1 then .reset
  else .runs

/-- The voltage of Fx_AOUT in mV (R63, R316): 1 mV for each 0.01 % of d, saturated at VIN − 3.0 V. -/
def aoutMv (s : State) (x : Nat) : Nat := min (rdF s (Reg.DR_MOT_SPEED x) 15 0) (monOf s 0 - 3000)

/-- Does valve channel `x` have its low side on (Table 11-1)? -/
def lowSideOn (s : State) (x : Nat) : Bool := running s && rdB s (Reg.DR_VCH_CFG x) 31 && decide (vPathNow s x ≠ .offRec)

/-- A ball in RUN, TRIAL and SAFE: what the profile, converter, command, controller, string or attention rule gives it. -/
def ballRuns (s : State) : Ball → Level
  | .bankBoost b => if rdF s (Reg.DR_BNK_STAT b) 1 0 = 2 then .on else .off
  | .bankVin b => if rdF s (Reg.DR_BNK_STAT b) 1 0 = 1 then .on else .off
  | .valveGate x => if lowSideOn s x && rdB s (Reg.DR_VCH_CFG x) 28 then .on else .off
  | .valveDrain x => if lowSideOn s x && !rdB s (Reg.DR_VCH_CFG x) 28 then .closed else .opened
  | .boostGate k => if rdB s (Reg.DR_BST_STAT k) 31 then .switching else .off
  | .fanPwm x =>
    let d := rdF s (Reg.DR_MOT_SPEED x) 15 0
    if d = 0 ∨ rdF s (Reg.DR_MOT_CFG x) 28 27 = 1 then .low else .wave d (rdF s (Reg.DR_MOT_CFG x) 15 0)
  | .fanAout x => if rdF s (Reg.DR_MOT_CFG x) 28 27 = 0 then .volts 0 else .volts (aoutMv s x)
  | .canTxd _ => .protocol
  | .canMode n => if chanOn s n then .high else .low
  | .strLine _ => .protocol
  | .attn => if attnLow s then .low else .highZ
  | .pwrEn => .high

/-- The state of an output ball (Table 02-6). During a wake the island drives PWR_EN high (R57). -/
def ballState (s : State) (b : Ball) : Level :=
  match ballPhase s, b with
  | .runs, b => ballRuns s b
  | _, .bankBoost _ => .off
  | _, .bankVin _ => .off
  | _, .valveGate _ => .off
  | _, .valveDrain _ => .opened
  | _, .boostGate _ => .off
  | .absent, .fanPwm _ => .pulledDown
  | _, .fanPwm _ => .low
  | _, .fanAout _ => .volts 0
  | .reset, .canTxd _ => .high
  | _, .canTxd _ => .highZ
  | .absent, .canMode _ => .pulledDown
  | _, .canMode _ => .low
  | _, .strLine _ => .opened
  | .reset, .attn => .low
  | _, .attn => .highZ
  | .reset, .pwrEn => .high
  | _, .pwrEn => if devState s = 0 ∧ s.pwr.waking then .high else .low

end Sys2Proof.Machine
end

