-- ==== Sys2Proof/WellFormed.lean ====
section
/-!
DEFINITION. Which commands are well formed: the instances the part has (R2, Table 00-2), and operands that fit the fields that
carry them (R334, R335, R388).
-/
namespace Sys2Proof

/-- A NET requester's address has 12 bits (R335). -/
def portWf : PortId → Bool
  | .net a => decide (a < 4096)
  | _ => true

/-- A frame has an identifier of its format and a data length its format can carry (R334). -/
def frameWf (f : CanFrame) : Bool :=
  match f.fmt with
  | .base => decide (f.id < 2 ^ 11 ∧ f.data.length ≤ (if f.fdf then 64 else 8))
  | .ext => decide (f.id < 2 ^ 29 ∧ f.data.length ≤ (if f.fdf then 64 else 8))
  | .xl => decide (f.id < 2 ^ 11 ∧ f.af < 2 ^ 32 ∧ f.sdt < 256 ∧ f.vcid < 256 ∧ 1 ≤ f.data.length ∧ f.data.length ≤ 2048)

/-- The signal entries of a die: 512 system signals, 2,048 entries of a loop die (Table 08-1, R480). -/
def sigEntries (d : Nat) : Nat := if d = 0 then 512 else 2048

/-- Is the address in the coefficient memory of a loop die (Table 19-2)? -/
def coefAddr (a : Nat) : Bool :=
  decide (0x01000000 ≤ a ∧ a < 0x05000000) && decide (0x900000 ≤ a % 0x1000000 ∧ a % 0x1000000 < 0x910000)

/-- Is a command well formed? -/
def Instr.wf : Instr → Bool
  | .powerOn _ => true
  | .railBad r mv => decide (r < 5 ∧ mv < 65536)
  | .railGood r mv low => decide (r < 5 ∧ mv < 65536 ∧ low < 65536)
  | .railFaultHandover r low => decide (r < 2 ∧ low < 65536)
  | .hibReq p => decide (portWf p)
  | .wakeEdge k _ => decide (k < 2)
  | .rtcAlarm => true
  | .latchedWake => true
  | .wakeRelease _ => true
  | .wakeRailTimeout => true
  | .resetAssert => true
  | .resetRelease _ => true
  | .initEnd => true
  | .initWrite => true
  | .initFill => true
  | .initLoad => true
  | .initPoll => true
  | .initPollTimeout => true
  | .initBarrier => true
  | .initDelay => true
  | .refclkLoss => true
  | .refclkCheck _ => true
  | .safeReq p => decide (portWf p)
  | .resume p => decide (portWf p)
  | .autoResume => true
  | .restart p => decide (portWf p)
  | .ownerRestartExec => true
  | .lockstepFault pc => decide (pc < 2 ^ 32)
  | .timeChangeApply => true
  | .ppsEdge => true
  | .ppsMissing => true
  | .syncSend => true
  | .followUpSend n => decide (n < 8)
  | .syncRx n src _ _ => decide (n < 8 ∧ src < 4096)
  | .followUpRx n src _ => decide (n < 8 ∧ src < 4096)
  | .netMissing => true
  | .setTb2 p => decide (portWf p)
  | .rtcFail => true
  | .timeLoRead p addr => decide (portWf p ∧ addr < 2 ^ 32)
  | .tb1Wrap => true
  | .ainSample x => decide (x < 64)
  | .ainDelivery x _ _ _ => decide (x < 64)
  | .cjMeasure i _ => decide (i < 4)
  | .prbScan x => decide (x < 16)
  | .prbDelivery x _ _ _ _ => decide (x < 16)
  | .plsEdge x _ _ _ => decide (x < 32)
  | .plsSample x => decide (x < 32)
  | .clrAcc p x => decide (x < 32 ∧ portWf p)
  | .strPowerUp x => decide (x < 8)
  | .strPowerupWaitDone x _ => decide (x < 8)
  | .strScanStart x _ => decide (x < 8)
  | .strReadSlot x => decide (x < 8)
  | .strReply x _ _ => decide (x < 8)
  | .strReplyTimeout x => decide (x < 8)
  | .strDelivery x => decide (x < 8)
  | .strRead x => decide (x < 8)
  | .strConvert x => decide (x < 8)
  | .strSearch x _ => decide (x < 8)
  | .strAssign x => decide (x < 8)
  | .strResetAddr x => decide (x < 8)
  | .strPark x => decide (x < 8)
  | .strEnumPass x => decide (x < 8)
  | .strOvercurrent x _ => decide (x < 8)
  | .strOcRetry x => decide (x < 8)
  | .strLowLine x _ => decide (x < 8)
  | .strBusNoise x _ => decide (x < 8)
  | .reenum p x => decide (x < 8 ∧ portWf p)
  | .strNodeIdWrite p x k _ _ => decide (x < 8 ∧ k < 64 ∧ portWf p)
  | .trkLatch c => decide (c < 16)
  | .trkUpdateDone c => decide (c < 16)
  | .trkCommit c => decide (c < 16)
  | .trkPreset p c => decide (c < 16 ∧ portWf p)
  | .trkClear p c => decide (c < 16 ∧ portWf p)
  | .trkClrBias p c => decide (c < 16 ∧ portWf p)
  | .bargeRead p i n => decide (i < 4 ∧ n < 512 ∧ portWf p)
  | .loopLatch g => decide (g < 256)
  | .loopPeriodComplete g => decide (g < 256)
  | .loopCommit g _ => decide (g < 256)
  | .stepNop g => decide (g < 256)
  | .stepLdi g => decide (g < 256)
  | .stepLdk g => decide (g < 256)
  | .stepLdz g => decide (g < 256)
  | .stepStz g => decide (g < 256)
  | .stepLdc g => decide (g < 256)
  | .stepOut g => decide (g < 256)
  | .stepLdf g => decide (g < 256)
  | .stepAdd g => decide (g < 256)
  | .stepSub g => decide (g < 256)
  | .stepMulc g => decide (g < 256)
  | .stepMul g => decide (g < 256)
  | .stepDiv g => decide (g < 256)
  | .stepAbs g => decide (g < 256)
  | .stepNeg g => decide (g < 256)
  | .stepMin g => decide (g < 256)
  | .stepMax g => decide (g < 256)
  | .stepClamp g => decide (g < 256)
  | .stepSel g => decide (g < 256)
  | .stepCmp g => decide (g < 256)
  | .stepPwl g => decide (g < 256)
  | .stepInteg g => decide (g < 256)
  | .stepLag g => decide (g < 256)
  | .stepRate g => decide (g < 256)
  | .stepDiff g => decide (g < 256)
  | .stepHyst g => decide (g < 256)
  | .stepRegion g => decide (g < 256)
  | .stepRep g => decide (g < 256)
  | .stepTimer g => decide (g < 256)
  | .modeReqManual p g => decide (g < 256 ∧ portWf p)
  | .modeReqAuto p g => decide (g < 256 ∧ portWf p)
  | .modeReqRearm p g => decide (g < 256 ∧ portWf p)
  | .coefWrite p addr _ => decide (coefAddr addr ∧ portWf p ∧ addr < 2 ^ 32)
  | .coefApply p i => decide (i < 4 ∧ portWf p)
  | .signalEntryRead p d e => decide (d < 5 ∧ e < sigEntries d ∧ portWf p)
  | .loopZRead p g => decide (g < 256 ∧ portWf p)
  | .exportApply d _ _ => decide (d < 5)
  | .syssigSample => true
  | .syssigImportApply d _ _ => decide (d < 5)
  | .driveActuation mot x _ => decide (x < (if mot then 16 else 24))
  | .seqEvaluate n _ => decide (n < 8)
  | .seqTransition n _ => decide (n < 8)
  | .writeSig n a => decide (n < 8 ∧ a < 2048)
  | .copySig n a => decide (n < 8 ∧ a < 2048)
  | .loopReq n a => decide (n < 8 ∧ a < 2048)
  | .loopManval n a => decide (n < 8 ∧ a < 2048)
  | .seqChan n a => decide (n < 8 ∧ a < 2048)
  | .trkCmd n a => decide (n < 8 ∧ a < 2048)
  | .plsClr n a => decide (n < 8 ∧ a < 2048)
  | .seqActSafe n a => decide (n < 8 ∧ a < 2048)
  | .seqActHibernate n a => decide (n < 8 ∧ a < 2048)
  | .seqActLog n a => decide (n < 8 ∧ a < 2048)
  | .seqCtl n a => decide (n < 8 ∧ a < 2048)
  | .seqStart p n => decide (n < 8 ∧ portWf p)
  | .seqGoto p n st => decide (n < 8 ∧ portWf p ∧ st < 64)
  | .seqStop p n => decide (n < 8 ∧ portWf p)
  | .ucEnd x => decide (x < 24)
  | .ucRise x => decide (x < 24)
  | .ucReg x => decide (x < 24)
  | .ucRecov x => decide (x < 24)
  | .ucJmp x => decide (x < 24)
  | .coilCurrentCrossing x _ => decide (x < 24)
  | .valveWordTimeout x => decide (x < 24)
  | .valveOvercurrent x _ => decide (x < 24)
  | .bankGrant b => decide (b < 12)
  | .deferTimeout x => decide (x < 24)
  | .boostRecharge k _ => decide (k < 4)
  | .boostRechargeDone k _ _ _ => decide (k < 4)
  | .boostAbs k _ => decide (k < 4)
  | .boostNoCharge k _ => decide (k < 4)
  | .coilThermalUpdate x _ _ _ _ => decide (x < 24)
  | .rmeasWindow x _ _ _ _ => decide (x < 24)
  | .ilkOpen b => decide (b < 2)
  | .ilkClosed b => decide (b < 2)
  | .driveItemPublish k => decide (k < 2)
  | .kickTimeout x => decide (x < 16)
  | .tachEdge x _ => decide (x < 16)
  | .tachSpeedUpdate x _ => decide (x < 16)
  | .motStall x => decide (x < 16)
  | .tachTimeout x _ => decide (x < 16)
  | .retryKick x => decide (x < 16)
  | .retryCountClear x => decide (x < 16)
  | .motReset p x => decide (x < 16 ∧ portWf p)
  | .canFrameRx n f _ _ => decide (n < 8 ∧ frameWf f)
  | .canProtocolExc n id => decide (n < 8 ∧ id < 2 ^ 29)
  | .canTxComplete n b _ _ => decide (n < 8 ∧ b < 33)
  | .canTxAttemptFail n b _ _ => decide (n < 8 ∧ b < 33)
  | .canErrorFrame n lec _ => decide (n < 8 ∧ lec < 8)
  | .canRecoveryDone n => decide (n < 8)
  | .canRecover p n => decide (n < 8 ∧ portWf p)
  | .rdRestart p n => decide (n < 8 ∧ portWf p)
  | .rateDwellTimeout n => decide (n < 8)
  | .txreq p n _ => decide (n < 8 ∧ portWf p)
  | .txcan p n _ _ => decide (n < 8 ∧ portWf p)
  | .launchInstant n b => decide (n < 8 ∧ b < 32)
  | .qRel p n q count => decide (n < 8 ∧ q < 2 ∧ portWf p ∧ count < 128)
  | .c0sRelease p n _ => decide (n < 8 ∧ portWf p)
  | .xlRxRelease p n => decide (n < 8 ∧ portWf p)
  | .importApply d _ => decide (d < 5)
  | .joinStart => true
  | .joinRetry => true
  | .joinReqRx n _ => decide (n < 8)
  | .joinAckRx n src _ => decide (n < 8 ∧ src < 4096)
  | .hierRejoin p => decide (portWf p)
  | .hierFree p => decide (portWf p)
  | .hierAddrWrite p _ => decide (portWf p)
  | .censusSend => true
  | .censusRx n src _ => decide (n < 8 ∧ src < 4096)
  | .censusLost => true
  | .proxyDataRx n _ => decide (n < 8)
  | .proxyTimeout => true
  | .bridgeForward o => decide (o < 8)
  | .read p cmd tag addr count _ _ => decide (portWf p ∧ cmd < 256 ∧ tag < 256 ∧ addr < 2 ^ 32 ∧ count < 256)
  | .write p tag addr data _ _ => decide (portWf p ∧ tag < 256 ∧ addr < 2 ^ 32 ∧ data.length < 256)
  | .poll p tag addr count _ => decide (portWf p ∧ tag < 256 ∧ addr < 2 ^ 32 ∧ count < 256)
  | .frameEndedEarly p => decide (portWf p)
  | .transactionComplete p => decide (portWf p)
  | .resultDiscard => true
  | .svOwnClaim p _ => decide (portWf p)
  | .svOwnTko p _ => decide (portWf p)
  | .svOwnRel p _ => decide (portWf p)
  | .leaseExpiry => true
  | .reservationLapse => true
  | .eventRaised => true
  | .runClose => true
  | .recordProgramDone => true
  | .logMediaFail _ _ => true
  | .logRetry fail _ => decide (fail ≤ 66)
  | .logWindowRead p _ _ => decide (portWf p)
  | .snapshotRead p => decide (portWf p)
  | .uploadStart p dest => decide (portWf p ∧ dest < 4096)
  | .uploadAbort p => decide (portWf p)
  | .uploadFrame => true
  | .xlRelay f => decide (frameWf f)
  | .logClear p => decide (portWf p)
  | .logClearEraseDone => true
  | .updBegin p => decide (portWf p)
  | .updChunk p n => decide (portWf p ∧ n < 512)
  | .chunkProgramDone _ => true
  | .updateFrameRx src _ => decide (src < 4096)
  | .updAbort p => decide (portWf p)
  | .sessionIdleTimeout => true
  | .verifyDone => true
  | .updActivate p mv => decide (portWf p ∧ mv < 65536)
  | .activationRestart => true
  | .updConfirm p => decide (portWf p)
  | .trialTimerExpiry => true
  | .rejectTrial p => decide (portWf p)
  | .updCommit p _ _ => decide (portWf p)
  | .settingsCommitTimer _ _ => true
  | .settingsReset p => decide (portWf p)
  | .siteKey p => decide (portWf p)
  | .diodeReading d _ => decide (d < 8)
  | .canaryRun d _ _ _ => decide (d < 8)
  | .canaryRetry d _ _ _ => decide (d < 8)
  | .driftCheck _ x _ => decide (x < 16)
  | .nvmReset p => decide (portWf p)
  | .nvmResetDone _ => true
  | .rcFieldRead p a => decide (portWf p ∧ a < 2 ^ 32)
  | .registerWrite p a _ => decide (portWf p ∧ a < 2 ^ 32)
  | .busIntegration n => decide (n < 8)
  | .vcapThresholdCrossing k _ => decide (k < 4)
  | .spaceLevelRestored x _ => decide (x < 8)
  | .hsCsNRising => true
  | .preambleOutOfRange => true
  | .suRxdIdle => true
  | .clearBackoffEnd => true

end Sys2Proof
end

