-- ==== Sys2Proof/Safety.lean ====
section
/-!
DEFINITION. The terms in which statements speak: when a port's write is taken, the bounds of the time bases, and the frame of a
command over the register windows.
-/
namespace Sys2Proof.Machine

/-- The port's write of the word at `a` reaches the word's own judgement: the ports are open, BOOT does not hold it back (R90), the
port is the owner or the runtime (R405), and a slot is loaded or the recovery runtime takes the word (R69). -/
def mayWrite (p : PortId) (a : Nat) (s : State) : Prop :=
  portsUp s = true ∧ (p = .runtime ∨ devState s ≠ 1 ∨ bootWord a = true) ∧ isOwner s p = true
    ∧ (s.boot.loaded = true ∨ recoveryTakes a = true)

/-- The bounds of the time bases: the fraction accumulator and the parts below a second and below 2^-16 s are below their moduli
(R104, R411), and the rate word is within 500 ppm (R104). -/
def Clock.Ok (c : Clock) : Prop :=
  c.acc < accMod ∧ c.sub < subMod ∧ c.opsAcc < secTicks ∧ -rateMax ≤ c.rate ∧ c.rate ≤ rateMax

/-- Every word outside the windows (each from its first byte up to its end) reads as before. -/
def wordsKept (windows : List (Nat × Nat)) (s t : State) : Prop :=
  ∀ a : Nat, (∀ x ∈ windows, a < x.1 ∨ x.2 ≤ a) → rd t a = rd s a

/-- Some occurrence with the code and the parameters was raised: it is among the events on their way to the recorder. -/
def raisedEvent (code unit : Nat) (p0 p1 : Word) (t : State) : Prop :=
  ∃ e ∈ t.log.raised, e.code = code ∧ e.unit = unit ∧ e.p0 = p0 ∧ e.p1 = p1

/-- The engine may run the step at which loop `g` stands, its opcode being `op` (R213, R216, R219): the period is pending and not
at its commit instant, and no other period of the die commits earlier. -/
def engineRuns (s : State) (g op : Nat) (p : LoopPer) : Prop :=
  (loopOf s g).per = some p ∧ p.pc < progLen s g ∧ stOp (stepHi s g p.pc) = op ∧ engPick s g p = true
    ∧ reached s.clk.tb1 p.commit = false

/-- Relative coefficient `j` of the step word's region selection lies in the allocation of loop `g` (R226). -/
def inCoefs (s : State) (g : Nat) (hi : Word) (j : Nat) : Prop :=
  cfIndex s g (bit hi 7) j < coefBase s g + loopNreg s g * loopRstride s g

/-- The command answers the state in which the period of loop `g` is `q`, and nothing else differs. -/
def stepsTo (c : Instr) (g : Nat) (s : State) (q : LoopPer) : Prop :=
  ∃ t, exec c s = .next t ∧ t = { s with loops := t.loops } ∧ loopOf t g = { loopOf s g with per := some q }
    ∧ ∀ h, h ≠ g → loopOf t h = loopOf s h

/-- Nothing that reads the signals of loop die `d` (0: the system signals) was latched, sampled or evaluated in this tick, so that a
write of one of them is not followed by a latch made again (Table 08-10). -/
def quiet (d : Nat) (s : State) : Prop :=
  if d = 0 then s.sig.tick ≠ some s.clk.tb0 ∧ ∀ n, n < 8 → (seqOf s n).at1 ≠ some s.clk.tb1
  else (∀ y ∈ (engOf s d).snaps, y.at0 ≠ s.clk.tb0)
    ∧ (∀ c ∈ dieCols d, ∀ u, (trkOf s c).upd = some u → u.tick0 ≠ s.clk.tb0)
    ∧ ∀ k, k < 4 → (prbOf s ((d - 1) * 4 + k)).conv = none ∨ (prbOf s ((d - 1) * 4 + k)).was.1 ≠ s.clk.tb0

end Sys2Proof.Machine
end

