-- ==== Sys2Proof/Certificates/Slice0/Obligations.lean ====
section
/-!
DEFINITION. The statements about the block, from the numbered rules of spec/.
-/
open Sys2Proof Sys2Proof.Machine

/-- The step is exec of the front command with the rest of the queue; on an empty queue it is one clock period (DESIGN CHOICE, log entry 6). -/
def Obligations.StepRunsTheFrontCommand : Prop :=
  (∀ (c : Instr) (r : List Instr) (s : State), step { s with pending := c :: r } = exec c { s with pending := r })
  ∧ ∀ s : State, s.pending = [] → step s = .next (tick s)

/-- No well-formed command stops the block, whatever the state; the queue behind it is kept. -/
def Obligations.EveryWellFormedCommandCompletes : Prop :=
  ∀ (c : Instr) (s : State), c.wf = true → ∃ t, exec c s = .next t ∧ t.pending = s.pending

/-- The part has eight CAN channels, 256 loops, 64 analog inputs, 16 probes, 32 pulse inputs, 16 columns, 8 string ports, 24 valve channels and 16 motion channels: a command on any other stops (the model's fault). -/
def Obligations.AbsentInstancesStop : Prop :=
  ∀ (x : Nat) (s : State),
    (8 ≤ x → exec (.canRecoveryDone x) s = .fault .noSuchResource ∧ exec (.strPowerUp x) s = .fault .noSuchResource
      ∧ exec (.seqEvaluate x 0) s = .fault .noSuchResource)
    ∧ (256 ≤ x → exec (.loopLatch x) s = .fault .noSuchResource ∧ exec (.stepAdd x) s = .fault .noSuchResource)
    ∧ (64 ≤ x → exec (.ainSample x) s = .fault .noSuchResource)
    ∧ (16 ≤ x → exec (.prbScan x) s = .fault .noSuchResource ∧ exec (.trkLatch x) s = .fault .noSuchResource
      ∧ exec (.kickTimeout x) s = .fault .noSuchResource)
    ∧ (32 ≤ x → exec (.plsSample x) s = .fault .noSuchResource)
    ∧ (24 ≤ x → exec (.ucEnd x) s = .fault .noSuchResource)

/-- A command other than those that set, step, correct, load or restart a time base leaves every one of them as it was. -/
def Obligations.OtherCommandsLeaveTheTimeBases : Prop :=
  ∀ (c : Instr) (s t : State), exec c s = .next t →
    (match c with
     | .ppsEdge | .setTb2 _ | .followUpRx _ _ _ | .timeChangeApply | .railBad _ _ | .powerOn _ | .wakeRelease _
     | .resetRelease _ | .refclkCheck _ | .canFrameRx _ _ _ _ | .write _ _ _ _ _ _ | .transactionComplete _
     | .registerWrite _ _ _ => True
     | _ => t.clk = s.clk)

/-- R104 clamps the rate word to 500 ppm and the accumulator carries the residue below one tick: whatever command runs, or with none waiting the clock, the bounds of the time bases are kept. -/
def Obligations.EveryStepKeepsTheClockBounds : Prop :=
  ∀ s t : State, s.clk.Ok → step s = .next t → t.clk.Ok

/-- The state after reset: the bounds hold, the register table and the memories list nothing, no command waits. -/
def Obligations.ResetMeetsTheClockBounds : Prop :=
  State.reset.clk.Ok ∧ State.reset.regs = [] ∧ State.reset.mem = [] ∧ State.reset.nor = [] ∧ State.reset.pending = []
    ∧ ∀ a : Nat, rd State.reset a = if usesMem (wordBase a) then 0 else resetWord (wordBase a)

/-- R46 to R48 and R59: what a change of a rail brings about, and the hand-over of its fault. -/
def Obligations.RailsFallAndRecover : Prop :=
  ∀ (r mv low : Nat) (s : State), mv < 65536 →
    let shows : State → Nat := fun t => match r with
      | 0 => rdF t Reg.SV_PWR_VMON0 31 16 | 1 => rdF t Reg.SV_PWR_VMON0 15 0 | 2 => rdF t Reg.SV_PWR_VMON1 31 16
      | 3 => rdF t Reg.SV_PWR_VMON1 15 0 | _ => rdF t Reg.SV_PWR_VBAT 15 0
    let st := devState s
    let mons := tput (fun _ => 0) s.pwr.mon r mv
    let isOpen : RailFault → Bool := fun f => decide (f.rail = r) && !f.held
    (r < 5 → railOk s r = false → ∃ t, exec (.railBad r mv) s = .next t ∧ (diesUp s = true → shows t = mv)
      ∧ t.pwr = { s.pwr with mon := mons, faults := s.pwr.faults.map fun f => if isOpen f then { f with low := min f.low mv } else f }
      ∧ t = { s with regs := t.regs, pwr := t.pwr } ∧ wordsKept [(Reg.SV_PWR_VMON0, Reg.SV_PWR_VMON0 + 4), (Reg.SV_PWR_VMON1, Reg.SV_PWR_VMON1 + 4),
          (Reg.SV_PWR_VBAT, Reg.SV_PWR_VBAT + 4)] s t)
    ∧ (r < 5 → railOk s r = true → ∃ t, exec (.railGood r mv low) s = .next t ∧ (diesUp s = true → shows t = mv)
      ∧ t.pwr = { s.pwr with mon := mons } ∧ t = { s with regs := t.regs, pwr := t.pwr })
    ∧ (r < 2 → diesUp s = true → railOk s r = true → causes s &&& 2 ^ r = 0 → exitNow s = none →
      ∃ t, exec (.railBad r mv) s = .next t ∧ railOk t r = false ∧ shows t = mv ∧ causes t = causes s ||| 2 ^ r
        ∧ (∃ f ∈ t.pwr.faults, f.rail = r ∧ f.low = mv ∧ f.ev.code = 0x0010 ∧ f.ev.tick = s.clk.tb0 ∧ f.ev.p0 = w32 r)
        ∧ (st = 2 ∨ st = 3 → devState t = 4 ∧ raisedEvent 0x0003 0 (w32 (2 ^ r)) (w32 st) t)
        ∧ (st ≠ 2 → st ≠ 3 → devState t = st) ∧ t.clk = s.clk ∧ t.nor = s.nor ∧ t.loops = s.loops)
    ∧ (r = 4 → diesUp s = true → railOk s 4 = true → railOk s 2 = true →
      ∃ t, exec (.railBad r mv) s = .next t ∧ railOk t 4 = false ∧ shows t = mv ∧ raisedEvent 0x0014 0 (w32 mv) 0 t
        ∧ t.pwr = { s.pwr with mon := mons } ∧ t = { s with regs := t.regs, log := t.log, pwr := t.pwr }
        ∧ wordsKept [(Reg.SV_PWR_STAT, Reg.SV_PWR_STAT + 4), (Reg.SV_PWR_VBAT, Reg.SV_PWR_VBAT + 4)] s t)
    ∧ (r = 2 ∨ r = 3 → diesUp s = true → railOk s r = true → railOk s 4 = true →
      ∃ t, exec (.railBad r mv) s = .next t ∧ railOk t r = false ∧ monOf t r = mv ∧ diesUp t = false ∧ t.pwr.off = true
        ∧ (∀ x, ballState t (.valveGate x) = .off ∧ ballState t (.valveDrain x) = .opened)
        ∧ t.pwr.loss = some (s.clk.sec, s.clk.era) ∧ rd t Reg.SV_PWR_LOSS_TIME = s.clk.sec ∧ t.pwr.faults = []
        ∧ (∃ f ∈ t.pwr.lost, f.rail = r ∧ f.low = mv ∧ f.ev.code = 0x0010 ∧ f.ev.tick = s.clk.tb0)
        ∧ t.mem = [] ∧ t.loops = [] ∧ t.port.owner = none ∧ t.boot.loaded = false ∧ t.clk = s.clk)
    ∧ (r < 2 → diesUp s = true → railOk s r = false →
      ∃ t, exec (.railGood r mv low) s = .next t ∧ railOk t r = true ∧ shows t = mv ∧ causes t = causes s &&& (0x1FF - 2 ^ r)
        ∧ (∀ f ∈ t.pwr.faults, isOpen f = false) ∧ devState t = st ∧ (r = 1 → t.pwr.v5At = s.clk.tb0) ∧ t.clk = s.clk
        ∧ rdF t Reg.SV_PWR_FAULT_CNT 15 0 = min 65535 (rdF s Reg.SV_PWR_FAULT_CNT 15 0
            + (if s.pwr.faults.any isOpen then 1 else 0)))
    ∧ ∀ f, r < 2 → diesUp s = true → s.pwr.faults.find? isOpen = some f →
      (secTicks ≤ (s.clk.tb0 - f.ev.tick).toNat →
        ∃ t, exec (.railFaultHandover r low) s = .next t ∧ (∀ g ∈ t.pwr.faults, isOpen g = false) ∧ causes t = causes s ∧ devState t = st
          ∧ railOk t r = railOk s r ∧ t.clk = s.clk
          ∧ rdF t Reg.SV_PWR_FAULT_CNT 15 0 = min 65535 (rdF s Reg.SV_PWR_FAULT_CNT 15 0 + 1 + (if r = 1 ∧ railDue 0 s then 1 else 0)))
      ∧ ((s.clk.tb0 - f.ev.tick).toNat < secTicks → r = 0 ∨ railDue 0 s = false → exec (.railFaultHandover r low) s = .next s)

/-- R54 to R57: the request, the wake sources, the latched wake, the time-out of the rails. -/
def Obligations.HibernateAndWake : Prop :=
  ∀ s : State,
    let c := rd s Reg.SV_PWR_WAKE_CFG
    let asleep := devState s = 0 ∧ s.pwr.waking = false ∧ s.pwr.latched < 8
    let wakes : Instr → Nat → Prop := fun i k => ∃ t, exec i s = .next t ∧ t.pwr.waking = true ∧ t.pwr.latched = 0
      ∧ rdF t Reg.SV_PWR_WAKE_SRC 2 0 = s.pwr.latched ||| k ||| (if alarmDue s then 4 else 0) ∧ t.pwr.wakeAt = tb2Val s.clk ∧ devState t = 0 ∧ t.clk = s.clk
    (∀ p : PortId, mayWrite p Reg.SV_PWR_CTRL s →
      (hibRefusal s = 0 → ∃ t, exec (.hibReq p) s = .next t ∧ devState t = 0 ∧ rd t Reg.SV_PWR_WAKE_CFG = c ∧ t.clk = s.clk
        ∧ t.mem = [] ∧ t.loops = [] ∧ t.port.owner = none ∧ t.pwr.hibAt = tb2Val s.clk ∧ t.pwr.waking = false ∧ t.pwr.latched = 0
        ∧ t.pwr.faults = [])
      ∧ (hibRefusal s = 1 ∨ hibRefusal s = 2 → ∃ t, exec (.hibReq p) s = .next t ∧ raisedEvent 0x0015 0 (w32 (hibRefusal s)) (w32 (portCode p)) t
        ∧ rdF t Reg.SV_VIOL_INFO 19 16 = 7 ∧ rd t Reg.SV_VIOL_ADDR = w32 Reg.SV_PWR_CTRL ∧ t = { s with regs := t.regs, hwset := t.hwset, log := t.log })
      ∧ (devState s ≠ 3 → devState s ≠ 4 → ∃ t, exec (.hibReq p) s = .next t ∧ rdF t Reg.SV_VIOL_INFO 19 16 = 7
        ∧ t = { s with regs := t.regs, hwset := t.hwset, log := t.log }))
    ∧ (grainMoving s = true → devState s = 3 ∨ devState s = 4 → hibRefusal s = 1)
    ∧ (∀ (k : Nat) (rising : Bool), k < 2 → asleep → bit c (2 * k) = true → bit c (2 * k + 1) = rising →
      (hibSettled s = true → wakes (.wakeEdge k rising) (2 ^ k))
      ∧ (hibSettled s = false → ∃ t, exec (.wakeEdge k rising) s = .next t ∧ t.pwr.waking = false ∧ t.pwr.latched = s.pwr.latched ||| 2 ^ k
        ∧ t = { s with pwr := t.pwr }))
    ∧ (∀ (k : Nat) (rising : Bool), k < 2 → bit c (2 * k) = false ∨ bit c (2 * k + 1) ≠ rising →
      ∃ t, exec (.wakeEdge k rising) s = .next t ∧ t.pwr.waking = s.pwr.waking ∧ t.pwr.latched = s.pwr.latched ∧ t = { s with pwr := t.pwr }
        ∧ (if k = 0 then t.pwr.pin0 = rising ∧ t.pwr.pin1 = s.pwr.pin1 else t.pwr.pin1 = rising ∧ t.pwr.pin0 = s.pwr.pin0))
    ∧ (asleep → bit c 4 = true → s.clk.sec.toNat = rdN s Reg.SV_PWR_ALARM ∨ laterN 32 s.clk.sec.toNat (rdN s Reg.SV_PWR_ALARM) = true →
      (∃ t, exec .rtcAlarm s = .next t ∧ rdB t Reg.SV_PWR_WAKE_CFG 4 = false ∧ t.pwr.fired = true) ∧ (hibSettled s = true → wakes .rtcAlarm 4))
    ∧ (asleep → s.pwr.latched ≠ 0 → hibSettled s = true → wakes .latchedWake 0)
    ∧ (s.pwr.waking = true → s.pwr.goodAt ≠ none ∨ tb2Past s s.pwr.wakeAt 32768 = false → exec .wakeRailTimeout s = .next s)
    ∧ (s.pwr.waking = true → s.pwr.goodAt = none → tb2Past s s.pwr.wakeAt 32768 = true →
      ∃ t, exec .wakeRailTimeout s = .next t ∧ t.pwr.waking = false ∧ t.pwr.latched = 0 ∧ rdB t Reg.SV_PWR_WAKE_SRC 3 = true
        ∧ t = { s with regs := t.regs, pwr := t.pwr } ∧ wordsKept [(Reg.SV_PWR_WAKE_SRC, Reg.SV_PWR_WAKE_SRC + 4)] s t)

/-- R93 to R96 with R275, and the LOCKSTEP cause of Table 03-15 outside TRIAL. -/
def Obligations.SafeIsEnteredAndLeft : Prop :=
  ∀ s : State,
    let st := devState s
    let enters : Instr → Nat → Prop := fun i m =>
      (st = 2 ∨ st = 3 → exitNow s = none → ∃ t, exec i s = .next t ∧ devState t = 4 ∧ causes t = causes s ||| m
        ∧ rdF t Reg.SV_BOOT_SAFE_HIST 8 0 = rdF s Reg.SV_BOOT_SAFE_HIST 8 0 ||| m ∧ raisedEvent 0x0003 0 (w32 m) (w32 st) t
        ∧ (∀ n, n < 8 → seqR s n = 1 → seqR t n = 2) ∧ (∀ n, n < 8 → seqR s n ≠ 1 → seqR t n = seqR s n)
        ∧ t.boot.safeAt = s.clk.tb0 ∧ t.clk = s.clk ∧ t.loops = s.loops ∧ t.trk = s.trk ∧ t.nor = s.nor)
      ∧ (st = 4 → ∃ t, exec i s = .next t ∧ devState t = 4 ∧ causes t = causes s ||| m ∧ raisedEvent 0x0003 0 (w32 m) 4 t
        ∧ t.clk = s.clk ∧ t.drv = s.drv ∧ t.seq = s.seq ∧ t.loops = s.loops)
    let leaves : Instr → Nat → Prop := fun i who =>
      ∃ t, exec i s = .next t ∧ devState t = (if rdB s Reg.SV_BOOT_STAT 10 then 2 else 3) ∧ causes t = 0
        ∧ raisedEvent 0x0004 0 (w32 who) (w32 (min 0xFFFFFFFF ((s.clk.tb0 - s.boot.safeAt).toNat / 100000000))) t
        ∧ (∀ n, n < 8 → seqR t n = seqR s n ∧ (seqR s n = 2 → (seqOf t n).resumed = true)) ∧ t.clk = s.clk ∧ t.loops = s.loops ∧ t.nor = s.nor
    (∀ p : PortId, mayWrite p Reg.SV_BOOT_CTRL s → causes s &&& 0x10 = 0 → enters (.safeReq p) 0x10)
    ∧ (∀ pc, diesUp s = true → rdB s Reg.SV_BOOT_STAT 10 = false → confirmedNow s = false → causes s &&& 0x40 = 0 → enters (.lockstepFault pc) 0x40
        ∧ ∃ t, exec (.lockstepFault pc) s = .next t ∧ raisedEvent 0x000B 0 (w32 pc) (s.clk.tb0.extractLsb' 0 32) t)
    ∧ (∀ pc x, diesUp s = true → rdB s Reg.SV_BOOT_STAT 10 = false → confirmedNow s = false → exitNow s = some x → x.causes < 512 →
        ∃ t, exec (.lockstepFault pc) s = .next t ∧ devState t = 4 ∧ causes t = causes s ||| x.causes ||| 0x40 ∧ t.seq = x.seq
          ∧ ∀ e ∈ t.log.raised, ¬(e.tick = s.clk.tb0 ∧ e.code = 0x0004))
    ∧ (∀ p : PortId, mayWrite p Reg.SV_BOOT_CTRL s →
      (st = 4 → causes s &&& 0x14F = 0 → leaves (.resume p) (portCode p))
      ∧ (st ≠ 4 ∨ causes s &&& 0x14F ≠ 0 → ∃ t, exec (.resume p) s = .next t ∧ devState t = st ∧ causes t = causes s
          ∧ raisedEvent 0x000A 0 (w32 (if st = 4 then causes s else 0)) (w32 (portCode p)) t
          ∧ rdF t Reg.SV_VIOL_INFO 19 16 = 7 ∧ t = { s with regs := t.regs, hwset := t.hwset, log := t.log }))
    ∧ (let delay := min 600 (rdF s Reg.SV_BOOT_RESUME_CFG 9 0)
       let allowed := rdF s Reg.SV_BOOT_RESUME_CFG 24 16 &&& 0x103
       let waited := (s.clk.tb0 - s.boot.clearAt).toNat
       (st = 4 → delay ≠ 0 → causes s = 0 → s.boot.seen &&& (0x1FF - allowed) = 0 → delay * 100000000 ≤ waited → leaves .autoResume 0)
       ∧ (st ≠ 4 ∨ delay = 0 ∨ causes s ≠ 0 ∨ s.boot.seen &&& (0x1FF - allowed) ≠ 0 ∨ waited < delay * 100000000 →
           exec .autoResume s = .next s))

/-- R17 for a warm restart, R98, R446, R488 and R496. -/
def Obligations.RestartsResetTheDies : Prop :=
  ∀ s : State,
    let restarts : Instr → Prop := fun i => ∃ t, exec i s = .next t ∧ t.pwr.rst = true ∧ diesUp t = false ∧ t.port.owner = none
      ∧ (∀ c ∈ t.mem, inTxElem c.1 = true) ∧ t.net.bindings = [] ∧ t.upd.binds = s.upd.binds ∧ t.loops = [] ∧ t.seq = [] ∧ t.trk = [] ∧ t.boot.loaded = false ∧ t.clk = s.clk ∧ t.pending = s.pending
      ∧ rdF t Reg.SV_BOOT_RESTART_CNT 15 0 = min 65535 (rdF s Reg.SV_BOOT_RESTART_CNT 15 0 + 1)
      ∧ ∀ a, usesMem (wordBase a) = false → keepMask 0 (wordBase a) = 0 → rd t a = resetWord (wordBase a)
    (∀ p : PortId, mayWrite p Reg.SV_BOOT_CTRL s → ∃ t, exec (.restart p) s = .next t
        ∧ t.boot.restartAt = some (s.clk.tb0 + 1000000, portCode p) ∧ t = { s with boot := t.boot, port := t.port })
    ∧ (diesUp s = true → restarts .resetAssert)
    ∧ (diesUp s = true → s.boot.wait = false → restarts .refclkLoss)
    ∧ (∀ k who, s.boot.restartAt = some (k, who) → diesUp s = true →
      (reached s.clk.tb0 k = true → restarts .ownerRestartExec) ∧ (reached s.clk.tb0 k = false → exec .ownerRestartExec s = .next s))
    ∧ (∀ k, s.upd.restartAt = some k → diesUp s = true →
      (reached s.clk.tb0 k = true → restarts .activationRestart) ∧ (reached s.clk.tb0 k = false → exec .activationRestart s = .next s))

/-- R49, R57, R69, R89, R100 and R488: how the three starts go up to the identification of the NOR. -/
def Obligations.StartsCheckTheClockAndTheNor : Prop :=
  ∀ (r : StartPins) (s : State),
    let begins : Instr → Prop := fun i =>
      (i = .powerOn r ∧ s.pwr.off = true ∧ devState s ≠ 0)
      ∨ (i = .wakeRelease r ∧ devState s = 0 ∧ s.pwr.waking = true ∧ (∀ k, k < 4 → railOk s k = true)
          ∧ ∃ g, s.pwr.goodAt = some g ∧ tb2Past s g 656 = true)
      ∨ (i = .resetRelease r ∧ s.pwr.rst = true ∧ s.pwr.off = false)
    let noNor : Instr → StartPins → Prop := fun i q => ∀ a, q.norFail = some a → a < 0x100000 →
      ∃ t, exec i s = .next t ∧ devState t = 4 ∧ t.boot.wait = false ∧ t.boot.loaded = false ∧ t.clk.tb0 = 0
        ∧ causes t &&& (if 2 ≤ q.mode % 4 then 8 else 4) ≠ 0 ∧ rdF t Reg.SV_BOOT_STAT 23 16 = 0x0D ∧ rd t Reg.SV_BOOT_ERR_ADDR = w32 a
        ∧ rd t Reg.SV_NVM_ID = q.jedec ∧ rdB t Reg.SV_NVM_STAT 2 = false ∧ diesUp t = true
    (∀ i, begins i →
      (r.refOk = false → ∃ t, exec i s = .next t ∧ devState t = 1 ∧ t.boot.wait = true ∧ portsUp t = false ∧ diesUp t = true
        ∧ rdF t Reg.SV_BOOT_STAT 23 16 = 0x0E ∧ rdF t Reg.SV_BOOT_STAT 13 12 = r.mode % 4 ∧ t.pwr.rst = false ∧ t.pwr.off = false)
      ∧ (r.refOk = true → noNor i r))
    ∧ (diesUp s = true → s.boot.wait = true → noNor (.refclkCheck true) s.boot.pins)
    ∧ (s.boot.wait = true → exec (.refclkCheck false) s = .next s)

/-- R81 to R84, R77 and R78 over the image that the start has loaded. -/
def Obligations.InitialisationListIsExecuted : Prop :=
  ∀ s : State,
    let img := s.boot.img
    let i := s.boot.pc
    let a := initW img i 1
    let v := w32 (initW img i 2)
    let m := w32 (initW img i 3)
    let goes : State → Prop := fun t => t.boot = { s.boot with pc := i + 1, since := some s.clk.tb0, wrote := t.boot.wrote } ∧ t.clk = s.clk
    (∀ c op, (c, op) ∈ [(Instr.initEnd, 0), (.initWrite, 1), (.initFill, 2), (.initLoad, 3), (.initPoll, 4), (.initBarrier, 5), (.initDelay, 6)] →
      initAt op s = false → exec c s = .next s)
    ∧ (initAt 1 s = true →
      (dieOf a = 0 → 0x800000 ≤ a → a < 0x818000 → ∃ t, exec .initWrite s = .next t ∧ goes t ∧ t = { s with boot := t.boot })
      ∧ (inMem a = true → a % 4 = 0 → ¬(dieOf a = 0 ∧ 0x800000 ≤ a ∧ a < 0x818000) → ∃ t, exec .initWrite s = .next t ∧ goes t
        ∧ rd t a = ((rd s a &&& ~~~(m &&& memMask a)) ||| (v &&& m &&& memMask a))
        ∧ t = { s with regs := t.regs, mem := t.mem, boot := t.boot } ∧ wordsKept [(a, a + 4)] s t)
      ∧ (∀ row, inMem a = false → isLoopZ a = false → a % 4 = 0 → findRow a = some row →
        let k := m &&& (w32 row.cfg ||| w32 row.rw ||| w32 row.rws)
        ∃ t, exec .initWrite s = .next t ∧ goes t
          ∧ rd t a = (((rd s a &&& ~~~k) ||| (v &&& k)) &&& ~~~(v &&& m &&& ~~~(hwBits s a) &&& w32 row.w1c))
          ∧ t = { s with regs := t.regs, mem := t.mem, boot := t.boot } ∧ wordsKept [(a, a + 4)] s t))
    ∧ (initAt 2 s = true → a % 4 = 0 → (∀ j, j < initArg img i → inMem (a + 4 * j) = true) →
      ∃ t, exec .initFill s = .next t ∧ goes t
        ∧ (∀ j, j < initArg img i → rd t (a + 4 * j) = ((rd s (a + 4 * j) &&& ~~~(memMask (a + 4 * j))) ||| (v &&& memMask (a + 4 * j))))
        ∧ t = { s with regs := t.regs, mem := t.mem, boot := t.boot } ∧ wordsKept [(a, a + 4 * initArg img i)] s t)
    ∧ (∀ x, initAt 3 s = true → memSec img (initW img i 2) = some x → a % 4 = 0 →
      let b := secBytes img x
      (∀ j, j < b.length / 4 → inMem (a + 4 * j) = true) →
      ∃ t, exec .initLoad s = .next t ∧ goes t ∧ (∀ j, j < b.length / 4 → rd t (a + 4 * j)
          = ((rd s (a + 4 * j) &&& ~~~(memMask (a + 4 * j))) ||| (w32 (leAt b (4 * j) 4) &&& memMask (a + 4 * j))))
        ∧ t = { s with regs := t.regs, mem := t.mem, boot := t.boot } ∧ wordsKept [(a, a + 4 * (b.length / 4))] s t)
    ∧ (initAt 4 s = true →
      (pollHolds s = true → ∃ t, exec .initPoll s = .next t ∧ goes t ∧ t = { s with boot := t.boot })
      ∧ (pollHolds s = false → exec .initPoll s = .next s)
      ∧ (pollHolds s = true ∨ initWaited s < initArg img i → exec .initPollTimeout s = .next s)
      ∧ (pollHolds s = false → initArg img i ≤ initWaited s → rdB s Reg.SV_BOOT_STAT 9 = true →
          ∃ t, exec .initPollTimeout s = .next t ∧ devState t = 4 ∧ t.boot.loaded = false ∧ rdF t Reg.SV_BOOT_STAT 23 16 = 0x0A
            ∧ rd t Reg.SV_BOOT_ERR_ADDR = w32 i ∧ causes t &&& 4 ≠ 0))
    ∧ (initAt 5 s = true → ∃ t, exec .initBarrier s = .next t ∧ goes t ∧ t = { s with boot := t.boot })
    ∧ (initAt 6 s = true → (initArg img i ≤ initWaited s → ∃ t, exec .initDelay s = .next t ∧ goes t ∧ t = { s with boot := t.boot })
        ∧ (initWaited s < initArg img i → exec .initDelay s = .next s))
    ∧ (initAt 0 s = true → ∃ t, exec .initEnd s = .next t ∧ (t.pwr.rst = true
        ∨ (2 ≤ devState t ∧ devState t ≤ 4 ∧ rdF t Reg.SV_BOOT_STAT 7 4 = 5)
        ∨ (devState t = 1 ∧ rdF t Reg.SV_BOOT_STAT 7 4 = 3 ∧ t.boot.pc = 0)))

/-- R100, R104: with the rails good TB0 advances by one tick and TB1 with its fraction by 2^40 + rate in units of 2^-40 tick; with the rails absent TB2 alone advances, from the RTC. The idle step as a clock period is log entry 6 (DESIGN CHOICE). -/
def Obligations.EmptyQueueAdvancesTheTimeBases : Prop :=
  ∀ s : State, s.pending = [] → s.thm.later = [] →
    (railsGood s = true → devState s ≠ 0 → ∃ t, step s = .next t ∧ t.hwset = [] ∧ t.clk.tb0 = s.clk.tb0 + 1 ∧ t.clk.rate = s.clk.rate
      ∧ ∃ d : Int, t.clk.tb1 = s.clk.tb1 + BitVec.ofInt 64 d
        ∧ d * 2 ^ 40 + (t.clk.acc : Int) = 2 ^ 40 + (s.clk.acc : Int) + s.clk.rate ∧ t.clk.acc < 2 ^ 40)
    ∧ (railsGood s = false → s.time.rtcAbsent = false → s.clk.sub < subMod → ∃ t, step s = .next t
      ∧ t = { s with clk := t.clk, hwset := [], sig := { s.sig with ports := [], evals := [] } } ∧ t.clk.tb0 = s.clk.tb0 ∧ t.clk.tb1 = s.clk.tb1
      ∧ t.clk.sec.toNat * 65536 + t.clk.frac.toNat = (s.clk.sec.toNat * 65536 + s.clk.frac.toNat + 2) % 2 ^ 48)

/-- R110: acceptance of a PPS edge, and the count of the rejected. -/
def Obligations.PpsEdgesAreTimestampedOrCounted : Prop :=
  ∀ s : State,
    (diesUp s = false → exec .ppsEdge s = .next s)
    ∧ (diesUp s = true → (s.time.ppsFree = true ∨ s.time.ppsLast = none ∨ (∃ p, s.time.ppsLast = some p ∧ 99990000 ≤ (s.clk.tb0 - p).toNat
        ∧ (s.clk.tb0 - p).toNat ≤ 100010000)) →
      ∃ t, exec .ppsEdge s = .next t ∧ rd t Reg.SV_TIME_PPS_TS_LO = s.clk.tb1.extractLsb' 0 32
        ∧ rd t Reg.SV_TIME_PPS_TS_HI = s.clk.tb1.extractLsb' 32 32 ∧ t.time.ppsLast = some s.clk.tb0
        ∧ t.clk.tb0 = s.clk.tb0 ∧ t.clk.tb1 = s.clk.tb1 ∧ t.mem = s.mem ∧ t.nor = s.nor)
    ∧ (∀ p, diesUp s = true → s.time.ppsFree = false → s.time.ppsLast = some p →
        ((s.clk.tb0 - p).toNat < 99990000 ∨ 100010000 < (s.clk.tb0 - p).toNat) →
      ∃ t, exec .ppsEdge s = .next t ∧ t = { s with regs := t.regs, hwset := t.hwset, log := t.log }
        ∧ rdF t Reg.SV_TIME_STAT 30 16 = min 32767 (rdF s Reg.SV_TIME_STAT 30 16 + 1)
        ∧ wordsKept [(Reg.SV_TIME_STAT, Reg.SV_TIME_STAT + 4)] s t)

/-- R106, R110: missing measurements, their count and the loss of lock; and a measurement over 10,000 ns loses it. -/
def Obligations.FourMissingMeasurementsLoseLock : Prop :=
  ∀ s : State,
    (∀ p, s.time.ppsLast = some p → secTicks + 10000 + secTicks * s.time.pps.miss ≤ (s.clk.tb0 - p).toNat →
      ∃ t, exec .ppsMissing s = .next t ∧ t.time.pps.miss = min 7 (s.time.pps.miss + 1) ∧ t.time.pps.good = 0
        ∧ (3 ≤ s.time.pps.miss → ppsLock t = false ∧ t.time.ppsFree = true) ∧ t.mem = s.mem ∧ t.nor = s.nor)
    ∧ ((timeSrc s = 2 ∨ timeSrc s = 3) →
      ∃ t, exec .netMissing s = .next t ∧ rdF t Reg.NW_SYN_STAT 7 5 = min 7 (s.time.net.miss + 1) ∧ t.time.net.good = 0
        ∧ (3 ≤ s.time.net.miss → netLock t = false) ∧ t.mem = s.mem ∧ t.nor = s.nor)
    ∧ ∀ (src : Nat) (o : Int) (k : Nat), src = 1 ∨ src = 2 →
        (10000 < o.natAbs → lockOf (measure src o k s) src = false)
        ∧ (lockOf s src = false → (servoOf s src).good < 7 → lockOf (measure src o k s) src = false)

/-- R105 with I = 2^-k s, in units of 2^-31 ppb: the estimate and the rate are exact, the rate word is the nearest integer, and the offset beyond STEP_US asks for a hard step. The delay of exactly 100 µs is log entry 7 (DESIGN CHOICE). -/
def Obligations.ServoLawSetsFrequencyAndRate : Prop :=
  ∀ (s : State) (o : Int) (k : Nat), timeSrc s = 2 → k ≤ 5 →
    (o.natAbs ≤ rdF s Reg.SV_TIME_CFG 31 16 * 1000 →
      (measure 2 o k s).time.net.f = max (-(500000 * 2 ^ 31)) (min (500000 * 2 ^ 31) (s.time.net.f - o * 2 ^ (27 + k)))
      ∧ ∃ w : Int, (measure 2 o k s).time.changes = s.time.changes ++
            [{ at0 := s.clk.tb0 + 10000, rate := some w, step := none, src := 2 }]
          ∧ (2 * (w * 1000000000 - 512 * max (-(500000 * 2 ^ 31)) (min (500000 * 2 ^ 31)
                ((measure 2 o k s).time.net.f - o * 2 ^ (29 + k))))).natAbs ≤ 1000000000)
    ∧ (rdF s Reg.SV_TIME_CFG 31 16 * 1000 < o.natAbs →
      (measure 2 o k s).time.net.f = s.time.net.f
      ∧ ∃ d : Int, (measure 2 o k s).time.changes = s.time.changes ++
            [{ at0 := s.clk.tb0 + 10000, rate := none, step := some d, src := 2 }]
          ∧ (2 * (d * 10 + o)).natAbs ≤ 10)

/-- R113 and R114: the synchronisation exchange at the master and at the worker. -/
def Obligations.SynchronisationExchangeTakesEffect : Prop :=
  ∀ (n src : Nat) (data : List Byte) (t2 : Tick) (s : State), n < 8 →
    (followed s n src = true → (timeSrc s = 2 ∨ timeSrc s = 3) → (byteAt data 3).toNat ≤ 5 →
      ∃ t y, exec (.syncRx n src data t2) s = .next t ∧ t.time.syncRx = some y ∧ y.seq = (byteAt data 0).toNat ∧ y.src = src
        ∧ y.t2 = t2 ∧ y.itv = (byteAt data 3).toNat ∧ rdF t Reg.NW_SYN_MASTER 11 0 = src % 4096
        ∧ t = { s with regs := t.regs, hwset := t.hwset, time := { s.time with syncRx := some y } })
    ∧ (followed s n src = false → diesUp s = true →
      (∃ t, exec (.syncRx n src data t2) s = .next t ∧ t = { s with regs := t.regs, hwset := t.hwset, log := t.log }
        ∧ rdF t Reg.NW_SYN_STAT 23 16 = min 255 (rdF s Reg.NW_SYN_STAT 23 16 + 1))
      ∧ ∃ t, exec (.followUpRx n src data) s = .next t ∧ t = { s with regs := t.regs, hwset := t.hwset, log := t.log }
        ∧ rdF t Reg.NW_SYN_STAT 23 16 = min 255 (rdF s Reg.NW_SYN_STAT 23 16 + 1))
    ∧ (∀ y, followed s n src = true → (timeSrc s = 2 ∨ timeSrc s = 3) → s.time.syncRx = some y → y.src = src →
        y.seq = (byteAt data 0).toNat → (s.clk.tb0 - y.at0).toNat ≤ 2000000 →
      ∃ t, exec (.followUpRx n src data) s = .next t ∧ t.time.syncRx = none
        ∧ rd t Reg.NW_SYN_OFFSET = i32 (max (-2147483648) (min 2147483647
            ((y.t2 - BitVec.ofNat 64 (beAt data 4 8)).toInt * 10 - (rdF s (Reg.NW_SYN_COMP (rdF s Reg.NW_SYN_CFG 10 8)) 11 0 : Int))))
        ∧ rdF t Reg.NW_SYN_STAT 15 8 = y.seq % 256 ∧ rdF t Reg.NW_SYN_STAT 7 5 = 0 ∧ t.clk.tb0 = s.clk.tb0
        ∧ t.clk.tb1 = s.clk.tb1 ∧ t.clk.rate = s.clk.rate)
    ∧ (syncMaster s = false ∨ syncDue s = false → exec .syncSend s = .next s)
    ∧ (∀ b, syncMaster s = true → syncDue s = true → rdF s Reg.NW_SYN_CFG 7 0 = 2 ^ n → chanOn s n = true → freeBuf s n 0 3 = some b →
      ∃ t, exec .syncSend s = .next t ∧ t.time.syncSeq = (s.time.syncSeq + 1) % 256 ∧ txPending t n b = true
        ∧ (∃ y ∈ t.time.syncTx, y.ch = n ∧ y.buf = b ∧ y.seq = t.time.syncSeq ∧ y.sof = none) ∧ t.nor = s.nor)
    ∧ ∀ b y t1, maySendOwn s = true → (s.time.syncTx.find? fun x => decide (x.ch = n)) = some y → y.sof = some t1 →
        freeBuf s n 0 3 = some b →
      ∃ t, exec (.followUpSend n) s = .next t ∧ txPending t n b = true ∧ (∀ x ∈ t.time.syncTx, x.ch ≠ n) ∧ t.nor = s.nor

/-- R117 to R119: a set of TB2 by the owner, its refusal, and the era. -/
def Obligations.WallClockSetsAndEras : Prop :=
  ∀ (p : PortId) (s : State), mayWrite p Reg.SV_TIME_CTRL s →
    let v := rdN s Reg.SV_TIME_SET_S * 65536 + rdF s Reg.SV_TIME_SET_F 31 16
    let old := s.clk.sec.toNat * 65536 + s.clk.frac.toNat
    let back := v ≠ old ∧ laterN 48 v old = false
    (¬ (rdB s Reg.SV_TIME_CFG 3 = true ∧ rdB s Reg.NW_SYN_STAT 0 = true) →
      ∃ t, exec (.setTb2 p) s = .next t ∧ t.clk.sec = rd s Reg.SV_TIME_SET_S
        ∧ t.clk.frac = (rd s Reg.SV_TIME_SET_F).extractLsb' 16 16
        ∧ t.clk.era = (if back then (if s.clk.era = 255 then 255 else s.clk.era + 1) else s.clk.era)
        ∧ rdB t Reg.SV_TIME_STAT 5 = true
        ∧ (back → s.clk.era = 254 → rdB t Reg.SV_TIME_STAT 6 = true ∧ raisedEvent 0x0106 0 255 0 t)
        ∧ (if back then raisedEvent 0x0103 0 s.clk.sec (rd s Reg.SV_TIME_SET_S) t
           else raisedEvent 0x0102 0 s.clk.sec (rd s Reg.SV_TIME_SET_S) t)
        ∧ t.clk.tb0 = s.clk.tb0 ∧ t.clk.tb1 = s.clk.tb1 ∧ t.clk.rate = s.clk.rate ∧ t.nor = s.nor)
    ∧ (rdB s Reg.SV_TIME_CFG 3 = true ∧ rdB s Reg.NW_SYN_STAT 0 = true →
      ∃ t, exec (.setTb2 p) s = .next t ∧ t = { s with regs := t.regs, hwset := t.hwset, log := t.log }
        ∧ rd t Reg.SV_VIOL_ADDR = w32 Reg.SV_TIME_CTRL
        ∧ raisedEvent 0x0901 0 (rd t Reg.SV_VIOL_INFO) (w32 Reg.SV_TIME_CTRL) t)

/-- R101 and R107 (a change takes effect), R123 (the latch of a HI word), R121 (the crystal) and R344 (the wrap of TB1 bit 31). -/
def Obligations.TimeChangesAndTimeWords : Prop :=
  ∀ s : State,
    (∀ (c : TimeChange) (r : Int), s.time.changes = [c] → reached s.clk.tb0 c.at0 = true → c.rate = some r → c.step = none →
      ∃ t, exec .timeChangeApply s = .next t
        ∧ t = { s with time := { s.time with changes := [] }, clk := { s.clk with rate := max (-549755814) (min 549755814 r) } })
    ∧ (∀ (c : TimeChange) (d : Int), s.time.changes = [c] → reached s.clk.tb0 c.at0 = true → c.rate = none → c.step = some d →
      ∃ t, exec .timeChangeApply s = .next t ∧ t.time.changes = []
        ∧ t.clk = { s.clk with tb1 := s.clk.tb1 + BitVec.ofInt 64 d, slewAt := s.clk.slewAt + BitVec.ofInt 64 d }
        ∧ rdF t Reg.SV_TIME_STEP_CNT 15 0 = min 65535 (rdF s Reg.SV_TIME_STEP_CNT 15 0 + 1)
        ∧ t.mem = s.mem ∧ t.nor = s.nor ∧ wordsKept [(Reg.SV_TIME_STEP_CNT, Reg.SV_TIME_STEP_CNT + 4)] s t)
    ∧ (∀ (p : PortId) (a : Nat), portsUp s = true → (p = .runtime ∨ devState s ≠ 1) →
        a ∈ [Reg.SV_TIME_TB0_LO, Reg.SV_TIME_TB1_LO, Reg.SV_TIME_TB3_LO, Reg.SV_TIME_TB2_S] →
      ∃ t w, exec (.timeLoRead p a) s = .next t ∧ timeWord s (a + 4) = some w ∧ viewWord p t (a + 4) = w
        ∧ t = { s with port := { s.port with latches := t.port.latches } }
        ∧ ∀ q, q ≠ p → viewWord q t (a + 4) = viewWord q s (a + 4))
    ∧ (∃ t, exec .rtcFail s = .next t ∧ rdB t Reg.SV_TIME_STAT 7 = true
        ∧ (diesUp s = true → raisedEvent 0x0107 0 0 0 t)
        ∧ (diesUp s = false → clockRuns s = true → ∃ e ∈ t.pwr.island, e.code = 0x0107 ∧ e.tick = s.clk.tb0)
        ∧ (diesUp s = false → clockRuns s = false → rdB t Reg.SV_TIME_STAT 5 = false ∧ t.time.rtcAbsent = true)
        ∧ t = { s with regs := t.regs, hwset := t.hwset, log := t.log, time := t.time, pwr := t.pwr } ∧ wordsKept [(Reg.SV_TIME_STAT, Reg.SV_TIME_STAT + 4)] s t)
    ∧ (s.clk.tb1.getLsbD 31 = true → exec .tb1Wrap s = .next s)
    ∧ (s.clk.tb1.getLsbD 31 = false → ∃ t, exec .tb1Wrap s = .next t ∧ t = { s with regs := t.regs, hwset := t.hwset }
        ∧ ∀ n, n < 8 → (chanOn s n = true → rdB t (Reg.NW_CH_IR n) 10 = true)
          ∧ (chanOn s n = false → rd t (Reg.NW_CH_IR n) = rd s (Reg.NW_CH_IR n)))

/-- R126 to R134 for MA420, the frame included: the registers of the input, its entry and what follows from writing it. -/
def Obligations.AnalogInputsConvertAndFault : Prop :=
  ∀ (x : Nat) (s : State), x < 64 →
    let d := 1 + x / 16
    let dest := rdF s (Reg.LP_AIN_CFG x) 31 21
    let lo := rdI s (Reg.LP_AIN_LO x)
    let hi := rdI s (Reg.LP_AIN_HI x)
    let sh := rdF s (Reg.LP_AIN_CFG x) 9 5
    let sat : Int → Int := fun v => max (-2147483648) (min 2147483647 v)
    (inDue s x (tb3Tick s) = false → exec (.ainSample x) s = .next s)
    ∧ (ainOn s x = true → onGrid s (rdN s (Reg.LP_AIN_PERIOD x)) (rdN s (Reg.LP_AIN_PHASE x)) = true → inDue s x (tb3Tick s) = true →
      ∃ t c, exec (.ainSample x) s = .next t ∧ t = { s with sense := t.sense } ∧ (x, c) ∈ t.sense.ain
        ∧ c.at1.toNat = s.clk.tb1.toNat / 100 * 100 ∧ ∀ y, (x, y) ∈ t.sense.ain → y = c)
    ∧ (∀ (c : Conv) (i : Int), (s.sense.ain.find? fun y => decide (y.1 = x)) = some (x, c) → running s = true → quiet d s →
        reached s.clk.tb1 (c.at1 + BitVec.ofNat 64 (ainDelivery s x * 100)) = true → ainMode s x = 8 →
      (v5Held s c.at0 = true → 3600000 ≤ i → i ≤ 21000000 → sigKind s d dest = 1 → sigSrc s d dest = x % 16 →
        ∃ t e, exec (.ainDelivery x i false false) s = .next t
          ∧ (2 * (e * 16000000 - (lo * 16000000 + (i - 4000000) * (hi - lo)))).natAbs ≤ 16000000
          ∧ (let p := sat e * rdI s (Reg.LP_AIN_SCALE x)
             let y := sat (sat (if sh = 0 then p else (p + 2 ^ (sh - 1)) / 2 ^ sh) + rdI s (Reg.LP_AIN_OFFSET x))
             rd t (Reg.LP_AIN_VALUE x) = i32 y ∧ rd t (sigAddr d dest) = i32 y)
          ∧ rd t (sigAddr d dest + 8) = w32 (c.at1.toNat / 100) ∧ rdB t (sigAddr d dest + 4) 16 = true
          ∧ rdF t (sigAddr d dest + 4) 15 0 = (rdF s (sigAddr d dest + 4) 15 0 + 1) % 65536
          ∧ rd t (Reg.LP_AIN_RAW x) = i32 i ∧ rdF t (Reg.LP_AIN_STAT x) 3 0 = 0 ∧ rdB t (Reg.LP_AIN_STAT x) 4 = true
          ∧ (∀ y ∈ t.sense.ain, y.1 ≠ x) ∧ t.nor = s.nor
          ∧ wordsKept [(Reg.LP_AIN_CFG x, Reg.LP_AIN_CFG x + 0x40), (sigAddr d dest, sigAddr d dest + 12), (0x07000000, 0x08000000)] s t)
      ∧ (∀ code, v5Held s c.at0 = true → (i < 3600000 ∧ code = 3) ∨ (21000000 < i ∧ code = 4) →
        ∃ t, exec (.ainDelivery x i false false) s = .next t ∧ rdF t (Reg.LP_AIN_STAT x) 3 0 = code
          ∧ rdF t (Reg.LP_AIN_FAULT_CNT x) 15 0 = min 65535 (rdF s (Reg.LP_AIN_FAULT_CNT x) 15 0 + 1)
          ∧ (rdF s (Reg.LP_AIN_STAT x) 3 0 ≠ code → raisedEvent 0x0201 d (w32 (code * 0x10000 + x % 16)) (rd t (Reg.LP_AIN_RAW x)) t)
          ∧ t = { s with regs := t.regs, hwset := t.hwset, log := t.log, sense := t.sense }
          ∧ wordsKept [(Reg.LP_AIN_STAT x, Reg.LP_AIN_STAT x + 4), (Reg.LP_AIN_RAW x, Reg.LP_AIN_RAW x + 8)] s t)
      ∧ (v5Held s c.at0 = false → ∃ t, exec (.ainDelivery x i false false) s = .next t ∧ t = { s with sense := t.sense }
          ∧ ∀ y ∈ t.sense.ain, y.1 ≠ x))
    ∧ ∀ (l : Nat) (w : Word), l < 4 → running s = true →
      (v5Good s = false → exec (.cjMeasure l w) s = .next s)
      ∧ (v5Good s = true → ∃ t, exec (.cjMeasure l w) s = .next t ∧ rd t (Reg.LP_AIN_CJ (l + 1)) = w ∧ t = { s with regs := t.regs, sense := t.sense }
          ∧ wordsKept [(Reg.LP_AIN_CJ (l + 1), Reg.LP_AIN_CJ (l + 1) + 4)] s t)

/-- R136 to R143: the scan, its judgement, and what a good scan publishes, with the frame; a C0 of 0 gives free values (log entry 1), so the good scan is stated for the others. -/
def Obligations.ProbeScansGiveMoistureOrFault : Prop :=
  ∀ (x : Nat) (s : State), x < 16 →
    let d := 1 + x / 4
    let te := rdF s (Reg.LP_PRB_CFG2 x) 10 0
    let lim := rdF s (Reg.LP_PRB_CFG2 x) 19 12
    let old := prbOf s x
    (running s = true → rdB s (Reg.LP_PRB_CFG x) 20 = true → rdF s (Reg.LP_PRB_STAT x) 3 0 ≠ 4 →
        onGrid s (rdN s (Reg.LP_PRB_PERIOD x)) (rdN s (Reg.LP_PRB_PHASE x)) = true → inDue s (64 + x) (tb3Tick s) = true →
      ∃ t c, exec (.prbScan x) s = .next t ∧ t = { s with sense := t.sense } ∧ (prbOf t x).conv = some c
        ∧ c.at1.toNat = s.clk.tb1.toNat / 100 * 100
        ∧ (rdB s (sigAddr d te + 4) 16 = false → (prbOf t x).tdef = true ∧ (prbOf t x).temp = rdI s (Reg.LP_PRB_TDEF x))
        ∧ (rdB s (sigAddr d te + 4) 16 = true → (lim = 0 ∨ old.upd ≠ some (rdF s (sigAddr d te + 4) 15 0)) →
            (lim = 0 ∨ 0 < lim) → (prbOf t x).tdef = false ∧ (prbOf t x).temp = rdI s (sigAddr d te))
        ∧ (rdB s (sigAddr d te + 4) 16 = true → old.upd = some (rdF s (sigAddr d te + 4) 15 0) → lim ≠ 0 → lim ≤ old.stale + 1 →
            (prbOf t x).tdef = true ∧ (prbOf t x).temp = rdI s (Reg.LP_PRB_TDEF x)))
    ∧ ∀ (c : Conv) (ref : Int) (exc sense : Bool) (ys : List (Int × Int)), old.conv = some c → running s = true → quiet d s →
        reached s.clk.tb1 (c.at1 + BitVec.ofNat 64 ((300 + prbN s x * (20 + rdF s (Reg.LP_PRB_DWELL x) 15 0)) * 100)) = true →
      let g := max (-2147483648) (min 2147483647 ((ref * (65536 + old.kref) + 32768) / 65536))
      let bad := 10 * g < 589824 ∨ 720896 < 10 * g
      (v5Held s c.at0 = false → ∃ t, exec (.prbDelivery x ref exc sense ys) s = .next t ∧ t = { s with sense := t.sense }
          ∧ (prbOf t x).conv = none)
      ∧ (∀ code, v5Held s c.at0 = true →
          ((exc = true ∧ code = 1) ∨ (exc = false ∧ bad ∧ code = 5) ∨ (exc = false ∧ ¬ bad ∧ sense = true ∧ code = 2)) →
        ∃ t, exec (.prbDelivery x ref exc sense ys) s = .next t ∧ rdF t (Reg.LP_PRB_STAT x) 3 0 = code
          ∧ rd t (Reg.LP_PRB_REFGAIN x) = i32 g
          ∧ rdF t (Reg.LP_PRB_FAULT_CNT x) 15 0 = min 65535 (rdF s (Reg.LP_PRB_FAULT_CNT x) 15 0 + 1)
          ∧ (rdF s (Reg.LP_PRB_STAT x) 3 0 ≠ code → raisedEvent 0x0202 d (w32 (code * 0x10000 + x % 4)) (i32 g) t)
          ∧ t = { s with regs := t.regs, hwset := t.hwset, log := t.log, sense := t.sense, free := t.free }
          ∧ (rdI s (Reg.LP_PRB_C0 x) ≠ 0 → t.free = s.free)
          ∧ wordsKept [(Reg.LP_PRB_EPS_RE x 0, Reg.LP_PRB_EPS_RE x 0 + 0x80)] s t)
      ∧ (v5Held s c.at0 = true → exc = false → ¬ bad → sense = false → old.empty = false → rdI s (Reg.LP_PRB_C0 x) ≠ 0 →
          rdI s (Reg.LP_PRB_EMPTY x) ≤ (epsOf s x (prbH s x) g (ys.getD (prbH s x) (0, 0))).1 → prbH s x < prbN s x → prbL s x < prbN s x →
          65536 < rdI s (Reg.LP_PRB_EMPTY x) → rdB s (Reg.LP_PRB_CFG x) 10 = false → rdB s (Reg.LP_PRB_CFG2 x) 20 = false →
          sigKind s d (rdF s (Reg.LP_PRB_CFG x) 31 21) = 1 → sigSrc s d (rdF s (Reg.LP_PRB_CFG x) 31 21) = 256 + x % 4 →
        ∃ t f m e, exec (.prbDelivery x ref exc sense ys) s = .next t
          ∧ (let lr := (epsOf s x (prbL s x) g (ys.getD (prbL s x) (0, 0))).1
             let hr := (epsOf s x (prbH s x) g (ys.getD (prbH s x) (0, 0))).1
             ((2 * (f * (hr - 65536) - (lr - hr) * 65536)).natAbs : Int) ≤ hr - 65536 ∧ rd t (Reg.LP_PRB_EPS_RE x (prbL s x)) = i32 lr
               ∧ rd t (Reg.LP_PRB_EPS_RE x (prbH s x)) = i32 hr)
          ∧ rd t (Reg.LP_PRB_FEATURE x) = i32 (max (-2147483648) (min 2147483647 f))
          ∧ prbMoist s x (max (-2147483648) (min 2147483647 f)) old.temp = (m, e) ∧ rd t (Reg.LP_PRB_MOIST x) = i32 m
          ∧ rd t (Reg.LP_PRB_TUSED x) = i32 old.temp
          ∧ rd t (sigAddr d (rdF s (Reg.LP_PRB_CFG x) 31 21)) = i32 m ∧ rdF t (Reg.LP_PRB_STAT x) 3 0 = 0
          ∧ rdB t (Reg.LP_PRB_STAT x) 4 = true ∧ (e = true → rdB t (Reg.LP_PRB_STAT x) 6 = true) ∧ t.nor = s.nor
          ∧ wordsKept [(Reg.LP_PRB_EPS_RE x 0, Reg.LP_PRB_EPS_RE x 0 + 0x80),
              (sigAddr d (rdF s (Reg.LP_PRB_CFG x) 31 21), sigAddr d (rdF s (Reg.LP_PRB_CFG x) 31 21) + 12), (0x07000000, 0x08000000)] s t)

/-- R144 to R147, with their frames. -/
def Obligations.PulseInputsCountAndMeasure : Prop :=
  ∀ (x : Nat) (s : State), x < 32 → plsOn s x = true →
    let d := 1 + x / 8
    let p := plsOf s x
    let sat : Int → Int := fun v => max (-2147483648) (min 2147483647 v)
    (∀ (rise : Bool) (k : Tick), v5Good s = true → filtered s k (rdF s (Reg.LP_PLS_CFG x) 14 0) = false →
      exec (.plsEdge x rise k false) s = .next s)
    ∧ (∀ (rise : Bool) (k : Tick), v5Good s = true → plsIsB s x = false → plsMode s x ≠ 3 →
        filtered s k (rdF s (Reg.LP_PLS_CFG x) 14 0) = true →
      (rise ≠ rdB s (Reg.LP_PLS_CFG x) 15 →
        ∃ t, exec (.plsEdge x rise k false) s = .next t ∧ rdI t (Reg.LP_PLS_COUNT x) = (i32 (rdI s (Reg.LP_PLS_COUNT x) + 1)).toInt
          ∧ rd t (Reg.LP_PLS_LAST_TS x) = k.extractLsb' 0 32 ∧ rdB t (Reg.LP_PLS_STAT x) 0 = rise
          ∧ ((∀ y ∈ p.clears, laterN 64 y.1.toNat k.toNat = false) → (plsOf t x).acc = p.acc + 1) ∧ (plsOf t x).edges = p.edges ++ [(k, 1)]
          ∧ (∀ l, p.last = some l → (k - l).toNat < 500 → rdB t (Reg.LP_PLS_STAT x) 3 = true)
          ∧ t = { s with regs := t.regs, hwset := t.hwset, log := t.log, sense := t.sense, trk := t.trk }
          ∧ wordsKept [(Reg.LP_PLS_COUNT x, Reg.LP_PLS_COUNT x + 8), (Reg.LP_PLS_STAT x, Reg.LP_PLS_STAT x + 4)] s t)
      ∧ (rise = rdB s (Reg.LP_PLS_CFG x) 15 →
        ∃ t, exec (.plsEdge x rise k false) s = .next t ∧ rdB t (Reg.LP_PLS_STAT x) 0 = rise ∧ (plsOf t x).acc = p.acc
          ∧ t = { s with regs := t.regs, hwset := t.hwset, sense := t.sense } ∧ wordsKept [(Reg.LP_PLS_STAT x, Reg.LP_PLS_STAT x + 4)] s t)
      ∧ ∃ t, exec (.plsEdge x rise k true) s = .next t
          ∧ rdF t (Reg.LP_PLS_REJ_CNT x) 15 0 = min 65535 (rdF s (Reg.LP_PLS_REJ_CNT x) 15 0 + 1)
          ∧ t = { s with regs := t.regs, hwset := t.hwset, log := t.log } ∧ wordsKept [(Reg.LP_PLS_REJ_CNT x, Reg.LP_PLS_REJ_CNT x + 4)] s t)
    ∧ (∀ (rise rej : Bool) (k : Tick), v5Good s = false → exec (.plsEdge x rise k rej) s = .next s)
    ∧ (onGrid s (rdN s (Reg.LP_PLS_PERIOD x)) (rdN s (Reg.LP_PLS_PHASE x) + 50) = true →
      let s0 := tb3At0 s - BitVec.ofNat 64 (tb1To0 s 5000)
      let lo := s0 - BitVec.ofNat 64 (tb1To0 s (rdN s (Reg.LP_PLS_PERIOD x) * 100))
      v5Held s lo = true → quiet d s → p.moved = none → inDue s (80 + x) (tb3Tick s - 5000) = true → sigKind s d (rdF s (Reg.LP_PLS_CFG x) 31 21) = 1 →
      sigSrc s d (rdF s (Reg.LP_PLS_CFG x) 31 21) = 768 + x % 8 →
      (plsMode s x = 2 → ∀ e r last, p.edges = e :: r → (∀ y ∈ p.edges, laterN 64 y.1.toNat lo.toNat = true ∧ laterN 64 y.1.toNat s0.toNat = false) →
          (∀ y ∈ p.edges, y.2 = 1) → p.edges.getLast? = some last →
        ∃ t v, exec (.plsSample x) s = .next t ∧ rd t (Reg.LP_PLS_VALUE x) = i32 (sat v)
          ∧ rd t (sigAddr d (rdF s (Reg.LP_PLS_CFG x) 31 21)) = i32 (sat v)
          ∧ (p.ref = none → v = 0)
          ∧ (∀ k, p.ref = some k → 0 < (last.1 - k).toNat → (2 * (v * ((last.1 - k).toNat : Int)
              - (p.edges.length : Int) * 360000000000 * rdI s (Reg.LP_PLS_WEIGHT x))).natAbs ≤ (last.1 - k).toNat)
          ∧ (sat v ≠ v → rdB t (Reg.LP_PLS_STAT x) 4 = true) ∧ t.nor = s.nor)
      ∧ (plsMode s x = 1 → p.edges = [] → (∀ y ∈ p.clears, laterN 64 y.1.toNat s0.toNat = false) →
        ∃ t, exec (.plsSample x) s = .next t ∧ rd t (Reg.LP_PLS_VALUE x) = i32 (sat (p.acc * rdI s (Reg.LP_PLS_WEIGHT x))) ∧ t.nor = s.nor
          ∧ wordsKept [(Reg.LP_PLS_VALUE x, Reg.LP_PLS_STAT x + 4),
              (sigAddr d (rdF s (Reg.LP_PLS_CFG x) 31 21), sigAddr d (rdF s (Reg.LP_PLS_CFG x) 31 21) + 12), (0x07000000, 0x08000000)] s t))
    ∧ ∀ q : PortId, mayWrite q (Reg.LP_PLS_CTRL x) s →
      (plsMode s x = 1 → ∃ t, exec (.clrAcc q x) s = .next t ∧ (plsOf t x).acc = 0 ∧ t = { s with sense := t.sense, port := t.port })
      ∧ (plsMode s x ≠ 1 → ∃ t, exec (.clrAcc q x) s = .next t ∧ t = { s with regs := t.regs, hwset := t.hwset, log := t.log }
          ∧ rdF t Reg.SV_VIOL_INFO 19 16 = 7 ∧ rd t Reg.SV_VIOL_ADDR = w32 (Reg.LP_PLS_CTRL x))

/-- R155 (the CRC of READ), R162 to R166: power-up, slots, replies and delivery of a string port, with their frames. -/
def Obligations.StringScansReadTheNodes : Prop :=
  ∀ (x : Nat) (s : State), x < 8 →
    let d := 1 + x / 2
    let v := strOf s x
    let port : State → Prop := fun t => t = { s with str := t.str } ∧ ∀ y, y ≠ x → strOf t y = strOf s y
    let st : Nat → Nat := fun k => Reg.LP_STR_NODE_STAT x k
    (running s = true → v5Good s = true → rdB s (Reg.LP_STR_CFG x) 31 = true → v.cfg = false → v.oc = none → v.on = false → v.up = none →
      ∃ t, exec (.strPowerUp x) s = .next t ∧ port t ∧ (strOf t x).up = some (s.clk.tb0 + 10000000) ∧ (strOf t x).on = false)
    ∧ (∀ k line, v.up = some k → reached s.clk.tb0 k = true → v5Good s = true →
      ∃ t, exec (.strPowerupWaitDone x line) s = .next t ∧ (strOf t x).on = true ∧ (strOf t x).sent = [0xA5, 0x05, 0x40, BitVec.ofNat 8 (crc8 [0x05, 0x40])]
        ∧ (∀ k, k < 64 → rdB t (st k) 0 = false) ∧ rdF t (Reg.LP_STR_STAT x) 14 8 = 0 ∧ rd t (Reg.LP_STR_LINE x) = line
        ∧ t = { s with regs := t.regs, hwset := t.hwset, str := t.str } ∧ wordsKept [(Reg.LP_STR_STAT x, Reg.LP_STR_LINE x + 4), (st 0, st 63 + 4)] s t)
    ∧ (∀ line, running s = true → v.on = true → v.win = none → inDue s (112 + x) (tb3Tick s) = true →
        onGrid s (rdN s (Reg.LP_STR_PERIOD x)) (rdN s (Reg.LP_STR_PHASE x)) = true →
      (v.scan.isSome = true → ∃ t, exec (.strScanStart x line) s = .next t
        ∧ strOf t x = { v with next := some ⟨tb3Tick s, tb3At0 s⟩ } ∧ rd t (Reg.LP_STR_LINE x) = line
        ∧ t = { s with regs := t.regs, hwset := t.hwset, str := t.str, sense := t.sense })
      ∧ (v.scan = none → ∃ t sc, exec (.strScanStart x line) s = .next t ∧ (strOf t x).scan = some sc ∧ sc.slot = 0 ∧ sc.got = [] ∧ sc.failed = []
        ∧ sc.at1.toNat = s.clk.tb1.toNat / 100 * 100 ∧ (∀ k, k ∈ sc.nodes ↔ k < 64 ∧ rdB s (Reg.LP_STR_NODE_CFG x k) 20 = true)
        ∧ (strOf t x).out = some .convert ∧ rd t (Reg.LP_STR_LINE x) = line
        ∧ t = { s with regs := t.regs, hwset := t.hwset, str := t.str, sense := t.sense }))
    ∧ (v.out = some .convert → strIdle s x .convert = true → strSlotEnd s x 0 32 = true → ∃ t, exec (.strConvert x) s = .next t ∧ port t ∧ (strOf t x).out = none
        ∧ (strOf t x).sent = [0xA5, 0x02, 0x40, BitVec.ofNat 8 (crc8 [0x02, 0x40])])
    ∧ (∀ k sc, v.out = some (.read k) → v.scan = some sc → strIdle s x (.read k) = true →
        strSlotEnd s x (strSlotAt s x (sc.slot - 1)) 32 = true → ∃ t, exec (.strRead x) s = .next t ∧ port t ∧ (strOf t x).out = none
        ∧ (strOf t x).sent = [0xA5, 0x01, BitVec.ofNat 8 k, BitVec.ofNat 8 (crc8 [0x01, BitVec.ofNat 8 k])]
        ∧ (strOf t x).win = some (.read k, s.clk.tb0 + BitVec.ofNat 64 (6 * 10417)))
    ∧ (∀ sc, v.scan = some sc → v.out = none → v.win = none →
        reached s.clk.tb0 (sc.at0 + BitVec.ofNat 64 (400000 + rdF s (Reg.LP_STR_CFG x) 6 0 * 1000000 + sc.slot * 950000)) = true →
      (sc.slot < sc.nodes.length →
        ∃ t, exec (.strReadSlot x) s = .next t ∧ port t ∧ (strOf t x).scan = some { sc with slot := sc.slot + 1 }
          ∧ (strOf t x).out = if rdB s (st (sc.nodes.getD sc.slot 0)) 0 then some (.read (sc.nodes.getD sc.slot 0)) else none)
      ∧ ∀ k r, sc.failed = k :: r → sc.nodes.length ≤ sc.slot → sc.slot < sc.nodes.length + rdF s (Reg.LP_STR_CFG x) 29 28 →
        ∃ t, exec (.strReadSlot x) s = .next t ∧ port t ∧ (strOf t x).out = some (.read k)
          ∧ (strOf t x).scan = some { sc with slot := sc.slot + 1, failed := r })
    ∧ (∀ sc k b1 b2 f, k < 64 → v.scan = some sc → (∃ w, v.win = some (.read k, w)) → f.toNat % 4 = 0 →
        let bytes : List Byte := [0x5A, BitVec.ofNat 8 k, b1, b2, f, BitVec.ofNat 8 (crc8 [BitVec.ofNat 8 k, b1, b2, f])]
        ∃ t, exec (.strReply x bytes false) s = .next t
          ∧ (strOf t x).scan = some { sc with got := sc.got ++ [(k, max (-2147483648) (min 2147483647
              ((b1 ++ b2 : BitVec 16).toInt * 256 + rdI s (Reg.LP_STR_NODE_OFFSET x k))))] }
          ∧ (strOf t x).win = none ∧ rdF t (st k) 10 8 = 0 ∧ rdB t (st k) 1 = false ∧ rdB t (st k) 2 = (rdB s (st k) 2 || f.getLsbD 2)
          ∧ rdB t (st k) 3 = (rdB s (st k) 3 || f.getLsbD 3)
          ∧ (rdB s (st k) 1 = true → raisedEvent 0x0215 d (w32 (x % 2 * 256 + k)) 0 t)
          ∧ t = { s with regs := t.regs, hwset := t.hwset, log := t.log, str := t.str } ∧ wordsKept [(st k, st k + 4)] s t)
    ∧ (∀ sc k w, k < 64 → v.scan = some sc → sc.slot ≤ sc.nodes.length → v.win = some (.read k, w) → reached s.clk.tb0 w = true →
      ∃ t, exec (.strReplyTimeout x) s = .next t ∧ (strOf t x).scan = some { sc with failed := sc.failed ++ [k] } ∧ (strOf t x).win = none
        ∧ rdF t (st k) 10 8 = 1 ∧ rdF t (Reg.LP_STR_ERR_CNT x) 15 0 = min 65535 (rdF s (Reg.LP_STR_ERR_CNT x) 15 0 + 1)
        ∧ t = { s with regs := t.regs, hwset := t.hwset, log := t.log, str := t.str }
        ∧ wordsKept [(st k, st k + 4), (Reg.LP_STR_ERR_CNT x, Reg.LP_STR_ERR_CNT x + 4)] s t)
    ∧ ∀ sc k, v.scan = some sc → v.out = none → v.win = none → sc.nodes = [k] → k < 64 →
        reached s.clk.tb0 (sc.at0 + BitVec.ofNat 64 (400000 + rdF s (Reg.LP_STR_CFG x) 6 0 * 1000000
          + (1 + rdF s (Reg.LP_STR_CFG x) 29 28) * 950000)) = true →
        v.noisy = false → v.low = false → v.oc = none → v.cfg = false → rdF s (Reg.LP_STR_STAT x) 3 0 = 0 → v.next = none →
      let dest := rdF s (Reg.LP_STR_NODE_CFG x k) 31 21
      (∀ y, sc.got = [(k, y)] → quiet d s → sigKind s d dest = 1 → sigSrc s d dest = 1024 + x % 2 * 64 + k →
        ∃ t, exec (.strDelivery x) s = .next t ∧ rd t (sigAddr d dest) = i32 y ∧ rd t (sigAddr d dest + 8) = w32 (sc.at1.toNat / 100)
          ∧ rd t (Reg.LP_STR_NODE_VALUE x k) = i32 y ∧ rdF t (st k) 15 12 = 0 ∧ (strOf t x).scan = none ∧ (strOf t x).gap = true
          ∧ t.nor = s.nor ∧ wordsKept [(st k, st k + 4), (Reg.LP_STR_NODE_VALUE x k, Reg.LP_STR_NODE_VALUE x k + 4),
              (sigAddr d dest, sigAddr d dest + 12), (0x07000000, 0x08000000)] s t)
      ∧ (sc.got = [] → rdB s (st k) 0 = true → rdF s (Reg.LP_STR_CFG x) 27 24 ≤ min 15 (rdF s (st k) 15 12 + 1) →
        ∃ t, exec (.strDelivery x) s = .next t ∧ rdB t (st k) 0 = false
          ∧ raisedEvent 0x0211 d (w32 (x % 2 * 256 + k)) (w32 (rdF s (st k) 10 8)) t
          ∧ t = { s with regs := t.regs, hwset := t.hwset, log := t.log, str := t.str }
          ∧ wordsKept [(st k, st k + 4), (Reg.LP_STR_STAT x, Reg.LP_STR_STAT x + 4)] s t)

/-- R158 to R161, R168 and R169, with their frames. -/
def Obligations.StringEnumerationAndFaults : Prop :=
  ∀ (x : Nat) (s : State), x < 8 →
    let d := 1 + x / 2
    let v := strOf s x
    let port : State → Prop := fun t => t = { s with str := t.str } ∧ ∀ y, y ≠ x → strOf t y = strOf s y
    let code : State → Nat := fun t => rdF t (Reg.LP_STR_STAT x) 3 0
    let changed : Nat → State → Prop := fun c t => code t = c
      ∧ (code s ≠ c → raisedEvent 0x0210 d (w32 (c * 0x10000 + x % 2 * 256)) (rd t (Reg.LP_STR_LINE x)) t)
      ∧ t = { s with regs := t.regs, hwset := t.hwset, log := t.log, str := t.str }
      ∧ wordsKept [(Reg.LP_STR_STAT x, Reg.LP_STR_LINE x + 4)] s t
    (running s = true → v.on = true → v.gap = true → v.pass = none → v.ended = none →
        (∃ k, k < 64 ∧ rdB s (Reg.LP_STR_NODE_CFG x k) 20 = true ∧ rdB s (Reg.LP_STR_NODE_STAT x k) 0 = false) →
      ∃ t, exec (.strEnumPass x) s = .next t ∧ (strOf t x).pass = some { stage := 0, p := 0, node := 0 } ∧ rdB t (Reg.LP_STR_STAT x) 7 = true)
    ∧ (∀ q present, v.pass = some q → strMay s x (.search 0 0) = true →
      (1 ≤ q.stage → q.stage ≤ 48 →
        ∃ t, exec (.strSearch x present) s = .next t ∧ port t ∧ (strOf t x).sent = strFrame (.search q.stage q.p)
          ∧ (strOf t x).pass = some { stage := q.stage + 1, p := if present then q.p else q.p + 2 ^ (48 - q.stage), node := 0 })
      ∧ (q.stage = 0 → present = true → ∃ t, exec (.strSearch x present) s = .next t ∧ port t
          ∧ (strOf t x).pass = some { stage := 1, p := 0, node := 0 })
      ∧ (q.stage = 0 → present = false → ∃ t, exec (.strSearch x present) s = .next t ∧ (strOf t x).pass = none
          ∧ (strOf t x).ended = some s.clk.tb0 ∧ rdB t (Reg.LP_STR_STAT x) 7 = false)
      ∧ (q.stage = 49 → present = false → ∃ t, exec (.strSearch x present) s = .next t ∧ port t
          ∧ (strOf t x).pass = some { stage := 0, p := 0, node := 0 })
      ∧ (∀ k, k < 64 → q.stage = 49 → present = true → nodeId s x k = q.p → (∀ j, j < k → nodeId s x j ≠ q.p) →
          ∃ t, exec (.strSearch x present) s = .next t ∧ port t ∧ (strOf t x).pass = some { stage := 50, p := q.p, node := k })
      ∧ (q.stage = 49 → present = true → (∀ j, j < 64 → nodeId s x j ≠ q.p) → rdB s (Reg.LP_STR_CFG x) 30 = false →
          ∃ t, exec (.strSearch x present) s = .next t ∧ port t ∧ (strOf t x).pass = some { stage := 51, p := q.p, node := 0 }))
    ∧ (∀ q, v.pass = some q → q.stage = 50 → strMay s x (.assign q.p q.node) = true →
      ∃ t w, exec (.strAssign x) s = .next t ∧ port t ∧ (strOf t x).win = some (.assign q.p q.node, w)
        ∧ (strOf t x).sent = strFrame (.assign q.p q.node))
    ∧ (∀ q, v.pass = some q → q.stage = 51 → strMay s x (.park q.p) = true →
      ∃ t, exec (.strPark x) s = .next t ∧ (strOf t x).sent = strFrame (.park q.p) ∧ (strOf t x).pass = some { stage := 0, p := 0, node := 0 }
        ∧ raisedEvent 0x0214 d (w32 (x % 2 * 256)) (w32 q.p) t ∧ t = { s with log := t.log, str := t.str })
    ∧ (∀ k r, v.resets = some k :: r → k < 64 → strMay s x (.reset (some k)) = true →
      ∃ t, exec (.strResetAddr x) s = .next t ∧ (strOf t x).resets = r ∧ (strOf t x).sent = strFrame (.reset (some k))
        ∧ rdB t (Reg.LP_STR_NODE_STAT x k) 0 = false ∧ t = { s with regs := t.regs, hwset := t.hwset, str := t.str })
    ∧ (∀ r, v.resets = none :: r → strMay s x (.reset none) = true →
      ∃ t, exec (.strResetAddr x) s = .next t ∧ (strOf t x).resets = r ∧ (∀ k, k < 64 → rdB t (Reg.LP_STR_NODE_STAT x k) 0 = false)
        ∧ (strOf t x).pass = some { stage := 0, p := 0, node := 0 } ∧ rdB t (Reg.LP_STR_STAT x) 7 = true)
    ∧ (∀ p : PortId, mayWrite p (Reg.LP_STR_CTRL x) s →
      ∃ t, exec (.reenum p x) s = .next t ∧ strOf t x = { v with resets := v.resets ++ [none] } ∧ t = { s with str := t.str, port := t.port })
    ∧ (∀ (p : PortId) (k : Nat) (lo hi : Word), k < 64 → mayWrite p (Reg.LP_STR_NODE_ID_HI x k) s →
      let id := hi.toNat % 65536 * 2 ^ 32 + lo.toNat
      ((∀ j, j < 64 → j ≠ k → id ≠ 0 → nodeId s x j ≠ id) → nodeId s x k ≠ id →
        ∃ t, exec (.strNodeIdWrite p x k lo hi) s = .next t ∧ nodeId t x k = id ∧ (strOf t x).resets = v.resets ++ [some k]
          ∧ t = { s with regs := t.regs, hwset := t.hwset, str := t.str, upd := t.upd, port := t.port }
          ∧ wordsKept [(Reg.LP_STR_NODE_ID_LO x k, Reg.LP_STR_NODE_ID_LO x k + 8)] s t)
      ∧ (∀ j, j < 64 → j ≠ k → id ≠ 0 → nodeId s x j = id →
        ∃ t, exec (.strNodeIdWrite p x k lo hi) s = .next t ∧ nodeId t x k = nodeId s x k ∧ rdF t Reg.SV_VIOL_INFO 19 16 = 7
          ∧ t = { s with regs := t.regs, hwset := t.hwset, log := t.log, str := t.str }))
    ∧ (∀ line, v.cfg = false → (v.on = true ∨ v.up.isSome = true) →
      (∃ t, exec (.strOvercurrent x line) s = .next t ∧ changed 1 t ∧ (strOf t x).on = false ∧ (strOf t x).up = none
        ∧ (strOf t x).oc = some (s.clk.tb0 + 1000000000) ∧ rd t (Reg.LP_STR_LINE x) = line)
      ∧ (v.oc = none → ∃ t, exec (.strLowLine x line) s = .next t ∧ changed 2 t ∧ rd t (Reg.LP_STR_LINE x) = line)
      ∧ (v.oc = none → v.low = false → v.on = true → 2 ≤ v.noise → ∃ t, exec (.strBusNoise x line) s = .next t ∧ changed 3 t)
      ∧ (v.oc = none → v.low = true → v.noisy = false → ∃ t, exec (.spaceLevelRestored x line) s = .next t ∧ changed 0 t
        ∧ rd t (Reg.LP_STR_LINE x) = line))
    ∧ ∀ k, v.cfg = false → v.low = false → v.noisy = false → v.oc = some k → reached s.clk.tb0 k = true → running s = true → v5Good s = true →
      ∃ t, exec (.strOcRetry x) s = .next t ∧ changed 0 t ∧ (strOf t x).up = some (s.clk.tb0 + 10000000) ∧ (strOf t x).oc = none

/-- R175, R176, R179 (slack), R198, R204 and R205: what a sample instant latches, what the commands wait for, and the latching read of a barge. -/
def Obligations.ColumnsLatchTheirSignalsAndCommands : Prop :=
  ∀ (c : Nat) (s : State), c < 16 →
    let d := 1 + c / 4
    let x := trkOf s c
    let others : State → Prop := fun t => ∀ h, h ≠ c → trkOf t h = trkOf s h
    (colRuns s c = true → x.upd = none → onGrid s (rdN s (Reg.LP_TRK_PERIOD c)) 0 = true → (x.started = false ∨ reached (tb3Tick s) x.endAt = true) →
      ∃ t u, exec (.trkLatch c) s = .next t ∧ (trkOf t c).upd = some u
        ∧ u.at1.toNat = s.clk.tb1.toNat / 100 * 100 ∧ u.commit = u.at1 + BitVec.ofNat 64 (rdN s (Reg.LP_TRK_PHASE c) * 100)
        ∧ u.m = min 255 (x.m + 1) ∧ u.done = false ∧ (trkOf t c).cmds = [] ∧ (trkOf t c).started = true ∧ others t
        ∧ (trkOf t c).endAt = u.at1 + BitVec.ofNat 64 (rdN s (Reg.LP_TRK_PERIOD c) * 100)
        ∧ (∀ e ∈ colEntries s c, ∃ y ∈ u.sigs, y.entry = e ∧ y.value = rdI s (sigAddr d e) ∧ y.instant = rd s (sigAddr d e + 8)
            ∧ y.valid = rdB s (sigAddr d e + 4) 16)
        ∧ (∀ i, i < 8 → u.bias.getD i 0 = rdI t (Reg.LP_TRK_BIAS c i))
        ∧ (x.cmds = [] → t = { s with trk := t.trk } ∧ u.cmds = [])
        ∧ (∀ k, x.cmds = [k] → k.act < 2 → u.cmds = [k] ∧ t = { s with trk := t.trk, log := t.log }
            ∧ (k.logged = false → raisedEvent 0x0307 d (w32 ((if k.act = 0 then 1 else 2) * 0x10000 + c % 4)) (w32 k.port) t))
        ∧ (∀ k, x.cmds = [k] → k.act = 2 → k.logged = false → u.cmds = [] ∧ (∀ i, i < 8 → rd t (Reg.LP_TRK_BIAS c i) = 0)
            ∧ raisedEvent 0x0307 d (w32 (0x40000 + c % 4)) (w32 k.port) t
            ∧ wordsKept [(Reg.LP_TRK_BIAS c 0, Reg.LP_TRK_BIAS c 0 + 32)] s t ∧ t = { s with regs := t.regs, hwset := t.hwset, trk := t.trk, log := t.log, upd := t.upd })
        ∧ (∀ k i, x.cmds = [k] → k.act = 8 + i → i < 8 → u.cmds = [] ∧ rd t (Reg.LP_TRK_BIAS c i) = k.word
            ∧ wordsKept [(Reg.LP_TRK_BIAS c i, Reg.LP_TRK_BIAS c i + 4)] s t ∧ t = { s with regs := t.regs, hwset := t.hwset, trk := t.trk }))
    ∧ (∀ u, x.upd = some u → u.done = false → reached s.clk.tb1 u.commit = false →
      let slack := min 0xFFFFFFFF ((u.commit - s.clk.tb1).toNat / 100)
      ∃ t, exec (.trkUpdateDone c) s = .next t ∧ trkOf t c = { x with upd := some { u with done := true } } ∧ others t
        ∧ rdN t (Reg.LP_TRK_SLACK c) = slack ∧ rdN t (Reg.LP_TRK_MIN_SLACK c) = min slack (rdN s (Reg.LP_TRK_MIN_SLACK c))
        ∧ t = { s with regs := t.regs, hwset := t.hwset, trk := t.trk } ∧ wordsKept [(Reg.LP_TRK_SLACK c, Reg.LP_TRK_SLACK c + 8)] s t)
    ∧ (∀ (p : PortId) (i : Instr) (k : Nat), mayWrite p (Reg.LP_TRK_CTRL c) s →
      (i = .trkPreset p c ∧ k = 0) ∨ (i = .trkClear p c ∧ k = 1) ∨ (i = .trkClrBias p c ∧ k = 2) →
      ∃ t, exec i s = .next t ∧ trkOf t c = { x with cmds := x.cmds ++ [{ act := k, port := portCode p, word := 0, logged := false }] }
        ∧ others t ∧ t = { s with trk := t.trk, port := t.port, sig := t.sig })
    ∧ ∀ (p : PortId) (i n : Nat), i < 4 → n < 512 → portsUp s = true → (p = .runtime ∨ devState s ≠ 1) →
      ∃ t, exec (.bargeRead p i n) s = .next t ∧ t = { s with port := t.port }
        ∧ ∀ j, 1 ≤ j → j < 8 → latchGet p (dieAt (i + 1) 0xC00000 + 32 * n + 4 * j) t = some (rd s (dieAt (i + 1) 0xC00000 + 32 * n + 4 * j))

/-- R178 to R184 with R189 and R190 at a commit of a column with barges, no command and no stations, no signal of its die having been latched in that tick. -/
def Obligations.ColumnCommitsAdvanceRateAndBarges : Prop :=
  ∀ (c : Nat) (s : State) (u : TrkUpd), c < 16 → (trkOf s c).upd = some u → reached s.clk.tb1 u.commit = true → quiet (1 + c / 4) s →
    let d := 1 + c / 4
    let x := trkOf s c
    let q := 65536 * (colLevels s c : Int)
    let L := colLevels s c
    let N := colLanes s c
    (u.done = false →
      ∃ t, exec (.trkCommit c) s = .next t ∧ rdB t (Reg.LP_TRK_STAT c) 11 = true ∧ rdN t (Reg.LP_TRK_SLACK c) = 0
        ∧ rdF t (Reg.LP_TRK_OVR_CNT c) 15 0 = min 65535 (rdF s (Reg.LP_TRK_OVR_CNT c) 15 0 + 1)
        ∧ raisedEvent 0x0301 d (w32 (c % 4)) (w32 u.m) t
        ∧ trkOf t c = { x with upd := none, cmds := (u.cmds.map fun k => { k with logged := true }) ++ x.cmds }
        ∧ t = { s with regs := t.regs, hwset := t.hwset, trk := t.trk, log := t.log }
        ∧ wordsKept [(Reg.LP_TRK_STAT c, Reg.LP_TRK_STAT c + 4), (Reg.LP_TRK_SLACK c, Reg.LP_TRK_OVR_CNT c + 4)] s t)
    ∧ (u.done = true → colMode s c ≤ 1 → u.cmds = [] → colNst s c = 0 → 1 ≤ L → L ≤ 512 → colBase s c + L * N ≤ 512 → u.m ≠ 0 → u.m ≤ 255 →
      1 ≤ colT s c → rdN s (Reg.LP_TRK_TOP c) < L → rdI s (Reg.LP_TRK_MLO c) ≤ rdI s (Reg.LP_TRK_MHI c) →
      -q ≤ rdI s (Reg.LP_TRK_ADV c) → rdI s (Reg.LP_TRK_ADV c) < 65536 →
      let adv := if colMode s c = 1 then 0 else netCount (trkEdges x u) * rdI s (Reg.LP_TRK_LPP c)
      let a1 := if colMode s c = 1 then rdI s (Reg.LP_TRK_ADV c) else max (rdI s (Reg.LP_TRK_ADV c) + adv) (-q)
      let n := if a1 ≥ 65536 then a1 / 65536 else 0
      let k := min n.toNat L
      let top := (rdN s (Reg.LP_TRK_TOP c) + L * k - k) % L
      let dt := u.m * colT s c
      let off := ∀ z, z < colZones s c → zoneOff s c u z = true
      let slot : Nat → Nat → Nat := fun p r => dieAt d 0xC00000 + 32 * (colBase s c + (top + p) % L * N + r)
      (colMode s c = 0 → rdB s (Reg.LP_TRK_CFG c) 24 = false) →
      ∃ t, exec (.trkCommit c) s = .next t ∧ (trkOf t c).upd = none ∧ (trkOf t c).m = 0 ∧ (trkOf t c).last0 = some u.at0
        ∧ rdI t (Reg.LP_TRK_ADV c) = a1 - 65536 * n ∧ rdN t (Reg.LP_TRK_TOP c) = top
        ∧ rd t (Reg.LP_TRK_LEVELS_OUT c) = rd s (Reg.LP_TRK_LEVELS_OUT c) + w32 k
        ∧ (let v0 := rdI s (Reg.LP_TRK_VRATE c)
           let v := if colMode s c = 1 then 0
             else sat32 (v0 + mulV (rdI s (Reg.LP_TRK_VF c)) (Int.tdiv (adv * 3600000000) dt - v0))
           rdI t (Reg.LP_TRK_VRATE c) = v
           ∧ (rdB t (Reg.LP_TRK_STAT c) 2 = true ↔ colMode s c = 0 ∧ (v < rdI s (Reg.LP_TRK_VMIN c) ∨ a1 < 0)))
        ∧ (rdB t (Reg.LP_TRK_STAT c) 3 = true ↔ a1 < 0)
        ∧ (colMode s c = 0 → (L : Int) ≤ n → rdB t (Reg.LP_TRK_STAT c) 7 = true)
        ∧ (∀ p r, p < k → r < N → off →
            (rdB t (slot p r + 24) 0 = true ↔ (sigIn u (rdF s (Reg.LP_TRK_SIG_IN c) 10 0)).valid = true
                ∧ (sigIn u (rdF s (Reg.LP_TRK_SIG_IN c) 26 16)).valid = true)
            ∧ rd t (slot p r) = i32 (sigIn u (rdF s (Reg.LP_TRK_SIG_IN c) 10 0)).value
            ∧ rd t (slot p r + 4) = i32 (sigIn u (rdF s (Reg.LP_TRK_SIG_IN c) 26 16)).value
            ∧ rd t (slot p r + 12) = 0 ∧ rd t (slot p r + 16) = 0 ∧ rd t (slot p r + 28) = 0)
        ∧ (∀ p r, k ≤ p → p < L → r < N → off → rdB s (slot p r + 24) 0 = true →
            rd t (slot p r) = rd s (slot p r) ∧ rd t (slot p r + 4) = rd s (slot p r + 4) ∧ rd t (slot p r + 12) = rd s (slot p r + 12)
            ∧ rd t (slot p r + 16) = rd s (slot p r + 16) ∧ rd t (slot p r + 28) = rd s (slot p r + 28) ∧ rd t (slot p r + 20) = 0
            ∧ rdN t (slot p r + 8) = min 0xFFFFFFFF (rdN s (slot p r + 8) + dt / 100000)
            ∧ rdB t (slot p r + 24) 0 = true ∧ rdB t (slot p r + 24) 5 = true)
        ∧ (∀ p r, p < L → r < N → rdB t (slot p r + 24) 0 = true → rdB t (slot p r + 24) 5 = false →
            rdI s (Reg.LP_TRK_MLO c) ≤ rdI t (slot p r) ∧ rdI t (slot p r) ≤ rdI s (Reg.LP_TRK_MHI c)
            ∧ -3276800 ≤ rdI t (slot p r + 4) ∧ rdI t (slot p r + 4) ≤ 16384000)
        ∧ (∀ h, h ≠ c → trkOf t h = trkOf s h) ∧ t.nor = s.nor
        ∧ wordsKept [(Reg.LP_TRK_BIAS c 0, Reg.LP_TRK_BIAS c 0 + 32), (Reg.LP_TRK_STAT c, Reg.LP_TRK_STAT c + 16),
            (Reg.LP_TRK_EDGE_CNT c, Reg.LP_TRK_CTRL c), (Reg.LP_TRK_PRED_VAL c 0, Reg.LP_TRK_PRED_VAL c 0 + 16),
            (dieAt d 0xB00000, dieAt d 0xB08000), (dieAt d 0xC00000, dieAt d 0xC04000), (0x07000000, 0x08000000)] s t)

/-- R187, R188 and R190 on the one barge of a bed with air, and R200. A division by zero is the free value of the model (log entry 1). -/
def Obligations.BargesDryByTheAirPass : Prop :=
  ∀ (c : Nat) (s : State) (u : TrkUpd), c < 16 → (trkOf s c).upd = some u → reached s.clk.tb1 u.commit = true → u.done = true → quiet (1 + c / 4) s →
    let d := 1 + c / 4
    let zone := rd s (Reg.LP_TRK_ZONE_SIG c 0)
    let ta := sigIn u (bits zone 10 0)
    let hum := sigIn u (bits zone 26 16)
    let mul : Int → Int → Int := fun x y => sat32 (rdivRaw (x * y) 65536)
    let div : Int → Int → Int := fun x y => (tqDiv (tq x) (tq y)).v
    let patm := rdI s (Reg.LP_TRK_PATM c)
    let pw : Int → Int := fun t => (pws s d t).1.v
    let rhOf : Int → Int → Int := fun t w =>
      if (pws s d t).2 = true then 100 * 65536
      else max 0 (min (100 * 65536) (mul (100 * 65536) (div (mul patm (div w (622 * 65536 + w))) (pw t))))
    (colMode s c = 1 → u.cmds = [] → colNst s c = 0 → colLevels s c = 1 → colLanes s c = 1 → colZones s c = 1 → (colAir s c = 1 ∨ colAir s c = 2) →
      zoneOff s c u 0 = false → rdN s (Reg.LP_TRK_TOP c) = 0 → colBase s c < 512 → u.bias.getD 0 0 = rdI s (Reg.LP_TRK_BIAS c 0) →
      let a := dieAt d 0xC00000 + 32 * colBase s c
      rdB s (a + 24) 0 = true →
      let dt : Int := (u.m * colT s c : Nat)
      let air := sigIn u (rdF s (Reg.LP_TRK_SIG_AUX c) 10 0)
      let eff : Nat → Int := fun r => if rdB s (Reg.LP_TRK_CFG c) 14 then div (mul (rdI s r) (rdI s (Reg.LP_TRK_QNOM c))) air.value else rdI s r
      let kw := eff (Reg.LP_TRK_KW c)
      let p := Int.tdiv (mul (pw ta.value) hum.value) 100
      let w := if bit zone 31 then hum.value else mul (622 * 65536) (div p (patm - p))
      let rh := rhOf ta.value w
      let emc := (emcAt s d ta.value (tq rh)).v
      let r0 := sat32 ((surfAt s d (bits zone 30 29) (rdI s a) ta.value (tq rh)).v + rdI s (Reg.LP_TRK_BIAS c 0))
      let hx := mul (rdI s (Reg.LP_TRK_HK c)) (ta.value - rdI s (a + 4))
      let ta1 := sat32 (ta.value - mul (eff (Reg.LP_TRK_CAP c)) hx)
      let w1 := sat32 (w + mul kw r0)
      let ws := if pw ta1 ≥ patm - 4096 then 0x7FFFFFFF else mul (622 * 65536) (div (pw ta1) (patm - pw ta1))
      let w2 := if w1 > ws then ws else if w1 < 0 then 0 else w1
      let r := if w1 > ws then div (ws - w) kw else if w1 < 0 then div (-w) kw else r0
      let t1 := rdI s (a + 4) + hrs (hx - mul (rdI s (Reg.LP_TRK_EV c)) r) dt
      let t2 := if hx > 0 ∧ t1 > ta.value then ta.value else if hx < 0 ∧ t1 < ta.value then ta.value else t1
      ∃ t, exec (.trkCommit c) s = .next t
        ∧ rd t a = i32 (max (rdI s (Reg.LP_TRK_MLO c)) (min (rdI s (Reg.LP_TRK_MHI c)) (rdI s a - hrs r dt)))
        ∧ rd t (a + 4) = i32 (max (-50 * 65536) (min (250 * 65536) t2)) ∧ rd t (a + 20) = i32 r ∧ rd t (a + 12) = i32 ta1
        ∧ rd t (a + 16) = i32 (rhOf ta1 w2) ∧ rd t (a + 28) = i32 emc
        ∧ rdB t (a + 24) 0 = true ∧ rdB t (a + 24) 5 = false ∧ (rdB t (a + 24) 4 = true ↔ w1 > ws ∨ w1 < 0))
    ∧ (colMode s c = 2 →
      (ta.valid = true → hum.valid = true → ∀ j, j < 4 → rdB s (Reg.LP_TRK_PRED c j) 20 = true → rdF s (Reg.LP_TRK_PRED c j) 19 17 = 5 →
        let rh := if bit zone 31 then rhOf ta.value hum.value else hum.value
        ∃ t, exec (.trkCommit c) s = .next t ∧ rd t (Reg.LP_TRK_PRED_VAL c j) = i32 (emcAt s d ta.value (tq rh)).v ∧ (trkOf t c).upd = none)
      ∧ ((ta.valid = false ∨ hum.valid = false) → ∃ t, exec (.trkCommit c) s = .next t ∧ (trkOf t c).upd = none
          ∧ t = { s with regs := t.regs, hwset := t.hwset, trk := t.trk, log := t.log } ∧ wordsKept [(Reg.LP_TRK_STAT c, Reg.LP_TRK_STAT c + 4)] s t))

/-- R212, the steps that move values: the period of the loop takes the one result and moves past the step; every register, memory word and other loop is unchanged. -/
def Obligations.StepsThatMoveValues : Prop :=
  ∀ (g : Nat) (s : State) (p : LoopPer), g < 256 →
    let hi := stepHi s g p.pc
    let lo := stepLo s g p.pc
    let a := p.xs.getD (bits hi 19 16) 0
    let k := bits lo 12 0
    let zi := bits lo 19 16
    let z := rdI s (Reg.LP_LOOP_Z g zi)
    let cf : Nat → Int := fun j => cfC s g (bit hi 7) (k + j)
    let X : Int → LoopPer := fun v => { p with pc := p.pc + 1, xs := p.xs.set (bits hi 23 20) v }

    (engineRuns s g 0x00 p → stepsTo (.stepNop g) g s { p with pc := p.pc + 1 })
    ∧ (engineRuns s g 0x01 p → stepsTo (.stepLdi g) g s (X (p.ins.getD (k % 8) 0)))
    ∧ (engineRuns s g 0x02 p → stepsTo (.stepLdk g) g s (X lo.toInt))
    ∧ (engineRuns s g 0x03 p → stepsTo (.stepLdz g) g s (X z))
    ∧ (engineRuns s g 0x04 p → stepsTo (.stepStz g) g s
        { p with pc := p.pc + 1, zs := p.zs.filter (fun x => decide (x.1 ≠ zi)) ++ [(zi, a)] })
    ∧ (engineRuns s g 0x05 p → inCoefs s g hi k → stepsTo (.stepLdc g) g s (X (cf 0)))
    ∧ (engineRuns s g 0x06 p → stepsTo (.stepOut g) g s { p with pc := p.pc + 1, outs := p.outs.set (k % 4) a })
    ∧ (engineRuns s g 0x07 p → stepsTo (.stepLdf g) g s (X (match bits hi 3 0 with
        | 0 => p.status.toInt
        | 1 => roundAway (loopT s g * 65536 : Nat) 1000000
        | 2 => p.man
        | _ => (loopOf s g).outs.getD 0 0)))

/-- R212 with the flags of Table 08-12: each result is the exact one, narrowed once; nothing but the loop's period changes. -/
def Obligations.StepsOfArithmetic : Prop :=
  ∀ (g : Nat) (s : State) (p : LoopPer), g < 256 →
    let hi := stepHi s g p.pc
    let lo := stepLo s g p.pc
    let a := p.xs.getD (bits hi 19 16) 0
    let b := p.xs.getD (bits hi 15 12) 0
    let c := p.xs.getD (bits hi 11 8) 0
    let k := bits lo 12 0
    let sat : Int → Int := fun v => max (-2147483648) (min 2147483647 v)
    let cf : Nat → Int := fun j => cfC s g (bit hi 7) (k + j)
    let sh := cfS s g (bit hi 7) k
    let cmul : Int → Int := fun v => if sh = 0 then v * cf 0 else (v * cf 0 + 2 ^ (sh - 1)) / 2 ^ sh
    let X : Int → LoopPer := fun v => { p with pc := p.pc + 1, xs := p.xs.set (bits hi 23 20) v }
    let F : LoopPer → Nat → Bool → LoopPer := fun q m on => { q with flags := if on then q.flags ||| m else q.flags }
    let test : Int → Int → Bool := fun u v =>
      match bits hi 6 4 with
      | 0 => decide (u = v)
      | 1 => decide (u ≠ v)
      | 2 => decide (u < v)
      | 3 => decide (u ≤ v)
      | 4 => decide (v < u)
      | 5 => decide (v ≤ u)
      | _ => false
    let S : Int → Nat → LoopPer := fun v m => F (X (sat v)) m (decide (sat v ≠ v))
    (engineRuns s g 0x08 p → stepsTo (.stepAdd g) g s (S (a + b) 1))
    ∧ (engineRuns s g 0x09 p → stepsTo (.stepSub g) g s (S (a - b) 1))
    ∧ (engineRuns s g 0x0A p → inCoefs s g hi k → stepsTo (.stepMulc g) g s (S (cmul a) 2))
    ∧ (engineRuns s g 0x0B p → stepsTo (.stepMul g) g s (S ((a * b + 32768) / 65536) 2))
    ∧ (engineRuns s g 0x0C p → b = 0 → stepsTo (.stepDiv g) g s (F (X (if 0 ≤ a then 2147483647 else -2147483648)) 4 true))
    ∧ (engineRuns s g 0x0C p → b ≠ 0 → ∃ v : Int, (2 * (v * b - a * 65536)).natAbs ≤ b.natAbs
        ∧ ((2 * (v * b - a * 65536)).natAbs = b.natAbs → (a * 65536).natAbs < (v * b).natAbs)
        ∧ stepsTo (.stepDiv g) g s (S v 2))
    ∧ (engineRuns s g 0x0D p → stepsTo (.stepAbs g) g s (S (if a < 0 then -a else a) 1))
    ∧ (engineRuns s g 0x14 p → stepsTo (.stepNeg g) g s (S (-a) 1))
    ∧ (engineRuns s g 0x0E p → stepsTo (.stepMin g) g s (X (if a ≤ b then a else b)))
    ∧ (engineRuns s g 0x0F p → stepsTo (.stepMax g) g s (X (if a ≤ b then b else a)))
    ∧ (engineRuns s g 0x10 p → stepsTo (.stepClamp g) g s (F (X (min (max a b) c)) 8 (decide (min (max a b) c ≠ a))))
    ∧ (engineRuns s g 0x11 p → stepsTo (.stepSel g) g s (X (if test c 0 then a else b)))
    ∧ (engineRuns s g 0x12 p → stepsTo (.stepCmp g) g s (X (if test a b then 65536 else 0)))

/-- R212, R239, R248, R252, R260 with the flags of Table 08-12: the steps with state words and the repetitive memory; nothing but the loop's period changes. -/
def Obligations.StepsWithStateWords : Prop :=
  ∀ (g : Nat) (s : State) (p : LoopPer), g < 256 →
    let hi := stepHi s g p.pc
    let lo := stepLo s g p.pc
    let a := p.xs.getD (bits hi 19 16) 0
    let b := p.xs.getD (bits hi 15 12) 0
    let c := p.xs.getD (bits hi 11 8) 0
    let k := bits lo 12 0
    let zi := bits lo 19 16
    let z := rdI s (Reg.LP_LOOP_Z g zi)
    let sat : Int → Int := fun v => max (-2147483648) (min 2147483647 v)
    let cf : Nat → Int := fun j => cfC s g (bit hi 7) (k + j)
    let sh := cfS s g (bit hi 7) k
    let cmul : Int → Int := fun v => if sh = 0 then v * cf 0 else (v * cf 0 + 2 ^ (sh - 1)) / 2 ^ sh
    let X : Int → LoopPer := fun v => { p with pc := p.pc + 1, xs := p.xs.set (bits hi 23 20) v }
    let Z : Int → Int → LoopPer := fun v w => { X v with zs := p.zs.filter (fun x => decide (x.1 ≠ zi)) ++ [(zi, w)] }
    let F : LoopPer → Nat → Bool → LoopPer := fun q m on => { q with flags := if on then q.flags ||| m else q.flags }
    let hold := loopState s g = 3
    let stop := hold ∨ ((bits hi 1 0 = 1 ∨ loop5200 s g = true) ∧ bit p.status 25 = true)
    let B : LoopPer → Int → LoopPer := fun q v =>
      { q with bal := if bits hi 3 2 = 1 then some { zi := zi, acc := v, lo := b, hi := c } else p.bal }
    let sum := z + sat (cmul a)
    let acc := min (max (sat sum) b) c
    (engineRuns s g 0x18 p → inCoefs s g hi k → stop → stepsTo (.stepInteg g) g s (B (Z z z) z))
    ∧ (engineRuns s g 0x18 p → inCoefs s g hi k → ¬ stop → stepsTo (.stepInteg g) g s
        (F (F (F (B (Z acc acc) acc) 2 (decide (sat (cmul a) ≠ cmul a))) 1 (decide (sat sum ≠ sum))) 16 (decide (acc ≠ sat sum))))
    ∧ (engineRuns s g 0x19 p → inCoefs s g hi k →
        let m := cmul (sat (a - z))
        let y := z + sat m
        stepsTo (.stepLag g) g s
          (F (F (Z (sat y) (sat y)) 2 (decide (sat m ≠ m))) 1 (decide (sat (a - z) ≠ a - z) || decide (sat y ≠ y))))
    ∧ (engineRuns s g 0x1A p →
        let r := if b < 0 then -b else b
        let y := z + max (-(sat r)) (min (sat r) (sat (a - z)))
        stepsTo (.stepRate g) g s
          (F (Z (sat y) (sat y)) 1 (decide (sat r ≠ r) || decide (sat (a - z) ≠ a - z) || decide (sat y ≠ y))))
    ∧ (engineRuns s g 0x1B p → stepsTo (.stepDiff g) g s (F (Z (sat (a - z)) a) 1 (decide (sat (a - z) ≠ a - z))))
    ∧ (engineRuns s g 0x1F p → (bits hi 0 0 = 1 → inCoefs s g hi k) →
        let t := if a = 0 then 0 else if hold then z else sat (z + loopTper s g)
        stepsTo (.stepTimer g) g s { Z t t with
          timers := if bits hi 0 0 = 1 then p.timers ++ [{ step := p.pc, zi := zi, k := k, rgn := bit hi 7 }] else p.timers })
    ∧ ∀ (per i : Nat), per = bits lo 31 20 + 1 → (i : Int) = z % (per : Int) → engineRuns s g 0x1E p → bits lo 13 0 + i < lrnLen s g →
        let at' := bits lo 13 0 + i
        let m := rdI s (lrnAddr s g at')
        let q1 := (c * m + 32768) / 65536
        let q2 := (b * a + 32768) / 65536
        let y := sat q1 + sat q2
        let next : Int := (((i + 1) % per : Nat) : Int)
        (hold → stepsTo (.stepRep g) g s (Z m next))
        ∧ (¬ hold → stepsTo (.stepRep g) g s
            (F (F { Z m next with
                lrn := p.lrn.filter (fun x => decide (x.1 ≠ at')) ++ [(at', sat y)]
                lrnSat := p.lrnSat.filter (fun x => decide (x ≠ at')) ++ if sat y ≠ y then [at'] else [] } 1 (decide (sat y ≠ y)))
              2 (decide (sat q1 ≠ q1) || decide (sat q2 ≠ q2))))

/-- R212, R244, R246, R250: PWL, HYST and REGION; nothing but the loop's period changes. -/
def Obligations.StepsOfTablesAndSwitches : Prop :=
  ∀ (g : Nat) (s : State) (p : LoopPer), g < 256 →
    let hi := stepHi s g p.pc
    let lo := stepLo s g p.pc
    let a := p.xs.getD (bits hi 19 16) 0
    let b := p.xs.getD (bits hi 15 12) 0
    let c := p.xs.getD (bits hi 11 8) 0
    let k := bits lo 12 0
    let zi := bits lo 19 16
    let sat : Int → Int := fun v => max (-2147483648) (min 2147483647 v)
    let cf : Nat → Int := fun j => cfC s g (bit hi 7) (k + j)
    let X : Int → LoopPer := fun v => { p with pc := p.pc + 1, xs := p.xs.set (bits hi 23 20) v }
    let Z : Int → Int → LoopPer := fun v w => { X v with zs := p.zs.filter (fun x => decide (x.1 ≠ zi)) ++ [(zi, w)] }
    let F : LoopPer → Nat → Bool → LoopPer := fun q m on => { q with flags := if on then q.flags ||| m else q.flags }
    let n := bits hi 3 0 + 2
    let x : Nat → Int := fun i => cf (2 * i)
    let y : Nat → Int := fun i => cf (2 * i + 1)
    (engineRuns s g 0x13 p → inCoefs s g hi (k + 2 * n - 1) →
      (a ≤ x 0 → stepsTo (.stepPwl g) g s (X (y 0)))
      ∧ (x 0 < a → x (n - 1) ≤ a → stepsTo (.stepPwl g) g s (X (y (n - 1))))
      ∧ ∀ i, i < n → x 0 < a → a < x (n - 1) → x i ≤ a → (∀ j, i < j → j < n → a < x j) →
          (x (i + 1) ≤ x i → stepsTo (.stepPwl g) g s (X (y i)))
          ∧ (x i < x (i + 1) →
            let q := rdivRaw ((y (i + 1) - y i) * (a - x i)) (x (i + 1) - x i)
            let v := y i + sat q
            stepsTo (.stepPwl g) g s (F (F (X (sat v)) 1 (decide (sat v ≠ v))) 2 (decide (sat q ≠ q)))))
    ∧ (engineRuns s g 0x1C p →
        let nl := bits hi 1 0 + 1
        inCoefs s g hi (k + 3 + nl) →
        let w := rd s (Reg.LP_LOOP_Z g zi)
        let lv := min (bits w 1 0) (nl - 1)
        let m := bits w 31 16
        let e := sat (a - c)
        let up := b < e ∧ lv < nl - 1
        let dn := e < -b ∧ 0 < lv
        let T : LoopPer → LoopPer := fun q =>
          { q with tracks := if bits hi 2 2 = 1 then p.tracks ++ [{ zi := zi, k := k, nl := nl, rgn := bit hi 7 }] else p.tracks }
        let lvl : Nat → Nat → LoopPer := fun l m => T (Z (cf l) (w32 (m * 65536 + l)).toInt)
        (up → cf (4 + lv) ≤ (m : Int) → stepsTo (.stepHyst g) g s (lvl (lv + 1) 0))
        ∧ (¬ up → dn → cf (4 + lv) ≤ (m : Int) → stepsTo (.stepHyst g) g s (lvl (lv - 1) 0))
        ∧ (¬ ((up ∨ dn) ∧ cf (4 + lv) ≤ (m : Int)) → stepsTo (.stepHyst g) g s (lvl lv (min (m + 1) 65535))))
    ∧ (engineRuns s g 0x1D p → bit hi 7 = false → (2 ≤ loopNreg s g → inCoefs s g hi (k + loopNreg s g - 2)) →
        let h := sat (if b < 0 then -b else b)
        let r := ((List.range (loopNreg s g - 1)).filter fun i =>
          decide (sat (cf i + if loopRegion s g ≤ i then h else -h) ≤ a)).length
        stepsTo (.stepRegion g) g s { X ((r : Int) * 65536) with region := some (r, a) })

/-- R226 and R230: the program fault; R216: the order of the engine. -/
def Obligations.ProgramFaultsHaltAndTheEngineKeepsItsOrder : Prop :=
  ∀ (g : Nat) (s : State) (p : LoopPer), g < 256 →
    let d := 1 + g / 64
    let halted : Instr → Nat → Prop := fun i a =>
      ∃ t, exec i s = .next t ∧ loopState t g = 4 ∧ rdB t (Reg.LP_LOOP_FLAGS g) 8 = true ∧ rd t (Reg.LP_LOOP_FAULT_ADDR g) = w32 a
        ∧ (if g % 64 < 32 then rdB t (Reg.LP_ENG_HALT_LO d) (g % 64) else rdB t (Reg.LP_ENG_HALT_HI d) (g % 64 - 32)) = true
        ∧ (loopOf t g).per = none ∧ raisedEvent 0x0402 d (w32 (g % 64 + p.pc * 256)) (w32 a) t
        ∧ t = { s with regs := t.regs, hwset := t.hwset, log := t.log, loops := t.loops, eng := t.eng } ∧ (∀ h, h ≠ g → loopOf t h = loopOf s h)
        ∧ wordsKept [(Reg.LP_LOOP_STAT g, Reg.LP_LOOP_STAT g + 4), (Reg.LP_LOOP_FLAGS g, Reg.LP_LOOP_FLAGS g + 4),
            (Reg.LP_LOOP_FAULT_ADDR g, Reg.LP_LOOP_FAULT_ADDR g + 4), (Reg.LP_ENG_STAT d, Reg.LP_ENG_STAT d + 4),
            (Reg.LP_ENG_HALT_LO d, Reg.LP_ENG_HALT_LO d + 8)] s t
    (engineRuns s g 0x0A p → ¬ inCoefs s g (stepHi s g p.pc) (bits (stepLo s g p.pc) 12 0) →
      halted (.stepMulc g) (coefAddr g (cfIndex s g (bit (stepHi s g p.pc) 7) (bits (stepLo s g p.pc) 12 0))))
    ∧ (engineRuns s g 0x05 p → ¬ inCoefs s g (stepHi s g p.pc) (bits (stepLo s g p.pc) 12 0) →
      halted (.stepLdc g) (coefAddr g (cfIndex s g (bit (stepHi s g p.pc) 7) (bits (stepLo s g p.pc) 12 0))))
    ∧ (∀ i : Nat, engineRuns s g 0x1E p →
        (i : Int) = rdI s (Reg.LP_LOOP_Z g (bits (stepLo s g p.pc) 19 16)) % (bits (stepLo s g p.pc) 31 20 + 1 : Nat) →
        lrnLen s g ≤ bits (stepLo s g p.pc) 13 0 + i → halted (.stepRep g) (lrnAddr s g (bits (stepLo s g p.pc) 13 0 + i)))
    ∧ ((loopOf s g).per = some p → reached s.clk.tb1 p.commit = true → exec (.stepAdd g) s = .next s ∧ exec (.stepInteg g) s = .next s)
    ∧ ∀ h x q, (h, x) ∈ s.loops → x.per = some q → q.done = false → h ≠ g → h / 64 = g / 64 → laterN 64 p.commit.toNat q.commit.toNat = true →
        (loopOf s g).per = some p → exec (.stepAdd g) s = .next s ∧ exec (.stepInteg g) s = .next s

/-- R225, R234 and R236 at a latch, and its frame: LP_LOOP_STAT, COEF_PEND and the engine's own bookkeeping are all that changes. -/
def Obligations.LoopLatchTakesInputs : Prop :=
  ∀ (g : Nat) (s : State), g < 256 → loopDue s g = true →
    let d := 1 + g / 64
    ∃ t p, exec (.loopLatch g) s = .next t ∧ (loopOf t g).per = some p
      ∧ p.latch.toNat = s.clk.tb1.toNat / 100 * 100 ∧ p.commit = p.latch + BitVec.ofNat 64 (rdN s (Reg.LP_LOOP_PHASE g) * 100)
      ∧ p.xs = List.replicate 16 0 ∧ p.pc = 0 ∧ p.zs = [] ∧ p.lrn = [] ∧ p.lrnSat = [] ∧ p.region = none ∧ p.flags = 0 ∧ p.done = false
      ∧ p.outs = (loopOf s g).outs ∧ p.man = rdI s (Reg.LP_LOOP_MANVAL g)
      ∧ (∀ i, i < 8 → p.ins.getD i 0 =
          if rdB s (Reg.LP_LOOP_IN g i) 31 then rdI s (sigAddr d (rdF s (Reg.LP_LOOP_IN g i) 10 0)) else 0)
      ∧ (∀ i, i < 8 → (rdB t (Reg.LP_LOOP_STAT g) (8 + i) = true ↔ (loopOf s g).started = true ∧ rdB s (Reg.LP_LOOP_IN g i) 31 = true
          ∧ rdF s (sigAddr d (rdF s (Reg.LP_LOOP_IN g i) 10 0) + 4) 15 0 ≠ (loopOf s g).upds.getD i 0))
      ∧ (loopOf t g).started = true ∧ (loopOf t g).endAt = p.latch + BitVec.ofNat 64 (rdN s (Reg.LP_LOOP_PERIOD g) * 100)
      ∧ ((loopOf s g).started = false → (loopOf s g).req = none →
          loopState t g = if rdB s (Reg.LP_LOOP_CFG g) 28 then 2 else 1)
      ∧ t = { s with regs := t.regs, hwset := t.hwset, log := t.log, loops := t.loops, eng := t.eng } ∧ (∀ h, h ≠ g → loopOf t h = loopOf s h)
      ∧ wordsKept [(Reg.LP_LOOP_STAT g, Reg.LP_LOOP_STAT g + 4), (Reg.LP_ENG_STAT d, Reg.LP_ENG_STAT d + 4)] s t

/-- R235 to R237 and R258 with Table 09-1, for a loop whose freeze monitor is off. -/
def Obligations.LoopModesFollowTheTable : Prop :=
  ∀ (g : Nat) (s : State), g < 256 →
    let st := loopState s g
    let l := g % 64
    let d := 1 + g / 64
    (∀ p : PortId, mayWrite p (Reg.LP_LOOP_MODE_REQ g) s →
      let who := match p with | .host => 1 | .service => 2 | .net _ => 3 | .runtime => 4
      ∀ (i : Instr) (act : Nat), (i = .modeReqManual p g ∧ act = 1) ∨ (i = .modeReqAuto p g ∧ act = 2) ∨ (i = .modeReqRearm p g ∧ act = 4) →
        (rdB s (Reg.LP_LOOP_CFG g) 31 = true → st ≤ 3 → (∀ y ∈ (engOf s d).snaps, y.at0 ≠ s.clk.tb0) →
          ∃ t, exec i s = .next t ∧ t = { s with loops := t.loops, port := t.port, sig := t.sig }
            ∧ loopOf t g = { loopOf s g with req := some (act, who) } ∧ ∀ h, h ≠ g → loopOf t h = loopOf s h)
        ∧ (rdB s (Reg.LP_LOOP_CFG g) 31 = false ∨ 4 ≤ st → (∀ y ∈ (engOf s d).snaps, y.at0 ≠ s.clk.tb0) →
          ∃ t, exec i s = .next t ∧ t = { s with log := t.log, port := t.port, sig := t.sig }
            ∧ raisedEvent 0x0407 d (w32 (l + who * 0x10000 + act * 0x100000)) 4 t)
        ∧ ∀ y q, (engOf s d).snaps = [y] → y.g = g → y.at0 = s.clk.tb0 → (loopOf s g).per = some q → q.pc = 0 → q.done = false →
          rdB s (Reg.LP_LOOP_CFG g) 31 = true → 1 ≤ st → st ≤ 3 → y.st.started = true → 1 ≤ bits y.stat 3 0 → bits y.stat 3 0 ≤ 3 → act = 1 →
          ∃ t, exec i s = .next t ∧ loopState t g = 1 ∧ (loopOf t g).req = none)
    ∧ (loopDue s g = true → (loopOf s g).started = true → rdB s (Reg.LP_LOOP_FRZ g) 31 = false → 1 ≤ st →
      let stale := ∃ i, i < 8 ∧ rdB s (Reg.LP_LOOP_IN g i) 31 = true ∧ rdF s (Reg.LP_LOOP_IN g i) 23 16 ≠ 0
        ∧ rdF s (sigAddr d (rdF s (Reg.LP_LOOP_IN g i) 10 0) + 4) 15 0 = (loopOf s g).upds.getD i 0
        ∧ rdF s (Reg.LP_LOOP_IN g i) 23 16 ≤ min ((loopOf s g).stale.getD i 0 + 1) 255
      let goes : Nat → Prop := fun n => ∃ t, exec (.loopLatch g) s = .next t ∧ loopState t g = n ∧ (loopOf t g).req = none
      let refused : Nat → Nat → Nat → Nat → Prop := fun stays act who why => ∃ t, exec (.loopLatch g) s = .next t ∧ loopState t g = stays
        ∧ (loopOf t g).req = none ∧ raisedEvent 0x0407 d (w32 (l + who * 0x10000 + act * 0x100000)) (w32 why) t
      ((loopOf s g).req = none → (st = 2 → ¬ stale → goes 2) ∧ (st ≠ 2 → goes st)
        ∧ (st = 2 → stale → ∃ t i, exec (.loopLatch g) s = .next t ∧ loopState t g = 3 ∧ rdF t (Reg.LP_LOOP_STAT g) 20 19 = 1 ∧ i < 8
            ∧ raisedEvent 0x0408 d (w32 (l + i * 256 + 4096))
                (i32 (if rdB s (Reg.LP_LOOP_IN g i) 31 then rdI s (sigAddr d (rdF s (Reg.LP_LOOP_IN g i) 10 0)) else 0)) t))
      ∧ ∀ who, ((loopOf s g).req = some (1, who) → goes 1)
        ∧ ((loopOf s g).req = some (2, who) → (st = 1 → ¬ stale → goes 2) ∧ (st = 2 → ¬ stale → goes 2)
            ∧ (st = 1 → stale → refused 1 2 who 1) ∧ (st = 3 → refused 3 2 who 2))
        ∧ ((loopOf s g).req = some (4, who) → (st = 3 → ¬ stale → goes 2) ∧ (st = 3 → stale → refused 3 4 who 1)
            ∧ (st = 1 → refused 1 4 who 3) ∧ (st = 2 → ¬ stale → refused 2 4 who 3)))

/-- R213, R214, R234, R238, R240, R241 and R250 at a commit, with its frame: the loop's registers and learning words, the signal table of its die, what is sent to other dies and drive channels, and what a publication puts in the CAN controllers. -/
def Obligations.LoopCommitTakesEffectTogether : Prop :=
  ∀ (g extra : Nat) (s : State) (p : LoopPer), g < 256 → (loopOf s g).per = some p → p.done = true → reached s.clk.tb1 p.commit = true →
    quiet (1 + g / 64) s → p.outs.length = 4 → (∀ x ∈ p.zs, x.1 < 16) → (p.zs.map fun x => x.1).Nodup → p.lrn = [] → p.tracks = [] → p.timers = [] →
    (∀ b, p.bal = some b → b.zi < 16) →
    let d := 1 + g / 64
    let st := loopState s g
    let prev := (loopOf s g).outs.getD 0 0
    let safe := rdI s (Reg.LP_LOOP_SAFE_VAL g)
    let lim : Int → Int := fun v => max (rdI s (Reg.LP_LOOP_LIM_LO g)) (min (rdI s (Reg.LP_LOOP_LIM_HI g)) v)
    let swap := rdB s (Reg.LP_LOOP_CFG g) 30 = false ∧ ∃ r, (loopOf s g).lastRegion = some r ∧ r ≠ rdF s (Reg.LP_LOOP_STAT g) 26 24
    let entry := (loopOf s g).entered = true ∧ (loopOf s g).lastRegion ≠ none
    let commits : Int → Int → Prop := fun v judged => ∃ t, exec (.loopCommit g extra) s = .next t ∧ (loopOf t g).per = none
      ∧ (loopOf t g).outs.getD 0 0 = lim v ∧ (loopOf t g).lim = decide (lim v ≠ judged)
      ∧ (lim v ≠ judged → rdB t (Reg.LP_LOOP_FLAGS g) 5 = true)
      ∧ rd t (Reg.LP_LOOP_MANVAL g) = (if st = 1 then rd s (Reg.LP_LOOP_MANVAL g) else i32 (lim v))
      ∧ (∀ r a, p.region = some (r, a) → r < 8 → rdF t (Reg.LP_LOOP_STAT g) 26 24 = r
          ∧ (r ≠ rdF s (Reg.LP_LOOP_STAT g) 26 24 →
              raisedEvent 0x0409 d (w32 (g % 64 + r * 256 + rdF s (Reg.LP_LOOP_STAT g) 26 24 * 4096)) (i32 a) t))
      ∧ (∀ h, h ≠ g → loopOf t h = loopOf s h) ∧ t.nor = s.nor ∧ loopState t g = st
      ∧ wordsKept [(Reg.LP_LOOP_CFG g, Reg.LP_LOOP_CFG g + 0x100), (dieAt d 0xB00000, dieAt d 0xB08000), (0x07000000, 0x08000000)] s t
    let plain : Prop := ∀ t, exec (.loopCommit g extra) s = .next t → ∀ x ∈ p.zs, rd t (Reg.LP_LOOP_Z g x.1) = i32 x.2
    let balanced : Int → Prop := fun tgt => ∀ t b, exec (.loopCommit g extra) s = .next t → p.bal = some b →
      rd t (Reg.LP_LOOP_Z g b.zi) =
        i32 (min (max (max (-2147483648) (min 2147483647 (b.acc + tgt - p.outs.getD 0 0))) b.lo) b.hi)
    (st = 1 → commits (lim p.man) p.man ∧ balanced (lim p.man))
    ∧ (st = 3 → rdB s (Reg.LP_LOOP_CFG g) 29 = false → commits prev prev ∧ plain)
    ∧ (st = 3 → rdB s (Reg.LP_LOOP_CFG g) 29 = true → commits safe safe ∧ plain)
    ∧ (st = 2 → devState s = 4 → commits (lim safe) safe ∧ balanced (lim safe))
    ∧ (st = 2 → devState s ≠ 4 → (entry ∨ swap) → commits prev prev ∧ balanced prev)
    ∧ (st = 2 → devState s ≠ 4 → ¬ entry → ¬ swap → commits (p.outs.getD 0 0) (p.outs.getD 0 0) ∧ plain)

/-- R218 and R219, with their frames. -/
def Obligations.CompletionAndOverrun : Prop :=
  ∀ (g extra : Nat) (s : State) (p : LoopPer), g < 256 → (loopOf s g).per = some p → p.done = false →
    let d := 1 + g / 64
    (p.pc = progLen s g → engPick s g p = true → reached s.clk.tb1 p.commit = false →
      ∃ t v, exec (.loopPeriodComplete g) s = .next t ∧ loopOf t g = { loopOf s g with per := some { p with done := true } }
        ∧ v = min 0xFFFFFFFF (tb1To0 s (p.commit - s.clk.tb1).toNat) ∧ rdN t (Reg.LP_LOOP_SLACK g) = v
        ∧ rdN t (Reg.LP_LOOP_MIN_SLACK g) = min v (rdN s (Reg.LP_LOOP_MIN_SLACK g))
        ∧ rdN t (Reg.LP_ENG_MIN_SLACK d) = min v (rdN s (Reg.LP_ENG_MIN_SLACK d))
        ∧ t = { s with regs := t.regs, hwset := t.hwset, loops := t.loops } ∧ (∀ h, h ≠ g → loopOf t h = loopOf s h)
        ∧ wordsKept [(Reg.LP_LOOP_SLACK g, Reg.LP_LOOP_SLACK g + 8), (Reg.LP_ENG_MIN_SLACK d, Reg.LP_ENG_MIN_SLACK d + 4)] s t)
    ∧ (reached s.clk.tb1 p.commit = true → quiet d s →
      ∃ t n, exec (.loopCommit g extra) s = .next t ∧ loopOf t g = { loopOf s g with per := none }
        ∧ rdB t (Reg.LP_LOOP_FLAGS g) 7 = true ∧ rdN t (Reg.LP_LOOP_SLACK g) = 0 ∧ rdN t (Reg.LP_LOOP_MIN_SLACK g) = 0
        ∧ rdF t (Reg.LP_LOOP_OVR_CNT g) 15 0 = min 65535 (rdF s (Reg.LP_LOOP_OVR_CNT g) 15 0 + 1)
        ∧ rdF t (Reg.LP_ENG_OVR_CNT d) 15 0 = min 65535 (rdF s (Reg.LP_ENG_OVR_CNT d) 15 0 + 1)
        ∧ (if g % 64 < 32 then rdB t (Reg.LP_ENG_OVR_LO d) (g % 64) else rdB t (Reg.LP_ENG_OVR_HI d) (g % 64 - 32)) = true
        ∧ raisedEvent 0x0401 d (w32 (g % 64)) n t
        ∧ t = { s with regs := t.regs, hwset := t.hwset, log := t.log, loops := t.loops } ∧ (∀ h, h ≠ g → loopOf t h = loopOf s h)
        ∧ wordsKept [(Reg.LP_LOOP_FLAGS g, Reg.LP_LOOP_FLAGS g + 16), (Reg.LP_ENG_MIN_SLACK d, Reg.LP_ENG_OVR_HI d + 4)] s t)

/-- R231, R232 (staged and live coefficients), R221 and R213 (words latched for a port). -/
def Obligations.CoefficientsAndLatchedReads : Prop :=
  ∀ (p : PortId) (s : State),
    (∀ (a : Nat) (w : Word), isCoef a = true → mayWrite p a s →
      ∃ t, exec (.coefWrite p a w) s = .next t ∧ rd t a = (if a / 4 % 2 = 1 then w &&& 0x1F else w)
        ∧ t = { s with mem := t.mem, port := t.port } ∧ wordsKept [(wordBase a, wordBase a + 4)] s t)
    ∧ (∀ i, i < 4 → mayWrite p (Reg.LP_ENG_CTRL (i + 1)) s → (∀ y ∈ (engOf s (i + 1)).snaps, y.at0 ≠ s.clk.tb0) →
      ∃ t n, exec (.coefApply p i) s = .next t
        ∧ (engOf t (i + 1)).applied = s.mem.filter (fun c => decide (dieAt (i + 1) 0x900000 ≤ c.1 ∧ c.1 < dieAt (i + 1) 0x910000))
        ∧ (∀ l, l < 64 → (l ∈ (engOf t (i + 1)).wait ↔
            rdB s (Reg.LP_LOOP_CFG (i * 64 + l)) 31 = true ∧ rdF s (Reg.LP_LOOP_STAT (i * 64 + l)) 3 0 ≤ 3))
        ∧ rdB t (Reg.LP_ENG_STAT (i + 1)) 8 = decide ((engOf t (i + 1)).wait ≠ [])
        ∧ raisedEvent 0x0405 (i + 1) n (w32 (portCode p)) t
        ∧ t = { s with regs := t.regs, hwset := t.hwset, log := t.log, eng := t.eng, port := t.port }
        ∧ wordsKept [(Reg.LP_ENG_STAT (i + 1), Reg.LP_ENG_STAT (i + 1) + 4)] s t)
    ∧ (∀ g, g < 256 → loopDue s g = true  →
        g % 64 ∈ (engOf s (1 + g / 64)).wait →
      ∃ t, exec (.loopLatch g) s = .next t ∧ (loopOf t g).coef = (engOf s (1 + g / 64)).applied
        ∧ g % 64 ∉ (engOf t (1 + g / 64)).wait
        ∧ ((∀ l ∈ (engOf s (1 + g / 64)).wait, l = g % 64) → rdB t (Reg.LP_ENG_STAT (1 + g / 64)) 8 = false))
    ∧ (∀ d e, d < 5 → e < sigCount d → portsUp s = true → (p = .runtime ∨ devState s ≠ 1) →
      ∃ t, exec (.signalEntryRead p d e) s = .next t ∧ viewWord p t (sigAddr d e + 4) = rd s (sigAddr d e + 4)
        ∧ viewWord p t (sigAddr d e + 8) = rd s (sigAddr d e + 8)
        ∧ t = { s with port := { s.port with latches := t.port.latches } })
    ∧ ∀ g, g < 256 → portsUp s = true → (p = .runtime ∨ devState s ≠ 1) →
      ∃ t, exec (.loopZRead p g) s = .next t
        ∧ (∀ k, 1 ≤ k → k < 16 → viewWord p t (Reg.LP_LOOP_Z g k) = rd s (Reg.LP_LOOP_Z g k))
        ∧ t = { s with port := { s.port with latches := t.port.latches } }

/-- R31, R32, R35, R222 and R223: exports, system signals and lateness, and the latch that comes after a write of its tick. -/
def Obligations.ValuesCrossBetweenDies : Prop :=
  ∀ (d e : Nat) (s : State), d < 5 → e < sigCount d →
    let a := sigAddr d e
    (∀ x, (s.sig.exports.find? fun y => decide (y.die = d ∧ y.entry = e) && reached s.clk.tb1 y.at1) = some x →
      (∀ y q i, (engOf s d).snaps = [y] → loopDie y.g = d → y.at0 = s.clk.tb0 → (loopOf s y.g).per = some q → q.pc = 0 → q.done = false →
        i < 8 → rdB s (Reg.LP_LOOP_IN y.g i) 31 = true → rdF s (Reg.LP_LOOP_IN y.g i) 10 0 = e → 1 ≤ d →
        ∃ t q', exec (.exportApply d e none) s = .next t ∧ (loopOf t y.g).per = some q' ∧ q'.ins.getD i 0 = x.value.toInt)
      ∧ (quiet d s → ∃ t, exec (.exportApply d e none) s = .next t ∧ rd t a = x.value ∧ rd t (a + 8) = x.instant ∧ rdB t (a + 4) 16 = true
        ∧ rdF t (a + 4) 15 0 = (rdF s (a + 4) 15 0 + 1) % 65536 ∧ t.sig = { s.sig with exports := s.sig.exports.erase x }
        ∧ t = { s with mem := t.mem, sig := t.sig, regs := t.regs, hwset := t.hwset } ∧ wordsKept [(a, a + 12)] s t)
      ∧ ∀ n, quiet d s → ∃ t, exec (.exportApply d e (some n)) s = .next t ∧ t.sig = { s.sig with exports := s.sig.exports.erase x }
        ∧ raisedEvent 0x0008 d (w32 (d * 0x1000000 + e)) (w32 (min n 0xFFFFFFFF)) t ∧ t = { s with sig := t.sig, log := t.log })
    ∧ (onGrid s 10000 0 = true → 1 ≤ d → sigKind s d e = 4 → sigSrcDie s d e = 0 → sigSrc s d e < 512 →
        (∀ y ∈ s.sig.sys, y.at1 ≠ tb3Tick s + 1000000) →
      ∃ t, exec .syssigSample s = .next t ∧ t = { s with sig := t.sig }
        ∧ ∃ y ∈ t.sig.sys, y.die = d ∧ y.entry = e ∧ y.at1 = tb3Tick s + 1000000 ∧ y.value = rd s (sigAddr 0 (sigSrc s d e))
          ∧ y.instant = rd s (sigAddr 0 (sigSrc s d e) + 8)
          ∧ (y.fresh = true ↔ rdF s (sigAddr 0 (sigSrc s d e) + 4) 15 0 ≠ tget (fun _ => 0) s.sig.upd (sigSrc s d e)))
    ∧ ∀ x, quiet d s → (s.sig.sys.find? fun y => decide (y.die = d ∧ y.entry = e) && reached s.clk.tb1 y.at1) = some x →
      (∃ t, exec (.syssigImportApply d e none) s = .next t ∧ rd t a = x.value ∧ rd t (a + 8) = x.instant
        ∧ rdB t (a + 4) 16 = x.valid ∧ rdF t (a + 4) 15 0 = (rdF s (a + 4) 15 0 + if x.fresh then 1 else 0) % 65536
        ∧ t = { s with mem := t.mem, sig := t.sig, regs := t.regs, hwset := t.hwset } ∧ wordsKept [(a, a + 12)] s t)
      ∧ ∀ n, ∃ t, exec (.syssigImportApply d e (some n)) s = .next t
        ∧ raisedEvent 0x0008 d (w32 (d * 0x1000000 + e)) (w32 (min n 0xFFFFFFFF)) t ∧ t = { s with sig := t.sig, log := t.log }

/-- R265 and R267 to R269 at an evaluation of one transition with one term; R275 at the first evaluation after a resume; R276 in SAFE. -/
def Obligations.SequencesEvaluateTheirTerms : Prop :=
  ∀ (n slack : Nat) (s : State), n < 8 → slack < 2 ^ 32 → s.boot.loaded = true → seqEn s n = true → atEval s n = true → seqSec s n < 0x7FFFFFFF →
    let v := seqOf s n
    let i := seqRec s n (seqNow s n)
    let live := devState s = 2 ∨ devState s = 3
    let frame : State → Prop := fun t => t = { s with regs := t.regs, hwset := t.hwset, log := t.log, seq := t.seq, sig := t.sig } ∧ (∀ m, m ≠ n → seqOf t m = seqOf s m)
    (live → seqR s n = 1 →
      (∀ k, transOf s i = [k] → termsOf s k = [] →
        ∃ t, exec (.seqEvaluate n slack) s = .next t ∧ (seqOf t n).pick = some { kind := 0, target := targetOf s k, port := 0, us := 0 }
          ∧ (seqOf t n).at1 = some s.clk.tb1 ∧ rdN t Reg.SV_SEQ_SLACK = slack
          ∧ rdN t Reg.SV_SEQ_MIN_SLACK = min (rdN s Reg.SV_SEQ_MIN_SLACK) slack ∧ frame t
          ∧ wordsKept [(Reg.SV_SEQ_SLACK, Reg.SV_SEQ_SLACK + 8)] s t)
      ∧ (∀ k m, transOf s i = [k] → termsOf s k = [m] → bits (seqTerm s m 3) 15 0 = 0 →
        let w := seqTerm s m 0
        let lost := (bits w 31 28 = 0 ∧ sigValid s 0 (bits w 8 0) = false) ∨ (bit w 23 = true ∧ sigValid s 0 (bits w 20 12) = false)
        let b := if bit w 23 then sat32 (sigVal s 0 (bits w 20 12) + (seqTerm s m 1).toInt) else (seqTerm s m 1).toInt
        let raw := (lost ∧ bit (seqTerm s m 3) 16 = true) ∨ (¬ lost ∧ testCnd (termA s n w) (bits w 26 24) b = true)
        let c := tget (fun _ => 0) v.counts 0
        let hold := ((seqTerm s m 2).toNat + max 1 (seqTick s n) - 1) / max 1 (seqTick s n)
        ∃ t, exec (.seqEvaluate n slack) s = .next t ∧ frame t ∧ rdN t Reg.SV_SEQ_SLACK = slack
          ∧ (raw → tget (fun _ => 0) (seqOf t n).counts 0 = min 65535 (c + 1)
              ∧ (hold < min 65535 (c + 1) → (seqOf t n).pick = some { kind := 0, target := targetOf s k, port := 0, us := 0 })
              ∧ (min 65535 (c + 1) ≤ hold → (seqOf t n).pick = none))
          ∧ (¬ raw → tget (fun _ => 0) (seqOf t n).counts 0 = 0 ∧ (seqOf t n).pick = none)
          ∧ (lost → v.episodes = [] → ∃ g, raisedEvent 0x0025 0 (w32 (n + m * 0x10000)) (w32 g) t ∧ sigValid s 0 g = false)))
    ∧ (live → seqR s n = 2 → v.resumed = true →
      let to1 := bits (seqState s i 2) 7 0
      ∃ t, exec (.seqEvaluate n slack) s = .next t ∧ frame t ∧ (seqOf t n).counts = []
        ∧ (to1 = 0xFF → seqR t n = 1 ∧ seqNow t n = seqNow s n ∧ ∀ x, v.frozen = some x → x < 2 ^ 64 → seqTimer t n = x)
        ∧ (to1 ≠ 0xFF → seqR t n = 2 ∧ (seqOf t n).pick = some { kind := 16, target := to1, port := 0, us := 0 }))
    ∧ (devState s = 4 → seqR s n = 2 →
      (v.rterm = none → ∃ t, exec (.seqEvaluate n slack) s = .next t ∧ frame t ∧ (seqOf t n).pick = v.pick)
      ∧ (∀ m c, v.rterm = some (m, c) → bits (seqTerm s m 0) 31 28 = 1 → bit (seqTerm s m 0) 23 = false → (seqTerm s m 2).toNat = 0 →
        ∃ t, exec (.seqEvaluate n slack) s = .next t ∧ frame t
          ∧ ((seqOf t n).pick = some { kind := 21, target := 0, port := 0, us := 0 }
              ↔ testCnd (termA s n (seqTerm s m 0)) (bits (seqTerm s m 0) 26 24) (seqTerm s m 1).toInt = true)))

/-- R270 to R273, R276 and R277 for states and transitions without actions; the actions stand in the statement of their own. No other sequence is at a transition instant, and nothing was latched in the tick. -/
def Obligations.SequencesMakeTransitions : Prop :=
  ∀ (n : Nat) (s : State), n < 8 →
    let v := seqOf s n
    let live := devState s = 2 ∨ devState s = 3
    let enters : Instr → Nat → Nat → State → Prop := fun c x kind t =>
      exec c s = .next t ∧ seqNow t n = x ∧ seqR t n = 1 ∧ rdF t (Reg.SV_SEQ_STAT n) 5 0 = (if v.entered then seqNow s n else rdF s (Reg.SV_SEQ_STAT n) 5 0)
        ∧ seqTimer t n = 0 ∧ (seqOf t n).counts = [] ∧ (seqOf t n).entered = true ∧ (seqOf t n).pick = none ∧ (seqOf t n).want = []
        ∧ (bit (seqDir s n 2) 15 = true → rd t (sigAddr 0 (bits (seqDir s n 2) 8 0)) = w32 (x * 65536))
        ∧ (kind < 19 → rdF t (Reg.SV_SEQ_TRANS_CNT n) 15 0 = min 65535 (rdF s (Reg.SV_SEQ_TRANS_CNT n) 15 0 + 1)
            ∧ raisedEvent 0x0020 0 (w32 (n + x * 256 + (if v.entered then seqNow s n else 0x3F) * 0x10000 + kind * 0x1000000))
                (w32 (seqState s (seqRec s n x) 3).toNat) t)
        ∧ t.clk = s.clk ∧ t.loops = s.loops ∧ t.drv = s.drv ∧ t.nor = s.nor ∧ (∀ m, m ≠ n → seqOf t m = seqOf s m)
        ∧ wordsKept [(Reg.SV_SEQ_STAT n, Reg.SV_SEQ_STAT n + 4), (Reg.SV_SEQ_TRANS_CNT n, Reg.SV_SEQ_TRANS_CNT n + 4), (0xA0000, 0xA2000)] s t
    (s.boot.loaded = true → atTrans s n = true → seqR s n ≠ 3 → (∀ d, d < 5 → quiet d s) → s.sig.ports = [] →
      (∀ m, m < 8 → m ≠ n → atTrans s m = false ∧ (seqOf s m).askSafe = false ∧ (seqOf s m).askHib = false
        ∧ (seqFresh s m = false ∨ (seqOf s m).pick = none)) →
      let fresh := ∃ k, v.at1 = some k ∧ s.clk.tb1.toNat / 100 = k.toNat / 100 + 5000
      (∀ p, live → v.want = [] → v.initDue = false → v.pick = some p → fresh → p.kind ≤ 16 → p.target < 64 → entryOf s (seqRec s n p.target) = [] →
        (p.kind < 16 → actsOf s (bits (seqState s (seqRec s n (seqNow s n)) 0) 9 0 + p.kind) = []) → v.askSafe = false → v.askHib = false →
        (∃ t, enters (.seqTransition n false) p.target p.kind t)
        ∧ ∃ t, exec (.seqTransition n true) s = .next t ∧ (seqOf t n).pick = none ∧ rdN t Reg.SV_SEQ_SLACK = 0 ∧ seqNow t n = seqNow s n
            ∧ raisedEvent 0x0024 0 (w32 (2 ^ (8 + n) + n)) (w32 ((tb3us s + 2 ^ 32 - 5000) % 2 ^ 32)) t)
      ∧ (live → v.want = [] → v.initDue = true → entryOf s (seqRec s n (seqInitOf s n)) = [] → v.askSafe = false → v.askHib = false →
        ∃ t, enters (.seqTransition n false) (seqInitOf s n) 17 t)
      ∧ (∀ p, live → v.want = [p] → p.us ≠ tb3us s → p.kind = 19 ∨ p.kind = 20 → p.target < 64 → entryOf s (seqRec s n p.target) = [] →
        v.askSafe = false → v.askHib = false →
        ∃ t, enters (.seqTransition n false) p.target p.kind t
          ∧ raisedEvent 0x0021 0 (w32 (n + (if p.kind = 19 then 2 else 4) * 256 + p.target * 0x10000)) (w32 p.port) t)
      ∧ (∀ p, devState s = 4 → v.want = [] → v.initDue = false → v.pick = some p → p.kind = 21 → fresh → v.askSafe = false → v.askHib = false →
        (causes s &&& 0x14F = 0 → ∃ t, exec (.seqTransition n false) s = .next t ∧ causes t = 0 ∧ devState t = (if rdB s Reg.SV_BOOT_STAT 10 then 2 else 3))
        ∧ (causes s &&& 0x14F ≠ 0 → ∃ t, exec (.seqTransition n false) s = .next t ∧ devState t = 4 ∧ causes t = causes s &&& 0x1DF
            ∧ raisedEvent 0x000A 0 (w32 (causes s &&& 0x1DF)) 0 t)))
    ∧ ∀ p : PortId, mayWrite p (Reg.SV_SEQ_CMD n) s →
      let may := seqEn s n = true ∧ seqR s n ≠ 3
      let waits : Instr → Nat → Nat → Prop := fun c kind x => ∃ t, exec c s = .next t ∧ t = { s with seq := t.seq, port := t.port, sig := t.sig }
        ∧ seqOf t n = { v with want := v.want ++ [{ kind := kind, target := x, port := portCode p, us := tb3us s }] } ∧ ∀ m, m ≠ n → seqOf t m = seqOf s m
      let refused : Instr → Prop := fun c => ∃ t, exec c s = .next t ∧ t = { s with regs := t.regs, hwset := t.hwset, log := t.log } ∧ rdF t Reg.SV_VIOL_INFO 19 16 = 7
      s.boot.loaded = true →
      (may → devState s ≠ 4 → (seqInitOf s n < seqCount s n → waits (.seqStart p n) 19 (seqInitOf s n))
        ∧ ∀ x, (x < seqCount s n → waits (.seqGoto p n x) 20 x) ∧ (seqCount s n ≤ x → refused (.seqGoto p n x)))
      ∧ (may → ∃ t, exec (.seqStop p n) s = .next t ∧ seqR t n = 0 ∧ (seqOf t n).pick = none ∧ (seqOf t n).want = [] ∧ (seqOf t n).entered = false
          ∧ raisedEvent 0x0021 0 (w32 (n + 0x100)) (w32 (portCode p)) t ∧ t = { s with regs := t.regs, hwset := t.hwset, log := t.log, seq := t.seq, port := t.port, sig := t.sig })
      ∧ (¬ may → refused (.seqStart p n) ∧ refused (.seqStop p n) ∧ ∀ x, refused (.seqGoto p n x))
      ∧ (devState s = 4 → refused (.seqStart p n) ∧ ∀ x, refused (.seqGoto p n x))

/-- R266 with Table 10-6, one clause an action, and R271; a record whose OP is another has no effect through this row (DESIGN CHOICE, log entry 30). -/
def Obligations.SequenceActionsAct : Prop :=
  ∀ (n a : Nat) (s : State), n < 8 → a < 2048 →
    let v := seqOf s n
    let d := bits (seqAct s a 0) 23 16
    let x := bits (seqAct s a 0) 15 0
    let w := seqAct s a 1
    let seqs : State → Prop := fun t => ∀ m, seqOf t m = seqOf s m
    v.askSafe = false → v.askHib = false → (∀ d, d < 5 → quiet d s) →
    (bits (seqAct s a 0) 31 24 = 1 → d ≤ 4 → x < sigCount d → sigKind s d x = 6 ∨ sigKind s d x = 7 → s.sig.ports = [(0, d * 4096 + x)] →
      ∃ t, exec (.writeSig n a) s = .next t ∧ rd t (sigAddr d x) = rd s (sigAddr d x) ∧ sigUpd t d x = (sigUpd s d x + 1) % 65536)
    ∧ (bits (seqAct s a 0) 31 24 = 4 → 1 ≤ d → d ≤ 4 → x < 64 → s.sig.ports = [(2, (d - 1) * 64 + x)] →
      ∃ t, exec (.loopManval n a) s = .next t ∧ rd t (Reg.LP_LOOP_MANVAL ((d - 1) * 64 + x)) = rd s (Reg.LP_LOOP_MANVAL ((d - 1) * 64 + x)))
    ∧ (s.sig.ports = [] → ∀ op, bits (seqAct s a 0) 31 24 = op →
      (op = 1 → d ≤ 4 → x < sigCount d → sigKind s d x = 6 ∨ sigKind s d x = 7 →
        ∃ t, exec (.writeSig n a) s = .next t ∧ rd t (sigAddr d x) = w ∧ sigValid t d x = true ∧ sigUpd t d x = (sigUpd s d x + 1) % 65536
          ∧ rd t (sigAddr d x + 8) = nowUs s ∧ seqs t ∧ t = { s with mem := t.mem, upd := t.upd, seq := t.seq } ∧ wordsKept [(sigAddr d x, sigAddr d x + 12)] s t)
      ∧ (op = 2 → d ≤ 4 → x < sigCount d → sigKind s d x = 6 ∨ sigKind s d x = 7 →
        ∃ t, exec (.copySig n a) s = .next t ∧ seqs t ∧ t = { s with mem := t.mem, upd := t.upd, seq := t.seq } ∧ wordsKept [(sigAddr d x, sigAddr d x + 12)] s t
          ∧ ∀ k, (v.lat.find? fun y => decide (y.1 = bits (seqAct s a 2) 8 0)) = some (bits (seqAct s a 2) 8 0, k) → rd t (sigAddr d x) = i32 k)
      ∧ (op = 3 → 1 ≤ d → d ≤ 4 → x < 64 → w.toNat = 1 ∨ w.toNat = 2 ∨ w.toNat = 4 →
        let g := (d - 1) * 64 + x
        rdB s (Reg.LP_LOOP_CFG g) 31 = true → loopState s g ≤ 3 →
        ∃ t, exec (.loopReq n a) s = .next t ∧ loopOf t g = { loopOf s g with req := some (w.toNat, 4) } ∧ seqs t ∧ t = { s with loops := t.loops, seq := t.seq })
      ∧ (op = 4 → 1 ≤ d → d ≤ 4 → x < 64 →
        ∃ t, exec (.loopManval n a) s = .next t ∧ rd t (Reg.LP_LOOP_MANVAL ((d - 1) * 64 + x)) = w ∧ seqs t ∧ t = { s with regs := t.regs, hwset := t.hwset, upd := t.upd, seq := t.seq }
          ∧ wordsKept [(Reg.LP_LOOP_MANVAL ((d - 1) * 64 + x), Reg.LP_LOOP_MANVAL ((d - 1) * 64 + x) + 4)] s t)
      ∧ (op = 5 → (d = 5 ∨ d = 6) → x < 12 →
        ∃ t, exec (.seqChan n a) s = .next t ∧ (w = 0 → (false, (d - 5) * 12 + x) ∈ t.drv.seqOff) ∧ (w = 1 → (false, (d - 5) * 12 + x) ∉ t.drv.seqOff)
          ∧ (∀ y, y ≠ (false, (d - 5) * 12 + x) → (y ∈ t.drv.seqOff ↔ y ∈ s.drv.seqOff)) ∧ t.clk = s.clk ∧ t.loops = s.loops ∧ seqs t)
      ∧ (op = 6 → 1 ≤ d → d ≤ 4 → x < 4 → w.toNat = 1 ∨ w.toNat = 2 ∨ w.toNat = 4 →
        let c := (d - 1) * 4 + x
        ∃ t, exec (.trkCmd n a) s = .next t ∧ seqs t ∧ t = { s with trk := t.trk, seq := t.seq } ∧ trkOf t c = { trkOf s c with cmds := (trkOf s c).cmds
          ++ [{ act := if w.toNat = 1 then 0 else if w.toNat = 2 then 1 else 2, port := 0, word := 0, logged := false }] })
      ∧ (op = 7 → 1 ≤ d → d ≤ 4 → x < 8 → plsMode s ((d - 1) * 8 + x) = 1 →
        ∃ t, exec (.plsClr n a) s = .next t ∧ (plsOf t ((d - 1) * 8 + x)).acc = 0 ∧ seqs t ∧ t = { s with sense := t.sense, seq := t.seq })
      ∧ (op = 8 → causes s &&& 0x20 = 0 → exitNow s = none → devState s = 2 ∨ devState s = 3 →
        ∃ t, exec (.seqActSafe n a) s = .next t ∧ devState t = 4 ∧ causes t = causes s ||| 0x20
          ∧ (seqOf t n).rterm = (if bit (seqAct s a 2) 31 then some (bits (seqAct s a 2) 10 0, 0) else none)
          ∧ raisedEvent 0x0003 0 0x20 (w32 (devState s)) t)
      ∧ (op = 9 → (hibRefusal s = 0 → ∃ t, exec (.seqActHibernate n a) s = .next t ∧ devState t = 0)
          ∧ (hibRefusal s = 1 ∨ hibRefusal s = 2 → ∃ t, exec (.seqActHibernate n a) s = .next t ∧ raisedEvent 0x0015 0 (w32 (hibRefusal s)) 0 t
              ∧ seqs t ∧ t = { s with log := t.log, seq := t.seq }))
      ∧ (op = 10 → ∃ t, exec (.seqActLog n a) s = .next t ∧ raisedEvent 0x0022 0 (w32 (n + seqNow s n * 256)) w t ∧ seqs t ∧ t = { s with log := t.log, seq := t.seq })
      ∧ (op = 11 → let m := bits (seqAct s a 0) 2 0
        seqEn s m = true → seqR s m ≠ 3 →
        (w = 0 → ∃ t, exec (.seqCtl n a) s = .next t ∧ seqR t m = 0 ∧ (seqOf t m).entered = false ∧ t = { s with regs := t.regs, hwset := t.hwset, seq := t.seq })
        ∧ (w = 1 → ∃ t, exec (.seqCtl n a) s = .next t ∧ t = { s with seq := t.seq } ∧ seqOf t m = { seqOf s m with
            want := (seqOf s m).want ++ [{ kind := 18, target := seqInitOf s m, port := 0, us := tb3us s }] })))
    ∧ ∀ c op, (c, op) ∈ [(Instr.writeSig n a, 1), (.copySig n a, 2), (.loopReq n a, 3), (.loopManval n a, 4), (.seqChan n a, 5), (.trkCmd n a, 6),
        (.plsClr n a, 7), (.seqActSafe n a, 8), (.seqActHibernate n a, 9), (.seqActLog n a, 10), (.seqCtl n a, 11)] →
      bits (seqAct s a 0) 31 24 ≠ op → exec c s = .next s

/-- R286 to R289: each word's beginning and end on an enabled channel, and the channel faults. Fault codes: 1 RISE, 2 RECOV, 3 OVERCURRENT, 8 FETCH. -/
def Obligations.ValveMicrocodeRuns : Prop :=
  ∀ (x : Nat) (s : State), x < 24 → vOn s x = true →
    let d := 5 + x / 12
    let v := vOf s x
    let base := bits (profWord s x 2) 9 0
    let len := bits (profWord s x 2) 25 16
    let frame : State → Prop := fun t => t = { s with regs := t.regs, hwset := t.hwset, log := t.log, drv := t.drv }
      ∧ (∀ y, y ≠ x → y ≠ vOther x → vOf t y = vOf s y) ∧ wordsKept [(dieAt d 0, dieAt d 0x800000)] s t
    let goes : Instr → Nat → Prop := fun c w => ∃ t, exec c s = .next t ∧ frame t ∧ (vOf t x).pc = some w ∧ (vOf t x).begun = false
      ∧ vState t x = vState s x
    let faults : Instr → Nat → Word → Prop := fun c code w7 => ∃ t, exec c s = .next t ∧ frame t ∧ vState t x = 7
      ∧ rdF t (Reg.DR_VCH_STAT x) 23 16 = code ∧ rdB t (Reg.DR_VCH_STAT x) 7 = false ∧ rdB t (Reg.DR_SEQ_STAT d) (x % 12) = true
      ∧ (vOf t x).pc = none ∧ (vOf t x).path = .offRec ∧ (vOf t x).claim = false ∧ (vOf t x).hold = 0 ∧ (vOf t x).lock = true
      ∧ rdF t (Reg.DR_VCH_FAULT_CNT x) 30 0 = min 0x7FFFFFFF (rdF s (Reg.DR_VCH_FAULT_CNT x) 30 0 + 1)
      ∧ raisedEvent 0x0501 d (w32 (code * 0x10000 + x % 12)) w7 t
    let held : Nat → VPath → VPath := fun w q =>
      if q = .freewheel ∧ ucDecay s d w = 1 ∧ vDrives s (vOther x) = true then .offRec else q
    (∀ w, v.pc = some w →
      let keeps : Nat → Prop := fun i => ∃ t, exec (.coilCurrentCrossing x i) s = .next t ∧ t = { s with drv := t.drv }
        ∧ vOf t x = { v with cur := i } ∧ ∀ y, y ≠ x → vOf t y = vOf s y
      let turns : Nat → VPath → Prop := fun i q => ∃ t, exec (.coilCurrentCrossing x i) s = .next t ∧ frame t ∧ (vOf t x).pc = some w
        ∧ (vOf t x).cur = i ∧ (vOf t x).path = held w q
      let op := ucOp s d w
      let T := ucT s d w
      let I := ucI s d w
      (v.begun = false → (∀ y ∈ s.drv.waits, y.x ≠ x) →
        (∀ c, (c, op) ∈ [(Instr.ucEnd x, 0), (.ucRise x, 1), (.ucReg x, 2), (.ucRecov x, 3)] → ucSrc s d w ≠ 2 →
          ∃ t, exec c s = .next t ∧ frame t ∧ (vOf t x).pc = some w ∧ (vOf t x).begun = true ∧ (vOf t x).wordAt = s.clk.tb0
            ∧ vState t x = (if op = 0 ∨ op = 3 then 5 else if op = 2 ∧ T = 0 then 4 else 3)
            ∧ (op ≠ 2 → (vOf t x).path = if op = 1 ∧ ucSrc s d w = 1 then VPath.fromVin else VPath.offRec)
            ∧ (op = 2 → (vOf t x).path = held w (regPath s x w)))
        ∧ (op = 4 → (base ≤ T % 1024 ∧ T % 1024 < base + len → goes (.ucJmp x) (T % 1024))
            ∧ (T % 1024 < base ∨ base + len ≤ T % 1024 → faults (.ucJmp x) 8 (w32 (dieAt d 0x800000 + 8 * (T % 1024))))))
      ∧ (v.begun = true → ∀ i : Nat,
        (op = 1 → (I ≤ i → base ≤ w + 1 → w + 1 < base + len → goes (.coilCurrentCrossing x i) (w + 1))
          ∧ (i < I → keeps i))
        ∧ (op = 3 → (i ≤ I → base ≤ w + 1 → w + 1 < base + len → goes (.coilCurrentCrossing x i) (w + 1))
          ∧ (I < i → keeps i))
        ∧ (op = 0 → (i < max I 20 → ∃ t, exec (.coilCurrentCrossing x i) s = .next t ∧ frame t ∧ vState t x = 0 ∧ (vOf t x).pc = none
              ∧ (vOf t x).hold = 0 ∧ (vOf t x).claim = false ∧ (vOf t x).path = .offRec ∧ rdF t (Reg.DR_VCH_I x) 15 0 = 0)
          ∧ (max I 20 ≤ i → keeps i))
        ∧ (op = 2 → T = 0 → let J := (vThresh s x w).1
          let h := J * ucBand s d w / 256
          ((s.clk.tb0 - v.pathAt).toNat < 200 → turns i v.path)
          ∧ (200 ≤ (s.clk.tb0 - v.pathAt).toNat →
            (i + h < J → turns i (srcPath (ucSrc s d w)))
            ∧ (J + h < i → turns i (if ucDecay s d w = 1 ∧ vDrives s (vOther x) = false then .freewheel else .offRec))
            ∧ (J ≤ i + h → i ≤ J + h →
                turns i (if v.path = .fromVin ∨ v.path = .fromBoost then srcPath (ucSrc s d w) else v.path))))
        ∧ (T * 100 ≤ (s.clk.tb0 - v.wordAt).toNat → (op = 1 → faults (.valveWordTimeout x) 1 0)
            ∧ (op = 0 ∨ op = 3 → T ≠ 0 → faults (.valveWordTimeout x) 2 0))
        ∧ ((s.clk.tb0 - v.wordAt).toNat < T * 100 → exec (.valveWordTimeout x) s = .next s)))
    ∧ ∀ i, (rdF s (Reg.DR_VCH_CFG x) 15 0 < i → vState s x ≠ 8 → faults (.valveOvercurrent x i) 3 (w32 i))
      ∧ (rdF s (Reg.DR_VCH_CFG x) 15 0 < i → vState s x = 8 → ∃ t, exec (.valveOvercurrent x i) s = .next t ∧ frame t ∧ vState t x = 8
          ∧ rdF t (Reg.DR_VCH_STAT x) 23 16 = 3 ∧ (vOf t x).lock = true ∧ raisedEvent 0x0501 d (w32 (0x30000 + x % 12)) (w32 i) t)
      ∧ (i ≤ rdF s (Reg.DR_VCH_CFG x) 15 0 → exec (.valveOvercurrent x i) s = .next s)

/-- R34 and R35 at the drive die; R282 to R284, R291, R302 to R304 and R308 for a start. Fault codes: 4 DEFER, 5 BUSY, 6 HOT. -/
def Obligations.ValveStartsAreGrantedDeferredOrRejected : Prop :=
  ∀ (x : Nat) (s : State), x < 24 →
    let d := 5 + x / 12
    let v := vOf s x
    let b := x / 2
    let base := bits (profWord s x 2) 9 0
    let len := bits (profWord s x 2) 25 16
    let others : State → Prop := fun t => t = { s with regs := t.regs, hwset := t.hwset, log := t.log, drv := t.drv }
      ∧ (∀ y, y ≠ x → y ≠ vOther x → vOf t y = vOf s y) ∧ wordsKept [(dieAt d 0, dieAt d 0x800000)] s t
    let faults : Instr → Nat → Word → Prop := fun c code w7 => ∃ t, exec c s = .next t ∧ others t ∧ vState t x = 7
      ∧ rdF t (Reg.DR_VCH_STAT x) 23 16 = code ∧ (vOf t x).lock = true ∧ raisedEvent 0x0501 d (w32 (code * 0x10000 + x % 12)) w7 t
    let starts : Instr → Prop := fun c =>
      (vMode s x = 0 → base ≤ onEntry s x → onEntry s x < base + len → ∃ t, exec c s = .next t ∧ others t ∧ (vOf t x).pc = some (onEntry s x)
          ∧ (vOf t x).begun = false ∧ (vOf t x).hold = bits (profWord s x 3) 15 0 ∧ rdF t (Reg.DR_VCH_STAT x) 14 12 = dieBand s d % 8
          ∧ rdF t (Reg.DR_VCH_START_CNT x) 30 0 = min 0x7FFFFFFF (rdF s (Reg.DR_VCH_START_CNT x) 30 0 + 1) ∧ rdF t (Reg.DR_VCH_STAT x) 23 16 = 0)
      ∧ (vMode s x = 2 → ∃ t, exec c s = .next t ∧ others t ∧ vState t x = 6 ∧ (vOf t x).path = .fromVin
          ∧ (vOf t x).hold = rdF s (Reg.DR_VCH_CFG x) 15 0)
    (∀ (k : Tick) (val : Int), vOn s x = true → s.drv.acts = [{ mot := false, x := x, at1 := k, value := val }] → reached s.clk.tb1 k = true →
      let go := Instr.driveActuation false x none
      let on := if vMode s x = 0 then 32768 ≤ val else 0 < val
      (∀ late, ∃ t, exec (.driveActuation false x (some late)) s = .next t ∧ t = { s with log := t.log, drv := { s.drv with acts := [] } }
        ∧ raisedEvent 0x0008 d (w32 (d * 0x1000000 + x % 12)) (w32 (min late 0xFFFFFFFF)) t)
      ∧ (on → vForcedNow s x = true → ∃ t, exec go s = .next t ∧ t = { s with drv := t.drv } ∧ vOf t x = { v with cmd := val } ∧ t.drv.acts = [])
      ∧ (on → vForcedNow s x = false → rdB s (Reg.DR_VCH_STAT x) 7 = true → v.lock = false → v.offSeq = false → vState s x = 0 → v.pc = none →
          v.restart = none → v.ended = false → (∀ w ∈ s.drv.waits, w.x / 2 ≠ b) →
        (vMode s x ≠ 1 →
          (rdI s (Reg.DR_VCH_TW_START x) ≤ rdI s (Reg.DR_VCH_TW x) → faults go 6 (rd s (Reg.DR_VCH_TW x)))
          ∧ (rdI s (Reg.DR_VCH_TW x) < rdI s (Reg.DR_VCH_TW_START x) →
            (startFree s x = true → starts go)
            ∧ (startFree s x = false → rdF s (Reg.DR_BNK_CFG b) 31 30 = 2 → faults go 5 0)
            ∧ (startFree s x = false → rdF s (Reg.DR_BNK_CFG b) 31 30 ≠ 2 → ∃ t, exec go s = .next t ∧ others t ∧ vState t x = 1
                ∧ { x := x, since := s.clk.tb0, start := true, again := false : VWait } ∈ t.drv.waits
                ∧ rdF t (Reg.DR_BNK_DEFER_CNT b) 30 0 = min 0x7FFFFFFF (rdF s (Reg.DR_BNK_DEFER_CNT b) 30 0 + 1))))
        ∧ (vMode s x = 1 → ∃ t, exec go s = .next t ∧ others t
            ∧ (vOf t x).level = max (rdF s (Reg.DR_VCH_HOLD x) 31 16) (min (rdF s (Reg.DR_VCH_HOLD x) 15 0) (roundAway (val * 1000) 65536).toNat)))
      ∧ (¬ on → vForcedNow s x = false → v.lock = false →
        (v.pc.isSome = true → v.offSeq = false → vState s x ≠ 6 → base ≤ profOff s x → profOff s x < base + len →
          ∃ t, exec go s = .next t ∧ others t ∧ (vOf t x).pc = some (profOff s x) ∧ (vOf t x).offSeq = true ∧ rdB t (Reg.DR_VCH_STAT x) 7 = true)
        ∧ (v.pc = none → v.restart = none → vState s x = 0 → ∃ t, exec go s = .next t ∧ others t ∧ rdB t (Reg.DR_VCH_STAT x) 7 = true
            ∧ (vOf t x).cmd = val ∧ vState t x = 0)))
    ∧ ∀ w : VWait, s.drv.waits = [w] → w.x = x →
      let us := min 0xFFFFFFFF ((s.clk.tb0 - w.since).toNat / 100)
      (waitFree s w = true →
        (w.start = true → w.again = false → starts (.bankGrant b))
        ∧ (w.start = true → w.again = true → vMode s x = 0 → base ≤ onEntry s x → onEntry s x < base + len →
            ∃ t, exec (.bankGrant b) s = .next t ∧ others t ∧ (vOf t x).pc = some (onEntry s x)
              ∧ rdF t (Reg.DR_VCH_START_CNT x) 30 0 = rdF s (Reg.DR_VCH_START_CNT x) 30 0)
        ∧ ∃ t, exec (.bankGrant b) s = .next t ∧ others t ∧ rdN t (Reg.DR_VCH_DEFER x) = us
            ∧ rdN t (Reg.DR_VCH_DEFER_MAX x) = max us (rdN s (Reg.DR_VCH_DEFER_MAX x)) ∧ t.drv.waits = []
            ∧ (w.start = false → (vOf t x).claim = true ∧ (vOf t x).pc = v.pc))
      ∧ (waitFree s w = false → exec (.bankGrant b) s = .next s)
      ∧ (rdN s (Reg.DR_BNK_DEFER_MAX b) ≤ us → faults (.deferTimeout x) 4 (w32 us))
      ∧ (us < rdN s (Reg.DR_BNK_DEFER_MAX b) → exec (.deferTimeout x) s = .next s)

/-- R294 to R299 and R306, with the measurement of R293; a division by zero is the free value of the model (log entry 1). -/
def Obligations.BoostConvertersAndTheCoilModel : Prop :=
  (∀ (k mv dv ma : Nat) (s : State), k < 4 → mv < 131072 →
    let d := 5 + k / 2
    let stat := Reg.DR_BST_STAT k
    let low := rdF s (Reg.DR_BST_LIM k) 7 0 * 1000
    let ov := rdF s (Reg.DR_BST_LIM k) 15 8 * 1000
    let vset := rdF s (Reg.DR_BST_CFG k) 23 16 * 1000
    let vcap : State → Prop := fun t => rdF t stat 16 0 = mv ∧ (rdB t stat 30 = true ↔ ov < mv) ∧ (rdB t stat 29 = true ↔ mv < low)
    let frame : State → Prop := fun t => t = { s with regs := t.regs, hwset := t.hwset, log := t.log, drv := t.drv } ∧ (∀ j, j ≠ k → bstOf t j = bstOf s j)
      ∧ wordsKept [(stat, stat + 4)] s t
    (bstMay s k = true → mv + 1000 < vset → rdB s stat 31 = false → ∃ t, exec (.boostRecharge k mv) s = .next t ∧ frame t ∧ vcap t
        ∧ rdB t stat 31 = true ∧ (bstOf t k).chg = some s.clk.tb0)
    ∧ (bstMay s k = false ∨ vset ≤ mv + 1000 ∨ rdB s stat 31 = true → exec (.boostRecharge k mv) s = .next s)
    ∧ (running s = true → 80000 < mv → (bstOf s k).abs = false → ∃ t, exec (.boostAbs k mv) s = .next t ∧ frame t ∧ vcap t
        ∧ (bstOf t k).abs = true ∧ raisedEvent 0x0503 d (w32 (0x10000 + k % 2 * 256)) (w32 mv) t)
    ∧ (diesUp s = true → ∃ t, exec (.vcapThresholdCrossing k mv) s = .next t ∧ frame t ∧ vcap t
        ∧ (bstOf t k) = { bstOf s k with abs := (bstOf s k).abs && !decide (mv < ov) })
    ∧ (∀ c, (bstOf s k).chg = some c →
      (10000000 ≤ (s.clk.tb0 - c).toNat → mv < low → ∃ t, exec (.boostNoCharge k mv) s = .next t ∧ frame t ∧ vcap t ∧ rdB t stat 31 = false
          ∧ (bstOf t k).chg = none ∧ raisedEvent 0x0503 d (w32 (0x20000 + k % 2 * 256)) (w32 mv) t)
      ∧ (mv < vset → ∃ t, exec (.boostRechargeDone k mv dv ma) s = .next t ∧ frame t ∧ vcap t ∧ bstOf t k = bstOf s k)
      ∧ (ma ≠ 0 → vset ≤ mv → ∃ t, exec (.boostRechargeDone k mv dv ma) s = .next t ∧ vcap t ∧ rdB t stat 31 = false ∧ (bstOf t k).chg = none
          ∧ rdN t (Reg.DR_BST_RECHG k) = min 0xFFFFFFFF ((s.clk.tb0 - c).toNat / 100)
          ∧ rdN t (Reg.DR_BST_ESR k) = min 0xFFFFFFFF (roundAway (dv * 1000 : Nat) ma).toNat
          ∧ t = { s with regs := t.regs, hwset := t.hwset, log := t.log, drv := t.drv, thm := t.thm })))
  ∧ ∀ (x ma drawn recov : Nat) (i2 dd vin i : Int) (s : State), x < 24 → running s = true → rdB s (Reg.DR_VCH_CFG x) 31 = true →
    let d := 5 + x / 12
    let mul : Int → Int → Int := fun p q => sat32 (qmulRaw p q)
    let rc := rdI s (Reg.DR_VCH_RCOLD x)
    let alpha := rdI s (Reg.DR_VCH_ALPHA x)
    let tw := rdI s (Reg.DR_VCH_TW x)
    let tc := rdI s (Reg.DR_VCH_TC x)
    let hund : Int → Int := fun p => rdivRaw p 100
    let r := mul rc (sat32 (65536 + mul alpha (sat32 (tw - 20 * 65536))))
    let q := qd (sat32 (tw - tc)) (rdI s (Reg.DR_VCH_RWC x))
    let tw1 := sat32 (tw + qd (hund (sat32 (mul i2 r - q))) (rdI s (Reg.DR_VCH_CW x)))
    let tc1 := sat32 (tc + qd (hund (sat32 (q - qd (sat32 (tc - rdI s (Reg.DR_VCH_TA x))) (rdI s (Reg.DR_VCH_RCA x))))) (rdI s (Reg.DR_VCH_CC x)))
    let due := 1000000 ≤ (s.clk.tb0 - (vOf s x).thermAt).toNat
    (¬ due → exec (.coilThermalUpdate x ma i2 drawn recov) s = .next s)
    ∧ (due → (vOf s x).rm = none →
      ∃ t, exec (.coilThermalUpdate x ma i2 drawn recov) s = .next t ∧ rdI t (Reg.DR_VCH_TW x) = tw1 ∧ rdI t (Reg.DR_VCH_TC x) = tc1
        ∧ rdF t (Reg.DR_VCH_I x) 31 16 = min 0xFFFF ma ∧ t = { s with regs := t.regs, hwset := t.hwset, log := t.log, drv := t.drv }
        ∧ rdF t (Reg.DR_BST_EDRAW (bankBst (x / 2))) 30 0 = min 0x7FFFFFFF (rdF s (Reg.DR_BST_EDRAW (bankBst (x / 2))) 30 0 + drawn)
        ∧ (2 ≤ vState s x → vState s x ≤ 6 → rdI s (Reg.DR_VCH_TW_MAX x) ≤ tw1 → vState t x = 7 ∧ rdF t (Reg.DR_VCH_STAT x) 23 16 = 7
            ∧ raisedEvent 0x0501 d (w32 (0x70000 + x % 12)) (i32 tw1) t)
        ∧ ((vState s x < 2 ∨ 6 < vState s x ∨ tw1 < rdI s (Reg.DR_VCH_TW_MAX x)) → vState t x = vState s x)
        ∧ wordsKept [(dieAt d 0, dieAt d 0x800000)] s t)
    ∧ (∀ k, vOn s x = true → (vOf s x).clean = some k → 10000000 ≤ (s.clk.tb0 - k).toNat → i ≠ 0 →
      let m := sat32 (rdivRaw (10 * dd * vin - 7 * (65536 - dd) * 65536) (10 * i) - rdI s (Reg.DR_VCH_RPATH x))
      (∃ t, exec (.rmeasWindow x dd vin i true) s = .next t ∧ rdI t (Reg.DR_VCH_RMEAS x) = m
        ∧ vOf t x = { vOf s x with rm := some m, clean := some s.clk.tb0 } ∧ t = { s with regs := t.regs, hwset := t.hwset, drv := t.drv }
        ∧ wordsKept [(Reg.DR_VCH_RMEAS x, Reg.DR_VCH_RMEAS x + 4)] s t)
      ∧ exec (.rmeasWindow x dd vin i false) s = .next s)

/-- R315, R317 to R319, R322 and R324 to R328. Stall codes: 1 KICK, 2 LOCKED, 3 SLOW, 4 SPEED_LOST, 5 TACH_LOST. -/
def Obligations.MotionChannelsRunAndProtect : Prop :=
  ∀ (x : Nat) (s : State), x < 16 → mOn s x = true → (mOf s x).forced = false →
    let v := mOf s x
    let d := 5 + x / 8
    let stat := Reg.DR_MOT_STAT x
    let w6 := x % 8 + rdF s (Reg.DR_MOT_CFG x) 30 29 * 16
    let frame : State → Prop := fun t => t = { s with regs := t.regs, hwset := t.hwset, log := t.log, drv := t.drv } ∧ (∀ y, y ≠ x → mOf t y = mOf s y)
      ∧ wordsKept [(dieAt d 0, dieAt d 0x800000)] s t
    let goes : Instr → Nat → Nat → Prop := fun c st duty => ∃ t, exec c s = .next t ∧ frame t ∧ (mOf t x).ph = st ∧ rdF t stat 3 0 = st ∧ mDuty t x = duty
    let kicks : Instr → Prop := fun c => goes c 1 (rdF s (Reg.DR_MOT_DUTY x) 15 8 * 100)
    let stalls : Instr → Nat → Prop := fun c code =>
      let k := rdF s stat 15 8
      (rdF s (Reg.DR_MOT_RETRY x) 7 0 ≤ k → ∃ t, exec c s = .next t ∧ frame t ∧ rdF t stat 3 0 = 5 ∧ rdB t stat 7 = false ∧ mDuty t x = 0
          ∧ rdF t stat 23 16 = code ∧ raisedEvent 0x0602 d (w32 (w6 + code * 0x10000 + 0x100)) 0 t
          ∧ rdF t (Reg.DR_MOT_STALL_CNT x) 30 0 = min 0x7FFFFFFF (rdF s (Reg.DR_MOT_STALL_CNT x) 30 0 + 1))
      ∧ (k < rdF s (Reg.DR_MOT_RETRY x) 7 0 → ∃ t, exec c s = .next t ∧ frame t ∧ rdF t stat 3 0 = 4 ∧ rdF t stat 15 8 = k + 1 ∧ mDuty t x = 0
          ∧ rdF t stat 23 16 = code ∧ (mOf t x).retryAt = s.clk.tb0 + BitVec.ofNat 64 (retryTicks s x (k + 1))
          ∧ raisedEvent 0x0601 d (w32 (w6 + code * 0x10000)) (w32 ((k + 1) * 0x10000 + retryTicks s x (k + 1) / 100000000)) t)
    (∀ (k : Tick) (val : Int), s.drv.acts = [{ mot := true, x := x, at1 := k, value := val }] → reached s.clk.tb1 k = true →
      let go := Instr.driveActuation true x none
      (mSafe s x = true → v.ph ≠ 5 → 0 < val → ∃ t, exec go s = .next t ∧ t = { s with drv := t.drv } ∧ mOf t x = { v with cmd := val })
      ∧ (mSafe s x = false →
        (val ≤ 0 → v.ph = 0 → ∃ t, exec go s = .next t ∧ frame t ∧ rdB t stat 7 = true ∧ mOf t x = { v with cmd := val })
        ∧ (val ≤ 0 → 1 ≤ v.ph → v.ph ≤ 4 → ∃ t, exec go s = .next t ∧ frame t ∧ (mOf t x).ph = 0 ∧ rdF t stat 3 0 = 0 ∧ mDuty t x = 0
            ∧ rdB t stat 7 = true ∧ rdF t stat 15 8 = 0 ∧ rdF t stat 23 16 = 0)
        ∧ (0 < val → v.ph = 0 → (rdB s stat 7 = true → kicks go)
            ∧ (rdB s stat 7 = false → ∃ t, exec go s = .next t ∧ t = { s with drv := t.drv } ∧ mOf t x = { v with cmd := val }))
        ∧ (0 < val → v.ph = 2 → let want := max (rdF s (Reg.DR_MOT_DUTY x) 23 16 * 100) (min 10000 (roundAway (val * 100) 65536).toNat)
          (mDuty s x = 0 → 0 < want → kicks go)
          ∧ (0 < mDuty s x ∨ want = 0 → ∃ t, exec go s = .next t ∧ frame t ∧ mDuty t x = want ∧ (mOf t x).ph = 2))
        ∧ (val ≤ 0 → v.ph = 5 → ∃ t, exec go s = .next t ∧ frame t ∧ rdF t stat 3 0 = 0 ∧ rdB t stat 7 = false
            ∧ raisedEvent 0x0602 d (w32 (w6 + rdF s stat 23 16 * 0x10000)) 1 t)))
    ∧ (mSafe s x = false →
      (v.ph = 1 → rdF s (Reg.DR_MOT_KICK x) 15 0 * 100000 ≤ (s.clk.tb0 - v.kickAt).toNat →
        let rpm := if onGrid s 10000 0 then (mSpeed s x).rpm else v.rpm
        (mTach s x = true → rpm < rdF s (Reg.DR_MOT_KICK x) 31 16 → stalls (.kickTimeout x) 1)
        ∧ (mTach s x = false ∨ rdF s (Reg.DR_MOT_KICK x) 31 16 ≤ rpm → goes (.kickTimeout x) 2 (mWant s x)))
      ∧ (v.ph = 2 ∨ v.ph = 3 → mLasted s x v.locked = true → stalls (.motStall x) 2)
      ∧ (v.ph = 2 → mLasted s x v.locked = false → mLasted s x v.slow = true → stalls (.motStall x) 3)
      ∧ (∀ ma, v.ph = 2 → mTach s x = true → rdF s (Reg.DR_MOT_TACH x) 31 16 * 100000 ≤ (s.clk.tb0 - (v.last.getD v.runAt)).toNat →
        let imax := rdF s (Reg.DR_MOT_IBAND x) 31 16
        let imin := rdF s (Reg.DR_MOT_IBAND x) 15 0
        let tl := if rdB s (Reg.DR_MOT_CFG x) 23 then rdF s (Reg.DR_MOT_DUTY x) 7 0 * 100 else mDuty s x
        (mLasted s x v.locked = true → stalls (.tachTimeout x ma) 2)
        ∧ (mLasted s x v.locked = false → mLasted s x v.slow = true → stalls (.tachTimeout x ma) 3)
        ∧ (mLasted s x v.locked = false → mLasted s x v.slow = false → mCs s x = true → (imax ≤ ma → stalls (.tachTimeout x ma) 2) ∧ (ma < imax → ma < imin → stalls (.tachTimeout x ma) 4)
          ∧ (ma < imax → imin ≤ ma → mDuty s x = 0 → 0 < tl → kicks (.tachTimeout x ma))
          ∧ (ma < imax → imin ≤ ma → 0 < mDuty s x ∨ tl = 0 → ∃ t, exec (.tachTimeout x ma) s = .next t ∧ frame t ∧ (mOf t x).ph = 3 ∧ rdF t stat 3 0 = 3 ∧ rdF t stat 23 16 = 5
              ∧ mDuty t x = tl
              ∧ rdF t (Reg.DR_MOT_TL_CNT x) 30 0 = min 0x7FFFFFFF (rdF s (Reg.DR_MOT_TL_CNT x) 30 0 + 1)
              ∧ raisedEvent 0x0603 d (w32 (w6 + 0x100)) (w32 (min 0xFFFF ma)) t))
        ∧ (mLasted s x v.locked = false → mLasted s x v.slow = false → mCs s x = false → mAux s x = none → stalls (.tachTimeout x ma) 4))
      ∧ (v.ph = 4 → reached s.clk.tb0 v.retryAt = true → kicks (.retryKick x)))
    ∧ (v.ph = 4 → reached s.clk.tb0 v.retryAt = false → exec (.retryKick x) s = .next s)
    ∧ (v.ph = 2 → 60000000000 ≤ (s.clk.tb0 - v.runAt).toNat → ∃ t, exec (.retryCountClear x) s = .next t ∧ rdF t stat 15 8 = 0
        ∧ t = { s with regs := t.regs, hwset := t.hwset } ∧ wordsKept [(stat, stat + 4)] s t)
    ∧ (∀ k, mTach s x = true → tachGood s x k = false → exec (.tachEdge x k) s = .next s)
    ∧ (∀ k, mTach s x = true → tachGood s x k = true → ∃ t, exec (.tachEdge x k) s = .next t ∧ mOf t x = { v with edges := v.edges ++ [k], last := some k }
        ∧ t = { s with drv := t.drv } ∧ ∀ y, y ≠ x → mOf t y = mOf s y)
    ∧ (∀ ma, onGrid s 10000 0 = true →
      ∃ t, exec (.tachSpeedUpdate x ma) s = .next t ∧ frame t ∧ (mCs s x = true → rdF t (Reg.DR_MOT_I x) 31 16 = min 0xFFFF ma)
        ∧ (mTach s x = true → v.last = none → rdF t (Reg.DR_MOT_SPEED x) 31 16 = 0)
        ∧ (∀ a b r, mTach s x = true → v.edges = [a, b] → v.last = some b → v.ref = some r → laterN 64 a.toNat (s.clk.tb0 - 10000000).toNat = true →
            laterN 64 b.toNat (s.clk.tb0 - 10000000).toNat = true → (s.clk.tb0 - b).toNat ≤ rdF s (Reg.DR_MOT_TACH x) 31 16 * 100000 →
            rdF t (Reg.DR_MOT_SPEED x) 31 16 = min 0xFFFF (12000000000 / (max 1 (rdF s (Reg.DR_MOT_CFG x) 21 16) * max 1 (b - r).toNat))))
    ∧ ∀ p : PortId, mayWrite p (Reg.DR_MOT_CTRL x) s →
      (v.ph = 5 → rdF s stat 3 0 = 5 → mSafe s x = true → mSafeDuty s x ≠ 0 → ∃ t, exec (.motReset p x) s = .next t ∧ (mOf t x).ph = 1
          ∧ mDuty t x = rdF s (Reg.DR_MOT_DUTY x) 15 8 * 100 ∧ rdB t stat 7 = false)
      ∧ (v.ph = 5 → rdF s stat 3 0 = 5 → mSafe s x = false ∨ mSafeDuty s x = 0 → ∃ t, exec (.motReset p x) s = .next t ∧ (mOf t x).ph = 0 ∧ rdB t stat 7 = false ∧ mDuty t x = 0
          ∧ raisedEvent 0x0602 d (w32 (w6 + rdF s stat 23 16 * 0x10000)) 2 t ∧ t = { s with regs := t.regs, hwset := t.hwset, log := t.log, drv := t.drv, port := t.port })
      ∧ (rdF s stat 3 0 ≠ 5 → ∃ t, exec (.motReset p x) s = .next t ∧ rdF t Reg.SV_VIOL_INFO 19 16 = 7 ∧ t = { s with regs := t.regs, hwset := t.hwset, log := t.log })

/-- R309 to R311 with R285 and R321, and R312 for one imported item. -/
def Obligations.InterlockForcesAndDriveItemsArePublished : Prop :=
  (∀ (b : Nat) (s : State), b < 2 →
    (diesUp s = true → rdB s (Reg.DR_ILK_STAT 5) b = false →
      ∃ t, exec (.ilkOpen b) s = .next t ∧ t.clk = s.clk ∧ t.loops = s.loops ∧ t.seq = s.seq ∧ t.nor = s.nor
        ∧ (∀ d, d = 5 ∨ d = 6 → rdB t (Reg.DR_ILK_STAT d) b = true ∧ rdB t (Reg.DR_ILK_STAT d) (4 + b) = true
            ∧ rd t (Reg.DR_ILK_TS d) = s.clk.tb0.extractLsb' 0 32
            ∧ rdF t (Reg.DR_ILK_TRIP_CNT d) 30 0 = min 0x7FFFFFFF (rdF s (Reg.DR_ILK_TRIP_CNT d) 30 0 + 1)
            ∧ ∃ w6 w7, raisedEvent 0x0504 d (w32 w6) (w32 w7) t)
        ∧ (∀ x, x < 24 → rdB s (Reg.DR_VCH_CFG x) 31 = true → vState s x ≠ 9 → vState s x ≠ 8 →
            rdB s (Reg.DR_ILK_CFG (5 + x / 12)) (16 * b + x % 12) = true →
            vState t x = 8 ∧ (vOf t x).pc = none ∧ (vOf t x).path = .offRec ∧ (vOf t x).hold = 0 ∧ (vOf t x).claim = false)
        ∧ (∀ x, x < 16 → rdB s (Reg.DR_MOT_CFG x) 31 = true → (mOf s x).ph ≠ 8 → (mOf s x).forced = false →
            rdB s (Reg.DR_ILK_CFG2 (5 + x / 8)) (16 * b + x % 8) = true →
            (mOf t x).forced = true ∧ mDuty t x = 0 ∧ rdF t (Reg.DR_MOT_STAT x) 3 0 = 7))
    ∧ (rdB s (Reg.DR_ILK_STAT 5) b = true →
      exec (.ilkOpen b) s = .next s
      ∧ ∀ k, (s.drv.ilk.find? fun y => decide (y.1 = b)) = some (b, k) →
        ∃ t, exec (.ilkClosed b) s = .next t ∧ t.clk = s.clk ∧ t.loops = s.loops ∧ t.nor = s.nor
          ∧ ∀ d, d = 5 ∨ d = 6 → rdB t (Reg.DR_ILK_STAT d) b = false
            ∧ ∃ w6, raisedEvent 0x0505 d (w32 w6) (w32 (min 0xFFFFFFFF ((s.clk.tb0 - k).toNat / 100))) t)
    ∧ (rdB s (Reg.DR_ILK_STAT 5) b = false → exec (.ilkClosed b) s = .next s))
  ∧ ∀ (k : Nat) (s : State), k < 2 → running s = true →
    (onGrid s 10000 0 = false → exec (.driveItemPublish k) s = .next s)
    ∧ ∀ d e i, onGrid s 10000 0 = true → itemImports s k = [(d, e, i)] →
      (driveItem s k i = none → exec (.driveItemPublish k) s = .next s)
      ∧ (∀ v, driveItem s k i = some v → ∃ t, exec (.driveItemPublish k) s = .next t ∧ t = { s with sig := { s.sig with
          exports := s.sig.exports ++ [⟨BitVec.ofNat 64 ((s.clk.tb1.toNat / 100 + 10000) * 100), d, e, i32 v, nowUs s⟩] } })
      ∧ (i < 12 → driveItem s k i = some (rdF s (Reg.DR_VCH_STAT (12 * k + i)) 3 0 * 65536 : Nat))
      ∧ (24 ≤ i → i < 36 → driveItem s k i = some (rdI s (Reg.DR_VCH_TW (12 * k + (i - 24)))))
      ∧ (64 ≤ i → i < 72 → driveItem s k i = some (rdF s (Reg.DR_MOT_STAT (8 * k + (i - 64))) 3 0 * 65536 : Nat))
  ∧ ∀ (x n : Nat) (s : State) (a : Tick × Int), x < 16 → quiet (5 + x / 8) s →
    (∀ y ∈ s.sig.exports, y.die ≠ 5 + x / 8) → ((mOf s x).aux.reverse.find? fun y => reached s.clk.tb1 y.1) = some a →
    ∃ t, exec (.exportApply (5 + x / 8) (x % 8) (some n)) s = .next t ∧ (mOf t x).aux = (mOf s x).aux.erase a
      ∧ raisedEvent 0x0008 (5 + x / 8) (w32 ((5 + x / 8) * 0x1000000 + x % 8)) (w32 (min n 0xFFFFFFFF)) t ∧ t = { s with drv := t.drv, log := t.log }

/-- R343 to R350, R359 and R361: the receive path of a channel in NORMAL whose counters keep its error state; the class-0 slot chosen with free slots left; the import with one record that matches. -/
def Obligations.ReceivedFramesMeetClashCheckAndFilters : Prop :=
  (∀ (n : Nat) (f : CanFrame) (sof : Tick) (slow : Bool) (s : State), n < 8 → chanOn s n = true → opst s n = 2 → takesFmt s n f = true →
    rec' s n < 128 → tec s n < 256 → errst s n = (if 128 ≤ tec s n then 1 else 0) → f.id < 2 ^ 29 →
    let go := Instr.canFrameRx n f sof slow
    let base := rdF s (Reg.NW_CH_FLT n) 9 0
    let cnt := rdF s (Reg.NW_CH_FLT n) 26 16
    let key := frameKey f
    let hit : Nat → Prop := fun e =>
      let ty := rdF s (filtAddr e) 31 30
      let fm := rdF s (filtAddr e) 26 25
      let id1 := rdF s (filtAddr e + 4) 28 0
      let id2 := rdF s (filtAddr e + 8) 28 0
      (fm = 3 ∨ (fm = 0 ∧ f.fmt = .ext) ∨ (fm = 1 ∧ f.fmt = .base) ∨ (fm = 2 ∧ f.fmt = .xl))
        ∧ ((ty = 0 ∧ id1 ≤ key ∧ key ≤ id2) ∨ (ty = 1 ∧ (key = id1 ∨ key = id2)) ∨ (ty = 2 ∧ key &&& id2 = id1 &&& id2))
    let first : Nat → Nat → Prop := fun e act => base ≤ e ∧ e < base + cnt ∧ hit e ∧ (∀ j, base ≤ j → j < e → ¬ hit j) ∧ rdF s (filtAddr e) 29 27 = act
    let none' : Prop := ∀ j, base ≤ j → j < base + cnt → ¬ hit j
    let blk := (Reg.NW_CH_CFG n, Reg.NW_CH_CFG n + 0x1000)
    let others : State → Prop := fun t => ∀ m, m ≠ n → canOf t m = canOf s m
    let held : State → Nat → Nat → Prop := fun t el e =>
      let a := elemAddr n el
      rdF t a 28 0 = f.id ∧ rdB t a 29 = decide (f.fmt = .ext) ∧ rdF t (a + 4) 16 7 = e ∧ rdF t (a + 4) 6 0 = min f.data.length 64 ∧ rdF t (a + 4) 31 28 = frameDlc f
        ∧ rdB t (a + 4) 27 = f.fdf ∧ rdB t (a + 4) 26 = f.brs ∧ rdB t (a + 4) 25 = f.esi ∧ rd t (a + 8) = sof.extractLsb' 0 32
        ∧ rdN t (a + 12) = (canOf s n).rxseq.toNat ∧ (canOf t n).rxseq = (canOf s n).rxseq + 1
        ∧ (∀ i, i < 64 → memByte t (a + 16 + i) = if i < f.data.length then f.data.getD i 0 else 0)
        ∧ t = { s with regs := t.regs, hwset := t.hwset, log := t.log, mem := t.mem, can := t.can } ∧ others t ∧ wordsKept [blk, (a, a + 80)] s t
    let lost : State → Nat → Nat → Prop := fun t path k => rdF t (Reg.NW_CH_OVR_CNT n) 30 0 = min 0x7FFFFFFF (rdF s (Reg.NW_CH_OVR_CNT n) 30 0 + 1)
        ∧ raisedEvent 0x0703 7 (w32 (n + path * 256)) (w32 k) t
    let fifo : Nat → Nat → Prop := fun q e =>
      let st := if q = 0 then Reg.NW_CH_Q0_STAT n else Reg.NW_CH_Q1_STAT n
      let wi := rdF s st 23 18
      (rdF s st 6 0 < 64 → ∃ t, exec go s = .next t ∧ held t (32 + 64 * q + wi) e ∧ rdF t st 6 0 = rdF s st 6 0 + 1 ∧ rdF t st 23 18 = (wi + 1) % 64
          ∧ rdF t st 15 10 = rdF s st 15 10 ∧ rdB t (Reg.NW_CH_IR n) q = true)
      ∧ (64 ≤ rdF s st 6 0 → rdB s (Reg.NW_CH_RXCFG n) q = true → ∃ t, exec go s = .next t ∧ held t (32 + 64 * q + wi) e ∧ rdF t st 6 0 = 64
          ∧ rdF t st 15 10 = (rdF s st 15 10 + 1) % 64 ∧ rdB t (Reg.NW_CH_IR n) (3 + q) = true ∧ lost t q (rdF s (elemAddr n (32 + 64 * q + wi)) 28 0))
      ∧ (64 ≤ rdF s st 6 0 → rdB s (Reg.NW_CH_RXCFG n) q = false → ∃ t, exec go s = .next t ∧ rd t st = rd s st ∧ rdB t (Reg.NW_CH_IR n) (3 + q) = true
          ∧ lost t q key ∧ t = { s with regs := t.regs, hwset := t.hwset, log := t.log } ∧ wordsKept [blk] s t)
    let unplaced : Prop := ∃ t, exec go s = .next t ∧ rdF t (Reg.NW_FLT_NOMATCH_CNT n) 30 0 = min 0x7FFFFFFF (rdF s (Reg.NW_FLT_NOMATCH_CNT n) 30 0 + 1)
        ∧ t = { s with regs := t.regs, hwset := t.hwset, log := t.log } ∧ wordsKept [blk, (Reg.NW_FLT_NOMATCH_CNT n, Reg.NW_FLT_NOMATCH_CNT n + 4)] s t
    let rejected : Prop := ∃ t, exec go s = .next t ∧ t = { s with regs := t.regs, hwset := t.hwset } ∧ wordsKept [blk] s t
    (f.fmt ≠ .base → ownAddr s = some (key / 2 ^ 15 % 4096) → inClash s = false → isRoot s = false → hierErr s = false → s.log.upl = none →
      ∃ t, exec go s = .next t ∧ (∀ m, m < 8 → rdB t (Reg.NW_CH_STAT m) 17 = true ∧ rdB t (Reg.NW_CH_IR m) 11 = true)
        ∧ rdF t Reg.NW_HIER_STAT 2 0 = 3 ∧ t.net.join.isSome = true ∧ raisedEvent 0x0705 7 (w32 (n + 256)) (w32 key) t
        ∧ (∀ m b, m < 8 → b < 4 → txPending s m b = true → (txFrame s m b).fmt = .ext → some (keySrc (txFrame s m b).id) = ownAddr s →
            txPending t m b = false ∧ rdF t (elemAddr m b + 4) 23 20 = if txCancelled s m b then 2 else 4))
    ∧ (ownSource s f = false →
      (f.rtr = true → unplaced)
      ∧ (f.rtr = false →
        (∀ e, e < 1024 → (first e 0 → rejected) ∧ (first e 1 → fifo 0 e) ∧ (first e 2 → fifo 1 e)
          ∧ (first e 3 → ∀ k, k < 4 → rdB s (Reg.NW_CH_C0S n) k = false → (∀ j, j < k → rdB s (Reg.NW_CH_C0S n) j = true) →
              ∃ t, exec go s = .next t ∧ held t (160 + k) e ∧ rdB t (Reg.NW_CH_C0S n) k = true ∧ rdB t (Reg.NW_CH_IR n) 2 = true)
          ∧ (first e 4 → f.fmt ≠ .base → 12 ≤ f.data.length →
              let mine : Nat → Bool := fun i => rdB s (impAddr i) 31 && decide (rdF s (impAddr i) 27 16 = key / 2 ^ 15 % 4096
                ∧ rdF s (impAddr i) 14 0 = key % 2 ^ 15) && rdB s (impAddr i + 12) n
              ((∀ i, i < 256 → mine i = false) → unplaced)
              ∧ ∀ i, i < 256 → mine i = true → (∀ j, j < 256 → j ≠ i → mine j = false) →
                let carried : Tick := BitVec.ofNat 64 (beAt f.data 4 8)
                let v : Tick := carried + BitVec.ofNat 64 (rdN s (impAddr i + 8) * 100)
                (laterN 64 s.clk.tb1.toNat (v - 2000).toNat = false →
                  ∃ t, exec go s = .next t ∧ t = { s with regs := t.regs, hwset := t.hwset, net := { s.net with imports := s.net.imports ++
                      [⟨v, rdF s (impAddr i + 4) 26 24, rdF s (impAddr i + 4) 10 0, w32 (beAt f.data 0 4), w32 (beAt f.data 4 8 / 100)⟩] } }
                    ∧ wordsKept [blk] s t)
                ∧ (laterN 64 s.clk.tb1.toNat (v - 2000).toNat = true →
                  ∃ t, exec go s = .next t ∧ rdF t (impAddr i + 12) 31 16 = min 65535 (rdF s (impAddr i + 12) 31 16 + 1)
                    ∧ t = { s with regs := t.regs, hwset := t.hwset, log := t.log, mem := t.mem } ∧ wordsKept [blk, (impAddr i + 12, impAddr i + 16)] s t))
          ∧ (first e 7 → f.fmt ≠ .xl → rejected)
          ∧ (first e 7 → f.fmt = .xl → rdB s (Reg.NW_CH_XLCFG n) 27 = true →
              let a := xlAddr (rdF s (Reg.NW_CH_XLCFG n) 25 24)
              (rdB s (Reg.NW_CH_XLS n) 0 = false → 1 ≤ f.data.length → f.data.length ≤ 2048 → f.sdt < 256 → f.vcid < 256 → ∃ t, exec go s = .next t
                ∧ rdB t (Reg.NW_CH_XLS n) 0 = true ∧ rdB t (Reg.NW_CH_IR n) 13 = true ∧ rdF t a 10 0 = f.id % 2048 ∧ rdF t (a + 4) 10 0 = f.data.length - 1
                ∧ rdF t (a + 4) 31 24 = f.sdt ∧ rdF t (a + 4) 23 16 = f.vcid ∧ rdB t (a + 4) 15 = f.sec
                ∧ rdN t (a + 8) = f.af % 2 ^ 32 ∧ rd t (a + 12) = sof.extractLsb' 0 32 ∧ (∀ i, i < f.data.length → memByte t (a + 32 + i) = f.data.getD i 0)
                ∧ t = { s with regs := t.regs, hwset := t.hwset, mem := t.mem, can := t.can } ∧ wordsKept [blk, (a, a + 0x820)] s t)
              ∧ (rdB s (Reg.NW_CH_XLS n) 0 = true → ∃ t, exec go s = .next t ∧ lost t 3 key ∧ t = { s with regs := t.regs, hwset := t.hwset, log := t.log } ∧ wordsKept [blk] s t)))
        ∧ (none' → (rdF s (Reg.NW_CH_RXCFG n) 31 29 = 0 → unplaced) ∧ (rdF s (Reg.NW_CH_RXCFG n) 31 29 = 1 → fifo 0 0)
            ∧ (rdF s (Reg.NW_CH_RXCFG n) 31 29 = 2 → fifo 1 0)))))
  ∧ ∀ (s : State) (x : PendImport) (r : List PendImport), s.net.imports = x :: r → reached s.clk.tb1 x.v = true → 1 ≤ x.die → x.die ≤ 4 → x.entry < 2048 → quiet x.die s →
      ∃ t, exec (.importApply x.die x.entry) s = .next t ∧ rd t (sigAddr x.die x.entry) = x.value ∧ rd t (sigAddr x.die x.entry + 8) = x.instant
        ∧ sigValid t x.die x.entry = true ∧ sigUpd t x.die x.entry = (sigUpd s x.die x.entry + 1) % 65536
        ∧ t = { s with mem := t.mem, net := { s.net with imports := r } } ∧ wordsKept [(sigAddr x.die x.entry, sigAddr x.die x.entry + 12)] s t

/-- R352 to R355 with R339 (the loop delay), R336 (formats) and the second case of R359. Outcomes: 1 SENT, 2 CANCELLED, 3 SENT_CR, 4 ABORTED. `locked` names the buffers past their lock point. -/
def Obligations.TransmissionsEndInOneOutcome : Prop :=
  ∀ (n b : Nat) (s : State), n < 8 → b < 32 →
    let a := elemAddr n b
    let f := txFrame s n b
    let pend : State → Bool := fun t => rdB t (Reg.NW_CH_TXPEND n) b
    let out : State → Nat → Prop := fun t k => pend t = false ∧ rdB t (Reg.NW_CH_TXREQ n) b = false ∧ rdB t (Reg.NW_CH_TXCAN n) b = false
      ∧ rdF t (a + 4) 23 20 = k ∧ (24 ≤ b → rdB t (Reg.NW_CH_IR n) 7 = true)
    let cfg := Reg.NW_CH_CFG n
    let words : List (Nat × Nat) := [(cfg, cfg + 0x1000), (a + 4, a + 8), (a + 12, a + 16)]
    let others : State → Prop := fun t => ∀ m, m ≠ n → canOf t m = canOf s m
    let goes : Tick → Prop := fun sof => opst s n = 2 ∧ (devState s = 2 ∨ devState s = 3 ∨ devState s = 4) ∧ txChosen s n b sof = true
    let early : Nat → Tick → Prop := fun c sof => ∀ k, txReqAt s n c = some k → laterN 64 (tb0At s sof).toNat k.toNat = true
    let ld : State → Option Nat → Prop := fun t meas =>
      (∀ m, meas = some m → f.fdf = true → f.brs = true → rdB s (Reg.NW_CH_LDC n) 31 = true → rdF s (Reg.NW_CH_LDC n) 22 16 ≤ m →
        rdF t (Reg.NW_CH_LDV n) 6 0 = min m 127)
      ∧ ((meas = none ∨ f.fdf = false ∨ f.brs = false ∨ rdB s (Reg.NW_CH_LDC n) 31 = false ∨ ∃ m, meas = some m ∧ m < rdF s (Reg.NW_CH_LDC n) 22 16) →
        rd t (Reg.NW_CH_LDV n) = rd s (Reg.NW_CH_LDV n))
    (∀ (sof : Tick) (c : Nat), c < 33 → c ≠ b → goes sof → txOffered s n c (sof - 1) = true → early c sof →
      arbRank (offerFrame s n b) < arbRank (offerFrame s n c) ∨ (arbRank (offerFrame s n b) = arbRank (offerFrame s n c) ∧ b < c))
    ∧ (∀ sof : Tick, opst s n = 2 → (devState s = 2 ∨ devState s = 3 ∨ devState s = 4) → txOffered s n b sof = true → early b sof →
      (∀ c, c < 33 → c ≠ b → txOffered s n c (sof - 1) = false) → goes sof)
    ∧ (∀ (sof : Tick) (meas : Option Nat) (arb data : Bool), txChosen s n b sof = false →
      exec (.canTxComplete n b sof meas) s = .next s ∧ exec (.canTxAttemptFail n b sof ⟨meas, arb, data⟩) s = .next s)
    ∧ (∀ p : PortId, 24 ≤ b → mayWrite p (Reg.NW_CH_TXREQ n) s →
      let go := Instr.txreq p n (2 ^ b)
      (rdB s cfg 22 = false → ∃ t, exec go s = .next t ∧ rdF t Reg.SV_VIOL_INFO 19 16 = 4 ∧ t = { s with regs := t.regs, hwset := t.hwset, log := t.log })
      ∧ (rdB s cfg 22 = true → pend s = false →
        (f.fmt = .ext → keyClass f.id ≠ 0 → ownAddr s = some (keySrc f.id) → inClash s = false → rdF s Reg.NW_HIER_STAT 2 0 ≠ 5 →
          ∃ t, exec go s = .next t ∧ pend t = true ∧ rdB t (Reg.NW_CH_TXREQ n) b = true ∧ rdF t (a + 4) 23 20 = 0 ∧ rd t (a + 12) = 0
            ∧ t = { s with regs := t.regs, hwset := t.hwset, mem := t.mem, can := t.can, port := t.port } ∧ others t ∧ wordsKept words s t)
        ∧ (f.fmt ≠ .ext ∨ keyClass f.id = 0 ∨ ownAddr s ≠ some (keySrc f.id) ∨ inClash s = true ∨ rdF s Reg.NW_HIER_STAT 2 0 = 5 →
          ∃ t, exec go s = .next t ∧ rdF t Reg.SV_VIOL_INFO 19 16 = 7 ∧ t = { s with regs := t.regs, hwset := t.hwset, log := t.log })))
    ∧ (∀ (p : PortId) (locked : Nat), mayWrite p (Reg.NW_CH_TXCAN n) s →
      (if p = .runtime then b < 24 ∨ rdB s cfg 22 = false else 24 ≤ b ∧ rdB s cfg 22 = true) →
      let go := Instr.txcan p n (2 ^ b) locked
      let past : Prop := locked.testBit b = true ∧ txEligible s n b = true ∧ mayTx s n = true
      (pend s = false → ∃ t, exec go s = .next t ∧ t = { s with port := t.port })
      ∧ (pend s = true → ¬ past → ∃ t, exec go s = .next t ∧ out t 2 ∧ rd t (a + 12) = 0
          ∧ t = { s with regs := t.regs, hwset := t.hwset, mem := t.mem, can := t.can, time := t.time, port := t.port } ∧ others t ∧ wordsKept words s t)
      ∧ (pend s = true → past → ∃ t, exec go s = .next t ∧ pend t = true ∧ rdB t (Reg.NW_CH_TXCAN n) b = true
          ∧ t = { s with regs := t.regs, hwset := t.hwset, port := t.port } ∧ wordsKept [(Reg.NW_CH_TXCAN n, Reg.NW_CH_TXCAN n + 4)] s t))
    ∧ (txEligible s n b = true → (∀ x ∈ (canOf s n).launched, x.1 ≠ b) → ∃ t, exec (.launchInstant n b) s = .next t ∧ t = { s with can := t.can }
        ∧ others t ∧ (canOf t n).launched = (canOf s n).launched ++ [(b, s.clk.tb0)]
        ∧ ∀ k : Tick, txEligible { t with clk := { t.clk with tb1 := k } } n b = true)
    ∧ (txEligible s n b = false ∨ (∃ x ∈ (canOf s n).launched, x.1 = b) → exec (.launchInstant n b) s = .next s)
    ∧ (∀ (sof : Tick) (meas : Option Nat), goes sof → tec s n ≤ 128 → rec' s n < 128 →
      ∃ t, exec (.canTxComplete n b sof meas) s = .next t ∧ out t (if rdB s (Reg.NW_CH_TXCAN n) b then 3 else 1)
        ∧ rd t (a + 12) = sof.extractLsb' 0 32 ∧ tec t n = tec s n - 1 ∧ rec' t n = rec' s n
        ∧ ld t meas ∧ t = { s with regs := t.regs, hwset := t.hwset, log := t.log, mem := t.mem, can := t.can, time := t.time } ∧ others t
        ∧ wordsKept ((Reg.NW_BRG_C0_LAT_MAX n, Reg.NW_BRG_C0_LAT_MAX n + 4) :: words) s t)
    ∧ (∀ (sof : Tick) (meas : Option Nat), goes sof →
      let lim := rdF s cfg 15 8
      let tries := tget (fun _ => 0) (canOf s n).tries b
      (rdB s (Reg.NW_CH_TXCAN n) b = true → ∃ t, exec (.canTxAttemptFail n b sof ⟨meas, true, false⟩) s = .next t ∧ out t 2
          ∧ t = { s with regs := t.regs, hwset := t.hwset, mem := t.mem, can := t.can, time := t.time } ∧ others t ∧ wordsKept words s t)
      ∧ (rdB s (Reg.NW_CH_TXCAN n) b = false →
        exec (.canTxAttemptFail n b sof ⟨meas, true, false⟩) s = .next s
        ∧ (lim = 0 ∨ tries + 1 < lim → ∃ t, exec (.canTxAttemptFail n b sof ⟨meas, false, false⟩) s = .next t ∧ ld t meas
            ∧ t = { s with regs := t.regs, can := t.can } ∧ wordsKept [(Reg.NW_CH_LDV n, Reg.NW_CH_LDV n + 4)] s t ∧ others t
            ∧ tget (fun _ => 0) (canOf t n).tries b = tries + 1)
        ∧ (lim ≠ 0 → lim ≤ tries + 1 → ∃ t, exec (.canTxAttemptFail n b sof ⟨meas, false, false⟩) s = .next t ∧ out t 4 ∧ ld t meas ∧ rd t (a + 12) = 0
            ∧ raisedEvent 0x0704 7 (w32 (n + b * 256)) (w32 f.id) t
            ∧ t = { s with regs := t.regs, hwset := t.hwset, mem := t.mem, can := t.can, time := t.time, log := t.log } ∧ others t ∧ wordsKept words s t)
        ∧ (∀ k1 k2 : Tick, lim = 0 → f.fmt = .ext → (canOf s n).bitErrs = [(k1, f.id), (k2, f.id)] → (s.clk.tb0 - k1).toNat ≤ secTicks → (s.clk.tb0 - k2).toNat ≤ secTicks →
            inClash s = false → ∃ t, exec (.canTxAttemptFail n b sof ⟨meas, false, true⟩) s = .next t ∧ (∀ m, m < 8 → rdB t (Reg.NW_CH_STAT m) 17 = true)
              ∧ raisedEvent 0x0705 7 (w32 (n + 512)) (w32 f.id) t)))

/-- R336, R337, R340, R344 (TSW) and R356 to R358. The steps of ISO 11898-1 by rule: receiver error +1, after its flag +8, transmitter +8, an exception none. -/
def Obligations.ErrorConfinementAndRecovery : Prop :=
  (∀ (n : Nat) (s : State), n < 8 →
    let cfg := Reg.NW_CH_CFG n
    let blk := (cfg, cfg + 0x1000)
    let mode : Nat := if rdF s cfg 30 29 = 0 then 2 else if rdF s cfg 30 29 = 1 then 3
      else if rdB s (Reg.NW_CH_STAT n) 18 then (if rdB s (Reg.NW_CH_RD n) 31 then 2 else 3) else 4
    let chk : Nat → Nat → Nat := fun t r => if 255 < t then 2 else if 128 ≤ t ∨ 128 ≤ r then 1 else 0
    (∀ (lec : Nat) (rule : CanErrRule), lec < 8 → errst s n ≠ 2 →
      let go := Instr.canErrorFrame n lec [rule]
      let t' := min 511 (tec s n + (if rule = .txFlag ∨ rule = .txInFlag then 8 else 0))
      let r' := min 128 (rec' s n + (if rule = .rxError then 1 else if rule = .rxAfterFlag then 8 else 0))
      (opst s n = 2 → rule ≠ .exempt → ∃ t, exec go s = .next t ∧ tec t n = t' ∧ rec' t n = r' ∧ errst t n = chk t' r' ∧ rdF t (Reg.NW_CH_STAT n) 10 8 = lec
        ∧ rdF t (Reg.NW_CH_ERR_CNT n) 30 0 = min 0x7FFFFFFF (rdF s (Reg.NW_CH_ERR_CNT n) 30 0 + 1)
        ∧ (chk t' r' ≠ errst s n → raisedEvent 0x0701 7 (w32 (n + chk t' r' * 256)) (w32 (t' * 0x10000 + r')) t
            ∧ rdB t (Reg.NW_CH_IR n) (if chk t' r' = 2 then 9 else 8) = true)
        ∧ (chk t' r' = 2 → opst t n = (if rdB s cfg 23 then 6 else 5) ∧ rdF t (Reg.NW_CH_BO_CNT n) 30 0 = min 0x7FFFFFFF (rdF s (Reg.NW_CH_BO_CNT n) 30 0 + 1)
            ∧ ∀ b, b < 32 → rdB t (Reg.NW_CH_TXPEND n) b = (rdB s (Reg.NW_CH_TXPEND n) b && !rdB s (Reg.NW_CH_TXCAN n) b))
        ∧ (chk t' r' ≠ 2 → opst t n = (if rdB s cfg 25 then 1 else 2) ∧ t = { s with regs := t.regs, hwset := t.hwset, log := t.log } ∧ wordsKept [blk] s t))
      ∧ (opst s n = 3 → ∃ t, exec go s = .next t ∧ rd t (Reg.NW_CH_ECNT n) = rd s (Reg.NW_CH_ECNT n) ∧ rdF t (Reg.NW_CH_STAT n) 10 8 = lec
        ∧ t = { s with regs := t.regs, hwset := t.hwset, log := t.log } ∧ wordsKept [(Reg.NW_CH_ERR_CNT n, Reg.NW_CH_ERR_CNT n + 4), (Reg.NW_CH_STAT n, Reg.NW_CH_STAT n + 4)] s t)
      ∧ (opst s n ≠ 2 → opst s n ≠ 3 → opst s n ≠ 4 → exec go s = .next s))
    ∧ (∀ (lec : Nat) (rules : List CanErrRule), lec < 8 → opst s n = 2 → ∃ t, exec (.canErrorFrame n lec rules) s = .next t
        ∧ rdF t (Reg.NW_CH_ERR_CNT n) 30 0 = min 0x7FFFFFFF (rdF s (Reg.NW_CH_ERR_CNT n) 30 0 + 1) ∧ rdF t (Reg.NW_CH_STAT n) 10 8 = lec
        ∧ (tec s n < 512 → rec' s n ≤ 128 →
          tec t n = rules.foldl (fun x r => min 511 (x + if r = .txFlag ∨ r = .txInFlag then 8 else 0)) (tec s n)
          ∧ rec' t n = rules.foldl (fun x r => min 128 (x + if r = .rxError then 1 else if r = .rxAfterFlag then 8 else 0)) (rec' s n)))
    ∧ (∀ id : Nat, opst s n = 2 ∨ opst s n = 3 →
      (rdB s cfg 24 = false → ∃ t, exec (.canProtocolExc n id) s = .next t ∧ opst t n = 1 ∧ raisedEvent 0x0707 7 (w32 n) (w32 id) t
        ∧ t = { s with regs := t.regs, hwset := t.hwset, log := t.log } ∧ wordsKept [(Reg.NW_CH_STAT n, Reg.NW_CH_STAT n + 4)] s t)
      ∧ (rdB s cfg 24 = true → exec (.canProtocolExc n id) s = exec (.canErrorFrame n 2 [.rxError]) s))
    ∧ (opst s n = 1 → ∃ t, exec (.busIntegration n) s = .next t ∧ opst t n = mode ∧ t = { s with regs := t.regs, hwset := t.hwset }
        ∧ wordsKept [(Reg.NW_CH_STAT n, Reg.NW_CH_STAT n + 4)] s t)
    ∧ (opst s n ≠ 1 → exec (.busIntegration n) s = .next s)
    ∧ (opst s n = 6 → ∃ t, exec (.canRecoveryDone n) s = .next t ∧ rd t (Reg.NW_CH_ECNT n) = 0 ∧ errst t n = 0 ∧ opst t n = mode
        ∧ rdB t (Reg.NW_CH_IR n) 9 = true ∧ raisedEvent 0x0701 7 (w32 n) 0 t ∧ t = { s with regs := t.regs, hwset := t.hwset, log := t.log }
        ∧ wordsKept [(Reg.NW_CH_STAT n, Reg.NW_CH_ECNT n + 4), (Reg.NW_CH_IR n, Reg.NW_CH_IR n + 4)] s t)
    ∧ (opst s n ≠ 6 → exec (.canRecoveryDone n) s = .next s)
    ∧ ∀ p : PortId, mayWrite p (Reg.NW_CH_CTRL n) s →
      (opst s n = 5 → ∃ t, exec (.canRecover p n) s = .next t ∧ opst t n = 6 ∧ t = { s with regs := t.regs, hwset := t.hwset, port := t.port }
        ∧ wordsKept [(Reg.NW_CH_STAT n, Reg.NW_CH_STAT n + 4)] s t)
      ∧ (opst s n ≠ 5 → ∃ t, exec (.canRecover p n) s = .next t ∧ rdF t Reg.SV_VIOL_INFO 19 16 = 7 ∧ t = { s with regs := t.regs, hwset := t.hwset, log := t.log }))
  ∧ ∀ s : State, s.clk.tb1.getLsbD 31 = false → ∃ t, exec .tb1Wrap s = .next t ∧ t = { s with regs := t.regs, hwset := t.hwset }
      ∧ (∀ n, n < 8 → rdB t (Reg.NW_CH_IR n) 10 = (rdB s (Reg.NW_CH_IR n) 10 || chanOn s n))
      ∧ wordsKept ((List.range 8).map fun n => (Reg.NW_CH_IR n, Reg.NW_CH_IR n + 4)) s t

/-- R341, R347 and R350. The loading is shown for a channel whose filters take the frame nowhere. -/
def Obligations.RateDetectionAndReleases : Prop :=
  ∀ (n : Nat) (s : State), n < 8 →
    let stat := Reg.NW_CH_STAT n
    let k := rdF s stat 23 20
    (∀ d, 1 ≤ d → d ≤ 16 → rd s (Reg.NW_CH_RATE_N n ((k + d) % 16)) ≠ 0 → (∀ e, 1 ≤ e → e < d → rd s (Reg.NW_CH_RATE_N n ((k + e) % 16)) = 0) →
      let moves : State → Prop := fun t => rdF t stat 23 20 = (k + d) % 16 ∧ opst t n = opst s n ∧ (canOf t n).rdConf = 0 ∧ (canOf t n).rdDwell = s.clk.tb0
        ∧ (16 ≤ k + d → raisedEvent 0x0702 7 (w32 (n + k * 0x100000)) 0 t ∧ rdB t (Reg.NW_CH_IR n) 12 = true)
        ∧ t = { s with regs := t.regs, hwset := t.hwset, log := t.log, can := t.can } ∧ (∀ m, m ≠ n → canOf t m = canOf s m)
      (detecting s n = true → rdF s (Reg.NW_CH_RD n) 15 0 * 100000 ≤ (s.clk.tb0 - (canOf s n).rdDwell).toNat → ∃ t, exec (.rateDwellTimeout n) s = .next t ∧ moves t
          ∧ wordsKept [(stat, stat + 4), (Reg.NW_CH_IR n, Reg.NW_CH_IR n + 4)] s t)
      ∧ (opst s n = 4 → ∀ lec rules, lec < 8 → ∃ t, exec (.canErrorFrame n lec rules) s = .next t ∧ moves t ∧ rd t (Reg.NW_CH_ECNT n) = rd s (Reg.NW_CH_ECNT n))
      ∧ (opst s n = 4 → ∀ id, rdB s (Reg.NW_CH_CFG n) 24 = false → ∃ t, exec (.canProtocolExc n id) s = .next t ∧ rdF t stat 23 20 = (k + d) % 16
          ∧ opst t n = 1 ∧ (canOf t n).rdDwell = s.clk.tb0 ∧ raisedEvent 0x0707 7 (w32 n) (w32 id) t)
      ∧ (opst s n = 4 → ∀ f sof slow, chanOn s n = true → takesFmt s n f = true → f.brs = true → rd s (Reg.NW_CH_RATE_D n k) = 0 →
          ∃ t, exec (.canFrameRx n f sof slow) s = .next t ∧ moves t))
    ∧ (detecting s n = false ∨ (s.clk.tb0 - (canOf s n).rdDwell).toNat < rdF s (Reg.NW_CH_RD n) 15 0 * 100000 → exec (.rateDwellTimeout n) s = .next s)
    ∧ (∀ f sof slow, opst s n = 4 → chanOn s n = true → takesFmt s n f = true → f.fmt ≠ .xl → (f.brs = true → rd s (Reg.NW_CH_RATE_D n k) ≠ 0) →
        ownSource s f = false → f.rtr = false → rdF s (Reg.NW_CH_FLT n) 26 16 = 0 → rdF s (Reg.NW_CH_RXCFG n) 31 29 = 0 →
      (rdF s (Reg.NW_CH_RD n) 19 16 ≤ (canOf s n).rdConf + 1 → ∃ t, exec (.canFrameRx n f sof slow) s = .next t
          ∧ rd t (Reg.NW_CH_NBT n) = rd s (Reg.NW_CH_RATE_N n k) ∧ rd t (Reg.NW_CH_DBT n) = rd s (Reg.NW_CH_RATE_D n k) ∧ rdB t stat 18 = true
          ∧ rdF t stat 23 20 = k ∧ opst t n = (if rdB s (Reg.NW_CH_RD n) 31 then 2 else 3) ∧ rdB t (Reg.NW_CH_IR n) 12 = true
          ∧ raisedEvent 0x0702 7 (w32 (n + 0x10000 + k * 0x100000)) 0 t ∧ t = { s with regs := t.regs, hwset := t.hwset, log := t.log, can := t.can })
      ∧ ((canOf s n).rdConf + 1 < rdF s (Reg.NW_CH_RD n) 19 16 → ∃ t, exec (.canFrameRx n f sof slow) s = .next t
          ∧ (canOf t n).rdConf = (canOf s n).rdConf + 1 ∧ opst t n = 4 ∧ t = { s with regs := t.regs, hwset := t.hwset, log := t.log, can := t.can }))
    ∧ (∀ p : PortId, mayWrite p (Reg.NW_CH_CTRL n) s →
      (rdF s (Reg.NW_CH_CFG n) 30 29 ≠ 2 → ∃ t, exec (.rdRestart p n) s = .next t ∧ rdF t Reg.SV_VIOL_INFO 19 16 = 7 ∧ t = { s with regs := t.regs, hwset := t.hwset, log := t.log })
      ∧ ∀ d, d < 16 → rdF s (Reg.NW_CH_CFG n) 30 29 = 2 → rd s (Reg.NW_CH_RATE_N n d) ≠ 0 → (∀ e, e < d → rd s (Reg.NW_CH_RATE_N n e) = 0) →
        ∃ t, exec (.rdRestart p n) s = .next t ∧ opst t n = (if opst s n = 1 ∨ opst s n = 5 ∨ opst s n = 6 then opst s n else 4) ∧ rdB t stat 18 = false ∧ rdF t stat 23 20 = d ∧ (canOf t n).rdConf = 0
          ∧ t = { s with regs := t.regs, hwset := t.hwset, can := t.can, port := t.port } ∧ wordsKept [(stat, stat + 4)] s t)
    ∧ (∀ (p : PortId) (q c : Nat), q < 2 →
      let rel := if q = 0 then Reg.NW_CH_Q0_REL n else Reg.NW_CH_Q1_REL n
      let st := if q = 0 then Reg.NW_CH_Q0_STAT n else Reg.NW_CH_Q1_STAT n
      mayWrite p rel s →
      (1 ≤ c → c ≤ rdF s st 6 0 → rdF s st 6 0 ≤ 64 → (p ≠ .runtime ↔ rdB s (Reg.NW_CH_RXCFG n) (8 + q) = true) →
        ∃ t, exec (.qRel p n q c) s = .next t ∧ rdF t st 6 0 = rdF s st 6 0 - c ∧ rdF t st 15 10 = (rdF s st 15 10 + c) % 64
          ∧ rdF t st 23 18 = rdF s st 23 18 ∧ t = { s with regs := t.regs, hwset := t.hwset, port := t.port } ∧ wordsKept [(st, st + 4)] s t)
      ∧ ((c = 0 ∨ rdF s st 6 0 < c) → (p ≠ .runtime ↔ rdB s (Reg.NW_CH_RXCFG n) (8 + q) = true) →
        ∃ t, exec (.qRel p n q c) s = .next t ∧ rdF t Reg.SV_VIOL_INFO 19 16 = 7 ∧ t = { s with regs := t.regs, hwset := t.hwset, log := t.log })
      ∧ (p ≠ .runtime → rdB s (Reg.NW_CH_RXCFG n) (8 + q) = false →
        ∃ t, exec (.qRel p n q c) s = .next t ∧ rdF t Reg.SV_VIOL_INFO 19 16 = 4 ∧ t = { s with regs := t.regs, hwset := t.hwset, log := t.log }))
    ∧ (∀ (p : PortId) (m : Nat), mayWrite p (Reg.NW_CH_C0S n) s → (p ≠ .runtime ↔ rdB s (Reg.NW_CH_RXCFG n) 10 = true) →
      ∃ t, exec (.c0sRelease p n m) s = .next t ∧ rd t (Reg.NW_CH_C0S n) = rd s (Reg.NW_CH_C0S n) &&& ~~~ (w32 m &&& ~~~ hwBits s (Reg.NW_CH_C0S n))
        ∧ t = { s with regs := t.regs, hwset := t.hwset, port := t.port } ∧ wordsKept [(Reg.NW_CH_C0S n, Reg.NW_CH_C0S n + 4)] s t)
    ∧ (∀ p : PortId, mayWrite p (Reg.NW_CH_XLS n) s → (p ≠ .runtime ↔ rdB s (Reg.NW_CH_RXCFG n) 8 = true) →
      ∃ t, exec (.xlRxRelease p n) s = .next t ∧ rdB t (Reg.NW_CH_XLS n) 0 = bit (hwBits s (Reg.NW_CH_XLS n)) 0
        ∧ t = { s with regs := t.regs, hwset := t.hwset, port := t.port } ∧ wordsKept [(Reg.NW_CH_XLS n, Reg.NW_CH_XLS n + 4)] s t)

/-- R378 to R383 for a route with one output and for LOCAL alone; the frame is not an XL frame where it is sent, and the round robin stands on a branch that is served. -/
def Obligations.BridgeRoutesAndForwards : Prop :=
  (∀ (n e i o : Nat) (f : CanFrame) (sof : Tick) (slow : Bool) (s : State), n < 8 → o < 8 → o ≠ n → i < 2048 → chanOn s n = true → opst s n = 2 →
    takesFmt s n f = true → rec' s n < 128 → tec s n < 128 → errst s n = 0 → f.id < 2 ^ 29 → f.fmt ≠ .xl → f.rtr = false → ownSource s f = false →
    filtFirst s n f = some (e, 5) → isAccess s f = false → (f.fmt = .base → f.id < 0x100 ∨ 0x2FF < f.id) →
    (f.fmt = .ext → keyObj f.id ≠ 0x7E01 ∧ keyObj f.id ≠ 0x7E02) → rdB s Reg.NW_BRG_CFG 31 = true → hierErr s = false →
    let go := Instr.canFrameRx n f sof slow
    let key := frameKey f
    let cls := frameClass f
    let blk := (Reg.NW_CH_CFG n, Reg.NW_CH_CFG n + 0x1000)
    let hit : Nat → Prop := fun j =>
      let w0 := rd s (routeAddr j)
      bit w0 31 = true ∧ bit w0 (24 + cls) = true ∧ bit w0 (16 + n) = true
        ∧ rdF s (routeAddr j + 4) 11 0 ≤ key / 2 ^ 15 % 4096 ∧ key / 2 ^ 15 % 4096 ≤ rdF s (routeAddr j + 4) 27 16
        ∧ rdF s (routeAddr j + 8) 14 0 ≤ key % 2 ^ 15 ∧ key % 2 ^ 15 ≤ rdF s (routeAddr j + 8) 30 16
    let x : BrgFrame := { frame := f, out := o, arr := n, cls := cls, rx0 := s.clk.tb0 }
    let used : State → Prop := fun t => rdF t Reg.NW_BRG_STAT 9 0 = t.net.store.length % 1024
    let usedW := (Reg.NW_BRG_STAT, Reg.NW_BRG_STAT + 4)
    ((∀ j, j < 2048 → ¬ hit j) → ∃ t, exec go s = .next t ∧ rdF t Reg.NW_BRG_NOROUTE_CNT 30 0 = min 0x7FFFFFFF (rdF s Reg.NW_BRG_NOROUTE_CNT 30 0 + 1)
        ∧ t = { s with regs := t.regs, hwset := t.hwset, log := t.log } ∧ wordsKept [blk, (Reg.NW_BRG_NOROUTE_CNT, Reg.NW_BRG_NOROUTE_CNT + 4)] s t)
    ∧ (hit i → (∀ j, j < i → ¬ hit j) →
      (rdF s (routeAddr i) 15 8 = 2 ^ o → rdB s (routeAddr i) 7 = false →
        (64 < f.data.length → ∃ t, exec go s = .next t ∧ rdF t (Reg.NW_BRG_DROP_CNT o) 30 0 = min 0x7FFFFFFF (rdF s (Reg.NW_BRG_DROP_CNT o) 30 0 + 1)
          ∧ t = { s with regs := t.regs, hwset := t.hwset, log := t.log } ∧ wordsKept [blk, (Reg.NW_BRG_DROP_CNT o, Reg.NW_BRG_DROP_CNT o + 4)] s t)
        ∧ (f.data.length ≤ 64 → cls = 0 → s.net.store = [] → 1 ≤ rdF s Reg.NW_BRG_QLIM 23 16 → outOk s o = true →
          ∀ b, b < 4 → txPending s o b = false → (∀ j, j < b → txPending s o j = true) →
          let a := elemAddr o b
          ∃ t, exec go s = .next t ∧ txPending t o b = true ∧ rdF t a 28 0 = f.id ∧ rdB t a 29 = decide (f.fmt = .ext) ∧ rdF t (a + 4) 31 28 = frameDlc f
            ∧ rdB t (a + 4) 25 = false ∧ (∀ j, j < f.data.length → memByte t (a + 16 + j) = f.data.getD j 0) ∧ t.net.store = [] ∧ used t
            ∧ t = { s with regs := t.regs, hwset := t.hwset, mem := t.mem, can := t.can, log := t.log } ∧ (∀ m, m ≠ o → canOf t m = canOf s m)
            ∧ wordsKept [blk, usedW, (Reg.NW_CH_TXREQ o, Reg.NW_CH_TXPEND o + 4), (a, a + 80)] s t)
        ∧ (f.data.length ≤ 64 → cls = 0 → (∀ b, b < 4 → txPending s o b = true) → s.net.store.length < 512 → (∀ y ∈ s.net.store, y.frame.fmt ≠ .xl) →
          ((brgQueue s o 0 none).length < rdF s Reg.NW_BRG_QLIM 23 16 →
            ∃ t, exec go s = .next t ∧ t.net = { s.net with store := s.net.store ++ [x] } ∧ used t
              ∧ t = { s with regs := t.regs, hwset := t.hwset, net := t.net } ∧ wordsKept [blk, usedW] s t)
          ∧ ∀ old r, brgQueue s o 0 none = old :: r → rdF s Reg.NW_BRG_QLIM 23 16 ≤ (brgQueue s o 0 none).length →
            ∃ t, exec go s = .next t ∧ t.net = { s.net with store := s.net.store.erase old ++ [x] } ∧ used t
              ∧ rdF t (Reg.NW_BRG_C0_DROP_CNT o) 30 0 = min 0x7FFFFFFF (rdF s (Reg.NW_BRG_C0_DROP_CNT o) 30 0 + 1)
              ∧ raisedEvent 0x0806 7 (w32 o) (w32 old.frame.id) t ∧ t = { s with regs := t.regs, hwset := t.hwset, net := t.net, log := t.log })
        ∧ (f.data.length ≤ 64 → cls ≠ 0 → outOk s o = false → s.net.store.length < 512 →
          ((brgQueue s o cls (some n)).length < rdF s Reg.NW_BRG_QLIM 7 0 →
            ∃ t, exec go s = .next t ∧ t.net = { s.net with store := s.net.store ++ [x] } ∧ used t
              ∧ t = { s with regs := t.regs, hwset := t.hwset, net := t.net } ∧ wordsKept [blk, usedW] s t)
          ∧ (rdF s Reg.NW_BRG_QLIM 7 0 ≤ (brgQueue s o cls (some n)).length →
            ∃ t, exec go s = .next t ∧ rdF t (Reg.NW_BRG_DROP_CNT o) 30 0 = min 0x7FFFFFFF (rdF s (Reg.NW_BRG_DROP_CNT o) 30 0 + 1)
              ∧ t = { s with regs := t.regs, hwset := t.hwset, log := t.log })))
      ∧ (rdF s (routeAddr i) 15 8 = 0 → rdB s (routeAddr i) 7 = true → rdF s (Reg.NW_CH_Q0_STAT n) 6 0 < 64 →
          (∀ j, j < 256 → impMatch s j n (keySrc key) (keyObj key) = false) →
        ∃ t, exec go s = .next t ∧ rdF t (Reg.NW_CH_Q0_STAT n) 6 0 = rdF s (Reg.NW_CH_Q0_STAT n) 6 0 + 1
          ∧ rdF t (elemAddr n (32 + rdF s (Reg.NW_CH_Q0_STAT n) 23 18)) 28 0 = f.id
          ∧ t = { s with regs := t.regs, hwset := t.hwset, mem := t.mem, can := t.can })))
  ∧ ∀ (o : Nat) (s : State), o < 8 →
    let go := Instr.bridgeForward o
    let loads : BrgFrame → Nat → State → Prop := fun x b t =>
      let a := elemAddr o b
      txPending t o b = true ∧ rdF t a 28 0 = x.frame.id ∧ (∀ j, j < x.frame.data.length → memByte t (a + 16 + j) = x.frame.data.getD j 0)
        ∧ t.net.store = s.net.store.erase x ∧ t = { s with regs := t.regs, hwset := t.hwset, mem := t.mem, can := t.can, net := t.net }
        ∧ (∀ m, m ≠ o → canOf t m = canOf s m)
        ∧ wordsKept [(Reg.NW_BRG_STAT, Reg.NW_BRG_STAT + 4), (Reg.NW_CH_TXREQ o, Reg.NW_CH_TXPEND o + 4), (a, a + 80)] s t
    let fits : BrgFrame → Prop := fun x => x.frame.fmt ≠ .xl ∧ x.frame.id < 2 ^ 29 ∧ x.frame.data.length ≤ 64
    (∀ x b, outOk s o = true → 2 ≤ (canOf s o).fwd.length → x ∈ s.net.store → x.out = o → x.cls = 0 → fits x →
        (∀ y ∈ s.net.store, y.out = o → y.cls = 0 → y = x ∨ arbRank x.frame < arbRank y.frame) →
        b < 4 → txPending s o b = false → (∀ j, j < b → txPending s o j = true) → ∃ t, exec go s = .next t ∧ loads x b t ∧ t.net.drr = s.net.drr)
    ∧ (brgQueue s o 0 none = [] →
      (outOk s o = false ∨ 2 ≤ (canOf s o).fwd.length → exec go s = .next s)
      ∧ ∀ c x q b, outOk s o = true → (canOf s o).fwd.length < 2 → 1 ≤ c → c ≤ 3 → (∀ k, 1 ≤ k → k < c → brgQueue s o k none = []) →
        let r := tget drrInit s.net.drr (o * 4 + c)
        let quantum := if r.cur ∈ r.visited then 0 else rdF s Reg.NW_BRG_CFG 15 0 * max (rdF s (Reg.NW_BRG_ACTIVE r.cur) 15 0) 1
        let dc := tget (fun _ => 0) r.dc r.cur + quantum
        brgQueue s o c (some r.cur) = x :: q → fits x → x.frame.data.length + 16 ≤ dc →
        4 ≤ b → b ≤ devBufHi s o → txPending s o b = false → (∀ j, 4 ≤ j → j < b → txPending s o j = true) →
        ∃ t, exec go s = .next t ∧ loads x b t ∧ (canOf t o).fwd = (canOf s o).fwd ++ [b]
          ∧ (tget drrInit t.net.drr (o * 4 + c)).cur = r.cur ∧ r.cur ∈ (tget drrInit t.net.drr (o * 4 + c)).visited
          ∧ tget (fun _ => 0) (tget drrInit t.net.drr (o * 4 + c)).dc r.cur = dc - (x.frame.data.length + 16))

/-- R368 to R373, R365 (the pool) and R383 (a binding that moves). STATUS: 0 PREFERRED, 1 NEW, 2 FULL, 3 POOL, 4 DEPTH. -/
def Obligations.JoinsAreRequestedAndGranted : Prop :=
  (∀ s : State,
    let u := upCh s
    let tag : Nat → Nat := fun j => (crc8 (beBytes 8 (serial s) ++ beBytes 1 j))
    let sends : State → Nat → Nat → Prop := fun t j k =>
      (chanOn s u = false ∨ (∀ b, 4 ≤ b → b ≤ devBufHi s u → txPending s u b = true) →
        t.net.join = some { j := j, k := k, due := s.clk.tb0, sent := false } ∧ rd t Reg.NW_HIER_JOIN_CNT = rd s Reg.NW_HIER_JOIN_CNT)
      ∧ (∀ b, chanOn s u = true → 4 ≤ b → b ≤ devBufHi s u → txPending s u b = false → (∀ i, 4 ≤ i → i < b → txPending s u i = true) →
          t.net.join = some { j := j, k := k, sent := true, due := s.clk.tb0 + BitVec.ofNat 64 (10000000 + min (2 ^ min (k + 1) 3) 8 * 100000000 + tag j * 100000) }
          ∧ rdF t Reg.NW_HIER_JOIN_CNT 30 0 = min 0x7FFFFFFF (rdF s Reg.NW_HIER_JOIN_CNT 30 0 + 1)
          ∧ txPending t u b = true ∧ (txFrame t u b).fmt = .base ∧ (txFrame t u b).fdf = true ∧ (txFrame t u b).id = 0x200 + tag j
          ∧ (txFrame t u b).data = beBytes 8 (serial s) ++ beBytes 2 ((ownAddr s).getD 0xFFFF)
              ++ [BitVec.ofNat 8 (b2n (inClash s) + 2 * b2n (decide (rdF s Reg.NW_HIER_CFG 31 30 = 1))), BitVec.ofNat 8 j]
              ++ beBytes 2 (if inClash s then rdF s Reg.NW_HIER_ADDR 11 0 else 0xFFFF) ++ [0, 0])
      ∧ t = { s with regs := t.regs, hwset := t.hwset, mem := t.mem, can := t.can, log := t.log, net := t.net, port := t.port } ∧ t.net = { s.net with join := t.net.join }
    (hierErr s = false → isRoot s = false →
      (devState s = 2 ∨ devState s = 3 ∨ devState s = 4 → s.net.join = none →
        rdF s Reg.NW_HIER_STAT 2 0 = 0 ∨ rdF s Reg.NW_HIER_STAT 2 0 = 3 →
        ∃ t, exec .joinStart s = .next t ∧ sends t 0 0 ∧ rdF t Reg.NW_HIER_STAT 2 0 = if inClash s then 3 else 1)
      ∧ (∀ p : PortId, mayWrite p Reg.NW_HIER_CTRL s → ∃ t, exec (.hierRejoin p) s = .next t ∧ sends t 0 0
          ∧ rdF t Reg.NW_HIER_STAT 2 0 = if inClash s then 3 else 1))
    ∧ (∀ p : PortId, isRoot s = true → mayWrite p Reg.NW_HIER_CTRL s →
        ∃ t, exec (.hierRejoin p) s = .next t ∧ rdF t Reg.SV_VIOL_INFO 19 16 = 7 ∧ t = { s with regs := t.regs, hwset := t.hwset, log := t.log })
    ∧ (∀ x, s.net.join = some x → (reached s.clk.tb0 x.due = true → ∃ t, exec .joinRetry s = .next t ∧ if x.sent then sends t ((x.j + 1) % 256) (x.k + 1) else sends t x.j x.k)
        ∧ (reached s.clk.tb0 x.due = false → exec .joinRetry s = .next s))
    ∧ (∀ (src : Nat) (data : List Byte), src < 4096 → isRoot s = false → s.net.join.isSome = true → beAt data 0 8 = serial s →
      let addr := beAt data 8 2 % 4096
      let st := (byteAt data 10).toNat
      let dep := (byteAt data 11).toNat
      let go := Instr.joinAckRx u src data
      (st ≤ 1 → ∃ t, exec go s = .next t ∧ rd t Reg.NW_HIER_ADDR = w32 (0x80000000 + src * 0x10000 + addr) ∧ inClash t = false
          ∧ rdF t Reg.NW_HIER_STAT 2 0 = 2 ∧ rdF t Reg.NW_HIER_STAT 10 8 = dep % 8 ∧ rdF t Reg.NW_SYN_MASTER 11 0 = src ∧ t.net = { s.net with join := none }
          ∧ raisedEvent 0x0801 7 (w32 (src * 0x10000 + addr)) (w32 (st + dep * 256)) t
          ∧ (st = 1 → ∀ m b, m < 8 → b < 32 → txPending s m b = true → (txFrame s m b).fmt = .ext →
              keySrc (txFrame s m b).id = rdF s Reg.NW_HIER_ADDR 11 0 → txPending t m b = false)
          ∧ (st = 0 → t = { s with regs := t.regs, hwset := t.hwset, log := t.log, net := t.net, upd := t.upd }))
      ∧ (2 ≤ st → ∃ t, exec go s = .next t ∧ rdF t Reg.NW_HIER_STAT 2 0 = 5 ∧ t = { s with regs := t.regs, hwset := t.hwset }
          ∧ wordsKept [(Reg.NW_HIER_STAT, Reg.NW_HIER_STAT + 4)] s t))
    ∧ (∀ n src data, n < 8 → n ≠ u ∨ s.net.join = none ∨ beAt data 0 8 ≠ serial s → exec (.joinAckRx n src data) s = .next s)
    ∧ (∀ (p : PortId) (w : Word), mayWrite p Reg.NW_HIER_ADDR s → ∃ t, exec (.hierAddrWrite p w) s = .next t ∧ rd t Reg.NW_HIER_ADDR = w &&& 0x8FFF0FFF
        ∧ inClash t = false ∧ t = { s with regs := t.regs, hwset := t.hwset, upd := t.upd, port := t.port })
    ∧ (∀ (p : PortId), mayWrite p Reg.NW_HIER_CTRL s →
      let k := rdF s Reg.NW_HIER_BIND_IDX 8 0
      let busy : Nat → Prop := fun a => ∃ x ∈ s.net.proxies, rdF s (Reg.NW_HIER_PROXY x.1) 11 0 = a
      ((∀ y ∈ s.net.bindings, y.1 ≠ k) → ∃ t, exec (.hierFree p) s = .next t ∧ t = { s with port := t.port })
      ∧ ∀ y r, s.net.bindings = (k, y) :: r → (∀ z ∈ r, z.1 ≠ k) →
        (busy y.addr → ∃ t, exec (.hierFree p) s = .next t ∧ rdF t Reg.SV_VIOL_INFO 19 16 = 7 ∧ t = { s with regs := t.regs, hwset := t.hwset, log := t.log })
        ∧ (¬ busy y.addr → ∃ t, exec (.hierFree p) s = .next t ∧ t.net = { s.net with bindings := r } ∧ t = { s with net := t.net, upd := t.upd, port := t.port })))
  ∧ ∀ (n : Nat) (data : List Byte) (s : State), n < 8 → isManager s = true → isDown s n = true → hierErr s = false → maySendOwn s = true →
      (byteAt data 10).toNat % 2 = 0 → s.net.proxies = [] →
    let ser := beAt data 0 8
    let pref := beAt data 8 2
    let lo := rdF s Reg.NW_HIER_BLOCK 11 0
    let hi := rdF s Reg.NW_HIER_POOL 11 0
    let go := Instr.joinReqRx n data
    let mgr := (byteAt data 10).toNat / 2 % 2 = 1
    let bound : Nat → Prop := fun a => ∃ y ∈ s.net.bindings, y.2.addr = a
    let known : Prop := ∃ y ∈ s.net.bindings, y.2.serial = ser
    let full : Prop := 62 ≤ (s.net.bindings.filter fun y => decide (y.2.ch = n)).length
    let acks : State → Nat → Nat → Prop := fun t addr st => ∀ b, 4 ≤ b → b ≤ devBufHi s n → txPending s n b = false → (∀ i, 4 ≤ i → i < b → txPending s n i = true) →
      txPending t n b = true ∧ (txFrame t n b).fmt = .ext ∧ (txFrame t n b).id = 2 ^ 27 + ((ownAddr s).getD 0) * 2 ^ 15 + 0x7E01
        ∧ (txFrame t n b).data = beBytes 8 ser ++ beBytes 2 addr ++ beBytes 1 st ++ beBytes 1 (segDepth s) ++ [0, 0, 0, 0]
    let frame : State → Prop := fun t => t = { s with regs := t.regs, hwset := t.hwset, mem := t.mem, can := t.can, log := t.log, net := t.net, upd := t.upd }
    let grants : State → Nat → Prop := fun t a => acks t a (if a = pref then 0 else 1) ∧ raisedEvent 0x0803 7 (w32 (n * 0x1000000 + a)) (w32 (ser % 2 ^ 32)) t ∧ frame t
    let refuses : Nat → Prop := fun st => ∃ t, exec go s = .next t ∧ acks t 0xFFFF st ∧ raisedEvent 0x0802 7 (w32 (n * 0x1000000 + st)) (w32 (ser % 2 ^ 32)) t
      ∧ frame t ∧ t.net = s.net
    (full → (∀ y ∈ s.net.bindings, y.2.ch = n → y.2.serial ≠ ser) → refuses 2)
    ∧ (¬ full → mgr → 4 ≤ segDepth s → refuses 4)
    ∧ (¬ full → ¬ mgr →
      (∀ k y, (k, y) ∈ s.net.bindings → y.serial = ser → (∀ z ∈ s.net.bindings, z.2.serial = ser → z = (k, y)) → y.ch = n →
        ∃ t, exec go s = .next t ∧ grants t y.addr ∧ t.net = s.net)
      ∧ (∀ k y r, s.net.bindings = (k, y) :: r → y.serial = ser → (∀ z ∈ r, z.1 ≠ k) → y.ch ≠ n →
        ∃ t, exec go s = .next t ∧ grants t y.addr ∧ t.net = { s.net with bindings := (k, { y with ch := n }) :: r })
      ∧ (¬ known → ∀ k, k < 512 → (∀ y ∈ s.net.bindings, y.1 ≠ k) → (∀ i, i < k → ∃ y ∈ s.net.bindings, y.1 = i) →
        (lo ≤ pref → pref ≤ hi → ¬ bound pref →
          ∃ t, exec go s = .next t ∧ grants t pref ∧ t.net = { s.net with bindings := s.net.bindings ++ [(k, ⟨ser, pref, n⟩)] })
        ∧ (∀ a, (pref < lo ∨ hi < pref ∨ bound pref) → lo ≤ a → a ≤ hi → ¬ bound a → (∀ i, lo ≤ i → i < a → bound i) →
          ∃ t, exec go s = .next t ∧ grants t a ∧ t.net = { s.net with bindings := s.net.bindings ++ [(k, ⟨ser, a, n⟩)] })
        ∧ ((∀ a, lo ≤ a → a ≤ hi → bound a) → refuses 3)))

/-- R374 to R377. The JOIN_REQ is shown at a manager that cannot answer it, so that no grant ends the proxying (R377). -/
def Obligations.CensusAndProxying : Prop :=
  (∀ s : State,
    let u := upCh s
    let a := (ownAddr s).getD 0
    let downs := (List.range 8).filter fun n => rdB s Reg.NW_HIER_CFG (16 + n)
    let active := min 0xFFFF ((downs.map fun n => rdF s (Reg.NW_BRG_ACTIVE n) 15 0).sum
      + b2n ((List.range 8).any fun n => (canOf s n).lastOwn.any fun k => decide ((s.clk.tb0 - k).toNat ≤ 1000000000)))
    let devices := min 0xFFFF ((downs.map fun n => rdF s (Reg.NW_BRG_ACTIVE n) 31 16).sum + 1)
    let flags := b2n (decide (devState s = 4)) + b2n (decide (devState s = 2)) * 2 + b2n (decide (logState s = 2)) * 4
    (maySendOwn s = true → isRoot s = false → hierErr s = false → chanOn s u = true → s.clk.tb1.toNat % 1000000000 = a * 200000 →
      ∃ t, exec .censusSend s = .next t ∧ rd t Reg.NW_HIER_CENSUS = w32 (devices * 0x10000 + active) ∧ t.net = { s.net with censusSeq := (s.net.censusSeq + 1) % 256 }
        ∧ (∀ b, 4 ≤ b → b ≤ devBufHi s u → txPending s u b = false → (∀ i, 4 ≤ i → i < b → txPending s u i = true) →
            txPending t u b = true ∧ (txFrame t u b).fmt = .ext ∧ (txFrame t u b).id = 2 ^ 28 + a * 2 ^ 15 + 0x7E02
            ∧ (txFrame t u b).data = beBytes 2 active ++ beBytes 2 devices ++ beBytes 1 (rdF s Reg.NW_HIER_STAT 10 8) ++ beBytes 1 flags
                ++ beBytes 1 s.net.censusSeq ++ [0])
        ∧ t = { s with regs := t.regs, hwset := t.hwset, mem := t.mem, can := t.can, net := t.net } ∧ ∀ m, m ≠ u → canOf t m = canOf s m)
    ∧ (maySendOwn s = false ∨ isRoot s = true ∨ s.clk.tb1.toNat % 1000000000 ≠ a * 200000 → exec .censusSend s = .next s)
    ∧ (∀ (n src : Nat) (data : List Byte), n < 8 → isDown s n = true → hierErr s = false →
      ∃ t, exec (.censusRx n src data) s = .next t ∧ (⟨src, n, beAt data 0 2, beAt data 2 2, s.clk.tb0⟩ : CensusSrc) ∈ t.net.census
        ∧ (∀ y, ¬ (y.src = src ∧ y.ch = n) → (y ∈ t.net.census ↔ y ∈ s.net.census))
        ∧ (let l := t.net.census.filter fun y => decide (y.ch = n ∧ (s.clk.tb0 - y.at0).toNat < 2500000000)
           rd t (Reg.NW_BRG_ACTIVE n) = w32 (min 0xFFFF (l.map fun y => y.devices).sum * 0x10000 + min 0xFFFF (l.map fun y => y.active).sum))
        ∧ t = { s with regs := t.regs, hwset := t.hwset, net := t.net } ∧ t.net = { s.net with census := t.net.census }
        ∧ wordsKept [(Reg.NW_BRG_ACTIVE n, Reg.NW_BRG_ACTIVE n + 4)] s t)
    ∧ (∀ n src data, n < 8 → isDown s n = false → exec (.censusRx n src data) s = .next s)
    ∧ (∀ y r, s.net.census = y :: r → y.ch < 8 → 2500000000 ≤ (s.clk.tb0 - y.at0).toNat →
      ∃ t, exec .censusLost s = .next t ∧ t.net = { s.net with census := r } ∧ raisedEvent 0x0807 7 (w32 (y.src * 0x10000 + y.ch)) (w32 y.active) t
        ∧ t = { s with regs := t.regs, hwset := t.hwset, net := t.net, log := t.log } ∧ wordsKept [(Reg.NW_BRG_ACTIVE y.ch, Reg.NW_BRG_ACTIVE y.ch + 4)] s t)
    ∧ ((∀ y ∈ s.net.census, (s.clk.tb0 - y.at0).toNat < 2500000000) → exec .censusLost s = .next s)
    ∧ (∀ (n k : Nat) (data : List Byte), n < 8 → k < 32 → isManager s = true → isDown s n = true → hierErr s = false → maySendOwn s = false →
        (byteAt data 10).toNat % 2 = 1 → rdB s (Reg.NW_HIER_PROXY k) 31 = true → rdF s (Reg.NW_HIER_PROXY k) 11 0 = beAt data 12 2 →
        (∀ j, j < 32 → j ≠ k → rdB s (Reg.NW_HIER_PROXY j) 31 = true → rdF s (Reg.NW_HIER_PROXY j) 11 0 ≠ beAt data 12 2) → (∀ y ∈ s.net.proxies, y.1 ≠ k) →
      ∃ t, exec (.joinReqRx n data) s = .next t ∧ rdB t (Reg.NW_HIER_PROXY k) 30 = true
        ∧ t.net = { s.net with proxies := s.net.proxies ++ [(k, ⟨beAt data 0 8, s.clk.tb0, 0, []⟩)] }
        ∧ raisedEvent 0x0804 7 (w32 (beAt data 12 2 * 0x10000 + k)) (w32 (beAt data 0 8 % 2 ^ 32)) t
        ∧ t = { s with regs := t.regs, hwset := t.hwset, net := t.net, log := t.log } ∧ wordsKept [(Reg.NW_HIER_PROXY k, Reg.NW_HIER_PROXY k + 4)] s t)
    ∧ (∀ (n k : Nat) (y : ProxySt) (r : List (Nat × ProxySt)) (data : List Byte), n < 8 → k < 32 → data.length = 20 →
        isManager s = true → isDown s n = true → hierErr s = false →
        s.net.proxies = (k, y) :: r → (∀ z ∈ r, z.1 ≠ k ∧ z.2.serial % 2 ^ 32 ≠ beAt data 0 4) → y.serial % 2 ^ 32 = beAt data 0 4 →
        s.net.store = [] → 1 ≤ rdF s Reg.NW_BRG_QLIM 23 16 →
      let id := rdF s (Reg.NW_HIER_PROXY k) 11 0 * 2 ^ 15 + beAt data 4 2 % 2 ^ 15
      let served : List (Nat × ProxySt) :=
        (k, { y with last := s.clk.tb0, count := y.count + 1, same := (if y.last = s.clk.tb0 then y.same else []) ++ [(n, data)] }) :: r
      let outs : Nat → Prop := fun m => m < 8 ∧ m ≠ n ∧ rdB s (Reg.NW_HIER_PROXY k) (16 + m) = true
      ((∀ m, outs m → outOk s m = true ∧ ∃ b, b < 4 ∧ txPending s m b = false) →
        ∃ t, exec (.proxyDataRx n data) s = .next t ∧ t.net = { s.net with proxies := served }
          ∧ (∀ m b, outs m → b < 4 → txPending s m b = false → (∀ i, i < b → txPending s m i = true) →
              txPending t m b = true ∧ (txFrame t m b).fmt = .ext ∧ (txFrame t m b).id = id ∧ (txFrame t m b).data = (data.drop 6).take 12)
          ∧ t = { s with regs := t.regs, hwset := t.hwset, mem := t.mem, can := t.can, net := t.net } ∧ canOf t n = canOf s n)
      ∧ ∀ m, outs m → (∀ i, outs i → i = m) → (∀ b, b < 4 → txPending s m b = true) →
        ∃ t x, exec (.proxyDataRx n data) s = .next t ∧ t.net = { s.net with proxies := served, store := [x] }
          ∧ x.out = m ∧ x.cls = 0 ∧ x.frame.fmt = .ext ∧ x.frame.id = id ∧ x.frame.data = (data.drop 6).take 12
          ∧ t = { s with regs := t.regs, hwset := t.hwset, net := t.net } ∧ wordsKept [(Reg.NW_BRG_STAT, Reg.NW_BRG_STAT + 4)] s t)
    ∧ (∀ n data, n < 8 → (∀ y ∈ s.net.proxies, y.2.serial % 2 ^ 32 ≠ beAt data 0 4) → exec (.proxyDataRx n data) s = .next s)
    ∧ (∀ k y r, s.net.proxies = (k, y) :: r → k < 32 → (∀ z ∈ r, z.1 ≠ k) → 1000000000 ≤ (s.clk.tb0 - y.last).toNat →
      ∃ t, exec .proxyTimeout s = .next t ∧ t.net = { s.net with proxies := r } ∧ rdB t (Reg.NW_HIER_PROXY k) 30 = false
        ∧ raisedEvent 0x0805 7 (w32 k) (w32 (min y.count 0xFFFFFFFF)) t
        ∧ t = { s with regs := t.regs, hwset := t.hwset, net := t.net, log := t.log } ∧ wordsKept [(Reg.NW_HIER_PROXY k, Reg.NW_HIER_PROXY k + 4)] s t)
    ∧ ((∀ y ∈ s.net.proxies, (s.clk.tb0 - y.2.last).toNat < 1000000000) → exec .proxyTimeout s = .next s))

/-- R12, R13, R15, R25, R26, R389, R390, R392 to R394, R396 and R405, for transactions of one word (and of two, the second unmapped). -/
def Obligations.TransactionsAreJudgedPerformedAndHeld : Prop :=
  (∀ (p : PortId) (s : State), listens p s = true →
    let violW := (Reg.SV_OWN_ATTN, Reg.SV_VIOL_CNT + 4)
    let answers : State → Nat → Status → List Word → Prop := fun t tag st d => t.port.resp = some ⟨p, tag, st, d⟩
    let refused : Instr → Nat → Status → Nat → Nat → Prop := fun c tag st cmd a => ∃ t, exec c s = .next t ∧ answers t tag st []
      ∧ rd t Reg.SV_VIOL_ADDR = w32 a ∧ rd t Reg.SV_VIOL_INFO = w32 (portAddr p * 0x100000 + statusCode st * 0x10000 + cmd * 256 + portCode p)
      ∧ rdF t Reg.SV_VIOL_CNT 30 0 = min 0x7FFFFFFF (rdF s Reg.SV_VIOL_CNT 30 0 + 1) ∧ raisedEvent 0x0901 0 (rd t Reg.SV_VIOL_INFO) (w32 a) t
      ∧ t = { s with regs := t.regs, hwset := t.hwset, log := t.log, port := { s.port with resp := t.port.resp } } ∧ wordsKept [violW] s t
    let idle : Prop := (recOf s p).pend = none ∧ ninth p s = false
    let top := match p with | .net _ => 13 | _ => 64
    let reaches : Nat → Nat → Prop := fun a k => ∀ i, i < max 1 k → mapped (a + 4 * i) = true ∧ (a + 4 * i) / 0x1000000 = a / 0x1000000
    (∀ cmd tag a k data slow, refused (.read p (if cmd = 2 ∨ cmd = 3 then 1 else cmd) tag a k false slow) tag .crc (if cmd = 2 ∨ cmd = 3 then 1 else cmd) a
        ∧ refused (.write p tag a data false slow) tag .crc 2 a ∧ refused (.poll p tag a k false) tag .crc 3 a)
    ∧ (∀ cmd tag a k slow, 4 ≤ cmd → refused (.read p cmd tag a k true slow) tag .refused cmd a)
    ∧ (∀ tag a k slow, (recOf s p).pend = none → k = 0 ∨ top < k ∨ ninth p s = true →
        (reaches a k → refused (.read p 1 tag a k true slow) tag .refused 1 a)
        ∧ (a % 4 ≠ 0 → refused (.read p 1 tag a k true slow) tag .align 1 a)
        ∧ (a % 4 = 0 → mapped a = false → refused (.read p 1 tag a k true slow) tag .unmapped 1 a))
    ∧ (∀ tag a slow, (recOf s p).pend = none →
        (a % 4 ≠ 0 → refused (.write p tag a [] true slow) tag .align 2 a)
        ∧ (a % 4 = 0 → mapped a = false → refused (.write p tag a [] true slow) tag .unmapped 2 a)
        ∧ (isOwner s p = true → s.boot.loaded = true → a = Reg.SV_OWN_CTRL → refused (.write p tag a [] true slow) tag .refused 2 a))
    ∧ (∀ tag a k, a ≠ 0 ∨ k ≠ 0 → refused (.poll p tag a k true) tag .refused 3 a)
    ∧ (∀ x, (recOf s p).pend = some x →
        (∀ tag a k slow, ∃ t, exec (.read p 1 tag a k true slow) s = .next t ∧ answers t x.tag .wait [] ∧ t = { s with port := { s.port with resp := t.port.resp } })
        ∧ (∀ tag a data slow, ∃ t, exec (.write p tag a data true slow) s = .next t ∧ answers t x.tag .wait [] ∧ t = { s with port := { s.port with resp := t.port.resp } })
        ∧ ∃ t, exec (.poll p x.tag 0 0 true) s = .next t ∧ answers t x.tag .wait [] ∧ t = { s with port := { s.port with resp := t.port.resp } })
    ∧ (∀ tag, (recOf s p).pend = none → (∀ h ∈ (recOf s p).held, h.1.tag = tag → 100000000 ≤ (s.clk.tb0 - h.2).toNat) → refused (.poll p tag 0 0 true) tag .refused 3 0)
    ∧ (∀ tag h r, (recOf s p).pend = none → (recOf s p).held = h :: r → h.1.tag = tag → (s.clk.tb0 - h.2).toNat < 100000000 →
        ∃ t, exec (.poll p tag 0 0 true) s = .next t ∧ answers t tag h.1.status h.1.data ∧ (recOf t p).held = r ∧ (recOf t p).pend = none
          ∧ t = { s with port := t.port })
    ∧ (∀ tag a, idle → devState s ≠ 1 ∨ bootWord a = true →
      (mapped a = true → (∃ t, exec (.read p 1 tag a 1 true false) s = .next t ∧ answers t tag .ok [viewWord p (renewLease p s) a] ∧ t.clk = s.clk
            ∧ t.pending = s.pending ∧ t.nor = s.nor ∧ t.log = s.log)
          ∧ (∃ t, exec (.read p 1 tag a 1 true true) s = .next t ∧ answers t tag .wait []
            ∧ (recOf t p).pend = some ⟨tag, false, a, 1, [], isOwner s p, false⟩ ∧ t = { s with port := t.port }))
      ∧ (a % 4 ≠ 0 → refused (.read p 1 tag a 1 true false) tag .align 1 a)
      ∧ (a % 4 = 0 → mapped a = false → refused (.read p 1 tag a 1 true false) tag .unmapped 1 a)
      ∧ ∀ w : Word, chunkHeld s ⟨tag, true, a, 1, [w], isOwner s p, false⟩ = false →
        (mapped a = true → isOwner s p = false → a ≠ Reg.SV_OWN_CLAIM → a ≠ Reg.SV_OWN_TKO → refused (.write p tag a [w] true false) tag .notOwner 2 a)
        ∧ (isOwner s p = true → s.boot.loaded = true → mapped a = true →
          (a = Reg.SV_OWN_CTRL → ∃ t, exec (.write p tag a [w] true false) s = .next t ∧ answers t tag .ok [] ∧ rd t a = (rd s a &&& 0xFFFFFFFE) ||| (w &&& 1)
              ∧ t = { s with regs := t.regs, hwset := t.hwset, port := t.port } ∧ wordsKept [(a, a + 4)] s t)
          ∧ (a = Reg.SV_OWN_STAT ∨ a = Reg.NW_BRG_CFG → refused (.write p tag a [w] true false) tag .locked 2 a)
          ∧ ∀ w2 : Word, a = Reg.SV_OWN_ERR_CNT → refused (.write p tag a [w, w2] true false) tag .unmapped 2 (a + 4)))
    ∧ (∀ tag a slow, idle → devState s = 1 → bootWord a = false → ∃ t, exec (.read p 1 tag a 1 true slow) s = .next t ∧ answers t tag .wait []
        ∧ (recOf t p).pend = some ⟨tag, false, a, 1, [], isOwner s p, true⟩ ∧ t = { s with port := t.port })
    ∧ (∀ x, (recOf s p).pend = some x → chunkHeld s x = false →
      (x.boot = true → devState s = 1 → exec (.transactionComplete p) s = .next s)
      ∧ (x.boot = false → x.write = false → x.count = 1 → ∃ t d, exec (.transactionComplete p) s = .next t ∧ (recOf t p).pend = none
          ∧ (recOf t p).held = (recOf s p).held ++ [(⟨p, x.tag, .ok, [d]⟩, s.clk.tb0)] ∧ t.clk = s.clk ∧ t.nor = s.nor)
      ∧ (x.boot = true → devState s ≠ 1 → x.write = false → x.count = 1 → mapped x.addr = false → x.addr % 4 = 0 →
          ∃ t, exec (.transactionComplete p) s = .next t ∧ (recOf t p).pend = none
          ∧ (recOf t p).held = (recOf s p).held ++ [(⟨p, x.tag, .unmapped, []⟩, s.clk.tb0)] ∧ raisedEvent 0x0901 0 (rd t Reg.SV_VIOL_INFO) (w32 x.addr) t))
    ∧ (p = .host ∨ p = .service → ∃ t, exec (.frameEndedEarly p) s = .next t ∧ rdF t Reg.SV_OWN_ERR_CNT 30 0 = min 0x7FFFFFFF (rdF s Reg.SV_OWN_ERR_CNT 30 0 + 1)
        ∧ t = { s with regs := t.regs, hwset := t.hwset, log := t.log } ∧ wordsKept [(Reg.SV_OWN_ERR_CNT, Reg.SV_OWN_ERR_CNT + 4)] s t)
    ∧ (p = .service → ∃ t, exec .preambleOutOfRange s = .next t ∧ rdF t Reg.SV_OWN_ERR_CNT 30 0 = min 0x7FFFFFFF (rdF s Reg.SV_OWN_ERR_CNT 30 0 + 1)
        ∧ t = { s with regs := t.regs, hwset := t.hwset, log := t.log, port := { s.port with svcDiscard := true } }
        ∧ (∀ tag a k slow, exec (.read .service 1 tag a k true slow) t = .next t)
        ∧ ∃ u, exec .suRxdIdle t = .next u ∧ u = { t with port := { t.port with svcDiscard := false } })
    ∧ (∀ n : Nat, n < 8 → devState s ≠ 1 → latchGet p (Reg.NW_BRG_C0_LAT_MAX n) s = none → ∃ t, exec (.rcFieldRead p (Reg.NW_BRG_C0_LAT_MAX n)) s = .next t
        ∧ answers t 0 .ok [rd s (Reg.NW_BRG_C0_LAT_MAX n)] ∧ rd t (Reg.NW_BRG_C0_LAT_MAX n) = (if isOwner s p then 0 else rd s (Reg.NW_BRG_C0_LAT_MAX n))
        ∧ t = { s with regs := t.regs, hwset := t.hwset, port := t.port } ∧ wordsKept [(Reg.NW_BRG_C0_LAT_MAX n, Reg.NW_BRG_C0_LAT_MAX n + 4)] s t)
    ∧ (∀ w : Word, mayWrite p Reg.SV_OWN_ERR_CNT s → ∃ t, exec (.registerWrite p Reg.SV_OWN_ERR_CNT w) s = .next t
        ∧ rd t Reg.SV_OWN_ERR_CNT = (if w.getLsbD 31 = true ∧ (hwBits s Reg.SV_OWN_ERR_CNT).getLsbD 31 = false then 0 else rd s Reg.SV_OWN_ERR_CNT)
        ∧ t = { s with regs := t.regs, hwset := t.hwset, port := t.port } ∧ wordsKept [(Reg.SV_OWN_ERR_CNT, Reg.SV_OWN_ERR_CNT + 4)] s t)
    ∧ ∀ w : Word, mayWrite p Reg.SV_OWN_CTRL s → ∃ t, exec (.registerWrite p Reg.SV_OWN_CTRL w) s = .next t ∧ rd t Reg.SV_OWN_CTRL = (rd s Reg.SV_OWN_CTRL &&& 0xFFFFFFFE) ||| (w &&& 1)
        ∧ t = { s with regs := t.regs, hwset := t.hwset, port := t.port } ∧ wordsKept [(Reg.SV_OWN_CTRL, Reg.SV_OWN_CTRL + 4)] s t)
  ∧ ∀ s : State,
    (∃ t, exec .suRxdIdle s = .next t ∧ t = { s with port := { s.port with svcDiscard := false } })
    ∧ (∃ t, exec .resultDiscard s = .next t ∧ t = { s with port := t.port } ∧ t.port = { s.port with recs := t.port.recs }
      ∧ (∀ x ∈ t.port.recs, ∀ h ∈ x.2.held, (s.clk.tb0 - h.2).toNat < 100000000)
      ∧ ∀ y ∈ s.port.recs, ∀ h ∈ y.2.held, (s.clk.tb0 - h.2).toNat < 100000000 → ∃ x ∈ t.port.recs, x.1 = y.1 ∧ x.2.pend = y.2.pend ∧ h ∈ x.2.held)
    ∧ ∀ r : Resp, s.port.resp = some r → r.port = .host → r.status ≠ .wait → ∃ t, exec .hsCsNRising s = .next t ∧ t.port.resp = none
        ∧ (recOf t .host).held = (recOf s .host).held ++ [(r, s.clk.tb0)] ∧ t = { s with port := t.port }

/-- R399 to R402, R404 and R406. Causes: 1 claim, 2 takeover, 3 release, 4 EXPIRED. -/
def Obligations.OwnershipIsClaimedHeldAndPassed : Prop :=
  (∀ (p : PortId) (w : Word) (s : State), portsUp s = true →
    let go := Instr.svOwnClaim p w
    let keyed := w.toNat / 65536 = 0xC1A7 ∧ w.getLsbD 0 = true
    let tk := w.getLsbD 1
    let rank : PortId → Nat := fun q => if q = .service then 3 else if q = .host then 1 else if q = .runtime then 0 else 2
    let coded : Prop := rd s Reg.SV_OWN_TKO_SET = 0 ∨ (s.port.tko.find? fun x => decide (x.1 = p)).map (fun x => x.2) = some (rd s Reg.SV_OWN_TKO_SET)
    let isNet := p ≠ .host ∧ p ≠ .service
    let spent : State → Prop := fun t => ∀ x ∈ t.port.tko, x.1 ≠ p
    let changed : State → Option PortId → Nat → Prop := fun t new cause => t.port.owner = new
      ∧ rdF t Reg.SV_OWN_CHG_CNT 30 0 = min 0x7FFFFFFF (rdF s Reg.SV_OWN_CHG_CNT 30 0 + 1) ∧ rdB t Reg.SV_OWN_CTRL 0 = false
      ∧ rdB t Reg.SV_OWN_ATTN 2 = true
      ∧ raisedEvent 0x0902 0 (w32 ((new.map portCode).getD 0 + (s.port.owner.map portCode).getD 0 * 16 + cause * 256
          + (if (new.map portAddr).getD 0 ≠ 0 then (new.map portAddr).getD 0 else (s.port.owner.map portAddr).getD 0) * 0x10000)) 0 t
      ∧ t.clk = s.clk ∧ t.mem = s.mem ∧ t.loops = s.loops ∧ ((∀ x, s.upd.chunk = some x → x.1 ≠ s.clk.tb0) → t.nor = s.nor)
    let granted : Nat → Prop := fun cause => ∃ t, exec go s = .next t ∧ changed t (some p) cause ∧ t.port.leaseEnd = s.clk.tb0 + 1000000000
      ∧ t.port.resv = none ∧ spent t
    let refused : Nat → Nat → Prop := fun st reason => ∃ t, exec go s = .next t ∧ t.port.owner = s.port.owner ∧ rdF t Reg.SV_VIOL_INFO 19 16 = st
      ∧ rd t Reg.SV_VIOL_ADDR = w32 Reg.SV_OWN_CLAIM ∧ raisedEvent 0x0903 0 (w32 (portCode p + portAddr p * 0x10000)) (w32 reason) t ∧ spent t
      ∧ t = { s with regs := t.regs, hwset := t.hwset, log := t.log, port := { s.port with tko := t.port.tko } }
    (p = .runtime ∨ ¬ keyed → ∃ t, exec go s = .next t ∧ rdF t Reg.SV_VIOL_INFO 19 16 = 7 ∧ t = { s with regs := t.regs, hwset := t.hwset, log := t.log })
    ∧ (keyed → p ≠ .runtime → s.port.owner = some p → ∃ t, exec go s = .next t ∧ t.port.owner = some p ∧ t.port.leaseEnd = s.clk.tb0 + 1000000000 ∧ spent t
        ∧ t = { s with port := t.port })
    ∧ (keyed → p ≠ .runtime → s.port.owner ≠ some p → s.boot.loaded = false → isNet → refused 7 5)
    ∧ (keyed → p ≠ .runtime → s.port.owner ≠ some p → s.boot.loaded = true ∨ ¬ isNet →
      let decided : PortId → Prop := fun q =>
        (rdB s Reg.SV_OWN_CTRL 0 = true → refused 4 6)
        ∧ (rdB s Reg.SV_OWN_CTRL 0 = false → ¬ coded → refused 7 3)
        ∧ (rdB s Reg.SV_OWN_CTRL 0 = false → coded → granted 2) ∧ rank q < rank p
      (∀ q k, s.port.resv = some (q, k) → q ≠ p → (tk = true → rank q < rank p → decided q) ∧ (tk = false ∨ rank p ≤ rank q → refused 7 4))
      ∧ (s.port.resv = none ∨ (∃ k, s.port.resv = some (p, k)) →
        (s.port.owner = none → granted 1)
        ∧ ∀ o, s.port.owner = some o → (tk = true → rank o < rank p → decided o) ∧ (tk = true → rank p ≤ rank o → refused 7 2) ∧ (tk = false → refused 7 1)))
    ∧ (∃ t, exec (.svOwnTko p w) s = .next t ∧ (t.port.tko.find? fun x => decide (x.1 = p)) = some (p, w) ∧ t = { s with port := t.port })
    ∧ (p = .runtime → s.port.owner ≠ some p → w.toNat / 65536 = 0x5E1F → exec (.svOwnRel p w) s = .next s)
    ∧ (p ≠ .runtime → s.port.owner ≠ some p → ∃ t, exec (.svOwnRel p w) s = .next t ∧ rdF t Reg.SV_VIOL_INFO 19 16 = 3 ∧ t = { s with regs := t.regs, hwset := t.hwset, log := t.log })
    ∧ (s.port.owner = some p ∨ p = .runtime →
      (w.toNat / 65536 ≠ 0x5E1F → ∃ t, exec (.svOwnRel p w) s = .next t ∧ rdF t Reg.SV_VIOL_INFO 19 16 = 7 ∧ t = { s with regs := t.regs, hwset := t.hwset, log := t.log })
      ∧ (s.port.owner = some p → w.toNat / 65536 = 0x5E1F → ∃ t, exec (.svOwnRel p w) s = .next t ∧ changed t none 3
          ∧ t.port.resv = (match w.toNat / 2 ^ 14 % 4 with
              | 1 => some (.host, s.clk.tb0 + 200000000)
              | 2 => some (.service, s.clk.tb0 + 200000000)
              | 3 => some (.net (w.toNat % 4096), s.clk.tb0 + 200000000)
              | _ => none)))
    ∧ (s.port.owner = some p → reached s.clk.tb0 s.port.leaseEnd = true → ∃ t, exec .leaseExpiry s = .next t ∧ changed t none 4))
  ∧ ∀ s : State, (s.port.owner = none ∨ reached s.clk.tb0 s.port.leaseEnd = false → exec .leaseExpiry s = .next s)
    ∧ ∀ q k, s.port.resv = some (q, k) → (reached s.clk.tb0 k = false → exec .reservationLapse s = .next s)
      ∧ (reached s.clk.tb0 k = true → exec .reservationLapse s = .next { s with port := { s.port with resv := none } })

/-- R409, R411, R412, R415 to R417 and R421 to R425. -/
def Obligations.RecorderWritesCoalescesAndSurvives : Prop :=
  ∀ s : State,
    let recorded : State → Ev → Nat → Nat → Prop := fun t e cnt flag => t.log.next = s.log.next + 1 ∧ rd t Reg.SV_LOG_HEAD_SEQ = s.log.next
      ∧ ∃ d r, (d, (⟨r, true⟩ : DrawerSlot)) ∈ t.log.drawer ∧ r.seq = s.log.next ∧ bits r.w1 31 16 = e.code ∧ bits r.w1 15 14 = evSev e.code
        ∧ bits r.w1 7 0 = e.unit ∧ bits r.w1 12 12 = flag ∧ (bits r.w1 13 13 = 1 ↔ logState t = 2) ∧ r.w2 = e.ops ∧ bits r.w3 31 8 = e.pcyc
        ∧ r.w4 = e.sec ∧ bits r.w5 31 16 = cnt ∧ bits r.w5 15 0 = e.frac.toNat ∧ r.w6 = e.p0 ∧ r.w7 = e.p1
    let fits : Ev → Prop := fun e => e.code < 65536 ∧ e.unit < 8 ∧ e.pcyc < 2 ^ 24
    let frame : State → Prop := fun t => t = { s with regs := t.regs, hwset := t.hwset, mem := t.mem, can := t.can, log := t.log } ∧ t.log.head = s.log.head
      ∧ t.log.tailSeq = s.log.tailSeq
    let room : Prop := s.log.drawer.length < 64
    (∀ e r, s.log.raised = e :: r → e.tick = s.clk.tb0 → exec .eventRaised s = .next s)
    ∧ (∀ e r, s.log.raised = e :: r → e.tick ≠ s.clk.tb0 → fits e →
      (room → policyOf s e.code = none → ∃ t, exec .eventRaised s = .next t ∧ recorded t e 0 0 ∧ t.log.raised = r ∧ t.log.runs = s.log.runs ∧ frame t)
      ∧ (∀ w, room → policyOf s e.code = some w → s.log.runs.length < 32 → (∀ x ∈ s.log.runs, sameKey x.last e = false) →
          ∃ t, exec .eventRaised s = .next t ∧ recorded t e 0 0 ∧ t.log.raised = r ∧ t.log.runs = s.log.runs ++ [⟨e, 0, w⟩] ∧ frame t)
      ∧ (∀ w x l, policyOf s e.code = some w → s.log.runs = x :: l → sameKey x.last e = true → (∀ y ∈ l, sameKey y.last e = false) →
          (e.tick - x.last.tick).toNat ≤ x.win * 100000000 →
        (x.count + 1 < 0xFFFF → ∃ t, exec .eventRaised s = .next t ∧ t = { s with log := { s.log with raised := r, runs := { x with last := e, count := x.count + 1 } :: l } })
        ∧ (room → x.count + 1 = 0xFFFF → ∃ t, exec .eventRaised s = .next t ∧ recorded t e 0xFFFF 1 ∧ t.log.runs = l ∧ frame t))
      ∧ (∀ w x l, policyOf s e.code = some w → s.log.runs = x :: l → sameKey x.last e = true → (∀ y ∈ l, sameKey y.last e = false) →
          x.win * 100000000 < (e.tick - x.last.tick).toNat → x.count = 0 → room →
          ∃ t, exec .eventRaised s = .next t ∧ recorded t e 0 0 ∧ t.log.raised = r ∧ t.log.runs = l ++ [⟨e, 0, w⟩] ∧ frame t)
      ∧ ((∀ d, d < 64 → ∃ y ∈ s.log.drawer, y.1 = d) → (∀ y ∈ s.log.drawer, y.2.pend = true) → rdB s Reg.SV_LOG_CFG 7 = false → evSev e.code < 2 →
          policyOf s e.code = none → ∃ t, exec .eventRaised s = .next t ∧ t.log.next = s.log.next ∧ t.log.drawer = s.log.drawer
            ∧ rdF t Reg.SV_LOG_DROP_CNT 30 0 = min 0x7FFFFFFF (rdF s Reg.SV_LOG_DROP_CNT 30 0 + 1) ∧ t = { s with regs := t.regs, hwset := t.hwset, log := t.log })
      ∧ (∀ d y, (∀ k, k < 64 → ∃ z ∈ s.log.drawer, z.1 = k) → (∀ z ∈ s.log.drawer, z.2.pend = true) → rdB s Reg.SV_LOG_CFG 7 = true →
          oldestSlot s.log.drawer = some (d, y) → policyOf s e.code = none →
          ∃ t, exec .eventRaised s = .next t ∧ recorded t e 0 0 ∧ (∀ z ∈ t.log.drawer, z.1 = d → z.2.r.seq = s.log.next) ∧ (∀ z ∈ s.log.drawer, z.1 ≠ d → z ∈ t.log.drawer)
            ∧ rdF t Reg.SV_LOG_LOST_CNT 30 0 = min 0x7FFFFFFF (rdF s Reg.SV_LOG_LOST_CNT 30 0 + 1) ∧ frame t))
    ∧ (s.log.raised = [] → exec .eventRaised s = .next s ∧
      ((∀ x l, s.log.runs = x :: l → (∀ y ∈ l, sameKey y.last x.last = false) → x.win * 100000000 ≤ (s.clk.tb0 - x.last.tick).toNat →
          (x.count = 0 → ∃ t, exec .runClose s = .next t ∧ t = { s with log := { s.log with runs := l } })
          ∧ (room → 0 < x.count → x.count < 65536 → fits x.last → ∃ t, exec .runClose s = .next t ∧ recorded t x.last x.count 1 ∧ t.log.runs = l ∧ frame t))
        ∧ ((∀ x ∈ s.log.runs, (s.clk.tb0 - x.last.tick).toNat < x.win * 100000000) → exec .runClose s = .next s)))
    ∧ (∀ d x, s.log.head < 131072 → nextGood s 64 (s.log.head / 2048) ≠ some (s.log.head / 2048) → logState s = 1 → rdB s Reg.SV_NVM_STAT 3 = false → rdB s Reg.SV_NVM_STAT 2 = true → oldestSlot (pendSlots s) = some (d, x) →
      let a := 0x01B00000 + 32 * s.log.head
      let ws : List Word := [x.r.seq, x.r.w1, x.r.w2, x.r.w3, x.r.w4, x.r.w5, x.r.w6, x.r.w7]
      ∃ t, exec .recordProgramDone s = .next t ∧ (∀ i, i < 8 → norWord t (a + 4 * i) = ws.getD i 0) ∧ t.log.norLast = some s.log.head
        ∧ (∀ y ∈ t.log.drawer, y.1 = d → y.2.pend = false) ∧ t.log.next = s.log.next
        ∧ (s.log.head % 2048 ≠ 1791 → (∀ k, k < a ∨ a + 32 ≤ k → tget norDefault t.nor k = tget norDefault s.nor k)
            ∧ t = { s with regs := t.regs, hwset := t.hwset, nor := t.nor, log := t.log } ∧ (s.log.head % 2048 ≠ 2047 → t.log.head = s.log.head + 1))
        ∧ (∀ j, s.log.head % 2048 = 1791 → nextGood s 64 (s.log.head / 2048) = some j → j ≠ s.log.head / 2048 → t.log.head = s.log.head + 1
            ∧ (∀ k, slotAddr (2048 * j) ≤ k → k < slotAddr (2048 * (j + 1)) → tget norDefault t.nor k = 0xFF)
            ∧ (∀ k, k < a ∨ a + 32 ≤ k → k < slotAddr (2048 * j) ∨ slotAddr (2048 * (j + 1)) ≤ k → tget norDefault t.nor k = tget norDefault s.nor k)))
    ∧ (∀ timeout, room → s.log.head < 131072 → logState s = 1 → rdB s Reg.SV_NVM_STAT 3 = false → (pendSlots s).isEmpty = false →
      let k := s.log.head / 2048
      ∃ t e, exec (.logMediaFail false timeout) s = .next t ∧ sectorBad t k = true ∧ (∀ j, j < 64 → j ≠ k → sectorBad t j = sectorBad s j) ∧ logState t = 2
        ∧ recorded t e 0 0 ∧ e.code = 0x0A01 ∧ e.p0 = w32 (slotAddr s.log.head) ∧ e.p1 = w32 (1 + b2n timeout * 256)
        ∧ (∀ y ∈ pendSlots s, y ∈ pendSlots t) ∧ t.log.retryAt = some (s.clk.tb0 + 6000000000) ∧ t.nor = s.nor)
    ∧ (logState s ≠ 1 ∨ rdB s Reg.SV_NVM_STAT 3 = true → ∀ f b, exec (.logMediaFail f b) s = .next s)
    ∧ (logState s ≠ 2 ∨ rdB s Reg.SV_NVM_STAT 3 = true → ∀ f b, exec (.logRetry f b) s = .next s)
    ∧ (∀ k j, logState s = 2 → s.log.retryAt = some k →
      (laterN 64 k.toNat s.clk.tb0.toNat = true → ∀ f b, exec (.logRetry f b) s = .next s)
      ∧ (laterN 64 k.toNat s.clk.tb0.toNat = false → rdB s Reg.SV_NVM_STAT 3 = false → nextGood s 64 (s.log.head / 2048) = some j →
        (∀ d x, rdB s Reg.SV_NVM_STAT 2 = true → pendSlots s = [(d, x)] → room → ∃ t, exec (.logRetry 0 false) s = .next t ∧ logState t = 1 ∧ t.log.retryAt = none ∧ t.log.head = 2048 * j + 1
          ∧ norWord t (slotAddr (2048 * j)) = x.r.seq ∧ t.log.next = s.log.next + 1 ∧ t.log.lostEp = 0 ∧ t.log.dropEp = 0
          ∧ ∃ y ∈ pendSlots t, y.2.r.seq = s.log.next ∧ bits y.2.r.w1 31 16 = 0x0A02 ∧ y.2.r.w6 = w32 s.log.lostEp ∧ y.2.r.w7 = w32 s.log.dropEp)
        ∧ (∀ b, room → ∃ t, exec (.logRetry 1 b) s = .next t ∧ logState t = 2 ∧ sectorBad t j = true ∧ t.log.retryAt = some (s.clk.tb0 + 6000000000)
          ∧ (∀ y ∈ pendSlots s, y ∈ pendSlots t) ∧ t.nor = s.nor)
        ∧ (∀ b d x, pendSlots s = [(d, x)] → room → ∃ t, exec (.logRetry 2 b) s = .next t ∧ logState t = 2 ∧ sectorBad t j = true
          ∧ t.log.retryAt = some (s.clk.tb0 + 6000000000) ∧ (d, x) ∈ pendSlots t)))

/-- R426 to R428 and R431 to R433. The order of the reasons is log entry 32; the new nonce is a free value. -/
def Obligations.LogIsReadUploadedAndCleared : Prop :=
  ∀ s : State,
    (∀ (p : PortId) (n : Nat), portsUp s = true → devState s ≠ 1 → n < 131072 →
      let w : Nat → Word := fun i => norWord s (slotAddr n + 4 * i)
      let shows := bits (w 1) 31 16 ≠ 0xFFFF ∧ laterN 32 s.log.tailSeq.toNat (w 0).toNat = false
      ∃ t, exec (.logWindowRead p false n) s = .next t ∧ t = { s with port := t.port }
        ∧ ∀ i, 1 ≤ i → i < 8 → (shows → latchGet p (0xA00000 + 32 * n + 4 * i) t = some (w i))
          ∧ (¬ shows → latchGet p (0xA00000 + 32 * n + 4 * i) t = some 0xFFFFFFFF))
    ∧ (∀ p : PortId, portsUp s = true → ∃ t, exec (.snapshotRead p) s = .next t ∧ t = { s with port := t.port }
        ∧ snapWord t p Reg.SV_LOG_SNAP_TAIL_SEQ = s.log.tailSeq ∧ snapWord t p Reg.SV_LOG_SNAP_TAIL_SLOT = w32 s.log.tailSlot
        ∧ snapWord t p Reg.SV_LOG_SNAP_NOR_SLOT = (match s.log.norLast with | some n => w32 n | none => 0x80000000)
        ∧ snapWord t p Reg.SV_LOG_SNAP_HEAD_SEQ = rd s Reg.SV_LOG_HEAD_SEQ)
    ∧ (∀ (p : PortId) (dest : Nat), dest < 4096 → mayWrite p Reg.SV_LOG_UPL_CTRL s →
      (inClash s = true ∨ ownAddr s = none ∨ s.log.upl.isSome = true → ∃ t, exec (.uploadStart p dest) s = .next t ∧ rdF t Reg.SV_VIOL_INFO 19 16 = 7
          ∧ t = { s with regs := t.regs, hwset := t.hwset, log := t.log })
      ∧ (∀ a, inClash s = false → ownAddr s = some a → s.log.upl = none → ∃ t, exec (.uploadStart p dest) s = .next t
          ∧ t.log.upl = some ⟨dest, rd s Reg.SV_LOG_UPL_FROM, rd s Reg.SV_LOG_HEAD_SEQ, 0, s.clk.tb0 + 5000000⟩ ∧ rd t Reg.SV_LOG_UPL_STAT = 0x40000000
          ∧ t = { s with regs := t.regs, hwset := t.hwset, log := t.log, port := t.port } ∧ wordsKept [(Reg.SV_LOG_UPL_STAT, Reg.SV_LOG_UPL_STAT + 4)] s t)
      ∧ (∀ u, s.log.upl = some u → ∃ t, exec (.uploadAbort p) s = .next t ∧ t.log.upl = none ∧ rd t Reg.SV_LOG_UPL_STAT = w32 (0xC0000000 + u.sent)
          ∧ raisedEvent 0x0A07 0 3 (w32 u.sent) t ∧ t = { s with regs := t.regs, hwset := t.hwset, log := t.log, port := t.port }
          ∧ wordsKept [(Reg.SV_LOG_UPL_STAT, Reg.SV_LOG_UPL_STAT + 4)] s t))
    ∧ (∀ u, s.log.upl = some u →
      (reached s.clk.tb0 u.due = false ∨ maySendOwn s = false → exec .uploadFrame s = .next s)
      ∧ (reached s.clk.tb0 u.due = true → maySendOwn s = true →
        let l := uploadRecs s u.next u.last
        (l = [] → ∃ t, exec .uploadFrame s = .next t ∧ t.log.upl = none ∧ rd t Reg.SV_LOG_UPL_STAT = w32 (0x80000000 + u.sent)
          ∧ raisedEvent 0x0A07 0 2 (w32 u.sent) t ∧ t = { s with regs := t.regs, hwset := t.hwset, log := t.log })
        ∧ ∀ x a, l ≠ [] → xlTxBuf s (upCh s) = some x → rdB s (Reg.NW_CH_XLS (upCh s)) 1 = false → rdB s Reg.NW_BRG_CFG (16 + upCh s) = false →
            ownAddr s = some a → u.dest < 4096 →
          let rs := l.take 63
          let first : Word := (rs.headD []).headD 0
          let bytes : List Byte := beBytes 4 first.toNat ++ beBytes 2 rs.length
            ++ [BitVec.ofNat 8 (b2n (decide (l.length ≤ 63)) + 2 * b2n (decide (first ≠ u.next))), 0] ++ rs.flatMap fun r => r.flatMap fun w => beBytes 4 w.toNat
          ∃ t, exec .uploadFrame s = .next t ∧ rdB t (Reg.NW_CH_XLS (upCh s)) 1 = true ∧ rd t (xlAddr x + 8) = w32 (a * 0x8000 + 0x6000 + u.dest)
            ∧ (∀ i, i < bytes.length → memByte t (xlAddr x + 32 + i) = bytes.getD i 0)
            ∧ (l.length ≤ 63 → t.log.upl = none ∧ raisedEvent 0x0A07 0 2 (w32 (u.sent + l.length)) t)
            ∧ (63 < l.length → t.log.upl = some { u with next := (rs.getLastD []).headD 0 + 1, sent := u.sent + 63, due := s.clk.tb0 + 5000000 })
            ∧ t = { s with regs := t.regs, hwset := t.hwset, mem := t.mem, can := t.can, log := t.log }))
    ∧ (∀ (f : CanFrame) (n x : Nat), f.fmt = .xl → f.af % 0x8000 / 0x1000 = 6 ∨ f.af % 0x8000 / 0x1000 = 4 → s.boot.loaded = true → isManager s = true →
        ownAddr s ≠ some (f.af % 0x1000) → 1 ≤ f.data.length → f.data.length ≤ 64 →
        ((∃ y r, s.net.bindings = y :: r ∧ y.2.addr = f.af % 0x1000 ∧ y.2.ch = n) ∨ ((∀ y ∈ s.net.bindings, y.2.addr ≠ f.af % 0x1000) ∧ n = upCh s)) →
        xlTxBuf s n = some x → n < 8 → rdB s (Reg.NW_CH_XLS n) 1 = false →
      ∃ t, exec (.xlRelay f) s = .next t ∧ rdB t (Reg.NW_CH_XLS n) 1 = true ∧ rdN t (xlAddr x + 8) = f.af % 2 ^ 32
        ∧ (∀ i, i < f.data.length → memByte t (xlAddr x + 32 + i) = f.data.getD i 0) ∧ t = { s with regs := t.regs, hwset := t.hwset, mem := t.mem, can := t.can })
    ∧ (∀ p : PortId, mayWrite p Reg.SV_LOG_CLR s →
      let right : Prop := authStaged s = clearCode s
      let wrong := (s.log.wrong.filter fun k => decide ((s.clk.tb0 - k).toNat < 6000000000)).length
      let renewed : State → Prop := fun t => rd t Reg.SV_LOG_NONCE = Config.freeValue s.free ∧ t.free = s.free + 1
      let refused : Nat → Prop := fun r => ∃ t, exec (.logClear p) s = .next t ∧ rdF t Reg.SV_VIOL_INFO 19 16 = 7 ∧ renewed t
        ∧ raisedEvent 0x0A04 0 (w32 r) (w32 (portAddr p * 0x10000 + portCode p)) t ∧ t.log.tailSeq = s.log.tailSeq ∧ t.nor = s.nor
        ∧ (r = 1 → s.clk.tb0 ∈ t.log.wrong ∧ rdB t Reg.SV_LOG_STAT 3 = decide (2 ≤ wrong)) ∧ t = { s with regs := t.regs, hwset := t.hwset, log := t.log, free := s.free + 1 }
      (3 ≤ wrong → refused 4)
      ∧ (wrong < 3 → ¬ right → refused 1)
      ∧ (wrong < 3 → right → logState s = 2 → refused 2)
      ∧ (wrong < 3 → right → logState s ≠ 2 → rdB s Reg.SV_LOG_STAT 2 = true → refused 3)
      ∧ (wrong < 3 → right → logState s = 1 → rdB s Reg.SV_LOG_STAT 2 = false → pendSlots s = [] → s.log.drawer.length < 64 → s.log.head < 131072 →
        ∃ t, exec (.logClear p) s = .next t ∧ renewed t ∧ t.log.tailSeq = s.log.next ∧ rdB t Reg.SV_LOG_STAT 2 = true ∧ t.log.next = s.log.next + 1
          ∧ (∃ y ∈ pendSlots t, y.2.r.seq = s.log.next ∧ bits y.2.r.w1 31 16 = 0x0A03 ∧ y.2.r.w6 = s.log.next - 1)
          ∧ (∀ k, slotAddr 0 ≤ k → k < slotAddr 131072 → (k - slotAddr 0) / 65536 ≠ s.log.head / 2048 → tget norDefault t.nor k = 0xFF)
          ∧ (∀ k, k < slotAddr 0 ∨ slotAddr 131072 ≤ k ∨ (k - slotAddr 0) / 65536 = s.log.head / 2048 → tget norDefault t.nor k = tget norDefault s.nor k)))
    ∧ (∃ t, exec .logClearEraseDone s = .next t ∧ rdB t Reg.SV_LOG_STAT 2 = false ∧ t = { s with regs := t.regs, hwset := t.hwset }
        ∧ wordsKept [(Reg.SV_LOG_STAT, Reg.SV_LOG_STAT + 4)] s t)
    ∧ (let n := (s.log.wrong.filter fun k => decide ((s.clk.tb0 - k).toNat < 6000000000)).length
       (3 ≤ n → exec .clearBackoffEnd s = .next s)
       ∧ (n < 3 → ∃ t, exec .clearBackoffEnd s = .next t ∧ rdB t Reg.SV_LOG_STAT 3 = false ∧ t = { s with regs := t.regs, hwset := t.hwset }
          ∧ wordsKept [(Reg.SV_LOG_STAT, Reg.SV_LOG_STAT + 4)] s t))

/-- R441 to R444. The reason of the later checks is verifyReason, R440; ABORT with no session is log entry 33, the waiting chunk log entry 34. -/
def Obligations.UpdateSessionsOpenFillAndEnd : Prop :=
  ∀ s : State,
    let st := updState s
    let k := updTarget s
    let pos := rdN s Reg.SV_UPD_NEXT
    let w4 : Nat → Nat × Nat := fun a => (a, a + 4)
    let refuses : Instr → Prop := fun i => ∃ t, exec i s = .next t ∧ rdF t Reg.SV_VIOL_INFO 19 16 = 7 ∧ updState t = st ∧ t = { s with regs := t.regs, hwset := t.hwset, log := t.log }
    let places : Instr → List Byte → Option (Tick × Nat) → Prop := fun i b c => ∃ t, exec i s = .next t
      ∧ (∀ n, n < b.length → tget norDefault t.nor (slotBase k + pos + n) = b.getD n 0)
      ∧ (∀ a, a < slotBase k + pos ∨ slotBase k + pos + b.length ≤ a → tget norDefault t.nor a = tget norDefault s.nor a)
      ∧ rdN t Reg.SV_UPD_NEXT = pos + b.length ∧ updState t = (if pos + b.length = s.upd.size then 2 else 1) ∧ rdB t Reg.SV_UPD_STAT 8 = true
      ∧ t.upd = { s.upd with idle := s.clk.tb0, prog := true, chunk := c } ∧ t = { s with regs := t.regs, hwset := t.hwset, nor := t.nor, upd := t.upd, port := t.port }
      ∧ wordsKept [w4 Reg.SV_UPD_STAT, w4 Reg.SV_UPD_NEXT, w4 Reg.SV_OWN_ATTN] s t
    let aborts : Instr → Prop := fun i => ∃ t, exec i s = .next t ∧ updState t = 7 ∧ rdB t Reg.SV_UPD_STAT 8 = false ∧ t.upd = { s.upd with prog := false }
      ∧ t = { s with regs := t.regs, hwset := t.hwset, upd := t.upd, port := t.port } ∧ wordsKept [w4 Reg.SV_UPD_STAT, w4 Reg.SV_OWN_ATTN] s t
    (s.boot.loaded = true → k = 1 - rdF s Reg.SV_BOOT_STAT 8 8)
    ∧ (s.boot.loaded = false → k = if slotSt s 0 = 3 ∧ slotSt s 1 ≠ 3 then 1 else 0)
    ∧ (∀ p : PortId, mayWrite p Reg.SV_UPD_CTRL s →
      ((st = 1 ∨ st = 2 ∨ st = 3 ∨ st = 4 ∨ inTrial s = true) → refuses (.updBegin p)
        ∧ ∃ t, exec (.updBegin p) s = .next t ∧ raisedEvent 0x0B03 0 0x20 (w32 (1 + portCode p * 256)) t)
      ∧ (¬ (st = 1 ∨ st = 2 ∨ st = 3 ∨ st = 4 ∨ inTrial s = true) → ∃ t, exec (.updBegin p) s = .next t
          ∧ updState t = (if rdN s Reg.SV_UPD_LEN = 0 then 2 else 1) ∧ rdN t Reg.SV_UPD_NEXT = 0 ∧ rd t Reg.SV_UPD_SRC = w32 (portAddr p * 0x10000 + portCode p)
          ∧ slotSt t k = 0 ∧ slotSt t (1 - k) = slotSt s (1 - k) ∧ rdN t Reg.SV_BOOT_HDR_GEN = (leAt (hdrCur s) 8 4 + 1) % 2 ^ 32
          ∧ (∀ a, slotBase k ≤ a → a < slotBase k + 0xC00000 → tget norDefault t.nor a = 0xFF)
          ∧ (∀ a, 0x20000 ≤ a → a < slotBase k ∨ slotBase k + 0xC00000 ≤ a → tget norDefault t.nor a = tget norDefault s.nor a)
          ∧ t.upd.size = rdN s Reg.SV_UPD_LEN ∧ t.upd.idle = s.clk.tb0 ∧ t.upd.prog = false
          ∧ t = { s with regs := t.regs, hwset := t.hwset, nor := t.nor, log := t.log, upd := t.upd, port := t.port, boot := t.boot }
          ∧ wordsKept [w4 Reg.SV_UPD_STAT, w4 Reg.SV_UPD_NEXT, w4 Reg.SV_UPD_SRC, w4 Reg.SV_OWN_ATTN, w4 Reg.SV_BOOT_HDR_GEN,
              (Reg.SV_THM_NOR_ERASE 0, Reg.SV_THM_NOR_ERASE 7)] s t)
      ∧ (st = 1 ∨ st = 2 → aborts (.updAbort p)) ∧ (st ≠ 1 → st ≠ 2 → refuses (.updAbort p)))
    ∧ (∀ (p : PortId) (n : Nat), mayWrite p Reg.SV_UPD_CHUNK s →
      let right : Prop := st = 1 ∧ pos + n ≤ s.upd.size ∧ pos + n ≤ 0xC00000 ∧ n % 4 = 0 ∧ 4 ≤ n ∧ n ≤ 256 ∧ (n = 256 ∨ pos + n = s.upd.size)
      (s.upd.prog = true → right → devState s ≠ 1 → listens p s = true → (recOf s p).pend = none → ninth p s = false →
        ∃ t, exec (.updChunk p n) s = .next t ∧ (recOf t p).pend = some ⟨0, true, Reg.SV_UPD_CHUNK, 1, [w32 n], true, false⟩
          ∧ t.port.resp = some ⟨p, 0, .wait, []⟩ ∧ t = { s with port := t.port })
      ∧ (s.upd.prog = false → right → places (.updChunk p n) ((List.range n).map fun i => (rd s (Reg.SV_UPD_DATA (i / 4))).extractLsb' (8 * (i % 4)) 8)
          (some (s.clk.tb0, n)))
      ∧ (s.upd.prog = false → ¬ right → refuses (.updChunk p n)))
    ∧ (s.upd.prog = false ∨ rdB s Reg.SV_NVM_STAT 3 = true → ∀ f, exec (.chunkProgramDone f) s = .next s)
    ∧ (s.upd.prog = true → rdB s Reg.SV_NVM_STAT 3 = false →
      (∃ t, exec (.chunkProgramDone none) s = .next t ∧ rdB t Reg.SV_UPD_STAT 8 = false ∧ t = { s with regs := t.regs, hwset := t.hwset, upd := { s.upd with prog := false } }
        ∧ wordsKept [w4 Reg.SV_UPD_STAT] s t)
      ∧ ∀ a, ∃ t, exec (.chunkProgramDone (some a)) s = .next t ∧ updState t = 6 ∧ rdF t Reg.SV_UPD_STAT 23 16 = 0x12
        ∧ raisedEvent 0x0B02 0 (w32 (k * 256 + 0x12)) (w32 a) t ∧ t = { s with regs := t.regs, hwset := t.hwset, log := t.log, upd := { s.upd with prog := false } })
    ∧ (∀ (src : Nat) (data : List Byte),
      let n := beAt data 4 2
      let due : Prop := rdF s Reg.SV_UPD_SRC 1 0 = 3 ∧ rdF s Reg.SV_UPD_SRC 27 16 = src ∧ beAt data 0 4 = pos ∧ st = 1 ∧ pos + n ≤ s.upd.size ∧ pos + n ≤ 0xC00000
        ∧ (n % 4 = 0 ∨ pos + n = s.upd.size) ∧ 1 ≤ n ∧ n ≤ 2040 ∧ 8 + n ≤ data.length
      (due → places (.updateFrameRx src data) ((data.drop 8).take n) s.upd.chunk) ∧ (¬ due → exec (.updateFrameRx src data) s = .next s))
    ∧ (st = 1 ∧ 60000000000 ≤ (s.clk.tb0 - s.upd.idle).toNat → aborts .sessionIdleTimeout)
    ∧ (¬ (st = 1 ∧ 60000000000 ≤ (s.clk.tb0 - s.upd.idle).toNat) → exec .sessionIdleTimeout s = .next s)
    ∧ (st ≠ 2 ∨ s.upd.prog = true → exec .verifyDone s = .next s)
    ∧ (st = 2 → s.upd.prog = false →
      let h := norBytes s (slotBase k) 256
      let formed : Prop := leAt h 0 4 = 0x4B505841 ∧ leAt h 4 2 = 1 ∧ leAt h 6 2 = 0x100 ∧ w32 (leAt h 0xFC 4) = crc32 (h.take 0xFC)
      let r := verifyReason s
      (¬ formed → r = 0x13) ∧ (formed → 12582912 < leAt h 8 4 ∨ leAt h 8 4 ≠ s.upd.size → r = 0x11)
      ∧ ∃ t, exec .verifyDone s = .next t ∧ updState t = (if r = 0 then 3 else 6) ∧ slotSt t k = (if r = 0 then 1 else slotSt s k)
        ∧ leAt (hdrCur t) (0x14 + 4 * k) 4 = (if r = 0 then s.upd.size % 2 ^ 32 else leAt (hdrCur s) (0x14 + 4 * k) 4)
        ∧ leAt (hdrCur t) (0x1C + 8 * k) 8 = (if r = 0 then leAt h 0x10 8 else leAt (hdrCur s) (0x1C + 8 * k) 8)
        ∧ leAt (hdrCur t) (0x2C + 4 * k) 4 = (if r = 0 then leAt h 0x18 4 else leAt (hdrCur s) (0x2C + 4 * k) 4)
        ∧ rdF t Reg.SV_UPD_STAT 23 16 = (if r = 0 then rdF s Reg.SV_UPD_STAT 23 16 else r % 256)
        ∧ raisedEvent (if r = 0 then 0x0B01 else 0x0B02) 0 (w32 (k * 256 + r)) (if r = 0 then w32 (leAt h 0x10 8) else 0) t
        ∧ (∀ a, 0x20000 ≤ a → tget norDefault t.nor a = tget norDefault s.nor a) ∧ t = { s with regs := t.regs, hwset := t.hwset, nor := t.nor, log := t.log, upd := t.upd, boot := t.boot })

/-- R437, R445, R446, R448, R450, R451, R455, R456 and R458; a commit while settings may not be written does nothing (Table 03-13, R458). -/
def Obligations.ActivationTrialsCommitsAndKeys : Prop :=
  ∀ s : State, twf norDefault s.nor = true →
    let st := updState s
    let k := updTarget s
    let n := slotNow s
    let w4 : Nat → Nat × Nat := fun a => (a, a + 4)
    let refuses : Instr → Prop := fun i => ∃ t, exec i s = .next t ∧ rdF t Reg.SV_VIOL_INFO 19 16 = 7 ∧ t = { s with regs := t.regs, hwset := t.hwset, log := t.log }
    let confirms : Instr → Nat → Prop := fun i auto => pkgArb s n < 256 → ∃ t, exec i s = .next t ∧ slotSt t n = 3 ∧ slotSt t (1 - n) = slotSt s (1 - n)
      ∧ inTrial t = false ∧ rdB t Reg.SV_UPD_STAT 9 = false ∧ rd t Reg.SV_UPD_TSEC = w32 (tsec s) ∧ updState t = 0 ∧ t.upd.trialAt = none ∧ devState t = devState s
      ∧ rdF t Reg.SV_UPD_OTP 7 0 = max (rdF s Reg.SV_UPD_OTP 7 0) (pkgArb s n)
      ∧ (rdF s Reg.SV_UPD_OTP 7 0 < pkgArb s n → raisedEvent 0x0B09 0 (w32 (rdF s Reg.SV_UPD_OTP 7 0)) (w32 (pkgArb s n)) t)
      ∧ raisedEvent 0x0B05 0 (w32 (n * 256 + auto * 0x10000)) (w32 (tsec s)) t
      ∧ (rdB s Reg.SV_UPD_STAT 9 = true → tget norDefault t.nor (jBase (jCur t) + 0x28) = 0)
      ∧ (∀ a, 0x20000 ≤ a → a < 0x01900000 → tget norDefault t.nor a = tget norDefault s.nor a)
      ∧ t = { s with regs := t.regs, hwset := t.hwset, nor := t.nor, log := t.log, upd := t.upd, port := t.port, boot := t.boot }
    let fails : Instr → Nat → Prop := fun i cause => ∃ t, exec i s = .next t ∧ slotSt t n = 4 ∧ hdrActive t = (if slotSt s (1 - n) = 3 then 1 - n else hdrActive s)
      ∧ rdF t Reg.SV_UPD_TRIAL 19 16 = cause ∧ t.pwr.rst = true ∧ t.pwr.ownerRestart = false ∧ t.port.owner = none
      ∧ (∀ a, 0x20000 ≤ a → tget norDefault t.nor a = tget norDefault s.nor a)
    let late : Prop := s.upd.trialAt.isSome = true ∧ rdF s Reg.SV_UPD_TCFG 23 0 ≤ tsec s ∧ rdB s Reg.SV_UPD_TCFG 31 = false
    let vals := storedVals s
    let fits : Prop := vals.length ≤ 65520 ∧ ∀ x ∈ vals, x.1 < 2 ^ 32
    let fresh : State → Nat → Nat → Prop := fun t j gen => jCur t = j ∧ jValid t j = true ∧ jVer t j = imgSettings s ∧ jGen t j = gen % 2 ^ 32 ∧ jShadow t j = false
      ∧ (∀ m x, vals[m]? = some x → entryOf16 (norBytes t (jEntry j m) 16) = some (x.1, x.2, m))
      ∧ (∀ a, a < jBase j ∨ jBase j + 0x100000 ≤ a → tget norDefault t.nor a = tget norDefault s.nor a)
      ∧ t = { s with regs := t.regs, hwset := t.hwset, nor := t.nor, log := t.log, upd := t.upd, port := t.port }
    let commits : (Nat → Bool → Instr) → Prop := fun i =>
      let l := changedWords s
      let j := jCur s
      let f := jFill s j
      let binds := if jHas s then jBinds s j else []
      let work : Prop := l ≠ [] ∨ bindsNow s ≠ binds
      let compacts : Prop := jHas s = true ∧ inTrial s = false ∧ 65520 < f + l.length + 4096
      ∀ b, (mayCommit s = false → ∀ q, ∃ t, exec (i q b) s = .next t ∧ t = { s with port := t.port })
      ∧ (mayCommit s = true → rdB s Reg.SV_NVM_STAT 3 = true → ∀ q, ∃ t, exec (i q b) s = .next t
          ∧ t = { s with upd := { s.upd with dirty := some (s.clk.tb0 - 100000000) }, port := t.port })
      ∧ (mayCommit s = true → rdB s Reg.SV_NVM_STAT 3 = false → ¬ work → ∀ q, ∃ t, exec (i q b) s = .next t ∧ t = { s with upd := { s.upd with dirty := none }, port := t.port })
      ∧ (mayCommit s = true → rdB s Reg.SV_NVM_STAT 3 = false → work →
        (jHas s = true → ¬ compacts → (∀ x ∈ l, x.1 < 2 ^ 32) → ∀ q, q < 3 → f + q + l.length ≤ 65520 → ∃ t, exec (i q b) s = .next t
            ∧ (∀ m x, l[m]? = some x → entryOf16 (norBytes t (jEntry j (f + q + m)) 16) = some (x.1, x.2, (jNext s j + m) % 2 ^ 32))
            ∧ (∀ m, m < q → norWord t (jEntry j (f + m)) = 0)
            ∧ (∀ a, a < jEntry j f ∨ jEntry j (f + q + l.length) ≤ a → tget norDefault t.nor a = tget norDefault s.nor a)
            ∧ t.upd.dirty = none ∧ jBinds t j = bindsNow s ∧ jCur t = j ∧ t = { s with regs := t.regs, hwset := t.hwset, nor := t.nor, log := t.log, upd := t.upd, port := t.port }
            ∧ wordsKept [w4 Reg.SV_UPD_STAT, w4 Reg.SV_UPD_JRNL, w4 Reg.SV_UPD_JGEN, w4 Reg.SV_NVM_ERR_CNT] s t)
        ∧ (jHas s = true → ¬ compacts → ∀ q, 3 ≤ q → ∃ t, exec (i q b) s = .next t ∧ raisedEvent 0x0B08 0 (w32 (jEntry j f)) (w32 (1 + b2n b * 256)) t
            ∧ rdF t Reg.SV_UPD_CFAIL_CNT 30 0 = min 0x7FFFFFFF (rdF s Reg.SV_UPD_CFAIL_CNT 30 0 + 1) ∧ t.upd = { s.upd with dirty := some s.clk.tb0 } ∧ jCur t = j
            ∧ (∀ a, a < jEntry j f ∨ jEntry j (f + 3) ≤ a → tget norDefault t.nor a = tget norDefault s.nor a))
        ∧ (compacts ∨ jHas s = false → let c := if jHas s then 1 - j else 0
            (fits → ∃ t, exec (i 0 b) s = .next t ∧ jBinds t c = bindsNow s ∧ fresh t c (if jHas s then jGen s j + 1 else 1))
            ∧ ∀ q, q ≠ 0 → ∃ t, exec (i q b) s = .next t ∧ jCur t = j ∧ t.nor = s.nor ∧ raisedEvent 0x0B08 0 (w32 (jBase c)) (w32 (2 + b2n b * 256)) t
              ∧ rdF t Reg.SV_UPD_CFAIL_CNT 30 0 = min 0x7FFFFFFF (rdF s Reg.SV_UPD_CFAIL_CNT 30 0 + 1) ∧ t.upd = { s.upd with dirty := some s.clk.tb0 }))
    (∀ p : PortId, mayWrite p Reg.SV_UPD_CTRL s →
      (∀ mv,
        let s0 := railShow 0 mv s
        let g := updGuards s0
        let v := min 0xFFFF mv
        g.testBit 0 = grainMoving s ∧ g.testBit 2 = decide (v < rdF s Reg.SV_UPD_CFG 15 8 * 1000)
        ∧ (g.testBit 1 = true ↔ ∃ x, x < 24 ∧ rdB s (Reg.DR_VCH_CFG x) 27 = true ∧ 1 ≤ rdF s (Reg.DR_VCH_STAT x) 3 0 ∧ rdF s (Reg.DR_VCH_STAT x) 3 0 ≤ 6)
        ∧ g.testBit 3 = decide ((rdF s Reg.SV_UPD_HOLD 15 0 : Int) * ((v : Int) ^ 2 - 72250000) < (rdF s Reg.SV_UPD_CFG 31 16 : Int) * 2000000000)
        ∧ g.testBit 4 = rdB s Reg.SV_OWN_CTRL 0 ∧ (g.testBit 5 = true ↔ st ≠ 3 ∨ inTrial s = true ∨ devState s = 1) ∧ (g.testBit 6 = true ↔ st = 3 ∧ readsOk s k = false)
        ∧ (g ≠ 0 → ∃ t, exec (.updActivate p mv) s = .next t ∧ rdF t Reg.SV_VIOL_INFO 19 16 = 7
            ∧ t = { s0 with regs := t.regs, hwset := t.hwset, log := t.log } ∧ raisedEvent 0x0B03 0 (w32 g) (w32 (2 + portCode p * 256)) t)
        ∧ (g = 0 → ∃ t, exec (.updActivate p mv) s = .next t ∧ slotSt t k = 2 ∧ slotSt t (1 - k) = slotSt s (1 - k) ∧ hdrActive t = k ∧ updState t = 4
            ∧ raisedEvent 0x0B04 0 (w32 (k * 256)) (w32 (pkgArb s k)) t ∧ t.upd.restartAt = some (s.clk.tb0 + 1000000)
            ∧ (∀ a, 0x20000 ≤ a → tget norDefault t.nor a = tget norDefault (commit 0 false (renewLease p s0)).nor a)
            ∧ t = { s0 with regs := t.regs, hwset := t.hwset, nor := t.nor, log := t.log, upd := t.upd, port := t.port, boot := t.boot }))
      ∧ (inTrial s = true → late ∨ confirms (.updConfirm p) 0)
      ∧ (inTrial s = true → confirmedNow s = false → fails (.rejectTrial p) 4 ∧ (late → fails (.updConfirm p) 3))
      ∧ (confirmedNow s = true → ∃ t, exec (.rejectTrial p) s = .next t ∧ rdF t Reg.SV_UPD_TRIAL 19 16 = 4 ∧ t.pwr.rst = true ∧ t.port.owner = none)
      ∧ (inTrial s = false → refuses (.updConfirm p) ∧ (confirmedNow s = false → refuses (.rejectTrial p)))
      ∧ commits (fun q b => .updCommit p q b)
      ∧ (rdB s Reg.SV_UPD_STAT 11 = false → refuses (.settingsReset p))
      ∧ (rdB s Reg.SV_UPD_STAT 11 = true → fits → ∃ t, exec (.settingsReset p) s = .next t ∧ rdB t Reg.SV_UPD_STAT 11 = false
          ∧ fresh t (if jHas s then 1 - jCur s else 0) (if jHas s then jGen s (jCur s) + 1 else 1))
      ∧ (rdB s Reg.SV_UPD_OTP 8 = true → refuses (.siteKey p))
      ∧ (rdB s Reg.SV_UPD_OTP 8 = false → ∃ t, exec (.siteKey p) s = .next t ∧ rdB t Reg.SV_UPD_OTP 8 = true
          ∧ t.upd = { s.upd with site := (List.range 8).flatMap fun m => beBytes 4 (rdN s (Reg.SV_UPD_SITEKEY m)) }
          ∧ t = { s with regs := t.regs, hwset := t.hwset, upd := t.upd, port := t.port } ∧ wordsKept [w4 Reg.SV_UPD_OTP] s t))
    ∧ (let due : Prop := inTrial s = true ∧ s.upd.trialAt.isSome = true ∧ rdF s Reg.SV_UPD_TCFG 23 0 ≤ tsec s
       (¬ due → exec .trialTimerExpiry s = .next s)
       ∧ (due → rdB s Reg.SV_UPD_TCFG 31 = true → confirms .trialTimerExpiry 1) ∧ (due → rdB s Reg.SV_UPD_TCFG 31 = false → confirmedNow s = false → fails .trialTimerExpiry 3))
    ∧ (s.upd.dirty = none → ∀ q b, exec (.settingsCommitTimer q b) s = .next s)
    ∧ (∀ c, s.upd.dirty = some c →
      ((s.clk.tb0 - c).toNat < 100000000 ∨ rdB s Reg.SV_NVM_STAT 3 = true → ∀ q b, exec (.settingsCommitTimer q b) s = .next s)
      ∧ (100000000 ≤ (s.clk.tb0 - c).toNat → rdB s Reg.SV_NVM_STAT 3 = false → commits fun q b => .settingsCommitTimer q b))

/-- R4, R461, R465 to R468, R471 and R479. The factory values and a run of no laps are free values (log entries 1 and 2). -/
def Obligations.DieTemperaturesAgeingAndDrift : Prop :=
  ∀ s : State,
    let w4 : Nat → Nat × Nat := fun a => (a, a + 4)
    let refuses : Instr → Prop := fun i => ∃ t, exec i s = .next t ∧ rdF t Reg.SV_VIOL_INFO 19 16 = 7 ∧ t = { s with regs := t.regs, hwset := t.hwset, log := t.log }
    (∀ (d : Nat) (v : Int), d < 8 →
      let x := max (-2147483648) (min 2147483647 v)
      let old := selBand s d
      let low : Nat → Int := fun b => [-2147483649, -1310720, 1638400, 4587520, 6881280].getD b 0
      let within : Nat → Prop := fun b => b ≤ 4 ∧ low b ≤ x ∧ (b < 4 → x < low (b + 1))
      let unread : Prop := running s = false ∨ v5Good s = false ∨ d = 0 ∨ 4 < d ∨ ∀ e, e < 2048 → sigKind s d e ≠ 1 ∨ sigSrc s d e ≠ 1280
      (diesUp s = false ∨ thmMay s d 1000000 = false → exec (.diodeReading d v) s = .next s)
      ∧ ∀ b, within b → diesUp s = true → thmMay s d 1000000 = true → unread → exitNow s = none →
        let new := if d ∉ s.thm.seen ∨ old < b then b else if b < old ∧ x < low old - 196608 then b else old
        let temps : Nat → Int := fun e => if e = d then x else rdI s (thmTemp e)
        let limit : Int := (rdF s Reg.SV_THM_CFG 23 16 : Int) * 65536
        let hot : Prop := (∃ e, e < 8 ∧ limit ≤ temps e) ∨ (s.thm.hot = true ∧ ∃ e, e < 8 ∧ limit - 655360 < temps e)
        let was : Prop := causes s / 256 % 2 = 1
        (old ≤ 4 ∨ d ∉ s.thm.seen) → (∀ e, selBand s e ≤ 4) →
        ∃ t, exec (.diodeReading d v) s = .next t ∧ rdI t (thmTemp d) = x ∧ rdI t (thmTmax d) = max (rdI s (thmTmax d)) x ∧ d ∈ t.thm.seen
          ∧ selBand t d = new ∧ (∀ e, e < 8 → e ≠ d → selBand t e = selBand s e ∧ rdI t (thmTemp e) = rdI s (thmTemp e))
          ∧ (new ≠ old → raisedEvent 0x0C01 d (w32 (new + old * 16 + pkgBand t * 256)) (i32 x) t ∧ (thmStat d, 2, 0, new) ∈ t.thm.later
              ∧ (∃ e, e < 8 ∧ pkgBand t = selBand t e) ∧ ∀ e, e < 8 → selBand t e ≤ pkgBand t)
          ∧ (t.thm.hot = true ↔ hot)
          ∧ let now : Prop := hot ∨ (rdB s Reg.SV_THM_CFG 31 = true ∧ pkgBand t = 4)
            (causes t / 256 % 2 = 1 ↔ now)
            ∧ (now → ¬ was → ∃ h, h < 8 ∧ (∀ e, e < 8 → temps e ≤ temps h) ∧ raisedEvent 0x0C05 0 (w32 (0x10000 + h)) (i32 (temps h)) t)
            ∧ (was → ¬ now → ∃ h, h < 8 ∧ (∀ e, e < 8 → temps e ≤ temps h) ∧ raisedEvent 0x0C05 0 (w32 h) (i32 (temps h)) t)
            ∧ t.clk = s.clk ∧ t.nor = s.nor ∧ t.upd = s.upd ∧ t.port = s.port ∧ (d, s.clk.tb0) ∈ t.thm.runs)
    ∧ (∀ d l mv : Nat, d < 8 →
      let ran := { s with thm := { s.thm with runs := (s.thm.runs.filter fun x => decide (x.1 ≠ 16 + d)) ++ [(16 + d, s.clk.tb0)] } }
      let due := { s with thm := { s.thm with canary := s.thm.canary.filter fun x => decide (x.1 ≠ d) } }
      let gone : Instr → State → Prop := fun i s0 => ∃ t, exec i s = .next t
        ∧ t = { s0 with thm := { s0.thm with canary := s0.thm.canary ++ [(d, s.clk.tb0 + 1000000000)] } }
      let a := max 65536 (min 0xFFFFFFFF ((2 * (Config.otpRef d mv (rdI s (thmTemp d)) * 65536) + l) / (2 * l)))
      let from0 := match s.thm.logA.find? fun x => decide (x.1 = d) with | some x => x.2 | none => max 65536 (rdN s (Reg.SV_THM_AGE d))
      let b := selBand s d
      let dly := min 15 (Config.dlyBase d b + ((a - 65536) * 40 + 65535) / 65536)
      let m := (2 * (min (Config.aEol d) a * (if b = 3 then 15 else if b = 4 then 14 else 16) * 65536) + a * 16) / (2 * (a * 16))
      let taken : Instr → State → Prop := fun i s0 => ∃ t, exec i s = .next t ∧ rdF t (thmCanary d) 15 0 = min 0xFFFF l
        ∧ (0 < l → rdN t (Reg.SV_THM_AGE d) = a ∧ (from0 * 100 + 65536 ≤ a * 100 → raisedEvent 0x0C02 d (w32 l) (w32 a) t)
            ∧ (thmStat d, 19, 16, dly) ∈ t.thm.later ∧ (Reg.SV_THM_MARGIN d, 31, 0, m) ∈ t.thm.later ∧ ∃ y ∈ t.thm.plan, y.1 = d ∧ y.2.1 = dly ∧ y.2.2.1 = m)
        ∧ (∀ e, e < 8 → e ≠ d → rd t (Reg.SV_THM_AGE e) = rd s (Reg.SV_THM_AGE e))
        ∧ ((∀ x, s.thm.planned = some x → x.tick ≠ s.clk.tb0) →
            rdF t Reg.SV_THM_REPLAN_CNT 30 0 = (if ∀ y ∈ t.thm.plan, y ∈ (if s.thm.plan.isEmpty then (List.range 8).map fun e => (e, 0, 65536, 65536) else s.thm.plan)
              then rdF s Reg.SV_THM_REPLAN_CNT 30 0 else min 0x7FFFFFFF (rdF s Reg.SV_THM_REPLAN_CNT 30 0 + 1)))
        ∧ t = { s0 with regs := t.regs, hwset := t.hwset, log := t.log, thm := t.thm, upd := t.upd } ∧ t.thm.runs = s0.thm.runs ∧ t.thm.canary = s0.thm.canary
      (diesUp s = false ∨ s.boot.loaded = false ∨ thmMay s (16 + d) 60000000000 = false → ∀ m, exec (.canaryRun d l mv m) s = .next s)
      ∧ (diesUp s = true → s.boot.loaded = true → thmMay s (16 + d) 60000000000 = true → gone (.canaryRun d l mv true) ran ∧ taken (.canaryRun d l mv false) ran)
      ∧ ((∃ x ∈ s.thm.canary, x.1 = d ∧ reached s.clk.tb0 x.2 = true) → gone (.canaryRetry d l mv true) due ∧ taken (.canaryRetry d l mv false) due)
      ∧ ((∀ x ∈ s.thm.canary, x.1 = d → reached s.clk.tb0 x.2 = false) → ∀ m, exec (.canaryRetry d l mv m) s = .next s))
    ∧ (∀ (probe : Bool) (x mean : Nat), x < 16 → mean < 2 ^ 32 →
      let base := rdN s (if probe then Reg.LP_THM_GBASE (1 + x / 4) (x % 4) else Reg.DR_THM_FANBASE (5 + x / 8) (x % 8))
      let pct := if probe then rdF s Reg.SV_THM_DRIFT 15 8 else rdF s Reg.SV_THM_DRIFT 23 16
      let ratio := (2 * (mean * 65536) + base) / (2 * base)
      let away : Prop := pct * 65536 < ((ratio : Int) - 65536).natAbs * 100
      let unit := if probe then 1 + x / 4 else 5 + x / 8
      let ch := if probe then x % 4 else x % 8
      let key := ((if probe then 3 else 2) * 256 + unit, ch)
      let goes : Prop := running s = true ∧ driftDue probe x s = true
      let k := if probe then 48 + x else 32 + x
      let runs := (s.thm.runs.filter fun y => decide (y.1 ≠ k)) ++ [(k, s.clk.tb0)]
      (¬ goes → exec (.driftCheck probe x mean) s = .next s)
      ∧ (goes → base = 0 → ∃ t, exec (.driftCheck probe x mean) s = .next t
          ∧ t = { s with regs := t.regs, hwset := t.hwset, upd := t.upd, thm := { s.thm with runs := runs } }
          ∧ rdN t (if probe then Reg.LP_THM_GBASE (1 + x / 4) (x % 4) else Reg.DR_THM_FANBASE (5 + x / 8) (x % 8)) = mean
          ∧ wordsKept [w4 (if probe then Reg.LP_THM_GBASE (1 + x / 4) (x % 4) else Reg.DR_THM_FANBASE (5 + x / 8) (x % 8))] s t)
      ∧ (goes → base ≠ 0 → ∃ t, exec (.driftCheck probe x mean) s = .next t ∧ t = { s with log := t.log, thm := t.thm } ∧ t.thm.runs = runs ∧ (key ∈ t.thm.drift ↔ away)
          ∧ (∀ y, y ≠ key → (y ∈ t.thm.drift ↔ y ∈ s.thm.drift))
          ∧ (away → key ∉ s.thm.drift → raisedEvent 0x0C08 unit (w32 ((if probe then 3 else 2) + ch * 256)) (w32 ratio) t)
          ∧ (¬ away ∨ key ∈ s.thm.drift → t.log = s.log)))
    ∧ (∀ p : PortId, mayWrite p Reg.SV_NVM_CTRL s →
      (rdB s Reg.SV_NVM_STAT 3 = true ∨ rdB s Reg.SV_UPD_STAT 8 = true → refuses (.nvmReset p))
      ∧ (rdB s Reg.SV_NVM_STAT 3 = false → rdB s Reg.SV_UPD_STAT 8 = false → ∃ t, exec (.nvmReset p) s = .next t ∧ rdB t Reg.SV_NVM_STAT 3 = true
          ∧ t = { s with regs := t.regs, hwset := t.hwset, port := t.port } ∧ wordsKept [w4 Reg.SV_NVM_STAT] s t))
    ∧ (∀ b, (rdB s Reg.SV_NVM_STAT 3 = false → exec (.nvmResetDone b) s = .next s)
      ∧ (rdB s Reg.SV_NVM_STAT 3 = true → ∃ t, exec (.nvmResetDone b) s = .next t ∧ rdB t Reg.SV_NVM_STAT 3 = false ∧ rdB t Reg.SV_NVM_STAT 2 = b
          ∧ t = { s with regs := t.regs, hwset := t.hwset } ∧ wordsKept [w4 Reg.SV_NVM_STAT] s t))
end

