-- ==== Sys2Proof/Laws/Crc.lean ====
section
/-!
SUPPORT. CRC-32 (Table 03-3) is the plain fold of its byte step.
-/
namespace Sys2Proof.Machine

@[simp] theorem forced_eq {α : Type} (n : Nat) (f : Nat → α) : forced n f = f n := by cases n <;> rfl

theorem crcFold_eq (l : List Byte) (c : Word) : w32 (crcFold l c.toNat) = l.foldl crcByte c := by
  induction l generalizing c with
  | nil => simp [crcFold, w32]
  | cons b r ih => simp only [crcFold, forced_eq, List.foldl_cons, w32, BitVec.ofNat_toNat, BitVec.setWidth_eq]; exact ih _

/-- CRC-32 with initial value and final XOR of ones, byte by byte. -/
theorem crc32_eq (l : List Byte) : crc32 l = l.foldl crcByte 0xFFFFFFFF ^^^ 0xFFFFFFFF := by
  unfold crc32
  rw [← crcFold_eq l 0xFFFFFFFF]
  rfl

end Sys2Proof.Machine
end

