-- ==== Sys2Proof/Laws/Memory.lean ====
section
/-!
SUPPORT. The laws of the sparse tables, of the register and memory words, and of the NOR: what a read gives after a write, and
that every operation on a store keeps its canonical form.
-/
namespace Sys2Proof.Machine

/-! ### Sparse tables -/

@[simp] theorem tget_nil {α : Type} (d : Nat → α) (i : Nat) : tget d [] i = d i := rfl

theorem tget_cons {α : Type} (d : Nat → α) (k : Nat) (v : α) (r : List (Nat × α)) (i : Nat) :
    tget d ((k, v) :: r) i = if k = i then v else tget d r i := rfl

theorem tget_tdel_same {α : Type} (d : Nat → α) (l : List (Nat × α)) (i : Nat) : tget d (tdel l i) i = d i := by
  induction l with
  | nil => rfl
  | cons x r ih =>
    obtain ⟨k, v⟩ := x
    by_cases h : k = i <;> simp [tdel, h, tget_cons, ih]

theorem tget_tdel_ne {α : Type} (d : Nat → α) (l : List (Nat × α)) {i j : Nat} (h : i ≠ j) :
    tget d (tdel l i) j = tget d l j := by
  induction l with
  | nil => rfl
  | cons x r ih =>
    obtain ⟨k, v⟩ := x
    by_cases hk : k = i
    · simp [tdel, hk, tget_cons, h, ih]
    · simp [tdel, hk, tget_cons, ih]

/-- A key just written reads as written. -/
@[simp] theorem tget_tput_same {α : Type} [DecidableEq α] (d : Nat → α) (l : List (Nat × α)) (i : Nat) (v : α) :
    tget d (tput d l i v) i = v := by
  induction l with
  | nil => by_cases h : v = d i <;> simp [tput, h, tget_cons]
  | cons x r ih =>
    obtain ⟨k, w⟩ := x
    simp only [tput]
    split
    · next hk => simp [tget_cons, Nat.ne_of_lt hk, ih]
    · split
      · next hv => rw [tget_tdel_same]; exact hv.symm
      · split <;> simp [tget_cons]

/-- A write leaves every other key alone. -/
theorem tget_tput_ne {α : Type} [DecidableEq α] (d : Nat → α) (l : List (Nat × α)) {i j : Nat} (v : α) (h : i ≠ j) :
    tget d (tput d l i v) j = tget d l j := by
  induction l with
  | nil => by_cases hv : v = d i <;> simp [tput, hv, tget_cons, h]
  | cons x r ih =>
    obtain ⟨k, w⟩ := x
    simp only [tput]
    split
    · simp [tget_cons, ih]
    · split
      · exact tget_tdel_ne d _ h
      · split
        · next hk => simp [tget_cons, h, hk]
        · simp [tget_cons, h]

/-! ### The canonical form -/

theorem twfFrom_mono {α : Type} [DecidableEq α] (d : Nat → α) {m n : Nat} (h : m ≤ n) (l : List (Nat × α)) :
    twfFrom d n l = true → twfFrom d m l = true := by
  cases l with
  | nil => simp [twfFrom]
  | cons x r => obtain ⟨k, v⟩ := x; simp only [twfFrom, Bool.and_eq_true, decide_eq_true_eq]; intro ⟨⟨a, b⟩, c⟩
                exact ⟨⟨by omega, b⟩, c⟩

theorem twfFrom_tdel {α : Type} [DecidableEq α] (d : Nat → α) (l : List (Nat × α)) (i m : Nat) :
    twfFrom d m l = true → twfFrom d m (tdel l i) = true := by
  induction l generalizing m with
  | nil => simp [tdel, twfFrom]
  | cons x r ih =>
    obtain ⟨k, v⟩ := x
    simp only [twfFrom, Bool.and_eq_true, decide_eq_true_eq, tdel]
    intro ⟨⟨a, b⟩, c⟩
    split
    · exact twfFrom_mono d (by omega) _ (ih _ c)
    · simp only [twfFrom, Bool.and_eq_true, decide_eq_true_eq]; exact ⟨⟨a, b⟩, ih _ c⟩

theorem twfFrom_tput {α : Type} [DecidableEq α] (d : Nat → α) (l : List (Nat × α)) (i m : Nat) (v : α) (hm : m ≤ i) :
    twfFrom d m l = true → twfFrom d m (tput d l i v) = true := by
  induction l generalizing m with
  | nil => by_cases h : v = d i <;> simp [tput, h, twfFrom, hm]
  | cons x r ih =>
    obtain ⟨k, w⟩ := x
    intro h
    have h' := h
    simp only [twfFrom, Bool.and_eq_true, decide_eq_true_eq] at h'
    obtain ⟨⟨a, b⟩, c⟩ := h'
    simp only [tput]
    split
    · next hk =>
      simp only [twfFrom, Bool.and_eq_true, decide_eq_true_eq]
      exact ⟨⟨a, b⟩, ih _ (by omega) c⟩
    · next hk =>
      split
      · exact twfFrom_tdel d _ i m h
      · next hv =>
        split
        · next he =>
          simp only [twfFrom, Bool.and_eq_true, decide_eq_true_eq]
          exact ⟨⟨hm, hv⟩, he ▸ c⟩
        · next he =>
          simp only [twfFrom, Bool.and_eq_true, decide_eq_true_eq]
          exact ⟨⟨hm, hv⟩, ⟨⟨by omega, b⟩, c⟩⟩

/-- A write keeps the canonical form of a table. -/
theorem twf_tput {α : Type} [DecidableEq α] (d : Nat → α) (l : List (Nat × α)) (i : Nat) (v : α) (h : twf d l = true) :
    twf d (tput d l i v) = true := twfFrom_tput d l i 0 v (Nat.zero_le _) h

theorem twfFrom_filter {α : Type} [DecidableEq α] (d : Nat → α) (p : Nat × α → Bool) (l : List (Nat × α)) (m : Nat) :
    twfFrom d m l = true → twfFrom d m (l.filter p) = true := by
  induction l generalizing m with
  | nil => simp [twfFrom]
  | cons x r ih =>
    obtain ⟨k, v⟩ := x
    simp only [twfFrom, Bool.and_eq_true, decide_eq_true_eq, List.filter_cons]
    intro ⟨⟨a, b⟩, c⟩
    split
    · simp only [twfFrom, Bool.and_eq_true, decide_eq_true_eq]; exact ⟨⟨a, b⟩, ih _ c⟩
    · exact twfFrom_mono d (by omega) _ (ih _ c)

theorem twf_cellPut (d : Nat → Byte) (m : List Host.Cell) (a : Nat) (w : Word) (h : twf d m = true) :
    twf d (cellPut d m a w) = true := by
  unfold cellPut
  exact twf_tput d _ _ _ (twf_tput d _ _ _ (twf_tput d _ _ _ (twf_tput d _ _ _ h)))

/-- The stores of a state are in canonical form. -/
def storesWf (s : State) : Bool := twf resetWord s.regs && twf memDefault s.mem && twf norDefault s.nor

theorem storesWf_wr (s : State) (a : Nat) (w : Word) (h : storesWf s = true) : storesWf (wr s a w) = true := by
  simp only [storesWf, Bool.and_eq_true] at h ⊢
  obtain ⟨⟨h1, h2⟩, h3⟩ := h
  unfold wr
  simp only
  split
  · exact ⟨⟨h1, twf_cellPut _ _ _ _ h2⟩, h3⟩
  · exact ⟨⟨twf_tput _ _ _ _ h1, h2⟩, h3⟩

theorem storesWf_norPut (s : State) (a : Nat) (w : Word) (h : storesWf s = true) : storesWf (norPut s a w) = true := by
  simp only [storesWf, Bool.and_eq_true, norPut] at h ⊢
  exact ⟨h.1, twf_cellPut _ _ _ _ h.2⟩

theorem storesWf_norErase (s : State) (lo hi : Nat) (h : storesWf s = true) : storesWf (norErase s lo hi) = true := by
  simp only [storesWf, Bool.and_eq_true, norErase] at h ⊢
  exact ⟨h.1, twfFrom_filter _ _ _ _ h.2⟩

theorem storesWf_memErase (s : State) (lo hi : Nat) (h : storesWf s = true) : storesWf (memErase s lo hi) = true := by
  simp only [storesWf, Bool.and_eq_true, memErase] at h ⊢
  exact ⟨⟨h.1.1, twfFrom_filter _ _ _ _ h.1.2⟩, h.2⟩

theorem storesWf_reset : storesWf State.reset = true := by simp [storesWf, State.reset, twf, twfFrom]

/-! ### Words -/

theorem ofLe_bytes (w : Word) :
    ofLe (w.extractLsb' 0 8) (w.extractLsb' 8 8) (w.extractLsb' 16 8) (w.extractLsb' 24 8) = w := by
  unfold ofLe
  apply BitVec.eq_of_getLsbD_eq
  intro i hi
  simp only [BitVec.getLsbD_append, BitVec.getLsbD_extractLsb']
  rcases Nat.lt_or_ge i 8 with h | h
  · simp [h]
  rcases Nat.lt_or_ge i 16 with h2 | h2
  · have e : 8 + (i - 8) = i := by omega
    simp [Nat.not_lt.mpr h, show i - 8 < 8 by omega, e]
  rcases Nat.lt_or_ge i 24 with h3 | h3
  · have e : 16 + (i - 8 - 8) = i := by omega
    simp [Nat.not_lt.mpr h, show ¬ (i - 8 < 8) by omega, show i - 8 - 8 < 8 by omega, e]
  · have e : 24 + (i - 8 - 8 - 8) = i := by omega
    simp [Nat.not_lt.mpr h, show ¬ (i - 8 < 8) by omega, show ¬ (i - 8 - 8 < 8) by omega,
      show i - 8 - 8 - 8 < 8 by omega, e]

theorem tget_cellPut_ne (d : Nat → Byte) (m : List Host.Cell) (a b : Nat) (w : Word) (h : b < a ∨ a + 4 ≤ b) :
    tget d (cellPut d m a w) b = tget d m b := by
  unfold cellPut
  rw [tget_tput_ne d _ _ (by omega), tget_tput_ne d _ _ (by omega), tget_tput_ne d _ _ (by omega),
    tget_tput_ne d _ _ (by omega)]

/-- A word just put into a byte store reads back. -/
@[simp] theorem cellWord_cellPut_same (d : Nat → Byte) (m : List Host.Cell) (a : Nat) (w : Word) :
    cellWord d (cellPut d m a w) a = w := by
  unfold cellWord cellPut
  simp only [tget_tput_same]
  rw [tget_tput_ne d _ _ (by omega), tget_tput_ne d _ _ (by omega), tget_tput_ne d _ _ (by omega), tget_tput_same,
    tget_tput_ne d _ _ (by omega), tget_tput_ne d _ _ (by omega), tget_tput_same, tget_tput_ne d _ _ (by omega),
    tget_tput_same]
  exact ofLe_bytes w

/-- A word put into a byte store leaves every word that shares no byte with it. -/
theorem cellWord_cellPut_ne (d : Nat → Byte) (m : List Host.Cell) {a b : Nat} (w : Word) (h : b + 4 ≤ a ∨ a + 4 ≤ b) :
    cellWord d (cellPut d m a w) b = cellWord d m b := by
  unfold cellWord
  rw [tget_cellPut_ne d m a b w (by omega), tget_cellPut_ne d m a (b + 1) w (by omega),
    tget_cellPut_ne d m a (b + 2) w (by omega), tget_cellPut_ne d m a (b + 3) w (by omega)]

/-- What a read gives after a write: the word written at its address, every other word as before. -/
theorem rd_wr (s : State) (a b : Nat) (w : Word) : rd (wr s a w) b = if wordBase a = wordBase b then w else rd s b := by
  by_cases h : wordBase a = wordBase b
  · simp only [h, if_true]
    unfold rd wr
    rw [h]
    by_cases hm : usesMem (wordBase b) <;> simp [hm]
  · rw [if_neg h]
    have h4 : wordBase b + 4 ≤ wordBase a ∨ wordBase a + 4 ≤ wordBase b := by unfold wordBase at h ⊢; omega
    unfold rd wr
    by_cases ha : usesMem (wordBase a) <;> by_cases hb : usesMem (wordBase b) <;> simp only [ha, hb, if_true]
    · simp [cellWord_cellPut_ne _ _ _ h4]
    · simp
    · simp
    · simp [tget_tput_ne _ _ _ h]

@[simp] theorem rd_wr_same (s : State) (a : Nat) (w : Word) : rd (wr s a w) a = w := by rw [rd_wr, if_pos rfl]

theorem rd_wr_ne (s : State) {a b : Nat} (w : Word) (h : wordBase a ≠ wordBase b) : rd (wr s a w) b = rd s b := by
  rw [rd_wr, if_neg h]

/-- A NOR word just programmed reads back. -/
@[simp] theorem norWord_norPut_same (s : State) (a : Nat) (w : Word) : norWord (norPut s a w) a = w :=
  cellWord_cellPut_same _ _ _ _

theorem norWord_norPut_ne (s : State) {a b : Nat} (w : Word) (h : b + 4 ≤ a ∨ a + 4 ≤ b) :
    norWord (norPut s a w) b = norWord s b := cellWord_cellPut_ne _ _ _ h

@[simp] theorem rd_norPut (s : State) (a b : Nat) (w : Word) : rd (norPut s a w) b = rd s b := rfl

end Sys2Proof.Machine
end

