-- ==== Sys2Proof/Laws/Words.lean ====
section
/-!
SUPPORT. The laws of words and their fields: what a field reads after a field is replaced.
-/
namespace Sys2Proof.Machine

theorem testBit_bits (w : Word) (hi lo j : Nat) :
    (bits w hi lo).testBit j = (decide (j < hi - lo + 1) && w.getLsbD (lo + j)) := by
  unfold bits
  rw [Nat.testBit_mod_two_pow, Nat.testBit_div_two_pow, BitVec.getLsbD, Nat.add_comm j lo]

theorem getLsbD_fmask (hi lo i : Nat) :
    (fmask hi lo).getLsbD i = decide (lo ≤ i ∧ i < lo + (hi - lo + 1) ∧ i < 32) := by
  unfold fmask w32
  rw [BitVec.getLsbD_ofNat, Nat.testBit_mul_two_pow, Nat.testBit_two_pow_sub_one]
  by_cases h1 : i < 32 <;> by_cases h2 : lo ≤ i <;> by_cases h3 : i - lo < hi - lo + 1 <;> simp [h1, h2, h3] <;> omega

theorem getLsbD_setBits (w : Word) (hi lo v i : Nat) :
    (setBits w hi lo v).getLsbD i =
      if lo ≤ i ∧ i < lo + (hi - lo + 1) ∧ i < 32 then v.testBit (i - lo) else w.getLsbD i := by
  unfold setBits
  rw [BitVec.getLsbD_or, BitVec.getLsbD_and, BitVec.getLsbD_not, getLsbD_fmask, w32, BitVec.getLsbD_ofNat,
    Nat.testBit_mul_two_pow, Nat.testBit_mod_two_pow]
  by_cases h1 : i < 32
  · by_cases h2 : lo ≤ i <;> by_cases h3 : i < lo + (hi - lo + 1)
    · have h4 : i - lo < hi - lo + 1 := by omega
      simp [h1, h2, h3, h4]
    · have h4 : ¬ (i - lo < hi - lo + 1) := by omega
      simp [h1, h3, h4]
    · simp [h1, h2]
    · simp [h1, h2]
  · have : w.getLsbD i = false := BitVec.getLsbD_of_ge _ _ (by omega)
    simp [h1, this]

/-- A field just replaced reads as replaced, cut to its width. -/
theorem bits_setBits_same (w : Word) (hi lo v : Nat) (h : hi ≤ 31) (hl : lo ≤ hi) :
    bits (setBits w hi lo v) hi lo = v % 2 ^ (hi - lo + 1) := by
  apply Nat.eq_of_testBit_eq
  intro j
  rw [testBit_bits, getLsbD_setBits, Nat.testBit_mod_two_pow]
  by_cases hj : j < hi - lo + 1
  · rw [if_pos (by omega)]; simp [hj]
  · simp [hj]

/-- Replacing a field leaves every other field of the word alone. -/
theorem bits_setBits_ne (w : Word) (hi lo v hi' lo' : Nat) (hl : lo ≤ hi) (hd : hi' < lo ∨ hi < lo')
    (hl' : lo' ≤ hi') : bits (setBits w hi lo v) hi' lo' = bits w hi' lo' := by
  apply Nat.eq_of_testBit_eq
  intro j
  rw [testBit_bits, testBit_bits, getLsbD_setBits]
  by_cases hj : j < hi' - lo' + 1
  · rw [if_neg (by omega)]
  · simp [hj]

theorem bit_setBit_same (w : Word) (i : Nat) (b : Bool) (h : i ≤ 31) : bit (setBit w i b) i = b := by
  unfold bit setBit
  rw [getLsbD_setBits, if_pos (by omega)]
  cases b <;> simp

theorem bit_setBit_ne (w : Word) (i j : Nat) (b : Bool) (hj : i ≠ j) : bit (setBit w i b) j = bit w j := by
  unfold bit setBit
  rw [getLsbD_setBits, if_neg (by omega)]

theorem bit_setBits_ne (w : Word) (hi lo v j : Nat) (hl : lo ≤ hi) (hj : j < lo ∨ hi < j) :
    bit (setBits w hi lo v) j = bit w j := by
  unfold bit
  rw [getLsbD_setBits, if_neg (by omega)]

theorem bits_setBit_ne (w : Word) (i : Nat) (b : Bool) (hi lo : Nat) (hl : lo ≤ hi) (hd : hi < i ∨ i < lo) :
    bits (setBit w i b) hi lo = bits w hi lo := by
  unfold setBit
  exact bits_setBits_ne w i i _ hi lo (Nat.le_refl _) hd hl

/-! ### Fields of the word at an address -/

theorem rdF_wrF_same (s : State) (a hi lo v : Nat) (h : hi ≤ 31) (hl : lo ≤ hi) :
    rdF (wrF s a hi lo v) a hi lo = v % 2 ^ (hi - lo + 1) := by
  unfold rdF wrF
  rw [rd_wr_same, bits_setBits_same _ _ _ _ h hl]

theorem rdF_wrF_field (s : State) (a hi lo v hi' lo' : Nat) (hl : lo ≤ hi) (hd : hi' < lo ∨ hi < lo')
    (hl' : lo' ≤ hi') : rdF (wrF s a hi lo v) a hi' lo' = rdF s a hi' lo' := by
  unfold rdF wrF
  rw [rd_wr_same, bits_setBits_ne _ _ _ _ _ _ hl hd hl']

theorem rdB_wrB_same (s : State) (a i : Nat) (b : Bool) (h : i ≤ 31) : rdB (wrB s a i b) a i = b := by
  unfold rdB wrB
  rw [rd_wr_same, bit_setBit_same _ _ _ h]

theorem rdB_wrB_bit (s : State) (a i j : Nat) (b : Bool) (hj : i ≠ j) :
    rdB (wrB s a i b) a j = rdB s a j := by
  unfold rdB wrB
  rw [rd_wr_same, bit_setBit_ne _ _ _ _ hj]

theorem rdF_wrB_field (s : State) (a i : Nat) (b : Bool) (hi lo : Nat) (hl : lo ≤ hi) (hd : hi < i ∨ i < lo) :
    rdF (wrB s a i b) a hi lo = rdF s a hi lo := by
  unfold rdF wrB
  rw [rd_wr_same, bits_setBit_ne _ _ _ _ _ hl hd]

theorem rdB_wrF_bit (s : State) (a hi lo v j : Nat) (hl : lo ≤ hi) (hj : j < lo ∨ hi < j) :
    rdB (wrF s a hi lo v) a j = rdB s a j := by
  unfold rdB wrF
  rw [rd_wr_same, bit_setBits_ne _ _ _ _ _ hl hj]

theorem rd_wrF_ne (s : State) {a b : Nat} (hi lo v : Nat) (h : wordBase a ≠ wordBase b) : rd (wrF s a hi lo v) b = rd s b :=
  rd_wr_ne s _ h
theorem rd_wrB_ne (s : State) {a b : Nat} (i : Nat) (v : Bool) (h : wordBase a ≠ wordBase b) : rd (wrB s a i v) b = rd s b :=
  rd_wr_ne s _ h
theorem rd_wrN_ne (s : State) {a b : Nat} (n : Nat) (h : wordBase a ≠ wordBase b) : rd (wrN s a n) b = rd s b :=
  rd_wr_ne s _ h
theorem rd_wrI_ne (s : State) {a b : Nat} (i : Int) (h : wordBase a ≠ wordBase b) : rd (wrI s a i) b = rd s b :=
  rd_wr_ne s _ h
@[simp] theorem rd_wrN_same (s : State) (a n : Nat) : rd (wrN s a n) a = w32 n := rd_wr_same s a _
@[simp] theorem rd_wrI_same (s : State) (a : Nat) (i : Int) : rd (wrI s a i) a = i32 i := rd_wr_same s a _
@[simp] theorem rd_wrF_same (s : State) (a hi lo v : Nat) : rd (wrF s a hi lo v) a = setBits (rd s a) hi lo v := rd_wr_same s a _
@[simp] theorem rd_wrB_same (s : State) (a i : Nat) (b : Bool) : rd (wrB s a i b) a = setBit (rd s a) i b := rd_wr_same s a _

end Sys2Proof.Machine
end

