-- ==== Sys2Proof/Laws/State.lean ====
section
/-!
SUPPORT. What each named update of the state leaves alone, field by field, and what it replaces.
-/
namespace Sys2Proof.Machine


/-! ### A register or memory word -/

@[simp] theorem wr_clk (s : State) (a : Nat) (w : Word) : (wr s a w).clk = s.clk := by unfold wr; simp only; split <;> rfl
@[simp] theorem wr_nor (s : State) (a : Nat) (w : Word) : (wr s a w).nor = s.nor := by unfold wr; simp only; split <;> rfl
@[simp] theorem wr_time (s : State) (a : Nat) (w : Word) : (wr s a w).time = s.time := by unfold wr; simp only; split <;> rfl
@[simp] theorem wr_log (s : State) (a : Nat) (w : Word) : (wr s a w).log = s.log := by unfold wr; simp only; split <;> rfl
@[simp] theorem wr_can (s : State) (a : Nat) (w : Word) : (wr s a w).can = s.can := by unfold wr; simp only; split <;> rfl
@[simp] theorem wr_net (s : State) (a : Nat) (w : Word) : (wr s a w).net = s.net := by unfold wr; simp only; split <;> rfl
@[simp] theorem wr_sig (s : State) (a : Nat) (w : Word) : (wr s a w).sig = s.sig := by unfold wr; simp only; split <;> rfl
@[simp] theorem wr_loops (s : State) (a : Nat) (w : Word) : (wr s a w).loops = s.loops := by unfold wr; simp only; split <;> rfl
@[simp] theorem wr_eng (s : State) (a : Nat) (w : Word) : (wr s a w).eng = s.eng := by unfold wr; simp only; split <;> rfl
@[simp] theorem wr_sense (s : State) (a : Nat) (w : Word) : (wr s a w).sense = s.sense := by unfold wr; simp only; split <;> rfl
@[simp] theorem wr_trk (s : State) (a : Nat) (w : Word) : (wr s a w).trk = s.trk := by unfold wr; simp only; split <;> rfl
@[simp] theorem wr_str (s : State) (a : Nat) (w : Word) : (wr s a w).str = s.str := by unfold wr; simp only; split <;> rfl
@[simp] theorem wr_drv (s : State) (a : Nat) (w : Word) : (wr s a w).drv = s.drv := by unfold wr; simp only; split <;> rfl
@[simp] theorem wr_thm (s : State) (a : Nat) (w : Word) : (wr s a w).thm = s.thm := by unfold wr; simp only; split <;> rfl
@[simp] theorem wr_pwr (s : State) (a : Nat) (w : Word) : (wr s a w).pwr = s.pwr := by unfold wr; simp only; split <;> rfl
@[simp] theorem wr_boot (s : State) (a : Nat) (w : Word) : (wr s a w).boot = s.boot := by unfold wr; simp only; split <;> rfl
@[simp] theorem wr_upd (s : State) (a : Nat) (w : Word) : (wr s a w).upd = s.upd := by unfold wr; simp only; split <;> rfl
@[simp] theorem wr_port (s : State) (a : Nat) (w : Word) : (wr s a w).port = s.port := by unfold wr; simp only; split <;> rfl
@[simp] theorem wr_seq (s : State) (a : Nat) (w : Word) : (wr s a w).seq = s.seq := by unfold wr; simp only; split <;> rfl
@[simp] theorem wr_hwset (s : State) (a : Nat) (w : Word) : (wr s a w).hwset = s.hwset := by unfold wr; simp only; split <;> rfl
@[simp] theorem wr_free (s : State) (a : Nat) (w : Word) : (wr s a w).free = s.free := by unfold wr; simp only; split <;> rfl
@[simp] theorem wr_pending (s : State) (a : Nat) (w : Word) : (wr s a w).pending = s.pending := by unfold wr; simp only; split <;> rfl
@[simp] theorem wrF_clk (s : State) (a hi lo v : Nat) : (wrF s a hi lo v).clk = s.clk := wr_clk s a _
@[simp] theorem wrF_nor (s : State) (a hi lo v : Nat) : (wrF s a hi lo v).nor = s.nor := wr_nor s a _
@[simp] theorem wrF_time (s : State) (a hi lo v : Nat) : (wrF s a hi lo v).time = s.time := wr_time s a _
@[simp] theorem wrF_log (s : State) (a hi lo v : Nat) : (wrF s a hi lo v).log = s.log := wr_log s a _
@[simp] theorem wrF_can (s : State) (a hi lo v : Nat) : (wrF s a hi lo v).can = s.can := wr_can s a _
@[simp] theorem wrF_net (s : State) (a hi lo v : Nat) : (wrF s a hi lo v).net = s.net := wr_net s a _
@[simp] theorem wrF_sig (s : State) (a hi lo v : Nat) : (wrF s a hi lo v).sig = s.sig := wr_sig s a _
@[simp] theorem wrF_loops (s : State) (a hi lo v : Nat) : (wrF s a hi lo v).loops = s.loops := wr_loops s a _
@[simp] theorem wrF_eng (s : State) (a hi lo v : Nat) : (wrF s a hi lo v).eng = s.eng := wr_eng s a _
@[simp] theorem wrF_sense (s : State) (a hi lo v : Nat) : (wrF s a hi lo v).sense = s.sense := wr_sense s a _
@[simp] theorem wrF_trk (s : State) (a hi lo v : Nat) : (wrF s a hi lo v).trk = s.trk := wr_trk s a _
@[simp] theorem wrF_str (s : State) (a hi lo v : Nat) : (wrF s a hi lo v).str = s.str := wr_str s a _
@[simp] theorem wrF_drv (s : State) (a hi lo v : Nat) : (wrF s a hi lo v).drv = s.drv := wr_drv s a _
@[simp] theorem wrF_thm (s : State) (a hi lo v : Nat) : (wrF s a hi lo v).thm = s.thm := wr_thm s a _
@[simp] theorem wrF_pwr (s : State) (a hi lo v : Nat) : (wrF s a hi lo v).pwr = s.pwr := wr_pwr s a _
@[simp] theorem wrF_boot (s : State) (a hi lo v : Nat) : (wrF s a hi lo v).boot = s.boot := wr_boot s a _
@[simp] theorem wrF_upd (s : State) (a hi lo v : Nat) : (wrF s a hi lo v).upd = s.upd := wr_upd s a _
@[simp] theorem wrF_port (s : State) (a hi lo v : Nat) : (wrF s a hi lo v).port = s.port := wr_port s a _
@[simp] theorem wrF_seq (s : State) (a hi lo v : Nat) : (wrF s a hi lo v).seq = s.seq := wr_seq s a _
@[simp] theorem wrF_hwset (s : State) (a hi lo v : Nat) : (wrF s a hi lo v).hwset = s.hwset := wr_hwset s a _
@[simp] theorem wrF_free (s : State) (a hi lo v : Nat) : (wrF s a hi lo v).free = s.free := wr_free s a _
@[simp] theorem wrF_pending (s : State) (a hi lo v : Nat) : (wrF s a hi lo v).pending = s.pending := wr_pending s a _
@[simp] theorem wrB_clk (s : State) (a i : Nat) (b : Bool) : (wrB s a i b).clk = s.clk := wr_clk s a _
@[simp] theorem wrB_nor (s : State) (a i : Nat) (b : Bool) : (wrB s a i b).nor = s.nor := wr_nor s a _
@[simp] theorem wrB_time (s : State) (a i : Nat) (b : Bool) : (wrB s a i b).time = s.time := wr_time s a _
@[simp] theorem wrB_log (s : State) (a i : Nat) (b : Bool) : (wrB s a i b).log = s.log := wr_log s a _
@[simp] theorem wrB_can (s : State) (a i : Nat) (b : Bool) : (wrB s a i b).can = s.can := wr_can s a _
@[simp] theorem wrB_net (s : State) (a i : Nat) (b : Bool) : (wrB s a i b).net = s.net := wr_net s a _
@[simp] theorem wrB_sig (s : State) (a i : Nat) (b : Bool) : (wrB s a i b).sig = s.sig := wr_sig s a _
@[simp] theorem wrB_loops (s : State) (a i : Nat) (b : Bool) : (wrB s a i b).loops = s.loops := wr_loops s a _
@[simp] theorem wrB_eng (s : State) (a i : Nat) (b : Bool) : (wrB s a i b).eng = s.eng := wr_eng s a _
@[simp] theorem wrB_sense (s : State) (a i : Nat) (b : Bool) : (wrB s a i b).sense = s.sense := wr_sense s a _
@[simp] theorem wrB_trk (s : State) (a i : Nat) (b : Bool) : (wrB s a i b).trk = s.trk := wr_trk s a _
@[simp] theorem wrB_str (s : State) (a i : Nat) (b : Bool) : (wrB s a i b).str = s.str := wr_str s a _
@[simp] theorem wrB_drv (s : State) (a i : Nat) (b : Bool) : (wrB s a i b).drv = s.drv := wr_drv s a _
@[simp] theorem wrB_thm (s : State) (a i : Nat) (b : Bool) : (wrB s a i b).thm = s.thm := wr_thm s a _
@[simp] theorem wrB_pwr (s : State) (a i : Nat) (b : Bool) : (wrB s a i b).pwr = s.pwr := wr_pwr s a _
@[simp] theorem wrB_boot (s : State) (a i : Nat) (b : Bool) : (wrB s a i b).boot = s.boot := wr_boot s a _
@[simp] theorem wrB_upd (s : State) (a i : Nat) (b : Bool) : (wrB s a i b).upd = s.upd := wr_upd s a _
@[simp] theorem wrB_port (s : State) (a i : Nat) (b : Bool) : (wrB s a i b).port = s.port := wr_port s a _
@[simp] theorem wrB_seq (s : State) (a i : Nat) (b : Bool) : (wrB s a i b).seq = s.seq := wr_seq s a _
@[simp] theorem wrB_hwset (s : State) (a i : Nat) (b : Bool) : (wrB s a i b).hwset = s.hwset := wr_hwset s a _
@[simp] theorem wrB_free (s : State) (a i : Nat) (b : Bool) : (wrB s a i b).free = s.free := wr_free s a _
@[simp] theorem wrB_pending (s : State) (a i : Nat) (b : Bool) : (wrB s a i b).pending = s.pending := wr_pending s a _
@[simp] theorem wrN_clk (s : State) (a n : Nat) : (wrN s a n).clk = s.clk := wr_clk s a _
@[simp] theorem wrN_nor (s : State) (a n : Nat) : (wrN s a n).nor = s.nor := wr_nor s a _
@[simp] theorem wrN_time (s : State) (a n : Nat) : (wrN s a n).time = s.time := wr_time s a _
@[simp] theorem wrN_log (s : State) (a n : Nat) : (wrN s a n).log = s.log := wr_log s a _
@[simp] theorem wrN_can (s : State) (a n : Nat) : (wrN s a n).can = s.can := wr_can s a _
@[simp] theorem wrN_net (s : State) (a n : Nat) : (wrN s a n).net = s.net := wr_net s a _
@[simp] theorem wrN_sig (s : State) (a n : Nat) : (wrN s a n).sig = s.sig := wr_sig s a _
@[simp] theorem wrN_loops (s : State) (a n : Nat) : (wrN s a n).loops = s.loops := wr_loops s a _
@[simp] theorem wrN_eng (s : State) (a n : Nat) : (wrN s a n).eng = s.eng := wr_eng s a _
@[simp] theorem wrN_sense (s : State) (a n : Nat) : (wrN s a n).sense = s.sense := wr_sense s a _
@[simp] theorem wrN_trk (s : State) (a n : Nat) : (wrN s a n).trk = s.trk := wr_trk s a _
@[simp] theorem wrN_str (s : State) (a n : Nat) : (wrN s a n).str = s.str := wr_str s a _
@[simp] theorem wrN_drv (s : State) (a n : Nat) : (wrN s a n).drv = s.drv := wr_drv s a _
@[simp] theorem wrN_thm (s : State) (a n : Nat) : (wrN s a n).thm = s.thm := wr_thm s a _
@[simp] theorem wrN_pwr (s : State) (a n : Nat) : (wrN s a n).pwr = s.pwr := wr_pwr s a _
@[simp] theorem wrN_boot (s : State) (a n : Nat) : (wrN s a n).boot = s.boot := wr_boot s a _
@[simp] theorem wrN_upd (s : State) (a n : Nat) : (wrN s a n).upd = s.upd := wr_upd s a _
@[simp] theorem wrN_port (s : State) (a n : Nat) : (wrN s a n).port = s.port := wr_port s a _
@[simp] theorem wrN_seq (s : State) (a n : Nat) : (wrN s a n).seq = s.seq := wr_seq s a _
@[simp] theorem wrN_hwset (s : State) (a n : Nat) : (wrN s a n).hwset = s.hwset := wr_hwset s a _
@[simp] theorem wrN_free (s : State) (a n : Nat) : (wrN s a n).free = s.free := wr_free s a _
@[simp] theorem wrN_pending (s : State) (a n : Nat) : (wrN s a n).pending = s.pending := wr_pending s a _
@[simp] theorem wrI_clk (s : State) (a : Nat) (i : Int) : (wrI s a i).clk = s.clk := wr_clk s a _
@[simp] theorem wrI_nor (s : State) (a : Nat) (i : Int) : (wrI s a i).nor = s.nor := wr_nor s a _
@[simp] theorem wrI_time (s : State) (a : Nat) (i : Int) : (wrI s a i).time = s.time := wr_time s a _
@[simp] theorem wrI_log (s : State) (a : Nat) (i : Int) : (wrI s a i).log = s.log := wr_log s a _
@[simp] theorem wrI_can (s : State) (a : Nat) (i : Int) : (wrI s a i).can = s.can := wr_can s a _
@[simp] theorem wrI_net (s : State) (a : Nat) (i : Int) : (wrI s a i).net = s.net := wr_net s a _
@[simp] theorem wrI_sig (s : State) (a : Nat) (i : Int) : (wrI s a i).sig = s.sig := wr_sig s a _
@[simp] theorem wrI_loops (s : State) (a : Nat) (i : Int) : (wrI s a i).loops = s.loops := wr_loops s a _
@[simp] theorem wrI_eng (s : State) (a : Nat) (i : Int) : (wrI s a i).eng = s.eng := wr_eng s a _
@[simp] theorem wrI_sense (s : State) (a : Nat) (i : Int) : (wrI s a i).sense = s.sense := wr_sense s a _
@[simp] theorem wrI_trk (s : State) (a : Nat) (i : Int) : (wrI s a i).trk = s.trk := wr_trk s a _
@[simp] theorem wrI_str (s : State) (a : Nat) (i : Int) : (wrI s a i).str = s.str := wr_str s a _
@[simp] theorem wrI_drv (s : State) (a : Nat) (i : Int) : (wrI s a i).drv = s.drv := wr_drv s a _
@[simp] theorem wrI_thm (s : State) (a : Nat) (i : Int) : (wrI s a i).thm = s.thm := wr_thm s a _
@[simp] theorem wrI_pwr (s : State) (a : Nat) (i : Int) : (wrI s a i).pwr = s.pwr := wr_pwr s a _
@[simp] theorem wrI_boot (s : State) (a : Nat) (i : Int) : (wrI s a i).boot = s.boot := wr_boot s a _
@[simp] theorem wrI_upd (s : State) (a : Nat) (i : Int) : (wrI s a i).upd = s.upd := wr_upd s a _
@[simp] theorem wrI_port (s : State) (a : Nat) (i : Int) : (wrI s a i).port = s.port := wr_port s a _
@[simp] theorem wrI_seq (s : State) (a : Nat) (i : Int) : (wrI s a i).seq = s.seq := wr_seq s a _
@[simp] theorem wrI_hwset (s : State) (a : Nat) (i : Int) : (wrI s a i).hwset = s.hwset := wr_hwset s a _
@[simp] theorem wrI_free (s : State) (a : Nat) (i : Int) : (wrI s a i).free = s.free := wr_free s a _
@[simp] theorem wrI_pending (s : State) (a : Nat) (i : Int) : (wrI s a i).pending = s.pending := wr_pending s a _

/-! ### A NOR word -/

@[simp] theorem norPut_clk (s : State) (k : Nat) (w : Word) : (norPut s k w).clk = s.clk := rfl
@[simp] theorem norPut_regs (s : State) (k : Nat) (w : Word) : (norPut s k w).regs = s.regs := rfl
@[simp] theorem norPut_mem (s : State) (k : Nat) (w : Word) : (norPut s k w).mem = s.mem := rfl
@[simp] theorem norPut_time (s : State) (k : Nat) (w : Word) : (norPut s k w).time = s.time := rfl
@[simp] theorem norPut_log (s : State) (k : Nat) (w : Word) : (norPut s k w).log = s.log := rfl
@[simp] theorem norPut_can (s : State) (k : Nat) (w : Word) : (norPut s k w).can = s.can := rfl
@[simp] theorem norPut_net (s : State) (k : Nat) (w : Word) : (norPut s k w).net = s.net := rfl
@[simp] theorem norPut_sig (s : State) (k : Nat) (w : Word) : (norPut s k w).sig = s.sig := rfl
@[simp] theorem norPut_loops (s : State) (k : Nat) (w : Word) : (norPut s k w).loops = s.loops := rfl
@[simp] theorem norPut_eng (s : State) (k : Nat) (w : Word) : (norPut s k w).eng = s.eng := rfl
@[simp] theorem norPut_sense (s : State) (k : Nat) (w : Word) : (norPut s k w).sense = s.sense := rfl
@[simp] theorem norPut_trk (s : State) (k : Nat) (w : Word) : (norPut s k w).trk = s.trk := rfl
@[simp] theorem norPut_str (s : State) (k : Nat) (w : Word) : (norPut s k w).str = s.str := rfl
@[simp] theorem norPut_drv (s : State) (k : Nat) (w : Word) : (norPut s k w).drv = s.drv := rfl
@[simp] theorem norPut_thm (s : State) (k : Nat) (w : Word) : (norPut s k w).thm = s.thm := rfl
@[simp] theorem norPut_pwr (s : State) (k : Nat) (w : Word) : (norPut s k w).pwr = s.pwr := rfl
@[simp] theorem norPut_boot (s : State) (k : Nat) (w : Word) : (norPut s k w).boot = s.boot := rfl
@[simp] theorem norPut_upd (s : State) (k : Nat) (w : Word) : (norPut s k w).upd = s.upd := rfl
@[simp] theorem norPut_port (s : State) (k : Nat) (w : Word) : (norPut s k w).port = s.port := rfl
@[simp] theorem norPut_seq (s : State) (k : Nat) (w : Word) : (norPut s k w).seq = s.seq := rfl
@[simp] theorem norPut_hwset (s : State) (k : Nat) (w : Word) : (norPut s k w).hwset = s.hwset := rfl
@[simp] theorem norPut_free (s : State) (k : Nat) (w : Word) : (norPut s k w).free = s.free := rfl
@[simp] theorem norPut_pending (s : State) (k : Nat) (w : Word) : (norPut s k w).pending = s.pending := rfl

/-! ### An event raised -/

@[simp] theorem raise_clk (c u : Nat) (p0 p1 : Word) (s : State) : (raise c u p0 p1 s).clk = s.clk := rfl
@[simp] theorem raise_regs (c u : Nat) (p0 p1 : Word) (s : State) : (raise c u p0 p1 s).regs = s.regs := rfl
@[simp] theorem raise_mem (c u : Nat) (p0 p1 : Word) (s : State) : (raise c u p0 p1 s).mem = s.mem := rfl
@[simp] theorem raise_nor (c u : Nat) (p0 p1 : Word) (s : State) : (raise c u p0 p1 s).nor = s.nor := rfl
@[simp] theorem raise_time (c u : Nat) (p0 p1 : Word) (s : State) : (raise c u p0 p1 s).time = s.time := rfl
@[simp] theorem raise_can (c u : Nat) (p0 p1 : Word) (s : State) : (raise c u p0 p1 s).can = s.can := rfl
@[simp] theorem raise_net (c u : Nat) (p0 p1 : Word) (s : State) : (raise c u p0 p1 s).net = s.net := rfl
@[simp] theorem raise_sig (c u : Nat) (p0 p1 : Word) (s : State) : (raise c u p0 p1 s).sig = s.sig := rfl
@[simp] theorem raise_loops (c u : Nat) (p0 p1 : Word) (s : State) : (raise c u p0 p1 s).loops = s.loops := rfl
@[simp] theorem raise_eng (c u : Nat) (p0 p1 : Word) (s : State) : (raise c u p0 p1 s).eng = s.eng := rfl
@[simp] theorem raise_sense (c u : Nat) (p0 p1 : Word) (s : State) : (raise c u p0 p1 s).sense = s.sense := rfl
@[simp] theorem raise_trk (c u : Nat) (p0 p1 : Word) (s : State) : (raise c u p0 p1 s).trk = s.trk := rfl
@[simp] theorem raise_str (c u : Nat) (p0 p1 : Word) (s : State) : (raise c u p0 p1 s).str = s.str := rfl
@[simp] theorem raise_drv (c u : Nat) (p0 p1 : Word) (s : State) : (raise c u p0 p1 s).drv = s.drv := rfl
@[simp] theorem raise_thm (c u : Nat) (p0 p1 : Word) (s : State) : (raise c u p0 p1 s).thm = s.thm := rfl
@[simp] theorem raise_pwr (c u : Nat) (p0 p1 : Word) (s : State) : (raise c u p0 p1 s).pwr = s.pwr := rfl
@[simp] theorem raise_boot (c u : Nat) (p0 p1 : Word) (s : State) : (raise c u p0 p1 s).boot = s.boot := rfl
@[simp] theorem raise_upd (c u : Nat) (p0 p1 : Word) (s : State) : (raise c u p0 p1 s).upd = s.upd := rfl
@[simp] theorem raise_port (c u : Nat) (p0 p1 : Word) (s : State) : (raise c u p0 p1 s).port = s.port := rfl
@[simp] theorem raise_seq (c u : Nat) (p0 p1 : Word) (s : State) : (raise c u p0 p1 s).seq = s.seq := rfl
@[simp] theorem raise_hwset (c u : Nat) (p0 p1 : Word) (s : State) : (raise c u p0 p1 s).hwset = s.hwset := rfl
@[simp] theorem raise_free (c u : Nat) (p0 p1 : Word) (s : State) : (raise c u p0 p1 s).free = s.free := rfl
@[simp] theorem raise_pending (c u : Nat) (p0 p1 : Word) (s : State) : (raise c u p0 p1 s).pending = s.pending := rfl
@[simp] theorem rd_raise (c u : Nat) (p0 p1 : Word) (s : State) (a : Nat) : rd (raise c u p0 p1 s) a = rd s a := rfl

/-! ### An event raised, parameters as numbers -/

@[simp] theorem raiseN_clk (c u p0 p1 : Nat) (s : State) : (raiseN c u p0 p1 s).clk = s.clk := rfl
@[simp] theorem raiseN_regs (c u p0 p1 : Nat) (s : State) : (raiseN c u p0 p1 s).regs = s.regs := rfl
@[simp] theorem raiseN_mem (c u p0 p1 : Nat) (s : State) : (raiseN c u p0 p1 s).mem = s.mem := rfl
@[simp] theorem raiseN_nor (c u p0 p1 : Nat) (s : State) : (raiseN c u p0 p1 s).nor = s.nor := rfl
@[simp] theorem raiseN_time (c u p0 p1 : Nat) (s : State) : (raiseN c u p0 p1 s).time = s.time := rfl
@[simp] theorem raiseN_can (c u p0 p1 : Nat) (s : State) : (raiseN c u p0 p1 s).can = s.can := rfl
@[simp] theorem raiseN_net (c u p0 p1 : Nat) (s : State) : (raiseN c u p0 p1 s).net = s.net := rfl
@[simp] theorem raiseN_sig (c u p0 p1 : Nat) (s : State) : (raiseN c u p0 p1 s).sig = s.sig := rfl
@[simp] theorem raiseN_loops (c u p0 p1 : Nat) (s : State) : (raiseN c u p0 p1 s).loops = s.loops := rfl
@[simp] theorem raiseN_eng (c u p0 p1 : Nat) (s : State) : (raiseN c u p0 p1 s).eng = s.eng := rfl
@[simp] theorem raiseN_sense (c u p0 p1 : Nat) (s : State) : (raiseN c u p0 p1 s).sense = s.sense := rfl
@[simp] theorem raiseN_trk (c u p0 p1 : Nat) (s : State) : (raiseN c u p0 p1 s).trk = s.trk := rfl
@[simp] theorem raiseN_str (c u p0 p1 : Nat) (s : State) : (raiseN c u p0 p1 s).str = s.str := rfl
@[simp] theorem raiseN_drv (c u p0 p1 : Nat) (s : State) : (raiseN c u p0 p1 s).drv = s.drv := rfl
@[simp] theorem raiseN_thm (c u p0 p1 : Nat) (s : State) : (raiseN c u p0 p1 s).thm = s.thm := rfl
@[simp] theorem raiseN_pwr (c u p0 p1 : Nat) (s : State) : (raiseN c u p0 p1 s).pwr = s.pwr := rfl
@[simp] theorem raiseN_boot (c u p0 p1 : Nat) (s : State) : (raiseN c u p0 p1 s).boot = s.boot := rfl
@[simp] theorem raiseN_upd (c u p0 p1 : Nat) (s : State) : (raiseN c u p0 p1 s).upd = s.upd := rfl
@[simp] theorem raiseN_port (c u p0 p1 : Nat) (s : State) : (raiseN c u p0 p1 s).port = s.port := rfl
@[simp] theorem raiseN_seq (c u p0 p1 : Nat) (s : State) : (raiseN c u p0 p1 s).seq = s.seq := rfl
@[simp] theorem raiseN_hwset (c u p0 p1 : Nat) (s : State) : (raiseN c u p0 p1 s).hwset = s.hwset := rfl
@[simp] theorem raiseN_free (c u p0 p1 : Nat) (s : State) : (raiseN c u p0 p1 s).free = s.free := rfl
@[simp] theorem raiseN_pending (c u p0 p1 : Nat) (s : State) : (raiseN c u p0 p1 s).pending = s.pending := rfl
@[simp] theorem rd_raiseN (c u p0 p1 : Nat) (s : State) (a : Nat) : rd (raiseN c u p0 p1 s) a = rd s a := rfl

/-- A raised event joins those on their way, in the order of R412. -/
theorem raise_raised (c u : Nat) (p0 p1 : Word) (s : State) :
    (raise c u p0 p1 s).log.raised = evInsert (evNow s c u p0 p1) s.log.raised := rfl


/-! ### W1C bits set by hardware -/

@[simp] theorem hwMark_clk (a m : Nat) (s : State) : (hwMark a m s).clk = s.clk := rfl
@[simp] theorem hwMark_regs (a m : Nat) (s : State) : (hwMark a m s).regs = s.regs := rfl
@[simp] theorem hwMark_mem (a m : Nat) (s : State) : (hwMark a m s).mem = s.mem := rfl
@[simp] theorem hwMark_nor (a m : Nat) (s : State) : (hwMark a m s).nor = s.nor := rfl
@[simp] theorem hwMark_time (a m : Nat) (s : State) : (hwMark a m s).time = s.time := rfl
@[simp] theorem hwMark_log (a m : Nat) (s : State) : (hwMark a m s).log = s.log := rfl
@[simp] theorem hwMark_can (a m : Nat) (s : State) : (hwMark a m s).can = s.can := rfl
@[simp] theorem hwMark_net (a m : Nat) (s : State) : (hwMark a m s).net = s.net := rfl
@[simp] theorem hwMark_sig (a m : Nat) (s : State) : (hwMark a m s).sig = s.sig := rfl
@[simp] theorem hwMark_loops (a m : Nat) (s : State) : (hwMark a m s).loops = s.loops := rfl
@[simp] theorem hwMark_eng (a m : Nat) (s : State) : (hwMark a m s).eng = s.eng := rfl
@[simp] theorem hwMark_sense (a m : Nat) (s : State) : (hwMark a m s).sense = s.sense := rfl
@[simp] theorem hwMark_trk (a m : Nat) (s : State) : (hwMark a m s).trk = s.trk := rfl
@[simp] theorem hwMark_str (a m : Nat) (s : State) : (hwMark a m s).str = s.str := rfl
@[simp] theorem hwMark_drv (a m : Nat) (s : State) : (hwMark a m s).drv = s.drv := rfl
@[simp] theorem hwMark_thm (a m : Nat) (s : State) : (hwMark a m s).thm = s.thm := rfl
@[simp] theorem hwMark_pwr (a m : Nat) (s : State) : (hwMark a m s).pwr = s.pwr := rfl
@[simp] theorem hwMark_boot (a m : Nat) (s : State) : (hwMark a m s).boot = s.boot := rfl
@[simp] theorem hwMark_upd (a m : Nat) (s : State) : (hwMark a m s).upd = s.upd := rfl
@[simp] theorem hwMark_port (a m : Nat) (s : State) : (hwMark a m s).port = s.port := rfl
@[simp] theorem hwMark_seq (a m : Nat) (s : State) : (hwMark a m s).seq = s.seq := rfl
@[simp] theorem hwMark_free (a m : Nat) (s : State) : (hwMark a m s).free = s.free := rfl
@[simp] theorem hwMark_pending (a m : Nat) (s : State) : (hwMark a m s).pending = s.pending := rfl
@[simp] theorem rd_hwMark (a m b : Nat) (s : State) : rd (hwMark a m s) b = rd s b := rfl
@[simp] theorem hwSet_clk (s : State) (a i : Nat) : (hwSet s a i).clk = s.clk := by simp [hwSet]
@[simp] theorem hwSet_nor (s : State) (a i : Nat) : (hwSet s a i).nor = s.nor := by simp [hwSet]
@[simp] theorem hwSet_time (s : State) (a i : Nat) : (hwSet s a i).time = s.time := by simp [hwSet]
@[simp] theorem hwSet_log (s : State) (a i : Nat) : (hwSet s a i).log = s.log := by simp [hwSet]
@[simp] theorem hwSet_can (s : State) (a i : Nat) : (hwSet s a i).can = s.can := by simp [hwSet]
@[simp] theorem hwSet_net (s : State) (a i : Nat) : (hwSet s a i).net = s.net := by simp [hwSet]
@[simp] theorem hwSet_sig (s : State) (a i : Nat) : (hwSet s a i).sig = s.sig := by simp [hwSet]
@[simp] theorem hwSet_loops (s : State) (a i : Nat) : (hwSet s a i).loops = s.loops := by simp [hwSet]
@[simp] theorem hwSet_eng (s : State) (a i : Nat) : (hwSet s a i).eng = s.eng := by simp [hwSet]
@[simp] theorem hwSet_sense (s : State) (a i : Nat) : (hwSet s a i).sense = s.sense := by simp [hwSet]
@[simp] theorem hwSet_trk (s : State) (a i : Nat) : (hwSet s a i).trk = s.trk := by simp [hwSet]
@[simp] theorem hwSet_str (s : State) (a i : Nat) : (hwSet s a i).str = s.str := by simp [hwSet]
@[simp] theorem hwSet_drv (s : State) (a i : Nat) : (hwSet s a i).drv = s.drv := by simp [hwSet]
@[simp] theorem hwSet_thm (s : State) (a i : Nat) : (hwSet s a i).thm = s.thm := by simp [hwSet]
@[simp] theorem hwSet_pwr (s : State) (a i : Nat) : (hwSet s a i).pwr = s.pwr := by simp [hwSet]
@[simp] theorem hwSet_boot (s : State) (a i : Nat) : (hwSet s a i).boot = s.boot := by simp [hwSet]
@[simp] theorem hwSet_upd (s : State) (a i : Nat) : (hwSet s a i).upd = s.upd := by simp [hwSet]
@[simp] theorem hwSet_port (s : State) (a i : Nat) : (hwSet s a i).port = s.port := by simp [hwSet]
@[simp] theorem hwSet_seq (s : State) (a i : Nat) : (hwSet s a i).seq = s.seq := by simp [hwSet]
@[simp] theorem hwSet_free (s : State) (a i : Nat) : (hwSet s a i).free = s.free := by simp [hwSet]
@[simp] theorem hwSet_pending (s : State) (a i : Nat) : (hwSet s a i).pending = s.pending := by simp [hwSet]

/-! ### A class S counter -/

@[simp] theorem countS_clk (a hi lo ovf : Nat) (s : State) : (countS a hi lo ovf s).clk = s.clk := by unfold countS; simp only; split <;> [rfl; (split <;> simp)]
@[simp] theorem countS_nor (a hi lo ovf : Nat) (s : State) : (countS a hi lo ovf s).nor = s.nor := by unfold countS; simp only; split <;> [rfl; (split <;> simp)]
@[simp] theorem countS_time (a hi lo ovf : Nat) (s : State) : (countS a hi lo ovf s).time = s.time := by unfold countS; simp only; split <;> [rfl; (split <;> simp)]
@[simp] theorem countS_can (a hi lo ovf : Nat) (s : State) : (countS a hi lo ovf s).can = s.can := by unfold countS; simp only; split <;> [rfl; (split <;> simp)]
@[simp] theorem countS_net (a hi lo ovf : Nat) (s : State) : (countS a hi lo ovf s).net = s.net := by unfold countS; simp only; split <;> [rfl; (split <;> simp)]
@[simp] theorem countS_sig (a hi lo ovf : Nat) (s : State) : (countS a hi lo ovf s).sig = s.sig := by unfold countS; simp only; split <;> [rfl; (split <;> simp)]
@[simp] theorem countS_loops (a hi lo ovf : Nat) (s : State) : (countS a hi lo ovf s).loops = s.loops := by unfold countS; simp only; split <;> [rfl; (split <;> simp)]
@[simp] theorem countS_eng (a hi lo ovf : Nat) (s : State) : (countS a hi lo ovf s).eng = s.eng := by unfold countS; simp only; split <;> [rfl; (split <;> simp)]
@[simp] theorem countS_sense (a hi lo ovf : Nat) (s : State) : (countS a hi lo ovf s).sense = s.sense := by unfold countS; simp only; split <;> [rfl; (split <;> simp)]
@[simp] theorem countS_trk (a hi lo ovf : Nat) (s : State) : (countS a hi lo ovf s).trk = s.trk := by unfold countS; simp only; split <;> [rfl; (split <;> simp)]
@[simp] theorem countS_str (a hi lo ovf : Nat) (s : State) : (countS a hi lo ovf s).str = s.str := by unfold countS; simp only; split <;> [rfl; (split <;> simp)]
@[simp] theorem countS_drv (a hi lo ovf : Nat) (s : State) : (countS a hi lo ovf s).drv = s.drv := by unfold countS; simp only; split <;> [rfl; (split <;> simp)]
@[simp] theorem countS_thm (a hi lo ovf : Nat) (s : State) : (countS a hi lo ovf s).thm = s.thm := by unfold countS; simp only; split <;> [rfl; (split <;> simp)]
@[simp] theorem countS_pwr (a hi lo ovf : Nat) (s : State) : (countS a hi lo ovf s).pwr = s.pwr := by unfold countS; simp only; split <;> [rfl; (split <;> simp)]
@[simp] theorem countS_boot (a hi lo ovf : Nat) (s : State) : (countS a hi lo ovf s).boot = s.boot := by unfold countS; simp only; split <;> [rfl; (split <;> simp)]
@[simp] theorem countS_upd (a hi lo ovf : Nat) (s : State) : (countS a hi lo ovf s).upd = s.upd := by unfold countS; simp only; split <;> [rfl; (split <;> simp)]
@[simp] theorem countS_port (a hi lo ovf : Nat) (s : State) : (countS a hi lo ovf s).port = s.port := by unfold countS; simp only; split <;> [rfl; (split <;> simp)]
@[simp] theorem countS_seq (a hi lo ovf : Nat) (s : State) : (countS a hi lo ovf s).seq = s.seq := by unfold countS; simp only; split <;> [rfl; (split <;> simp)]
@[simp] theorem countS_free (a hi lo ovf : Nat) (s : State) : (countS a hi lo ovf s).free = s.free := by unfold countS; simp only; split <;> [rfl; (split <;> simp)]
@[simp] theorem countS_pending (a hi lo ovf : Nat) (s : State) : (countS a hi lo ovf s).pending = s.pending := by unfold countS; simp only; split <;> [rfl; (split <;> simp)]
@[simp] theorem count16_clk (a : Nat) (s : State) : (count16 a s).clk = s.clk := countS_clk _ _ _ _ s
@[simp] theorem count16_nor (a : Nat) (s : State) : (count16 a s).nor = s.nor := countS_nor _ _ _ _ s
@[simp] theorem count16_time (a : Nat) (s : State) : (count16 a s).time = s.time := countS_time _ _ _ _ s
@[simp] theorem count16_can (a : Nat) (s : State) : (count16 a s).can = s.can := countS_can _ _ _ _ s
@[simp] theorem count16_net (a : Nat) (s : State) : (count16 a s).net = s.net := countS_net _ _ _ _ s
@[simp] theorem count16_sig (a : Nat) (s : State) : (count16 a s).sig = s.sig := countS_sig _ _ _ _ s
@[simp] theorem count16_loops (a : Nat) (s : State) : (count16 a s).loops = s.loops := countS_loops _ _ _ _ s
@[simp] theorem count16_eng (a : Nat) (s : State) : (count16 a s).eng = s.eng := countS_eng _ _ _ _ s
@[simp] theorem count16_sense (a : Nat) (s : State) : (count16 a s).sense = s.sense := countS_sense _ _ _ _ s
@[simp] theorem count16_trk (a : Nat) (s : State) : (count16 a s).trk = s.trk := countS_trk _ _ _ _ s
@[simp] theorem count16_str (a : Nat) (s : State) : (count16 a s).str = s.str := countS_str _ _ _ _ s
@[simp] theorem count16_drv (a : Nat) (s : State) : (count16 a s).drv = s.drv := countS_drv _ _ _ _ s
@[simp] theorem count16_thm (a : Nat) (s : State) : (count16 a s).thm = s.thm := countS_thm _ _ _ _ s
@[simp] theorem count16_pwr (a : Nat) (s : State) : (count16 a s).pwr = s.pwr := countS_pwr _ _ _ _ s
@[simp] theorem count16_boot (a : Nat) (s : State) : (count16 a s).boot = s.boot := countS_boot _ _ _ _ s
@[simp] theorem count16_upd (a : Nat) (s : State) : (count16 a s).upd = s.upd := countS_upd _ _ _ _ s
@[simp] theorem count16_port (a : Nat) (s : State) : (count16 a s).port = s.port := countS_port _ _ _ _ s
@[simp] theorem count16_seq (a : Nat) (s : State) : (count16 a s).seq = s.seq := countS_seq _ _ _ _ s
@[simp] theorem count16_free (a : Nat) (s : State) : (count16 a s).free = s.free := countS_free _ _ _ _ s
@[simp] theorem count16_pending (a : Nat) (s : State) : (count16 a s).pending = s.pending := countS_pending _ _ _ _ s
@[simp] theorem count31_clk (a : Nat) (s : State) : (count31 a s).clk = s.clk := countS_clk _ _ _ _ s
@[simp] theorem count31_nor (a : Nat) (s : State) : (count31 a s).nor = s.nor := countS_nor _ _ _ _ s
@[simp] theorem count31_time (a : Nat) (s : State) : (count31 a s).time = s.time := countS_time _ _ _ _ s
@[simp] theorem count31_can (a : Nat) (s : State) : (count31 a s).can = s.can := countS_can _ _ _ _ s
@[simp] theorem count31_net (a : Nat) (s : State) : (count31 a s).net = s.net := countS_net _ _ _ _ s
@[simp] theorem count31_sig (a : Nat) (s : State) : (count31 a s).sig = s.sig := countS_sig _ _ _ _ s
@[simp] theorem count31_loops (a : Nat) (s : State) : (count31 a s).loops = s.loops := countS_loops _ _ _ _ s
@[simp] theorem count31_eng (a : Nat) (s : State) : (count31 a s).eng = s.eng := countS_eng _ _ _ _ s
@[simp] theorem count31_sense (a : Nat) (s : State) : (count31 a s).sense = s.sense := countS_sense _ _ _ _ s
@[simp] theorem count31_trk (a : Nat) (s : State) : (count31 a s).trk = s.trk := countS_trk _ _ _ _ s
@[simp] theorem count31_str (a : Nat) (s : State) : (count31 a s).str = s.str := countS_str _ _ _ _ s
@[simp] theorem count31_drv (a : Nat) (s : State) : (count31 a s).drv = s.drv := countS_drv _ _ _ _ s
@[simp] theorem count31_thm (a : Nat) (s : State) : (count31 a s).thm = s.thm := countS_thm _ _ _ _ s
@[simp] theorem count31_pwr (a : Nat) (s : State) : (count31 a s).pwr = s.pwr := countS_pwr _ _ _ _ s
@[simp] theorem count31_boot (a : Nat) (s : State) : (count31 a s).boot = s.boot := countS_boot _ _ _ _ s
@[simp] theorem count31_upd (a : Nat) (s : State) : (count31 a s).upd = s.upd := countS_upd _ _ _ _ s
@[simp] theorem count31_port (a : Nat) (s : State) : (count31 a s).port = s.port := countS_port _ _ _ _ s
@[simp] theorem count31_seq (a : Nat) (s : State) : (count31 a s).seq = s.seq := countS_seq _ _ _ _ s
@[simp] theorem count31_free (a : Nat) (s : State) : (count31 a s).free = s.free := countS_free _ _ _ _ s
@[simp] theorem count31_pending (a : Nat) (s : State) : (count31 a s).pending = s.pending := countS_pending _ _ _ _ s
@[simp] theorem addS31_clk (a n : Nat) (s : State) : (addS31 a n s).clk = s.clk := by unfold addS31; simp only; split <;> [rfl; (split <;> simp)]
@[simp] theorem addS31_nor (a n : Nat) (s : State) : (addS31 a n s).nor = s.nor := by unfold addS31; simp only; split <;> [rfl; (split <;> simp)]
@[simp] theorem addS31_time (a n : Nat) (s : State) : (addS31 a n s).time = s.time := by unfold addS31; simp only; split <;> [rfl; (split <;> simp)]
@[simp] theorem addS31_can (a n : Nat) (s : State) : (addS31 a n s).can = s.can := by unfold addS31; simp only; split <;> [rfl; (split <;> simp)]
@[simp] theorem addS31_net (a n : Nat) (s : State) : (addS31 a n s).net = s.net := by unfold addS31; simp only; split <;> [rfl; (split <;> simp)]
@[simp] theorem addS31_sig (a n : Nat) (s : State) : (addS31 a n s).sig = s.sig := by unfold addS31; simp only; split <;> [rfl; (split <;> simp)]
@[simp] theorem addS31_loops (a n : Nat) (s : State) : (addS31 a n s).loops = s.loops := by unfold addS31; simp only; split <;> [rfl; (split <;> simp)]
@[simp] theorem addS31_eng (a n : Nat) (s : State) : (addS31 a n s).eng = s.eng := by unfold addS31; simp only; split <;> [rfl; (split <;> simp)]
@[simp] theorem addS31_sense (a n : Nat) (s : State) : (addS31 a n s).sense = s.sense := by unfold addS31; simp only; split <;> [rfl; (split <;> simp)]
@[simp] theorem addS31_trk (a n : Nat) (s : State) : (addS31 a n s).trk = s.trk := by unfold addS31; simp only; split <;> [rfl; (split <;> simp)]
@[simp] theorem addS31_str (a n : Nat) (s : State) : (addS31 a n s).str = s.str := by unfold addS31; simp only; split <;> [rfl; (split <;> simp)]
@[simp] theorem addS31_drv (a n : Nat) (s : State) : (addS31 a n s).drv = s.drv := by unfold addS31; simp only; split <;> [rfl; (split <;> simp)]
@[simp] theorem addS31_thm (a n : Nat) (s : State) : (addS31 a n s).thm = s.thm := by unfold addS31; simp only; split <;> [rfl; (split <;> simp)]
@[simp] theorem addS31_pwr (a n : Nat) (s : State) : (addS31 a n s).pwr = s.pwr := by unfold addS31; simp only; split <;> [rfl; (split <;> simp)]
@[simp] theorem addS31_boot (a n : Nat) (s : State) : (addS31 a n s).boot = s.boot := by unfold addS31; simp only; split <;> [rfl; (split <;> simp)]
@[simp] theorem addS31_upd (a n : Nat) (s : State) : (addS31 a n s).upd = s.upd := by unfold addS31; simp only; split <;> [rfl; (split <;> simp)]
@[simp] theorem addS31_port (a n : Nat) (s : State) : (addS31 a n s).port = s.port := by unfold addS31; simp only; split <;> [rfl; (split <;> simp)]
@[simp] theorem addS31_seq (a n : Nat) (s : State) : (addS31 a n s).seq = s.seq := by unfold addS31; simp only; split <;> [rfl; (split <;> simp)]
@[simp] theorem addS31_free (a n : Nat) (s : State) : (addS31 a n s).free = s.free := by unfold addS31; simp only; split <;> [rfl; (split <;> simp)]
@[simp] theorem addS31_pending (a n : Nat) (s : State) : (addS31 a n s).pending = s.pending := by unfold addS31; simp only; split <;> [rfl; (split <;> simp)]

/-! ### A word latched for a port -/

@[simp] theorem latchPut_clk (p : PortId) (k : Nat) (w : Word) (s : State) : (latchPut p k w s).clk = s.clk := rfl
@[simp] theorem latchPut_regs (p : PortId) (k : Nat) (w : Word) (s : State) : (latchPut p k w s).regs = s.regs := rfl
@[simp] theorem latchPut_mem (p : PortId) (k : Nat) (w : Word) (s : State) : (latchPut p k w s).mem = s.mem := rfl
@[simp] theorem latchPut_nor (p : PortId) (k : Nat) (w : Word) (s : State) : (latchPut p k w s).nor = s.nor := rfl
@[simp] theorem latchPut_time (p : PortId) (k : Nat) (w : Word) (s : State) : (latchPut p k w s).time = s.time := rfl
@[simp] theorem latchPut_log (p : PortId) (k : Nat) (w : Word) (s : State) : (latchPut p k w s).log = s.log := rfl
@[simp] theorem latchPut_can (p : PortId) (k : Nat) (w : Word) (s : State) : (latchPut p k w s).can = s.can := rfl
@[simp] theorem latchPut_net (p : PortId) (k : Nat) (w : Word) (s : State) : (latchPut p k w s).net = s.net := rfl
@[simp] theorem latchPut_sig (p : PortId) (k : Nat) (w : Word) (s : State) : (latchPut p k w s).sig = s.sig := rfl
@[simp] theorem latchPut_loops (p : PortId) (k : Nat) (w : Word) (s : State) : (latchPut p k w s).loops = s.loops := rfl
@[simp] theorem latchPut_eng (p : PortId) (k : Nat) (w : Word) (s : State) : (latchPut p k w s).eng = s.eng := rfl
@[simp] theorem latchPut_sense (p : PortId) (k : Nat) (w : Word) (s : State) : (latchPut p k w s).sense = s.sense := rfl
@[simp] theorem latchPut_trk (p : PortId) (k : Nat) (w : Word) (s : State) : (latchPut p k w s).trk = s.trk := rfl
@[simp] theorem latchPut_str (p : PortId) (k : Nat) (w : Word) (s : State) : (latchPut p k w s).str = s.str := rfl
@[simp] theorem latchPut_drv (p : PortId) (k : Nat) (w : Word) (s : State) : (latchPut p k w s).drv = s.drv := rfl
@[simp] theorem latchPut_thm (p : PortId) (k : Nat) (w : Word) (s : State) : (latchPut p k w s).thm = s.thm := rfl
@[simp] theorem latchPut_pwr (p : PortId) (k : Nat) (w : Word) (s : State) : (latchPut p k w s).pwr = s.pwr := rfl
@[simp] theorem latchPut_boot (p : PortId) (k : Nat) (w : Word) (s : State) : (latchPut p k w s).boot = s.boot := rfl
@[simp] theorem latchPut_upd (p : PortId) (k : Nat) (w : Word) (s : State) : (latchPut p k w s).upd = s.upd := rfl
@[simp] theorem latchPut_seq (p : PortId) (k : Nat) (w : Word) (s : State) : (latchPut p k w s).seq = s.seq := rfl
@[simp] theorem latchPut_hwset (p : PortId) (k : Nat) (w : Word) (s : State) : (latchPut p k w s).hwset = s.hwset := rfl
@[simp] theorem latchPut_free (p : PortId) (k : Nat) (w : Word) (s : State) : (latchPut p k w s).free = s.free := rfl
@[simp] theorem latchPut_pending (p : PortId) (k : Nat) (w : Word) (s : State) : (latchPut p k w s).pending = s.pending := rfl
@[simp] theorem rd_latchPut (p : PortId) (k : Nat) (w : Word) (s : State) (a : Nat) : rd (latchPut p k w s) a = rd s a := rfl

/-! ### A latched word dropped -/

@[simp] theorem latchDrop_clk (p : PortId) (k : Nat) (s : State) : (latchDrop p k s).clk = s.clk := rfl
@[simp] theorem latchDrop_regs (p : PortId) (k : Nat) (s : State) : (latchDrop p k s).regs = s.regs := rfl
@[simp] theorem latchDrop_mem (p : PortId) (k : Nat) (s : State) : (latchDrop p k s).mem = s.mem := rfl
@[simp] theorem latchDrop_nor (p : PortId) (k : Nat) (s : State) : (latchDrop p k s).nor = s.nor := rfl
@[simp] theorem latchDrop_time (p : PortId) (k : Nat) (s : State) : (latchDrop p k s).time = s.time := rfl
@[simp] theorem latchDrop_log (p : PortId) (k : Nat) (s : State) : (latchDrop p k s).log = s.log := rfl
@[simp] theorem latchDrop_can (p : PortId) (k : Nat) (s : State) : (latchDrop p k s).can = s.can := rfl
@[simp] theorem latchDrop_net (p : PortId) (k : Nat) (s : State) : (latchDrop p k s).net = s.net := rfl
@[simp] theorem latchDrop_sig (p : PortId) (k : Nat) (s : State) : (latchDrop p k s).sig = s.sig := rfl
@[simp] theorem latchDrop_loops (p : PortId) (k : Nat) (s : State) : (latchDrop p k s).loops = s.loops := rfl
@[simp] theorem latchDrop_eng (p : PortId) (k : Nat) (s : State) : (latchDrop p k s).eng = s.eng := rfl
@[simp] theorem latchDrop_sense (p : PortId) (k : Nat) (s : State) : (latchDrop p k s).sense = s.sense := rfl
@[simp] theorem latchDrop_trk (p : PortId) (k : Nat) (s : State) : (latchDrop p k s).trk = s.trk := rfl
@[simp] theorem latchDrop_str (p : PortId) (k : Nat) (s : State) : (latchDrop p k s).str = s.str := rfl
@[simp] theorem latchDrop_drv (p : PortId) (k : Nat) (s : State) : (latchDrop p k s).drv = s.drv := rfl
@[simp] theorem latchDrop_thm (p : PortId) (k : Nat) (s : State) : (latchDrop p k s).thm = s.thm := rfl
@[simp] theorem latchDrop_pwr (p : PortId) (k : Nat) (s : State) : (latchDrop p k s).pwr = s.pwr := rfl
@[simp] theorem latchDrop_boot (p : PortId) (k : Nat) (s : State) : (latchDrop p k s).boot = s.boot := rfl
@[simp] theorem latchDrop_upd (p : PortId) (k : Nat) (s : State) : (latchDrop p k s).upd = s.upd := rfl
@[simp] theorem latchDrop_seq (p : PortId) (k : Nat) (s : State) : (latchDrop p k s).seq = s.seq := rfl
@[simp] theorem latchDrop_hwset (p : PortId) (k : Nat) (s : State) : (latchDrop p k s).hwset = s.hwset := rfl
@[simp] theorem latchDrop_free (p : PortId) (k : Nat) (s : State) : (latchDrop p k s).free = s.free := rfl
@[simp] theorem latchDrop_pending (p : PortId) (k : Nat) (s : State) : (latchDrop p k s).pending = s.pending := rfl
@[simp] theorem rd_latchDrop (p : PortId) (k : Nat) (s : State) (a : Nat) : rd (latchDrop p k s) a = rd s a := rfl

/-! ### The lease renewed -/

@[simp] theorem renewLease_clk (p : PortId) (s : State) : (renewLease p s).clk = s.clk := by unfold renewLease; split <;> rfl
@[simp] theorem renewLease_regs (p : PortId) (s : State) : (renewLease p s).regs = s.regs := by unfold renewLease; split <;> rfl
@[simp] theorem renewLease_mem (p : PortId) (s : State) : (renewLease p s).mem = s.mem := by unfold renewLease; split <;> rfl
@[simp] theorem renewLease_nor (p : PortId) (s : State) : (renewLease p s).nor = s.nor := by unfold renewLease; split <;> rfl
@[simp] theorem renewLease_time (p : PortId) (s : State) : (renewLease p s).time = s.time := by unfold renewLease; split <;> rfl
@[simp] theorem renewLease_log (p : PortId) (s : State) : (renewLease p s).log = s.log := by unfold renewLease; split <;> rfl
@[simp] theorem renewLease_can (p : PortId) (s : State) : (renewLease p s).can = s.can := by unfold renewLease; split <;> rfl
@[simp] theorem renewLease_net (p : PortId) (s : State) : (renewLease p s).net = s.net := by unfold renewLease; split <;> rfl
@[simp] theorem renewLease_sig (p : PortId) (s : State) : (renewLease p s).sig = s.sig := by unfold renewLease; split <;> rfl
@[simp] theorem renewLease_loops (p : PortId) (s : State) : (renewLease p s).loops = s.loops := by unfold renewLease; split <;> rfl
@[simp] theorem renewLease_eng (p : PortId) (s : State) : (renewLease p s).eng = s.eng := by unfold renewLease; split <;> rfl
@[simp] theorem renewLease_sense (p : PortId) (s : State) : (renewLease p s).sense = s.sense := by unfold renewLease; split <;> rfl
@[simp] theorem renewLease_trk (p : PortId) (s : State) : (renewLease p s).trk = s.trk := by unfold renewLease; split <;> rfl
@[simp] theorem renewLease_str (p : PortId) (s : State) : (renewLease p s).str = s.str := by unfold renewLease; split <;> rfl
@[simp] theorem renewLease_drv (p : PortId) (s : State) : (renewLease p s).drv = s.drv := by unfold renewLease; split <;> rfl
@[simp] theorem renewLease_thm (p : PortId) (s : State) : (renewLease p s).thm = s.thm := by unfold renewLease; split <;> rfl
@[simp] theorem renewLease_pwr (p : PortId) (s : State) : (renewLease p s).pwr = s.pwr := by unfold renewLease; split <;> rfl
@[simp] theorem renewLease_boot (p : PortId) (s : State) : (renewLease p s).boot = s.boot := by unfold renewLease; split <;> rfl
@[simp] theorem renewLease_upd (p : PortId) (s : State) : (renewLease p s).upd = s.upd := by unfold renewLease; split <;> rfl
@[simp] theorem renewLease_seq (p : PortId) (s : State) : (renewLease p s).seq = s.seq := by unfold renewLease; split <;> rfl
@[simp] theorem renewLease_hwset (p : PortId) (s : State) : (renewLease p s).hwset = s.hwset := by unfold renewLease; split <;> rfl
@[simp] theorem renewLease_free (p : PortId) (s : State) : (renewLease p s).free = s.free := by unfold renewLease; split <;> rfl
@[simp] theorem renewLease_pending (p : PortId) (s : State) : (renewLease p s).pending = s.pending := by unfold renewLease; split <;> rfl
@[simp] theorem rd_renewLease (p : PortId) (s : State) (a : Nat) : rd (renewLease p s) a = rd s a := by unfold rd; simp

/-! ### A stored word noted as changed -/

@[simp] theorem noteStored_clk (s : State) : (noteStored s).clk = s.clk := by unfold noteStored; split <;> rfl
@[simp] theorem noteStored_regs (s : State) : (noteStored s).regs = s.regs := by unfold noteStored; split <;> rfl
@[simp] theorem noteStored_mem (s : State) : (noteStored s).mem = s.mem := by unfold noteStored; split <;> rfl
@[simp] theorem noteStored_nor (s : State) : (noteStored s).nor = s.nor := by unfold noteStored; split <;> rfl
@[simp] theorem noteStored_time (s : State) : (noteStored s).time = s.time := by unfold noteStored; split <;> rfl
@[simp] theorem noteStored_log (s : State) : (noteStored s).log = s.log := by unfold noteStored; split <;> rfl
@[simp] theorem noteStored_can (s : State) : (noteStored s).can = s.can := by unfold noteStored; split <;> rfl
@[simp] theorem noteStored_net (s : State) : (noteStored s).net = s.net := by unfold noteStored; split <;> rfl
@[simp] theorem noteStored_sig (s : State) : (noteStored s).sig = s.sig := by unfold noteStored; split <;> rfl
@[simp] theorem noteStored_loops (s : State) : (noteStored s).loops = s.loops := by unfold noteStored; split <;> rfl
@[simp] theorem noteStored_eng (s : State) : (noteStored s).eng = s.eng := by unfold noteStored; split <;> rfl
@[simp] theorem noteStored_sense (s : State) : (noteStored s).sense = s.sense := by unfold noteStored; split <;> rfl
@[simp] theorem noteStored_trk (s : State) : (noteStored s).trk = s.trk := by unfold noteStored; split <;> rfl
@[simp] theorem noteStored_str (s : State) : (noteStored s).str = s.str := by unfold noteStored; split <;> rfl
@[simp] theorem noteStored_drv (s : State) : (noteStored s).drv = s.drv := by unfold noteStored; split <;> rfl
@[simp] theorem noteStored_thm (s : State) : (noteStored s).thm = s.thm := by unfold noteStored; split <;> rfl
@[simp] theorem noteStored_pwr (s : State) : (noteStored s).pwr = s.pwr := by unfold noteStored; split <;> rfl
@[simp] theorem noteStored_boot (s : State) : (noteStored s).boot = s.boot := by unfold noteStored; split <;> rfl
@[simp] theorem noteStored_port (s : State) : (noteStored s).port = s.port := by unfold noteStored; split <;> rfl
@[simp] theorem noteStored_seq (s : State) : (noteStored s).seq = s.seq := by unfold noteStored; split <;> rfl
@[simp] theorem noteStored_hwset (s : State) : (noteStored s).hwset = s.hwset := by unfold noteStored; split <;> rfl
@[simp] theorem noteStored_free (s : State) : (noteStored s).free = s.free := by unfold noteStored; split <;> rfl
@[simp] theorem noteStored_pending (s : State) : (noteStored s).pending = s.pending := by unfold noteStored; split <;> rfl
@[simp] theorem rd_noteStored (s : State) (a : Nat) : rd (noteStored s) a = rd s a := by unfold rd; simp

/-! ### An error response logged -/

@[simp] theorem logViol_clk (p : PortId) (c : Nat) (st : Status) (a : Nat) (s : State) : (logViol p c st a s).clk = s.clk := by simp [logViol]
@[simp] theorem logViol_nor (p : PortId) (c : Nat) (st : Status) (a : Nat) (s : State) : (logViol p c st a s).nor = s.nor := by simp [logViol]
@[simp] theorem logViol_time (p : PortId) (c : Nat) (st : Status) (a : Nat) (s : State) : (logViol p c st a s).time = s.time := by simp [logViol]
@[simp] theorem logViol_can (p : PortId) (c : Nat) (st : Status) (a : Nat) (s : State) : (logViol p c st a s).can = s.can := by simp [logViol]
@[simp] theorem logViol_net (p : PortId) (c : Nat) (st : Status) (a : Nat) (s : State) : (logViol p c st a s).net = s.net := by simp [logViol]
@[simp] theorem logViol_sig (p : PortId) (c : Nat) (st : Status) (a : Nat) (s : State) : (logViol p c st a s).sig = s.sig := by simp [logViol]
@[simp] theorem logViol_loops (p : PortId) (c : Nat) (st : Status) (a : Nat) (s : State) : (logViol p c st a s).loops = s.loops := by simp [logViol]
@[simp] theorem logViol_eng (p : PortId) (c : Nat) (st : Status) (a : Nat) (s : State) : (logViol p c st a s).eng = s.eng := by simp [logViol]
@[simp] theorem logViol_sense (p : PortId) (c : Nat) (st : Status) (a : Nat) (s : State) : (logViol p c st a s).sense = s.sense := by simp [logViol]
@[simp] theorem logViol_trk (p : PortId) (c : Nat) (st : Status) (a : Nat) (s : State) : (logViol p c st a s).trk = s.trk := by simp [logViol]
@[simp] theorem logViol_str (p : PortId) (c : Nat) (st : Status) (a : Nat) (s : State) : (logViol p c st a s).str = s.str := by simp [logViol]
@[simp] theorem logViol_drv (p : PortId) (c : Nat) (st : Status) (a : Nat) (s : State) : (logViol p c st a s).drv = s.drv := by simp [logViol]
@[simp] theorem logViol_thm (p : PortId) (c : Nat) (st : Status) (a : Nat) (s : State) : (logViol p c st a s).thm = s.thm := by simp [logViol]
@[simp] theorem logViol_pwr (p : PortId) (c : Nat) (st : Status) (a : Nat) (s : State) : (logViol p c st a s).pwr = s.pwr := by simp [logViol]
@[simp] theorem logViol_boot (p : PortId) (c : Nat) (st : Status) (a : Nat) (s : State) : (logViol p c st a s).boot = s.boot := by simp [logViol]
@[simp] theorem logViol_upd (p : PortId) (c : Nat) (st : Status) (a : Nat) (s : State) : (logViol p c st a s).upd = s.upd := by simp [logViol]
@[simp] theorem logViol_port (p : PortId) (c : Nat) (st : Status) (a : Nat) (s : State) : (logViol p c st a s).port = s.port := by simp [logViol]
@[simp] theorem logViol_seq (p : PortId) (c : Nat) (st : Status) (a : Nat) (s : State) : (logViol p c st a s).seq = s.seq := by simp [logViol]
@[simp] theorem logViol_free (p : PortId) (c : Nat) (st : Status) (a : Nat) (s : State) : (logViol p c st a s).free = s.free := by simp [logViol]
@[simp] theorem logViol_pending (p : PortId) (c : Nat) (st : Status) (a : Nat) (s : State) : (logViol p c st a s).pending = s.pending := by simp [logViol]

/-! ### A CAN channel -/

@[simp] theorem canSet_clk (s : State) (n : Nat) (v : CanSt) : (canSet s n v).clk = s.clk := rfl
@[simp] theorem canSet_regs (s : State) (n : Nat) (v : CanSt) : (canSet s n v).regs = s.regs := rfl
@[simp] theorem canSet_mem (s : State) (n : Nat) (v : CanSt) : (canSet s n v).mem = s.mem := rfl
@[simp] theorem canSet_nor (s : State) (n : Nat) (v : CanSt) : (canSet s n v).nor = s.nor := rfl
@[simp] theorem canSet_time (s : State) (n : Nat) (v : CanSt) : (canSet s n v).time = s.time := rfl
@[simp] theorem canSet_log (s : State) (n : Nat) (v : CanSt) : (canSet s n v).log = s.log := rfl
@[simp] theorem canSet_net (s : State) (n : Nat) (v : CanSt) : (canSet s n v).net = s.net := rfl
@[simp] theorem canSet_sig (s : State) (n : Nat) (v : CanSt) : (canSet s n v).sig = s.sig := rfl
@[simp] theorem canSet_loops (s : State) (n : Nat) (v : CanSt) : (canSet s n v).loops = s.loops := rfl
@[simp] theorem canSet_eng (s : State) (n : Nat) (v : CanSt) : (canSet s n v).eng = s.eng := rfl
@[simp] theorem canSet_sense (s : State) (n : Nat) (v : CanSt) : (canSet s n v).sense = s.sense := rfl
@[simp] theorem canSet_trk (s : State) (n : Nat) (v : CanSt) : (canSet s n v).trk = s.trk := rfl
@[simp] theorem canSet_str (s : State) (n : Nat) (v : CanSt) : (canSet s n v).str = s.str := rfl
@[simp] theorem canSet_drv (s : State) (n : Nat) (v : CanSt) : (canSet s n v).drv = s.drv := rfl
@[simp] theorem canSet_thm (s : State) (n : Nat) (v : CanSt) : (canSet s n v).thm = s.thm := rfl
@[simp] theorem canSet_pwr (s : State) (n : Nat) (v : CanSt) : (canSet s n v).pwr = s.pwr := rfl
@[simp] theorem canSet_boot (s : State) (n : Nat) (v : CanSt) : (canSet s n v).boot = s.boot := rfl
@[simp] theorem canSet_upd (s : State) (n : Nat) (v : CanSt) : (canSet s n v).upd = s.upd := rfl
@[simp] theorem canSet_port (s : State) (n : Nat) (v : CanSt) : (canSet s n v).port = s.port := rfl
@[simp] theorem canSet_seq (s : State) (n : Nat) (v : CanSt) : (canSet s n v).seq = s.seq := rfl
@[simp] theorem canSet_hwset (s : State) (n : Nat) (v : CanSt) : (canSet s n v).hwset = s.hwset := rfl
@[simp] theorem canSet_free (s : State) (n : Nat) (v : CanSt) : (canSet s n v).free = s.free := rfl
@[simp] theorem canSet_pending (s : State) (n : Nat) (v : CanSt) : (canSet s n v).pending = s.pending := rfl
@[simp] theorem rd_canSet (s : State) (n : Nat) (v : CanSt) (a : Nat) : rd (canSet s n v) a = rd s a := rfl
@[simp] theorem canOf_canSet_same (s : State) (n : Nat) (v : CanSt) : canOf (canSet s n v) n = v := tget_tput_same _ _ _ _
theorem canOf_canSet_ne (s : State) {n m : Nat} (v : CanSt) (h : n ≠ m) : canOf (canSet s n v) m = canOf s m := tget_tput_ne _ _ _ h
@[simp] theorem canOf_wr (s : State) (a n : Nat) (w : Word) : canOf (wr s a w) n = canOf s n := by simp [canOf]
@[simp] theorem canOf_raise (c u n : Nat) (p0 p1 : Word) (s : State) : canOf (raise c u p0 p1 s) n = canOf s n := rfl

/-! ### A loop slot -/

@[simp] theorem loopSet_clk (s : State) (n : Nat) (v : LoopSt) : (loopSet s n v).clk = s.clk := rfl
@[simp] theorem loopSet_regs (s : State) (n : Nat) (v : LoopSt) : (loopSet s n v).regs = s.regs := rfl
@[simp] theorem loopSet_mem (s : State) (n : Nat) (v : LoopSt) : (loopSet s n v).mem = s.mem := rfl
@[simp] theorem loopSet_nor (s : State) (n : Nat) (v : LoopSt) : (loopSet s n v).nor = s.nor := rfl
@[simp] theorem loopSet_time (s : State) (n : Nat) (v : LoopSt) : (loopSet s n v).time = s.time := rfl
@[simp] theorem loopSet_log (s : State) (n : Nat) (v : LoopSt) : (loopSet s n v).log = s.log := rfl
@[simp] theorem loopSet_can (s : State) (n : Nat) (v : LoopSt) : (loopSet s n v).can = s.can := rfl
@[simp] theorem loopSet_net (s : State) (n : Nat) (v : LoopSt) : (loopSet s n v).net = s.net := rfl
@[simp] theorem loopSet_sig (s : State) (n : Nat) (v : LoopSt) : (loopSet s n v).sig = s.sig := rfl
@[simp] theorem loopSet_eng (s : State) (n : Nat) (v : LoopSt) : (loopSet s n v).eng = s.eng := rfl
@[simp] theorem loopSet_sense (s : State) (n : Nat) (v : LoopSt) : (loopSet s n v).sense = s.sense := rfl
@[simp] theorem loopSet_trk (s : State) (n : Nat) (v : LoopSt) : (loopSet s n v).trk = s.trk := rfl
@[simp] theorem loopSet_str (s : State) (n : Nat) (v : LoopSt) : (loopSet s n v).str = s.str := rfl
@[simp] theorem loopSet_drv (s : State) (n : Nat) (v : LoopSt) : (loopSet s n v).drv = s.drv := rfl
@[simp] theorem loopSet_thm (s : State) (n : Nat) (v : LoopSt) : (loopSet s n v).thm = s.thm := rfl
@[simp] theorem loopSet_pwr (s : State) (n : Nat) (v : LoopSt) : (loopSet s n v).pwr = s.pwr := rfl
@[simp] theorem loopSet_boot (s : State) (n : Nat) (v : LoopSt) : (loopSet s n v).boot = s.boot := rfl
@[simp] theorem loopSet_upd (s : State) (n : Nat) (v : LoopSt) : (loopSet s n v).upd = s.upd := rfl
@[simp] theorem loopSet_port (s : State) (n : Nat) (v : LoopSt) : (loopSet s n v).port = s.port := rfl
@[simp] theorem loopSet_seq (s : State) (n : Nat) (v : LoopSt) : (loopSet s n v).seq = s.seq := rfl
@[simp] theorem loopSet_hwset (s : State) (n : Nat) (v : LoopSt) : (loopSet s n v).hwset = s.hwset := rfl
@[simp] theorem loopSet_free (s : State) (n : Nat) (v : LoopSt) : (loopSet s n v).free = s.free := rfl
@[simp] theorem loopSet_pending (s : State) (n : Nat) (v : LoopSt) : (loopSet s n v).pending = s.pending := rfl
@[simp] theorem rd_loopSet (s : State) (n : Nat) (v : LoopSt) (a : Nat) : rd (loopSet s n v) a = rd s a := rfl
@[simp] theorem loopOf_loopSet_same (s : State) (n : Nat) (v : LoopSt) : loopOf (loopSet s n v) n = v := tget_tput_same _ _ _ _
theorem loopOf_loopSet_ne (s : State) {n m : Nat} (v : LoopSt) (h : n ≠ m) : loopOf (loopSet s n v) m = loopOf s m := tget_tput_ne _ _ _ h
@[simp] theorem loopOf_wr (s : State) (a n : Nat) (w : Word) : loopOf (wr s a w) n = loopOf s n := by simp [loopOf]
@[simp] theorem loopOf_raise (c u n : Nat) (p0 p1 : Word) (s : State) : loopOf (raise c u p0 p1 s) n = loopOf s n := rfl

/-! ### A motion channel -/

@[simp] theorem mSet_clk (s : State) (n : Nat) (v : MotSt) : (mSet s n v).clk = s.clk := rfl
@[simp] theorem mSet_regs (s : State) (n : Nat) (v : MotSt) : (mSet s n v).regs = s.regs := rfl
@[simp] theorem mSet_mem (s : State) (n : Nat) (v : MotSt) : (mSet s n v).mem = s.mem := rfl
@[simp] theorem mSet_nor (s : State) (n : Nat) (v : MotSt) : (mSet s n v).nor = s.nor := rfl
@[simp] theorem mSet_time (s : State) (n : Nat) (v : MotSt) : (mSet s n v).time = s.time := rfl
@[simp] theorem mSet_log (s : State) (n : Nat) (v : MotSt) : (mSet s n v).log = s.log := rfl
@[simp] theorem mSet_can (s : State) (n : Nat) (v : MotSt) : (mSet s n v).can = s.can := rfl
@[simp] theorem mSet_net (s : State) (n : Nat) (v : MotSt) : (mSet s n v).net = s.net := rfl
@[simp] theorem mSet_sig (s : State) (n : Nat) (v : MotSt) : (mSet s n v).sig = s.sig := rfl
@[simp] theorem mSet_loops (s : State) (n : Nat) (v : MotSt) : (mSet s n v).loops = s.loops := rfl
@[simp] theorem mSet_eng (s : State) (n : Nat) (v : MotSt) : (mSet s n v).eng = s.eng := rfl
@[simp] theorem mSet_sense (s : State) (n : Nat) (v : MotSt) : (mSet s n v).sense = s.sense := rfl
@[simp] theorem mSet_trk (s : State) (n : Nat) (v : MotSt) : (mSet s n v).trk = s.trk := rfl
@[simp] theorem mSet_str (s : State) (n : Nat) (v : MotSt) : (mSet s n v).str = s.str := rfl
@[simp] theorem mSet_thm (s : State) (n : Nat) (v : MotSt) : (mSet s n v).thm = s.thm := rfl
@[simp] theorem mSet_pwr (s : State) (n : Nat) (v : MotSt) : (mSet s n v).pwr = s.pwr := rfl
@[simp] theorem mSet_boot (s : State) (n : Nat) (v : MotSt) : (mSet s n v).boot = s.boot := rfl
@[simp] theorem mSet_upd (s : State) (n : Nat) (v : MotSt) : (mSet s n v).upd = s.upd := rfl
@[simp] theorem mSet_port (s : State) (n : Nat) (v : MotSt) : (mSet s n v).port = s.port := rfl
@[simp] theorem mSet_seq (s : State) (n : Nat) (v : MotSt) : (mSet s n v).seq = s.seq := rfl
@[simp] theorem mSet_hwset (s : State) (n : Nat) (v : MotSt) : (mSet s n v).hwset = s.hwset := rfl
@[simp] theorem mSet_free (s : State) (n : Nat) (v : MotSt) : (mSet s n v).free = s.free := rfl
@[simp] theorem mSet_pending (s : State) (n : Nat) (v : MotSt) : (mSet s n v).pending = s.pending := rfl
@[simp] theorem rd_mSet (s : State) (n : Nat) (v : MotSt) (a : Nat) : rd (mSet s n v) a = rd s a := rfl
@[simp] theorem mOf_mSet_same (s : State) (n : Nat) (v : MotSt) : mOf (mSet s n v) n = v := tget_tput_same _ _ _ _
theorem mOf_mSet_ne (s : State) {n m : Nat} (v : MotSt) (h : n ≠ m) : mOf (mSet s n v) m = mOf s m := tget_tput_ne _ _ _ h
@[simp] theorem mOf_wr (s : State) (a n : Nat) (w : Word) : mOf (wr s a w) n = mOf s n := by simp [mOf]
@[simp] theorem mOf_raise (c u n : Nat) (p0 p1 : Word) (s : State) : mOf (raise c u p0 p1 s) n = mOf s n := rfl

/-! ### A valve channel -/

@[simp] theorem vSet_clk (s : State) (n : Nat) (v : VchSt) : (vSet s n v).clk = s.clk := rfl
@[simp] theorem vSet_regs (s : State) (n : Nat) (v : VchSt) : (vSet s n v).regs = s.regs := rfl
@[simp] theorem vSet_mem (s : State) (n : Nat) (v : VchSt) : (vSet s n v).mem = s.mem := rfl
@[simp] theorem vSet_nor (s : State) (n : Nat) (v : VchSt) : (vSet s n v).nor = s.nor := rfl
@[simp] theorem vSet_time (s : State) (n : Nat) (v : VchSt) : (vSet s n v).time = s.time := rfl
@[simp] theorem vSet_log (s : State) (n : Nat) (v : VchSt) : (vSet s n v).log = s.log := rfl
@[simp] theorem vSet_can (s : State) (n : Nat) (v : VchSt) : (vSet s n v).can = s.can := rfl
@[simp] theorem vSet_net (s : State) (n : Nat) (v : VchSt) : (vSet s n v).net = s.net := rfl
@[simp] theorem vSet_sig (s : State) (n : Nat) (v : VchSt) : (vSet s n v).sig = s.sig := rfl
@[simp] theorem vSet_loops (s : State) (n : Nat) (v : VchSt) : (vSet s n v).loops = s.loops := rfl
@[simp] theorem vSet_eng (s : State) (n : Nat) (v : VchSt) : (vSet s n v).eng = s.eng := rfl
@[simp] theorem vSet_sense (s : State) (n : Nat) (v : VchSt) : (vSet s n v).sense = s.sense := rfl
@[simp] theorem vSet_trk (s : State) (n : Nat) (v : VchSt) : (vSet s n v).trk = s.trk := rfl
@[simp] theorem vSet_str (s : State) (n : Nat) (v : VchSt) : (vSet s n v).str = s.str := rfl
@[simp] theorem vSet_thm (s : State) (n : Nat) (v : VchSt) : (vSet s n v).thm = s.thm := rfl
@[simp] theorem vSet_pwr (s : State) (n : Nat) (v : VchSt) : (vSet s n v).pwr = s.pwr := rfl
@[simp] theorem vSet_boot (s : State) (n : Nat) (v : VchSt) : (vSet s n v).boot = s.boot := rfl
@[simp] theorem vSet_upd (s : State) (n : Nat) (v : VchSt) : (vSet s n v).upd = s.upd := rfl
@[simp] theorem vSet_port (s : State) (n : Nat) (v : VchSt) : (vSet s n v).port = s.port := rfl
@[simp] theorem vSet_seq (s : State) (n : Nat) (v : VchSt) : (vSet s n v).seq = s.seq := rfl
@[simp] theorem vSet_hwset (s : State) (n : Nat) (v : VchSt) : (vSet s n v).hwset = s.hwset := rfl
@[simp] theorem vSet_free (s : State) (n : Nat) (v : VchSt) : (vSet s n v).free = s.free := rfl
@[simp] theorem vSet_pending (s : State) (n : Nat) (v : VchSt) : (vSet s n v).pending = s.pending := rfl
@[simp] theorem rd_vSet (s : State) (n : Nat) (v : VchSt) (a : Nat) : rd (vSet s n v) a = rd s a := rfl
@[simp] theorem vOf_vSet_same (s : State) (n : Nat) (v : VchSt) : vOf (vSet s n v) n = v := tget_tput_same _ _ _ _
theorem vOf_vSet_ne (s : State) {n m : Nat} (v : VchSt) (h : n ≠ m) : vOf (vSet s n v) m = vOf s m := tget_tput_ne _ _ _ h
@[simp] theorem vOf_wr (s : State) (a n : Nat) (w : Word) : vOf (wr s a w) n = vOf s n := by simp [vOf]
@[simp] theorem vOf_raise (c u n : Nat) (p0 p1 : Word) (s : State) : vOf (raise c u p0 p1 s) n = vOf s n := rfl

/-! ### A boost converter -/

@[simp] theorem bstSet_clk (s : State) (n : Nat) (v : BstSt) : (bstSet s n v).clk = s.clk := rfl
@[simp] theorem bstSet_regs (s : State) (n : Nat) (v : BstSt) : (bstSet s n v).regs = s.regs := rfl
@[simp] theorem bstSet_mem (s : State) (n : Nat) (v : BstSt) : (bstSet s n v).mem = s.mem := rfl
@[simp] theorem bstSet_nor (s : State) (n : Nat) (v : BstSt) : (bstSet s n v).nor = s.nor := rfl
@[simp] theorem bstSet_time (s : State) (n : Nat) (v : BstSt) : (bstSet s n v).time = s.time := rfl
@[simp] theorem bstSet_log (s : State) (n : Nat) (v : BstSt) : (bstSet s n v).log = s.log := rfl
@[simp] theorem bstSet_can (s : State) (n : Nat) (v : BstSt) : (bstSet s n v).can = s.can := rfl
@[simp] theorem bstSet_net (s : State) (n : Nat) (v : BstSt) : (bstSet s n v).net = s.net := rfl
@[simp] theorem bstSet_sig (s : State) (n : Nat) (v : BstSt) : (bstSet s n v).sig = s.sig := rfl
@[simp] theorem bstSet_loops (s : State) (n : Nat) (v : BstSt) : (bstSet s n v).loops = s.loops := rfl
@[simp] theorem bstSet_eng (s : State) (n : Nat) (v : BstSt) : (bstSet s n v).eng = s.eng := rfl
@[simp] theorem bstSet_sense (s : State) (n : Nat) (v : BstSt) : (bstSet s n v).sense = s.sense := rfl
@[simp] theorem bstSet_trk (s : State) (n : Nat) (v : BstSt) : (bstSet s n v).trk = s.trk := rfl
@[simp] theorem bstSet_str (s : State) (n : Nat) (v : BstSt) : (bstSet s n v).str = s.str := rfl
@[simp] theorem bstSet_thm (s : State) (n : Nat) (v : BstSt) : (bstSet s n v).thm = s.thm := rfl
@[simp] theorem bstSet_pwr (s : State) (n : Nat) (v : BstSt) : (bstSet s n v).pwr = s.pwr := rfl
@[simp] theorem bstSet_boot (s : State) (n : Nat) (v : BstSt) : (bstSet s n v).boot = s.boot := rfl
@[simp] theorem bstSet_upd (s : State) (n : Nat) (v : BstSt) : (bstSet s n v).upd = s.upd := rfl
@[simp] theorem bstSet_port (s : State) (n : Nat) (v : BstSt) : (bstSet s n v).port = s.port := rfl
@[simp] theorem bstSet_seq (s : State) (n : Nat) (v : BstSt) : (bstSet s n v).seq = s.seq := rfl
@[simp] theorem bstSet_hwset (s : State) (n : Nat) (v : BstSt) : (bstSet s n v).hwset = s.hwset := rfl
@[simp] theorem bstSet_free (s : State) (n : Nat) (v : BstSt) : (bstSet s n v).free = s.free := rfl
@[simp] theorem bstSet_pending (s : State) (n : Nat) (v : BstSt) : (bstSet s n v).pending = s.pending := rfl
@[simp] theorem rd_bstSet (s : State) (n : Nat) (v : BstSt) (a : Nat) : rd (bstSet s n v) a = rd s a := rfl
@[simp] theorem bstOf_bstSet_same (s : State) (n : Nat) (v : BstSt) : bstOf (bstSet s n v) n = v := tget_tput_same _ _ _ _
theorem bstOf_bstSet_ne (s : State) {n m : Nat} (v : BstSt) (h : n ≠ m) : bstOf (bstSet s n v) m = bstOf s m := tget_tput_ne _ _ _ h
@[simp] theorem bstOf_wr (s : State) (a n : Nat) (w : Word) : bstOf (wr s a w) n = bstOf s n := by simp [bstOf]
@[simp] theorem bstOf_raise (c u n : Nat) (p0 p1 : Word) (s : State) : bstOf (raise c u p0 p1 s) n = bstOf s n := rfl

/-! ### A probe -/

@[simp] theorem prbSet_clk (s : State) (n : Nat) (v : PrbSt) : (prbSet s n v).clk = s.clk := rfl
@[simp] theorem prbSet_regs (s : State) (n : Nat) (v : PrbSt) : (prbSet s n v).regs = s.regs := rfl
@[simp] theorem prbSet_mem (s : State) (n : Nat) (v : PrbSt) : (prbSet s n v).mem = s.mem := rfl
@[simp] theorem prbSet_nor (s : State) (n : Nat) (v : PrbSt) : (prbSet s n v).nor = s.nor := rfl
@[simp] theorem prbSet_time (s : State) (n : Nat) (v : PrbSt) : (prbSet s n v).time = s.time := rfl
@[simp] theorem prbSet_log (s : State) (n : Nat) (v : PrbSt) : (prbSet s n v).log = s.log := rfl
@[simp] theorem prbSet_can (s : State) (n : Nat) (v : PrbSt) : (prbSet s n v).can = s.can := rfl
@[simp] theorem prbSet_net (s : State) (n : Nat) (v : PrbSt) : (prbSet s n v).net = s.net := rfl
@[simp] theorem prbSet_sig (s : State) (n : Nat) (v : PrbSt) : (prbSet s n v).sig = s.sig := rfl
@[simp] theorem prbSet_loops (s : State) (n : Nat) (v : PrbSt) : (prbSet s n v).loops = s.loops := rfl
@[simp] theorem prbSet_eng (s : State) (n : Nat) (v : PrbSt) : (prbSet s n v).eng = s.eng := rfl
@[simp] theorem prbSet_trk (s : State) (n : Nat) (v : PrbSt) : (prbSet s n v).trk = s.trk := rfl
@[simp] theorem prbSet_str (s : State) (n : Nat) (v : PrbSt) : (prbSet s n v).str = s.str := rfl
@[simp] theorem prbSet_drv (s : State) (n : Nat) (v : PrbSt) : (prbSet s n v).drv = s.drv := rfl
@[simp] theorem prbSet_thm (s : State) (n : Nat) (v : PrbSt) : (prbSet s n v).thm = s.thm := rfl
@[simp] theorem prbSet_pwr (s : State) (n : Nat) (v : PrbSt) : (prbSet s n v).pwr = s.pwr := rfl
@[simp] theorem prbSet_boot (s : State) (n : Nat) (v : PrbSt) : (prbSet s n v).boot = s.boot := rfl
@[simp] theorem prbSet_upd (s : State) (n : Nat) (v : PrbSt) : (prbSet s n v).upd = s.upd := rfl
@[simp] theorem prbSet_port (s : State) (n : Nat) (v : PrbSt) : (prbSet s n v).port = s.port := rfl
@[simp] theorem prbSet_seq (s : State) (n : Nat) (v : PrbSt) : (prbSet s n v).seq = s.seq := rfl
@[simp] theorem prbSet_hwset (s : State) (n : Nat) (v : PrbSt) : (prbSet s n v).hwset = s.hwset := rfl
@[simp] theorem prbSet_free (s : State) (n : Nat) (v : PrbSt) : (prbSet s n v).free = s.free := rfl
@[simp] theorem prbSet_pending (s : State) (n : Nat) (v : PrbSt) : (prbSet s n v).pending = s.pending := rfl
@[simp] theorem rd_prbSet (s : State) (n : Nat) (v : PrbSt) (a : Nat) : rd (prbSet s n v) a = rd s a := rfl
@[simp] theorem prbOf_prbSet_same (s : State) (n : Nat) (v : PrbSt) : prbOf (prbSet s n v) n = v := tget_tput_same _ _ _ _
theorem prbOf_prbSet_ne (s : State) {n m : Nat} (v : PrbSt) (h : n ≠ m) : prbOf (prbSet s n v) m = prbOf s m := tget_tput_ne _ _ _ h
@[simp] theorem prbOf_wr (s : State) (a n : Nat) (w : Word) : prbOf (wr s a w) n = prbOf s n := by simp [prbOf]
@[simp] theorem prbOf_raise (c u n : Nat) (p0 p1 : Word) (s : State) : prbOf (raise c u p0 p1 s) n = prbOf s n := rfl

/-! ### A pulse input -/

@[simp] theorem plsSet_clk (s : State) (n : Nat) (v : PlsSt) : (plsSet s n v).clk = s.clk := rfl
@[simp] theorem plsSet_regs (s : State) (n : Nat) (v : PlsSt) : (plsSet s n v).regs = s.regs := rfl
@[simp] theorem plsSet_mem (s : State) (n : Nat) (v : PlsSt) : (plsSet s n v).mem = s.mem := rfl
@[simp] theorem plsSet_nor (s : State) (n : Nat) (v : PlsSt) : (plsSet s n v).nor = s.nor := rfl
@[simp] theorem plsSet_time (s : State) (n : Nat) (v : PlsSt) : (plsSet s n v).time = s.time := rfl
@[simp] theorem plsSet_log (s : State) (n : Nat) (v : PlsSt) : (plsSet s n v).log = s.log := rfl
@[simp] theorem plsSet_can (s : State) (n : Nat) (v : PlsSt) : (plsSet s n v).can = s.can := rfl
@[simp] theorem plsSet_net (s : State) (n : Nat) (v : PlsSt) : (plsSet s n v).net = s.net := rfl
@[simp] theorem plsSet_sig (s : State) (n : Nat) (v : PlsSt) : (plsSet s n v).sig = s.sig := rfl
@[simp] theorem plsSet_loops (s : State) (n : Nat) (v : PlsSt) : (plsSet s n v).loops = s.loops := rfl
@[simp] theorem plsSet_eng (s : State) (n : Nat) (v : PlsSt) : (plsSet s n v).eng = s.eng := rfl
@[simp] theorem plsSet_trk (s : State) (n : Nat) (v : PlsSt) : (plsSet s n v).trk = s.trk := rfl
@[simp] theorem plsSet_str (s : State) (n : Nat) (v : PlsSt) : (plsSet s n v).str = s.str := rfl
@[simp] theorem plsSet_drv (s : State) (n : Nat) (v : PlsSt) : (plsSet s n v).drv = s.drv := rfl
@[simp] theorem plsSet_thm (s : State) (n : Nat) (v : PlsSt) : (plsSet s n v).thm = s.thm := rfl
@[simp] theorem plsSet_pwr (s : State) (n : Nat) (v : PlsSt) : (plsSet s n v).pwr = s.pwr := rfl
@[simp] theorem plsSet_boot (s : State) (n : Nat) (v : PlsSt) : (plsSet s n v).boot = s.boot := rfl
@[simp] theorem plsSet_upd (s : State) (n : Nat) (v : PlsSt) : (plsSet s n v).upd = s.upd := rfl
@[simp] theorem plsSet_port (s : State) (n : Nat) (v : PlsSt) : (plsSet s n v).port = s.port := rfl
@[simp] theorem plsSet_seq (s : State) (n : Nat) (v : PlsSt) : (plsSet s n v).seq = s.seq := rfl
@[simp] theorem plsSet_hwset (s : State) (n : Nat) (v : PlsSt) : (plsSet s n v).hwset = s.hwset := rfl
@[simp] theorem plsSet_free (s : State) (n : Nat) (v : PlsSt) : (plsSet s n v).free = s.free := rfl
@[simp] theorem plsSet_pending (s : State) (n : Nat) (v : PlsSt) : (plsSet s n v).pending = s.pending := rfl
@[simp] theorem rd_plsSet (s : State) (n : Nat) (v : PlsSt) (a : Nat) : rd (plsSet s n v) a = rd s a := rfl
@[simp] theorem plsOf_plsSet_same (s : State) (n : Nat) (v : PlsSt) : plsOf (plsSet s n v) n = v := tget_tput_same _ _ _ _
theorem plsOf_plsSet_ne (s : State) {n m : Nat} (v : PlsSt) (h : n ≠ m) : plsOf (plsSet s n v) m = plsOf s m := tget_tput_ne _ _ _ h
@[simp] theorem plsOf_wr (s : State) (a n : Nat) (w : Word) : plsOf (wr s a w) n = plsOf s n := by simp [plsOf]
@[simp] theorem plsOf_raise (c u n : Nat) (p0 p1 : Word) (s : State) : plsOf (raise c u p0 p1 s) n = plsOf s n := rfl

/-! ### A column -/

@[simp] theorem trkSet_clk (s : State) (n : Nat) (v : TrkSt) : (trkSet s n v).clk = s.clk := rfl
@[simp] theorem trkSet_regs (s : State) (n : Nat) (v : TrkSt) : (trkSet s n v).regs = s.regs := rfl
@[simp] theorem trkSet_mem (s : State) (n : Nat) (v : TrkSt) : (trkSet s n v).mem = s.mem := rfl
@[simp] theorem trkSet_nor (s : State) (n : Nat) (v : TrkSt) : (trkSet s n v).nor = s.nor := rfl
@[simp] theorem trkSet_time (s : State) (n : Nat) (v : TrkSt) : (trkSet s n v).time = s.time := rfl
@[simp] theorem trkSet_log (s : State) (n : Nat) (v : TrkSt) : (trkSet s n v).log = s.log := rfl
@[simp] theorem trkSet_can (s : State) (n : Nat) (v : TrkSt) : (trkSet s n v).can = s.can := rfl
@[simp] theorem trkSet_net (s : State) (n : Nat) (v : TrkSt) : (trkSet s n v).net = s.net := rfl
@[simp] theorem trkSet_sig (s : State) (n : Nat) (v : TrkSt) : (trkSet s n v).sig = s.sig := rfl
@[simp] theorem trkSet_loops (s : State) (n : Nat) (v : TrkSt) : (trkSet s n v).loops = s.loops := rfl
@[simp] theorem trkSet_eng (s : State) (n : Nat) (v : TrkSt) : (trkSet s n v).eng = s.eng := rfl
@[simp] theorem trkSet_sense (s : State) (n : Nat) (v : TrkSt) : (trkSet s n v).sense = s.sense := rfl
@[simp] theorem trkSet_str (s : State) (n : Nat) (v : TrkSt) : (trkSet s n v).str = s.str := rfl
@[simp] theorem trkSet_drv (s : State) (n : Nat) (v : TrkSt) : (trkSet s n v).drv = s.drv := rfl
@[simp] theorem trkSet_thm (s : State) (n : Nat) (v : TrkSt) : (trkSet s n v).thm = s.thm := rfl
@[simp] theorem trkSet_pwr (s : State) (n : Nat) (v : TrkSt) : (trkSet s n v).pwr = s.pwr := rfl
@[simp] theorem trkSet_boot (s : State) (n : Nat) (v : TrkSt) : (trkSet s n v).boot = s.boot := rfl
@[simp] theorem trkSet_upd (s : State) (n : Nat) (v : TrkSt) : (trkSet s n v).upd = s.upd := rfl
@[simp] theorem trkSet_port (s : State) (n : Nat) (v : TrkSt) : (trkSet s n v).port = s.port := rfl
@[simp] theorem trkSet_seq (s : State) (n : Nat) (v : TrkSt) : (trkSet s n v).seq = s.seq := rfl
@[simp] theorem trkSet_hwset (s : State) (n : Nat) (v : TrkSt) : (trkSet s n v).hwset = s.hwset := rfl
@[simp] theorem trkSet_free (s : State) (n : Nat) (v : TrkSt) : (trkSet s n v).free = s.free := rfl
@[simp] theorem trkSet_pending (s : State) (n : Nat) (v : TrkSt) : (trkSet s n v).pending = s.pending := rfl
@[simp] theorem rd_trkSet (s : State) (n : Nat) (v : TrkSt) (a : Nat) : rd (trkSet s n v) a = rd s a := rfl
@[simp] theorem trkOf_trkSet_same (s : State) (n : Nat) (v : TrkSt) : trkOf (trkSet s n v) n = v := tget_tput_same _ _ _ _
theorem trkOf_trkSet_ne (s : State) {n m : Nat} (v : TrkSt) (h : n ≠ m) : trkOf (trkSet s n v) m = trkOf s m := tget_tput_ne _ _ _ h
@[simp] theorem trkOf_wr (s : State) (a n : Nat) (w : Word) : trkOf (wr s a w) n = trkOf s n := by simp [trkOf]
@[simp] theorem trkOf_raise (c u n : Nat) (p0 p1 : Word) (s : State) : trkOf (raise c u p0 p1 s) n = trkOf s n := rfl

/-! ### A string port -/

@[simp] theorem strSet_clk (s : State) (n : Nat) (v : StrSt) : (strSet s n v).clk = s.clk := rfl
@[simp] theorem strSet_regs (s : State) (n : Nat) (v : StrSt) : (strSet s n v).regs = s.regs := rfl
@[simp] theorem strSet_mem (s : State) (n : Nat) (v : StrSt) : (strSet s n v).mem = s.mem := rfl
@[simp] theorem strSet_nor (s : State) (n : Nat) (v : StrSt) : (strSet s n v).nor = s.nor := rfl
@[simp] theorem strSet_time (s : State) (n : Nat) (v : StrSt) : (strSet s n v).time = s.time := rfl
@[simp] theorem strSet_log (s : State) (n : Nat) (v : StrSt) : (strSet s n v).log = s.log := rfl
@[simp] theorem strSet_can (s : State) (n : Nat) (v : StrSt) : (strSet s n v).can = s.can := rfl
@[simp] theorem strSet_net (s : State) (n : Nat) (v : StrSt) : (strSet s n v).net = s.net := rfl
@[simp] theorem strSet_sig (s : State) (n : Nat) (v : StrSt) : (strSet s n v).sig = s.sig := rfl
@[simp] theorem strSet_loops (s : State) (n : Nat) (v : StrSt) : (strSet s n v).loops = s.loops := rfl
@[simp] theorem strSet_eng (s : State) (n : Nat) (v : StrSt) : (strSet s n v).eng = s.eng := rfl
@[simp] theorem strSet_sense (s : State) (n : Nat) (v : StrSt) : (strSet s n v).sense = s.sense := rfl
@[simp] theorem strSet_trk (s : State) (n : Nat) (v : StrSt) : (strSet s n v).trk = s.trk := rfl
@[simp] theorem strSet_drv (s : State) (n : Nat) (v : StrSt) : (strSet s n v).drv = s.drv := rfl
@[simp] theorem strSet_thm (s : State) (n : Nat) (v : StrSt) : (strSet s n v).thm = s.thm := rfl
@[simp] theorem strSet_pwr (s : State) (n : Nat) (v : StrSt) : (strSet s n v).pwr = s.pwr := rfl
@[simp] theorem strSet_boot (s : State) (n : Nat) (v : StrSt) : (strSet s n v).boot = s.boot := rfl
@[simp] theorem strSet_upd (s : State) (n : Nat) (v : StrSt) : (strSet s n v).upd = s.upd := rfl
@[simp] theorem strSet_port (s : State) (n : Nat) (v : StrSt) : (strSet s n v).port = s.port := rfl
@[simp] theorem strSet_seq (s : State) (n : Nat) (v : StrSt) : (strSet s n v).seq = s.seq := rfl
@[simp] theorem strSet_hwset (s : State) (n : Nat) (v : StrSt) : (strSet s n v).hwset = s.hwset := rfl
@[simp] theorem strSet_free (s : State) (n : Nat) (v : StrSt) : (strSet s n v).free = s.free := rfl
@[simp] theorem strSet_pending (s : State) (n : Nat) (v : StrSt) : (strSet s n v).pending = s.pending := rfl
@[simp] theorem rd_strSet (s : State) (n : Nat) (v : StrSt) (a : Nat) : rd (strSet s n v) a = rd s a := rfl
@[simp] theorem strOf_strSet_same (s : State) (n : Nat) (v : StrSt) : strOf (strSet s n v) n = v := tget_tput_same _ _ _ _
theorem strOf_strSet_ne (s : State) {n m : Nat} (v : StrSt) (h : n ≠ m) : strOf (strSet s n v) m = strOf s m := tget_tput_ne _ _ _ h
@[simp] theorem strOf_wr (s : State) (a n : Nat) (w : Word) : strOf (wr s a w) n = strOf s n := by simp [strOf]
@[simp] theorem strOf_raise (c u n : Nat) (p0 p1 : Word) (s : State) : strOf (raise c u p0 p1 s) n = strOf s n := rfl

/-! ### A sequence -/

@[simp] theorem seqSet_clk (s : State) (n : Nat) (v : SeqSt) : (seqSet s n v).clk = s.clk := rfl
@[simp] theorem seqSet_regs (s : State) (n : Nat) (v : SeqSt) : (seqSet s n v).regs = s.regs := rfl
@[simp] theorem seqSet_mem (s : State) (n : Nat) (v : SeqSt) : (seqSet s n v).mem = s.mem := rfl
@[simp] theorem seqSet_nor (s : State) (n : Nat) (v : SeqSt) : (seqSet s n v).nor = s.nor := rfl
@[simp] theorem seqSet_time (s : State) (n : Nat) (v : SeqSt) : (seqSet s n v).time = s.time := rfl
@[simp] theorem seqSet_log (s : State) (n : Nat) (v : SeqSt) : (seqSet s n v).log = s.log := rfl
@[simp] theorem seqSet_can (s : State) (n : Nat) (v : SeqSt) : (seqSet s n v).can = s.can := rfl
@[simp] theorem seqSet_net (s : State) (n : Nat) (v : SeqSt) : (seqSet s n v).net = s.net := rfl
@[simp] theorem seqSet_sig (s : State) (n : Nat) (v : SeqSt) : (seqSet s n v).sig = s.sig := rfl
@[simp] theorem seqSet_loops (s : State) (n : Nat) (v : SeqSt) : (seqSet s n v).loops = s.loops := rfl
@[simp] theorem seqSet_eng (s : State) (n : Nat) (v : SeqSt) : (seqSet s n v).eng = s.eng := rfl
@[simp] theorem seqSet_sense (s : State) (n : Nat) (v : SeqSt) : (seqSet s n v).sense = s.sense := rfl
@[simp] theorem seqSet_trk (s : State) (n : Nat) (v : SeqSt) : (seqSet s n v).trk = s.trk := rfl
@[simp] theorem seqSet_str (s : State) (n : Nat) (v : SeqSt) : (seqSet s n v).str = s.str := rfl
@[simp] theorem seqSet_drv (s : State) (n : Nat) (v : SeqSt) : (seqSet s n v).drv = s.drv := rfl
@[simp] theorem seqSet_thm (s : State) (n : Nat) (v : SeqSt) : (seqSet s n v).thm = s.thm := rfl
@[simp] theorem seqSet_pwr (s : State) (n : Nat) (v : SeqSt) : (seqSet s n v).pwr = s.pwr := rfl
@[simp] theorem seqSet_boot (s : State) (n : Nat) (v : SeqSt) : (seqSet s n v).boot = s.boot := rfl
@[simp] theorem seqSet_upd (s : State) (n : Nat) (v : SeqSt) : (seqSet s n v).upd = s.upd := rfl
@[simp] theorem seqSet_port (s : State) (n : Nat) (v : SeqSt) : (seqSet s n v).port = s.port := rfl
@[simp] theorem seqSet_hwset (s : State) (n : Nat) (v : SeqSt) : (seqSet s n v).hwset = s.hwset := rfl
@[simp] theorem seqSet_free (s : State) (n : Nat) (v : SeqSt) : (seqSet s n v).free = s.free := rfl
@[simp] theorem seqSet_pending (s : State) (n : Nat) (v : SeqSt) : (seqSet s n v).pending = s.pending := rfl
@[simp] theorem rd_seqSet (s : State) (n : Nat) (v : SeqSt) (a : Nat) : rd (seqSet s n v) a = rd s a := rfl
@[simp] theorem seqOf_seqSet_same (s : State) (n : Nat) (v : SeqSt) : seqOf (seqSet s n v) n = v := tget_tput_same _ _ _ _
theorem seqOf_seqSet_ne (s : State) {n m : Nat} (v : SeqSt) (h : n ≠ m) : seqOf (seqSet s n v) m = seqOf s m := tget_tput_ne _ _ _ h
@[simp] theorem seqOf_wr (s : State) (a n : Nat) (w : Word) : seqOf (wr s a w) n = seqOf s n := by simp [seqOf]
@[simp] theorem seqOf_raise (c u n : Nat) (p0 p1 : Word) (s : State) : seqOf (raise c u p0 p1 s) n = seqOf s n := rfl

/-! ### A loop engine -/

@[simp] theorem engSet_clk (s : State) (d : Nat) (e : EngSt) : (engSet s d e).clk = s.clk := rfl
@[simp] theorem engSet_regs (s : State) (d : Nat) (e : EngSt) : (engSet s d e).regs = s.regs := rfl
@[simp] theorem engSet_mem (s : State) (d : Nat) (e : EngSt) : (engSet s d e).mem = s.mem := rfl
@[simp] theorem engSet_nor (s : State) (d : Nat) (e : EngSt) : (engSet s d e).nor = s.nor := rfl
@[simp] theorem engSet_time (s : State) (d : Nat) (e : EngSt) : (engSet s d e).time = s.time := rfl
@[simp] theorem engSet_log (s : State) (d : Nat) (e : EngSt) : (engSet s d e).log = s.log := rfl
@[simp] theorem engSet_can (s : State) (d : Nat) (e : EngSt) : (engSet s d e).can = s.can := rfl
@[simp] theorem engSet_net (s : State) (d : Nat) (e : EngSt) : (engSet s d e).net = s.net := rfl
@[simp] theorem engSet_sig (s : State) (d : Nat) (e : EngSt) : (engSet s d e).sig = s.sig := rfl
@[simp] theorem engSet_loops (s : State) (d : Nat) (e : EngSt) : (engSet s d e).loops = s.loops := rfl
@[simp] theorem engSet_sense (s : State) (d : Nat) (e : EngSt) : (engSet s d e).sense = s.sense := rfl
@[simp] theorem engSet_trk (s : State) (d : Nat) (e : EngSt) : (engSet s d e).trk = s.trk := rfl
@[simp] theorem engSet_str (s : State) (d : Nat) (e : EngSt) : (engSet s d e).str = s.str := rfl
@[simp] theorem engSet_drv (s : State) (d : Nat) (e : EngSt) : (engSet s d e).drv = s.drv := rfl
@[simp] theorem engSet_thm (s : State) (d : Nat) (e : EngSt) : (engSet s d e).thm = s.thm := rfl
@[simp] theorem engSet_pwr (s : State) (d : Nat) (e : EngSt) : (engSet s d e).pwr = s.pwr := rfl
@[simp] theorem engSet_boot (s : State) (d : Nat) (e : EngSt) : (engSet s d e).boot = s.boot := rfl
@[simp] theorem engSet_upd (s : State) (d : Nat) (e : EngSt) : (engSet s d e).upd = s.upd := rfl
@[simp] theorem engSet_port (s : State) (d : Nat) (e : EngSt) : (engSet s d e).port = s.port := rfl
@[simp] theorem engSet_seq (s : State) (d : Nat) (e : EngSt) : (engSet s d e).seq = s.seq := rfl
@[simp] theorem engSet_hwset (s : State) (d : Nat) (e : EngSt) : (engSet s d e).hwset = s.hwset := rfl
@[simp] theorem engSet_free (s : State) (d : Nat) (e : EngSt) : (engSet s d e).free = s.free := rfl
@[simp] theorem engSet_pending (s : State) (d : Nat) (e : EngSt) : (engSet s d e).pending = s.pending := rfl
@[simp] theorem rd_engSet (s : State) (d : Nat) (e : EngSt) (a : Nat) : rd (engSet s d e) a = rd s a := rfl

/-! ### A port's record -/

@[simp] theorem recSet_clk (p : PortId) (r : PortRec) (s : State) : (recSet p r s).clk = s.clk := rfl
@[simp] theorem recSet_regs (p : PortId) (r : PortRec) (s : State) : (recSet p r s).regs = s.regs := rfl
@[simp] theorem recSet_mem (p : PortId) (r : PortRec) (s : State) : (recSet p r s).mem = s.mem := rfl
@[simp] theorem recSet_nor (p : PortId) (r : PortRec) (s : State) : (recSet p r s).nor = s.nor := rfl
@[simp] theorem recSet_time (p : PortId) (r : PortRec) (s : State) : (recSet p r s).time = s.time := rfl
@[simp] theorem recSet_log (p : PortId) (r : PortRec) (s : State) : (recSet p r s).log = s.log := rfl
@[simp] theorem recSet_can (p : PortId) (r : PortRec) (s : State) : (recSet p r s).can = s.can := rfl
@[simp] theorem recSet_net (p : PortId) (r : PortRec) (s : State) : (recSet p r s).net = s.net := rfl
@[simp] theorem recSet_sig (p : PortId) (r : PortRec) (s : State) : (recSet p r s).sig = s.sig := rfl
@[simp] theorem recSet_loops (p : PortId) (r : PortRec) (s : State) : (recSet p r s).loops = s.loops := rfl
@[simp] theorem recSet_eng (p : PortId) (r : PortRec) (s : State) : (recSet p r s).eng = s.eng := rfl
@[simp] theorem recSet_sense (p : PortId) (r : PortRec) (s : State) : (recSet p r s).sense = s.sense := rfl
@[simp] theorem recSet_trk (p : PortId) (r : PortRec) (s : State) : (recSet p r s).trk = s.trk := rfl
@[simp] theorem recSet_str (p : PortId) (r : PortRec) (s : State) : (recSet p r s).str = s.str := rfl
@[simp] theorem recSet_drv (p : PortId) (r : PortRec) (s : State) : (recSet p r s).drv = s.drv := rfl
@[simp] theorem recSet_thm (p : PortId) (r : PortRec) (s : State) : (recSet p r s).thm = s.thm := rfl
@[simp] theorem recSet_pwr (p : PortId) (r : PortRec) (s : State) : (recSet p r s).pwr = s.pwr := rfl
@[simp] theorem recSet_boot (p : PortId) (r : PortRec) (s : State) : (recSet p r s).boot = s.boot := rfl
@[simp] theorem recSet_upd (p : PortId) (r : PortRec) (s : State) : (recSet p r s).upd = s.upd := rfl
@[simp] theorem recSet_seq (p : PortId) (r : PortRec) (s : State) : (recSet p r s).seq = s.seq := rfl
@[simp] theorem recSet_hwset (p : PortId) (r : PortRec) (s : State) : (recSet p r s).hwset = s.hwset := rfl
@[simp] theorem recSet_free (p : PortId) (r : PortRec) (s : State) : (recSet p r s).free = s.free := rfl
@[simp] theorem recSet_pending (p : PortId) (r : PortRec) (s : State) : (recSet p r s).pending = s.pending := rfl
@[simp] theorem rd_recSet (p : PortId) (r : PortRec) (s : State) (a : Nat) : rd (recSet p r s) a = rd s a := rfl

/-! ### A servo -/

@[simp] theorem servoSet_clk (k : Nat) (v : Servo) (s : State) : (servoSet k v s).clk = s.clk := by unfold servoSet; split <;> rfl
@[simp] theorem servoSet_regs (k : Nat) (v : Servo) (s : State) : (servoSet k v s).regs = s.regs := by unfold servoSet; split <;> rfl
@[simp] theorem servoSet_mem (k : Nat) (v : Servo) (s : State) : (servoSet k v s).mem = s.mem := by unfold servoSet; split <;> rfl
@[simp] theorem servoSet_nor (k : Nat) (v : Servo) (s : State) : (servoSet k v s).nor = s.nor := by unfold servoSet; split <;> rfl
@[simp] theorem servoSet_log (k : Nat) (v : Servo) (s : State) : (servoSet k v s).log = s.log := by unfold servoSet; split <;> rfl
@[simp] theorem servoSet_can (k : Nat) (v : Servo) (s : State) : (servoSet k v s).can = s.can := by unfold servoSet; split <;> rfl
@[simp] theorem servoSet_net (k : Nat) (v : Servo) (s : State) : (servoSet k v s).net = s.net := by unfold servoSet; split <;> rfl
@[simp] theorem servoSet_sig (k : Nat) (v : Servo) (s : State) : (servoSet k v s).sig = s.sig := by unfold servoSet; split <;> rfl
@[simp] theorem servoSet_loops (k : Nat) (v : Servo) (s : State) : (servoSet k v s).loops = s.loops := by unfold servoSet; split <;> rfl
@[simp] theorem servoSet_eng (k : Nat) (v : Servo) (s : State) : (servoSet k v s).eng = s.eng := by unfold servoSet; split <;> rfl
@[simp] theorem servoSet_sense (k : Nat) (v : Servo) (s : State) : (servoSet k v s).sense = s.sense := by unfold servoSet; split <;> rfl
@[simp] theorem servoSet_trk (k : Nat) (v : Servo) (s : State) : (servoSet k v s).trk = s.trk := by unfold servoSet; split <;> rfl
@[simp] theorem servoSet_str (k : Nat) (v : Servo) (s : State) : (servoSet k v s).str = s.str := by unfold servoSet; split <;> rfl
@[simp] theorem servoSet_drv (k : Nat) (v : Servo) (s : State) : (servoSet k v s).drv = s.drv := by unfold servoSet; split <;> rfl
@[simp] theorem servoSet_thm (k : Nat) (v : Servo) (s : State) : (servoSet k v s).thm = s.thm := by unfold servoSet; split <;> rfl
@[simp] theorem servoSet_pwr (k : Nat) (v : Servo) (s : State) : (servoSet k v s).pwr = s.pwr := by unfold servoSet; split <;> rfl
@[simp] theorem servoSet_boot (k : Nat) (v : Servo) (s : State) : (servoSet k v s).boot = s.boot := by unfold servoSet; split <;> rfl
@[simp] theorem servoSet_upd (k : Nat) (v : Servo) (s : State) : (servoSet k v s).upd = s.upd := by unfold servoSet; split <;> rfl
@[simp] theorem servoSet_port (k : Nat) (v : Servo) (s : State) : (servoSet k v s).port = s.port := by unfold servoSet; split <;> rfl
@[simp] theorem servoSet_seq (k : Nat) (v : Servo) (s : State) : (servoSet k v s).seq = s.seq := by unfold servoSet; split <;> rfl
@[simp] theorem servoSet_hwset (k : Nat) (v : Servo) (s : State) : (servoSet k v s).hwset = s.hwset := by unfold servoSet; split <;> rfl
@[simp] theorem servoSet_free (k : Nat) (v : Servo) (s : State) : (servoSet k v s).free = s.free := by unfold servoSet; split <;> rfl
@[simp] theorem servoSet_pending (k : Nat) (v : Servo) (s : State) : (servoSet k v s).pending = s.pending := by unfold servoSet; split <;> rfl

/-! ### An effect without the time bases and the queue -/

@[simp] theorem keepClk_clk (f : State → State) (s : State) : (keepClk f s).clk = s.clk := rfl
@[simp] theorem keepClk_regs (f : State → State) (s : State) : (keepClk f s).regs = (f s).regs := rfl
@[simp] theorem keepClk_mem (f : State → State) (s : State) : (keepClk f s).mem = (f s).mem := rfl
@[simp] theorem keepClk_nor (f : State → State) (s : State) : (keepClk f s).nor = (f s).nor := rfl
@[simp] theorem keepClk_time (f : State → State) (s : State) : (keepClk f s).time = (f s).time := rfl
@[simp] theorem keepClk_log (f : State → State) (s : State) : (keepClk f s).log = (f s).log := rfl
@[simp] theorem keepClk_can (f : State → State) (s : State) : (keepClk f s).can = (f s).can := rfl
@[simp] theorem keepClk_net (f : State → State) (s : State) : (keepClk f s).net = (f s).net := rfl
@[simp] theorem keepClk_sig (f : State → State) (s : State) : (keepClk f s).sig = (f s).sig := rfl
@[simp] theorem keepClk_loops (f : State → State) (s : State) : (keepClk f s).loops = (f s).loops := rfl
@[simp] theorem keepClk_eng (f : State → State) (s : State) : (keepClk f s).eng = (f s).eng := rfl
@[simp] theorem keepClk_sense (f : State → State) (s : State) : (keepClk f s).sense = (f s).sense := rfl
@[simp] theorem keepClk_trk (f : State → State) (s : State) : (keepClk f s).trk = (f s).trk := rfl
@[simp] theorem keepClk_str (f : State → State) (s : State) : (keepClk f s).str = (f s).str := rfl
@[simp] theorem keepClk_drv (f : State → State) (s : State) : (keepClk f s).drv = (f s).drv := rfl
@[simp] theorem keepClk_thm (f : State → State) (s : State) : (keepClk f s).thm = (f s).thm := rfl
@[simp] theorem keepClk_pwr (f : State → State) (s : State) : (keepClk f s).pwr = (f s).pwr := rfl
@[simp] theorem keepClk_boot (f : State → State) (s : State) : (keepClk f s).boot = (f s).boot := rfl
@[simp] theorem keepClk_upd (f : State → State) (s : State) : (keepClk f s).upd = (f s).upd := rfl
@[simp] theorem keepClk_port (f : State → State) (s : State) : (keepClk f s).port = (f s).port := rfl
@[simp] theorem keepClk_seq (f : State → State) (s : State) : (keepClk f s).seq = (f s).seq := rfl
@[simp] theorem keepClk_hwset (f : State → State) (s : State) : (keepClk f s).hwset = (f s).hwset := rfl
@[simp] theorem keepClk_free (f : State → State) (s : State) : (keepClk f s).free = (f s).free := rfl
@[simp] theorem keepClk_pending (f : State → State) (s : State) : (keepClk f s).pending = s.pending := rfl
@[simp] theorem rd_keepClk (f : State → State) (s : State) (a : Nat) : rd (keepClk f s) a = rd (f s) a := rfl

/-! ### The outcomes -/

/-- `run` answers a next state, which keeps the time bases and the queue. -/
theorem run_next (f : State → State) (s : State) : run f s = .next (keepClk f s) := rfl

/-- `runClk` answers a next state, which keeps the queue. -/
theorem runClk_next (f : State → State) (s : State) : runClk f s = .next { f s with pending := s.pending } := rfl

/-- Everything a command's outcome can be: on an instance the part has, what follows; on any other, the fault. -/
theorem guardIx_cases (i n : Nat) (k : Host.Outcome State Fault Refusal) :
    (i < n ∧ guardIx i n k = k) ∨ (n ≤ i ∧ guardIx i n k = .fault .noSuchResource) := by
  unfold guardIx
  by_cases h : i < n
  · exact .inl ⟨h, if_pos h⟩
  · exact .inr ⟨by omega, if_neg h⟩

@[simp] theorem guardIx_lt {i n : Nat} (h : i < n) (k : Host.Outcome State Fault Refusal) : guardIx i n k = k := if_pos h

/-! ### A port's write -/

/-- Everything a port's access can do: nothing while it is held back, the access otherwise. -/
theorem portAct_cases (p : PortId) (a : Nat) (f : State → State) (s : State) :
    ((portsUp s = false ∨ (p ≠ .runtime ∧ devState s = 1 ∧ bootWord a = false)) ∧ portAct p a f s = s) ∨
    ((portsUp s = true ∧ (p = .runtime ∨ devState s ≠ 1 ∨ bootWord a = true)) ∧ portAct p a f s = f s) := by
  unfold portAct
  split
  · next h => exact .inl ⟨h, rfl⟩
  · next h =>
    refine .inr ⟨?_, rfl⟩
    rw [not_or] at h
    refine ⟨by simpa using h.1, ?_⟩
    by_cases h1 : p = .runtime
    · exact .inl h1
    · by_cases h2 : devState s = 1
      · exact .inr (.inr (by have := h.2; simp_all))
      · exact .inr (.inl h2)

/-- Everything an owner write can do: nothing while the port is held back; the refusal logged from any other port, or while no
slot is loaded; else the word's own judgement, with the lease renewed when it is taken and the refusal logged when not. -/
theorem ownerWrite_cases (p : PortId) (a : Nat) (op : WOp) (s : State) :
    ((portsUp s = false ∨ (p ≠ .runtime ∧ devState s = 1 ∧ bootWord a = false)) ∧ ownerWrite p a op s = s) ∨
    (isOwner s p = false ∧ ownerWrite p a op s = logViol p 2 .notOwner a s) ∨
    (isOwner s p = true ∧ s.boot.loaded = false ∧ recoveryTakes a = false ∧ ownerWrite p a op s = logViol p 2 .locked a s) ∨
    (isOwner s p = true ∧ (s.boot.loaded = true ∨ recoveryTakes a = true) ∧ (op s).1 = .ok ∧
      ownerWrite p a op s = (op s).2 (renewLease p s)) ∨
    (isOwner s p = true ∧ (s.boot.loaded = true ∨ recoveryTakes a = true) ∧ (op s).1 ≠ .ok ∧
      ownerWrite p a op s = logViol p 2 (op s).1 a ((op s).2 s)) := by
  unfold ownerWrite
  rcases portAct_cases p a (ownerJudge p a op) s with ⟨h, e⟩ | ⟨-, e⟩
  · exact .inl ⟨h, e⟩
  · rw [e]
    unfold ownerJudge
    right
    by_cases ho : isOwner s p = false
    · exact .inl ⟨ho, if_pos ho⟩
    · have ho' : isOwner s p = true := by simpa using ho
      right
      rw [if_neg ho]
      by_cases hl : s.boot.loaded = false ∧ recoveryTakes a = false
      · exact .inl ⟨ho', hl.1, hl.2, if_pos hl⟩
      · right
        have hl' : s.boot.loaded = true ∨ recoveryTakes a = true := by
          by_cases h1 : s.boot.loaded = true
          · exact .inl h1
          · exact .inr (by have : s.boot.loaded = false := by simpa using h1
                           by_contra h2; exact hl ⟨this, by simpa using h2⟩)
        rw [if_neg hl]
        rcases hop : op s with ⟨st, f⟩
        cases st <;> simp [ho', hl']


end Sys2Proof.Machine
end

