-- ==== Sys2Proof/Laws/Ports.lean ====
section
/-!
SUPPORT. The laws of what most commands share: a bit set by hardware, an event raised, a counter, an error logged, and all that a port's
write of one word can do.
-/
namespace Sys2Proof.Machine

/-- Nothing but words of registers and memory, the marks of this tick and the recorder has changed. -/
def wordsOnly (s t : State) : Prop := t = { s with regs := t.regs, mem := t.mem, hwset := t.hwset, log := t.log }

theorem wordsOnly_refl (s : State) : wordsOnly s s := rfl
theorem wordsOnly_trans {s t u : State} (h : wordsOnly s t) (k : wordsOnly t u) : wordsOnly s u := by
  unfold wordsOnly at *; rw [k, h]
theorem wordsOnly_wr (s : State) (a : Nat) (w : Word) : wordsOnly s (wr s a w) := by
  unfold wordsOnly wr; dsimp only; split <;> rfl
theorem wordsOnly_wrF (s : State) (a hi lo v : Nat) : wordsOnly s (wrF s a hi lo v) := wordsOnly_wr s a _
theorem wordsOnly_wrB (s : State) (a i : Nat) (b : Bool) : wordsOnly s (wrB s a i b) := wordsOnly_wr s a _
theorem wordsOnly_wrN (s : State) (a n : Nat) : wordsOnly s (wrN s a n) := wordsOnly_wr s a _

theorem wordsOnly_hwSet (s : State) (a i : Nat) : wordsOnly s (hwSet s a i) :=
  wordsOnly_trans (wordsOnly_wrB s a i true) rfl
/-- A bit set by hardware reads 1 (R14). -/
theorem rdB_hwSet_same (s : State) (a i : Nat) (h : i ≤ 31) : rdB (hwSet s a i) a i = true := rdB_wrB_same s a i true h
/-- The words elsewhere stand when hardware sets a bit. -/
theorem rd_hwSet_ne (s : State) {a b : Nat} (i : Nat) (h : wordBase a ≠ wordBase b) : rd (hwSet s a i) b = rd s b := rd_wrB_ne s i true h
/-- What hardware has set in this tick is noted with the word. -/
theorem hwBits_hwSet (s : State) (a i : Nat) : hwBits (hwSet s a i) a = hwBits (wrB s a i true) a ||| w32 (2 ^ i) := by
  unfold hwSet hwMark hwBits; rw [tget_tput_same]

/-- An event on its way changes the recorder alone. -/
theorem raise_only (code unit : Nat) (p0 p1 : Word) (s : State) :
    raise code unit p0 p1 s = { s with log := { s.log with raised := evInsert (evNow s code unit p0 p1) s.log.raised } } := rfl
theorem mem_evInsert (e x : Ev) (l : List Ev) : x ∈ evInsert e l ↔ x = e ∨ x ∈ l := by
  induction l with
  | nil => simp [evInsert]
  | cons y r ih =>
    unfold evInsert
    split
    · simp
    · simp [ih, or_left_comm]
/-- A raised event is on its way, as this instant has it (R411). -/
theorem evNow_mem_raise (code unit : Nat) (p0 p1 : Word) (s : State) : evNow s code unit p0 p1 ∈ (raise code unit p0 p1 s).log.raised :=
  (mem_evInsert _ _ _).mpr (.inl rfl)
/-- Events already on their way stay so. -/
theorem mem_raise {code unit : Nat} {p0 p1 : Word} {s : State} {x : Ev} (h : x ∈ s.log.raised) : x ∈ (raise code unit p0 p1 s).log.raised :=
  (mem_evInsert _ _ _).mpr (.inr h)

/-- A class S counter touches its own word, the marks and the recorder (R22). -/
theorem wordsOnly_countS (a hi lo ovf : Nat) (s : State) : wordsOnly s (countS a hi lo ovf s) := by
  unfold countS; dsimp only
  split
  · rfl
  · split
    · exact wordsOnly_trans (wordsOnly_trans (wordsOnly_wrF s a hi lo _) (wordsOnly_hwSet _ a ovf)) rfl
    · exact wordsOnly_wrF s a hi lo _
theorem rd_countS_ne (s : State) {a b : Nat} (hi lo ovf : Nat) (h : wordBase a ≠ wordBase b) : rd (countS a hi lo ovf s) b = rd s b := by
  unfold countS; dsimp only
  split
  · rfl
  · split
    · exact (rd_hwSet_ne _ ovf h).trans (rd_wrF_ne s hi lo _ h)
    · exact rd_wrF_ne s hi lo _ h

/-- An error response touches words, the marks and the recorder (R26). -/
theorem wordsOnly_logViol (p : PortId) (cmd : Nat) (st : Status) (a : Nat) (s : State) : wordsOnly s (logViol p cmd st a s) :=
  wordsOnly_trans (wordsOnly_trans (wordsOnly_trans (wordsOnly_trans (wordsOnly_wrN s _ a) (wordsOnly_wrN _ _ _)) (wordsOnly_countS _ _ _ _ _))
    (wordsOnly_hwSet _ _ _)) rfl

/-- Renewing a lease changes no more than the ports' state. -/
theorem renewLease_only (p : PortId) (s : State) : renewLease p s = { s with port := (renewLease p s).port } := by
  unfold renewLease; split <;> rfl

/-- All that a write of one word on its own can do (R390). -/
theorem writeOne_cases (p : PortId) (a : Nat) (w : Word) (s : State) :
    writeOne p a w s = s
    ∨ (∃ f, judgeWord p (isOwner s p) a a w (renewLease p s) = (.ok, f) ∧ writeOne p a w s = f (renewLease p s))
    ∨ ∃ st f, st ≠ .ok ∧ judgeWord p (isOwner s p) a a w (renewLease p s) = (st, f) ∧ writeOne p a w s = logViol p 2 st a (keepClk f s) := by
  unfold writeOne portAct
  generalize hj : judgeWord p (isOwner s p) a a w (renewLease p s) = x
  obtain ⟨st, f⟩ := x
  split
  · exact .inl rfl
  · refine .inr ?_
    dsimp only; rw [hj]
    cases st
    case ok => exact .inl ⟨f, rfl, rfl⟩
    all_goals exact .inr ⟨_, f, by decide, rfl, rfl⟩

end Sys2Proof.Machine
end

