-- ==== Sys2Proof/Tests/Slice0.lean ====
section
/-!
SUPPORT. Tests of the model: ill-formed commands refused by WellFormed, worked examples of the spec, and for every statement with
hypotheses a state and operands that meet them.
-/
namespace Sys2Proof.Tests
open Sys2Proof Sys2Proof.Machine

-- One theorem after the other: the kernel evaluations together would need more memory.
set_option Elab.async false

/-- The state a command leaves, or the state before where it stops. -/
def after (c : Instr) (s : State) : State := match exec c s with | .next t => t | _ => s

/-- A running part in RUN with an image loaded and HOST as the owner. -/
def up : State :=
  { State.reset with
    regs := [(0x10000, 0x1F), (0x20000, 3)], pwr := { PwrSt.init with off := false }, boot := { BootSt.init with loaded := true },
    port := { PortSt.init with owner := some .host } }

/-- The running part with further words in its registers and memories. -/
def withWords (l : List (Nat × Word)) : State := l.foldl (fun s x => wr s x.1 x.2) up


/-! ### Well-formedness: one ill-formed term per check -/

theorem test_wf_channel : (Instr.canRecoveryDone 8).wf = false := by decide
theorem test_wf_port : (Instr.hibReq (.net 4096)).wf = false := by decide
theorem test_wf_rail : (Instr.railBad 5 0).wf = false := by decide
theorem test_wf_loop : (Instr.loopLatch 256).wf = false := by decide
theorem test_wf_coef : (Instr.coefWrite .host 0x01000000 0).wf = false := by decide
theorem test_wf_sysEntry : (Instr.signalEntryRead .host 0 512).wf = false := by decide
theorem test_wf_valve : (Instr.driveActuation false 24 none).wf = false := by decide
theorem test_wf_motion : (Instr.driveActuation true 16 none).wf = false := by decide
theorem test_wf_frame :
    (Instr.canFrameRx 0 { fmt := .base, fdf := false, brs := false, id := 0x800, data := [] } 0 false).wf = false := by decide
theorem test_wf_ok : (Instr.canFrameRx 0 { fmt := .base, fdf := false, brs := false, id := 0x7FF, data := [1] } 0 false).wf = true := by
  decide

/-! ### The time bases and the queue -/

theorem wit_EveryStepKeepsTheClockBounds : State.reset.clk.Ok ∧ (match step State.reset with | .next _ => true | _ => false) = true := by
  unfold Clock.Ok; decide
theorem wit_OtherCommandsLeaveTheTimeBases : (match exec .ppsMissing up with | .next _ => true | _ => false) = true := by decide


/-! ### Rails, HIBERNATE and wake (chapter 2) -/

/-- The part in HIBERNATE with WAKE0 enabled for a rising edge. -/
def asleepUp (hibAt : Nat) : State :=
  { withWords [(Reg.SV_BOOT_STAT, 0), (Reg.SV_PWR_WAKE_CFG, 0x13), (Reg.SV_PWR_ALARM, 0)] with
    pwr := { up.pwr with hibAt := hibAt, cold := true, woke := true } }
theorem wit_RailsFall : diesUp up = true ∧ railOk up 0 = true ∧ causes up = 0 ∧ railOk up 4 = true
    ∧ devState (after (.railBad 0 18000) up) = 4 ∧ causes (after (.railBad 1 4000) up) = 2
    ∧ (after (.railBad 3 600) up).pwr.off = true
    ∧ ((after (.railBad 0 18000) up).pwr.faults.map fun f => f.low) = [18000]
    ∧ (after (.railGood 0 24000 17000) (after (.railBad 0 18000) up)).pwr.faults = []
    ∧ rdF (after (.railFaultHandover 0 17000) { after (.railBad 0 18000) up with clk := { up.clk with tb0 := 100000000 } }) Reg.SV_PWR_FAULT_CNT 15 0
      = 1 := by decide +kernel
theorem wit_Hibernate : mayWrite .host Reg.SV_PWR_CTRL up ∧ hibRefusal (wr up Reg.SV_PWR_WAKE_CFG 0) = 0
    ∧ devState (after (.hibReq .host) (wr up Reg.SV_PWR_WAKE_CFG 0)) = 0
    ∧ hibRefusal (wr (wr up (Reg.DR_MOT_CFG 0) 0x20000000) (Reg.DR_MOT_STAT 0) 0x40) = 1
    ∧ devState (asleepUp 0) = 0 ∧ hibSettled (asleepUp 0) = false ∧ hibSettled (asleepUp (2 ^ 48 - 6554)) = true
    ∧ rdF (after (.wakeEdge 0 true) (asleepUp (2 ^ 48 - 6554))) Reg.SV_PWR_WAKE_SRC 2 0 = 5
    ∧ (after (.wakeEdge 0 true) (asleepUp 0)).pwr.latched = 1
    ∧ rdF (after .rtcAlarm (asleepUp (2 ^ 48 - 6554))) Reg.SV_PWR_WAKE_SRC 2 0 = 4
    ∧ (after .wakeRailTimeout { wr (asleepUp 0) Reg.SV_PWR_STAT 0 with pwr := { (asleepUp 0).pwr with waking := true, wakeAt := 2 ^ 48 - 32768 } }).pwr.waking = false := by
  refine ⟨by unfold mayWrite; decide +kernel, ?_⟩; decide +kernel


/-! ### Starts, the initialisation list and SAFE (chapter 3) -/

/-- What a start finds: no NOR. -/
def noNorPins (ok : Bool) : StartPins := { mode := 0, refOk := ok, norFail := some 0, jedec := 0xC84018, size := 25, sector := 12, mhz := 100, hdrFail := false }
/-- An image whose list is one entry: a section directory of one INIT_LIST of 32 bytes at 0x60. -/
def listImg (w0 w1 w2 w3 : Nat) : List Byte :=
  List.replicate 12 0 ++ leOf 4 1 ++ List.replicate 16 0 ++ leOf 4 0x40 ++ List.replicate 28 0
    ++ leOf 4 2 ++ leOf 4 0x60 ++ leOf 4 32 ++ leOf 4 0 ++ List.replicate 16 0
    ++ leOf 4 w0 ++ leOf 4 w1 ++ leOf 4 w2 ++ leOf 4 w3 ++ List.replicate 16 0
/-- BOOT at the list's first entry. -/
def listUp (w0 w1 w2 w3 : Nat) : State :=
  let s := withWords [(Reg.SV_BOOT_STAT, 0x231)]
  { s with boot := { s.boot with img := listImg w0 w1 w2 w3, since := some 0 } }
theorem wit_SafeIsEntered : mayWrite .host Reg.SV_BOOT_CTRL up ∧ devState (after (.safeReq .host) up) = 4
    ∧ causes (after (.safeReq .host) up) = 0x10 ∧ devState (after (.resume .host) (after (.safeReq .host) up)) = 3
    ∧ rdB up Reg.SV_BOOT_STAT 10 = false ∧ causes (after (.lockstepFault 0) up) = 0x40
    ∧ devState (after .autoResume { wr (after (.safeReq .host) up) Reg.SV_BOOT_RESUME_CFG 0x01030001 with clk := { up.clk with tb0 := 100000000 } }) = 4
    ∧ devState (after .autoResume { withWords [(Reg.SV_BOOT_STAT, 4), (Reg.SV_BOOT_RESUME_CFG, 0x01030001)] with
        clk := { up.clk with tb0 := 100000000 } }) = 3 := by
  refine ⟨by unfold mayWrite; decide +kernel, ?_⟩; decide +kernel
theorem wit_RestartsReset : (after .resetAssert up).pwr.rst = true ∧ (after .refclkLoss up).pwr.rst = true ∧ up.boot.wait = false
    ∧ (after .ownerRestartExec { up with boot := { up.boot with restartAt := some (0, 1) } }).pwr.rst = true
    ∧ (after .activationRestart { up with upd := { up.upd with restartAt := some 0 } }).pwr.rst = true
    ∧ keepMask 0 (Reg.LP_LOOP_CFG 0) = 0 := by decide +kernel
theorem wit_StartsCheck : State.reset.pwr.off = true ∧ devState State.reset ≠ 0 ∧ (after .resetAssert up).pwr.rst = true
    ∧ (after .resetAssert up).pwr.off = false ∧ devState (asleepUp 0) = 0 ∧ railOk (asleepUp 0) 3 = true
    ∧ diesUp { up with boot := { up.boot with wait := true } } = true ∧ (noNorPins true).norFail = some 0 := by decide +kernel
theorem wit_InitialisationList : initAt 1 (listUp 0x01000000 0x01B0000C 0x12345678 0xFF00) = true
    ∧ rd (after .initWrite (listUp 0x01000000 0x01B0000C 0x12345678 0xFF00)) 0x01B0000C = 0x600
    ∧ rd (after .initFill (listUp 0x02000002 0x01B0000C 7 0)) 0x01B00010 = 7
    ∧ initAt 4 (listUp 0x04000001 0x01B0000C 1 1) = true ∧ rdB (listUp 0x04000001 0x01B0000C 1 1) Reg.SV_BOOT_STAT 9 = true
    ∧ (after .initBarrier (listUp 0x05000000 0 0 0)).boot.pc = 1 ∧ (after .initDelay (listUp 0x06000000 0 0 0)).boot.pc = 1
    ∧ initAt 0 (listUp 0 0 0 0) = true := by decide +kernel


/-! ### Time bases (chapter 4) -/

/-- A worker that follows the manager at 0x123 on N0, with the SYNC of the worked example of chapter 4 kept. -/
def follower : State :=
  let s := withWords [(Reg.SV_TIME_CFG, 0x640002), (Reg.NW_SYN_CFG, 0x20800), (Reg.NW_HIER_ADDR, 0x81230045),
    (Reg.NW_SYN_COMP 0, 150), (Reg.NW_CH_CFG 1, 0x80000000), (Reg.NW_CH_STAT 1, 2)]
  { s with time := { s.time with
      net := { f := 12000 * 2 ^ 31, good := 0, miss := 0, held := false }
      syncRx := some { seq := 9, src := 0x123, t2 := 7200000000087, at0 := 0, itv := 2 } } }
/-- The FOLLOW_UP of the worked example. -/
def followUp : List Byte := beBytes 1 9 ++ beBytes 1 0 ++ beBytes 1 0 ++ [0] ++ beBytes 8 7200000000000 ++ beBytes 4 0 ++ beBytes 2 0 ++ [0, 0]

/-- The worked example of chapter 4: o = 720 ns, rate word 11,215,019. -/
theorem test_sync_example_offset : rd (after (.followUpRx 0 0x123 followUp) follower) Reg.NW_SYN_OFFSET = 0x2D0 := by decide
theorem test_sync_example_rate :
    (after (.followUpRx 0 0x123 followUp) follower).time.changes = [{ at0 := 10000, rate := some 0xAB20AB, step := none, src := 2 }] := by
  decide
theorem wit_EmptyQueueAdvancesTheTimeBases :
    railsGood up = true ∧ devState up ≠ 0 ∧ up.thm.later = [] ∧ railsGood State.reset = false ∧ State.reset.time.rtcAbsent = false
      ∧ State.reset.clk.sub < subMod ∧ State.reset.thm.later = [] := by decide
theorem wit_PpsEdgesAreTimestampedOrCounted :
    up.time.ppsFree = true ∧ rdF (after .ppsEdge { up with time := { up.time with ppsFree := false, ppsLast := some 5 } })
      Reg.SV_TIME_STAT 30 16 = 1 := by decide
theorem wit_FourMissingMeasurementsLoseLock :
    timeSrc follower = 2 ∧ netLock (after .netMissing { follower with time := { follower.time with net := { f := 0, good := 8, miss := 3, held := false } } }) = false
      ∧ (after .ppsMissing { up with clk := { up.clk with tb0 := 100010000 }, time := { up.time with ppsLast := some 0 } }).time.pps.miss = 1 := by
  decide
theorem wit_ServoLawSetsFrequencyAndRate :
    timeSrc follower = 2 ∧ (720 : Int).natAbs ≤ rdF follower Reg.SV_TIME_CFG 31 16 * 1000
      ∧ rdF follower Reg.SV_TIME_CFG 31 16 * 1000 < (100001 : Int).natAbs := by decide
theorem wit_SynchronisationExchange_worker :
    followed follower 0 0x123 = true ∧ followed follower 0 0x124 = false ∧ timeSrc follower = 2
      ∧ (follower.clk.tb0 - 0).toNat ≤ 2000000 := by decide
/-- A free-running root that serves N1. -/
def syncRoot : State :=
  let s := withWords [(Reg.NW_SYN_CFG, 0x20002), (Reg.NW_HIER_ADDR, 0x80000045), (Reg.NW_CH_CFG 1, 0x80000000), (Reg.NW_CH_STAT 1, 2)]
  { s with time := { s.time with syncTx := [{ ch := 1, buf := 0, seq := 1, flags := 0, depth := 1, sof := some (7, 0) }] } }
theorem wit_SynchronisationExchange_master :
    syncMaster syncRoot = true ∧ rdF syncRoot Reg.NW_SYN_CFG 7 0 = 2 ^ 1 ∧ chanOn syncRoot 1 = true ∧ freeBuf syncRoot 1 0 3 = some 0
      ∧ maySendOwn syncRoot = true ∧ txPending (after (.followUpSend 1) syncRoot) 1 0 = true
      ∧ (after .syncSend syncRoot).time.syncSeq = 1 := by decide
/-- The example of chapter 4 (R118): 0x2F1A_0000 seconds at era 3, set to 0x2F19_FF10. -/
def backward : State :=
  let s := withWords [(Reg.SV_TIME_SET_S, 0x2F19FF10)]
  { s with clk := { s.clk with sec := 0x2F1A0000, era := 3 } }
theorem wit_WallClockSetsAndEras : mayWrite .host Reg.SV_TIME_CTRL backward ∧ (after (.setTb2 .host) backward).clk.era = 4
    ∧ (after (.setTb2 .host) backward).log.raised.map (fun e => (e.code, e.p0, e.p1, e.era)) = [(0x0103, 0x2F1A0000, 0x2F19FF10, 4)] := by
  unfold mayWrite; decide
theorem wit_WallClockForwardAndRefused : mayWrite .host Reg.SV_TIME_CTRL (withWords [(Reg.SV_TIME_SET_S, 5)])
    ∧ (after (.setTb2 .host) (withWords [(Reg.SV_TIME_SET_S, 5)])).log.raised.map (fun e => (e.code, e.p1, e.era)) = [(0x0102, 5, 0)]
    ∧ (after (.setTb2 .host) { backward with clk := { backward.clk with era := 254 } }).log.raised.map (fun e => e.code) = [0x0103, 0x0106]
    ∧ mayWrite .host Reg.SV_TIME_CTRL (withWords [(Reg.SV_TIME_CFG, 8), (Reg.NW_SYN_STAT, 1)])
    ∧ (after (.setTb2 .host) (withWords [(Reg.SV_TIME_CFG, 8), (Reg.NW_SYN_STAT, 1)])).log.raised.map (fun e => e.code) = [0x0901] := by
  unfold mayWrite; decide
theorem wit_TimeChangesAndTimeWords :
    (after .timeChangeApply { up with time := { up.time with changes := [{ at0 := 0, rate := none, step := some 7, src := 1 }] } }).clk.tb1 = 7
      ∧ reached up.clk.tb0 0 = true ∧ portsUp up = true ∧ devState up ≠ 1 ∧ railsGood up = true := by decide +kernel


/-! ### Sensing (chapter 5) -/

/-- Analog input 0 on 4 to 20 mA with LO 0 and HI 100, its entry declared, and a conversion at its delivery. -/
def ainUp : State :=
  let s := withWords [(Reg.SV_PWR_STAT, 0x1F), (Reg.LP_AIN_CFG 0, 0x00181200), (Reg.LP_AIN_LO 0, 0), (Reg.LP_AIN_HI 0, 0x640000),
    (Reg.LP_AIN_PERIOD 0, 100000), (sigAddr 1 0 + 12, 0x10000000)]
  { s with clk := { s.clk with tb1 := 20100 * 100, tb0 := 20100 * 100 }, sense := { s.sense with ain := [(0, { at1 := 0, at0 := 0 })] } }
/-- The humidity example of R132: 12.8 mA reads 0x0037_0000. -/
theorem test_ma420 : rd (after (.ainDelivery 0 12800000 false false) ainUp) (Reg.LP_AIN_VALUE 0) = 0x370000
    ∧ rd (after (.ainDelivery 0 12800000 false false) ainUp) (sigAddr 1 0) = 0x370000
    ∧ rdF (after (.ainDelivery 0 3500000 false false) ainUp) (Reg.LP_AIN_STAT 0) 3 0 = 3 := by decide +kernel
theorem wit_AnalogInputs : running ainUp = true ∧ v5Held ainUp 0 = true ∧ ainMode ainUp 0 = 8
    ∧ v5Held { ainUp with pwr := { ainUp.pwr with v5At := 1 } } 0 = false
    ∧ ainOn { ainUp with clk := up.clk } 0 = true ∧ onGrid { ainUp with clk := up.clk } 100000 0 = true := by decide +kernel
/-- Probe 0 of the worked example of chapter 5, its temperature taken and its scan at its end. -/
def prbUp : State :=
  let s := withWords [(Reg.LP_PRB_CFG 0, 0x00120A00), (Reg.LP_PRB_FTW 0 0, 0x0CCCCCCD), (Reg.LP_PRB_FTW 0 1, 0x66666666),
    (Reg.LP_PRB_DWELL 0, 1000), (Reg.LP_PRB_C0 0, 0x20000), (Reg.LP_PRB_EMPTY 0, 0x14000), (Reg.LP_PRB_FSTEP 1 0, 0x400),
    (Reg.LP_PRB_TMIN 1 0, 0xFFF60000), (Reg.LP_PRB_TSTEP 1 0, 0x28000), (sigAddr 1 0 + 12, 0x10000100),
    (0x01D0C000 + 4 * 426, 0xFC000), (0x01D0C000 + 4 * 427, 0x106000), (0x01D0C000 + 4 * 458, 0xFA000), (0x01D0C000 + 4 * 459, 0x104000)]
  let s := { s with clk := { s.clk with tb1 := 2340 * 100, tb0 := 2340 * 100 } }
  prbSet s 0 { prbInit 0 with conv := some { at1 := 0, at0 := 0 }, temp := 0x172000 }
/-- The B readings of the worked example, rounded to Q16.16 µS: 146.2804 at 5 MHz and 1,005.3096 at 40 MHz. -/
theorem test_probe_example :
    let t := after (.prbDelivery 0 0x10000 false false [(9586633, 0), (65883970, 0)]) prbUp
    rd t (Reg.LP_PRB_EPS_RE 0 0) = 0x35400 ∧ rd t (Reg.LP_PRB_EPS_RE 0 1) = 0x30000 ∧ rd t (Reg.LP_PRB_FEATURE 0) = 0x2A00
      ∧ rd t (Reg.LP_PRB_MOIST 0) = 0x100800 ∧ rd t (Reg.LP_PRB_STAT 0) = 0x10 := by decide +kernel
theorem wit_ProbeScans : running prbUp = true ∧ v5Held prbUp 0 = true ∧ rdB prbUp (Reg.LP_PRB_CFG 0) 20 = true
    ∧ rdF (after (.prbDelivery 0 0x8000 false false []) prbUp) (Reg.LP_PRB_STAT 0) 3 0 = 5
    ∧ (prbOf (after (.prbScan 0) { prbUp with clk := up.clk }) 0).tdef = true := by decide +kernel
/-- A roll of 20 pulses a revolution at 0.0125 t a pulse: edges every 12 ms publish 3,750 t/h. -/
def plsUp : State :=
  let s := withWords [(Reg.LP_PLS_CFG 0, 0x00140014), (Reg.LP_PLS_PERIOD 0, 1000000), (Reg.LP_PLS_WEIGHT 0, 819), (sigAddr 1 0 + 12, 0x10000300)]
  let s := { s with clk := { s.clk with tb1 := 100005000, tb0 := 100005000 } }
  plsSet s 0 { plsInit 0 with ref := some 0, edges := [(1200000, 1), (2400000, 1)], last := some 2400000 }
theorem test_pulse_rate : rd (after (.plsSample 0) plsUp) (Reg.LP_PLS_VALUE 0) = w32 (300000 * 819) := by decide +kernel
theorem wit_PulseInputs : plsOn plsUp 0 = true ∧ v5Good plsUp = true ∧ plsIsB plsUp 0 = false ∧ plsMode plsUp 0 = 2
    ∧ mayWrite .host (Reg.LP_PLS_CTRL 0) plsUp ∧ v5Good { plsUp with regs := (0x10000, 0) :: plsUp.regs.drop 1 } = false
    ∧ plsMode (wr plsUp (Reg.LP_PLS_CFG 0) 0x00120014) 0 = 1
    ∧ rdI (after (.plsEdge 0 true 5 false) plsUp) (Reg.LP_PLS_COUNT 0) = 1 := by unfold mayWrite; decide +kernel


/-! ### Strings (chapter 6) -/

/-- The CRC of R155 over BE EF, and the frame of the worked example of S5. -/
theorem test_crc8 : crc8 [0xBE, 0xEF] = 0x92 ∧ strFrame (.read 17) = [0xA5, 0x01, 0x11, 0x07] := by decide
/-- String port 0 with entry 17 enabled and assigned. -/
def strUp (v : StrSt) : State :=
  strSet (withWords [(Reg.SV_PWR_STAT, 0x1F), (Reg.LP_STR_CFG 0, 0x93000032), (Reg.LP_STR_PERIOD 0, 60000000),
    (Reg.LP_STR_NODE_CFG 0 17, 0x00100000), (Reg.LP_STR_NODE_STAT 0 17, 1), (sigAddr 1 0 + 12, 0x10000411)]) 0 v
/-- Node 17 replies 23.5 °C. -/
theorem test_string_reply : ((strOf (after (.strReply 0 [0x5A, 0x11, 0x17, 0x80, 0x00, 0x10] false)
    (strUp { strInit 0 with on := true, scan := some ⟨0, 0, [17], 1, [], []⟩, win := some (.read 17, 0) })) 0).scan.map fun x => x.got)
      = some [(17, 0x178000)] := by decide
theorem wit_StringScans :
    rd (after (.strDelivery 0) { strUp { strInit 0 with on := true, scan := some ⟨0, 0, [17], 2, [], [(17, 0x178000)]⟩ } with
      clk := { up.clk with tb0 := 60000000 } }) (Reg.LP_STR_NODE_VALUE 0 17) = 0x178000
    ∧ (strOf (after (.strPowerUp 0) (strUp (strInit 0))) 0).up = some 10000000
    ∧ (strOf (after (.strScanStart 0 0) (strUp { strInit 0 with on := true })) 0).out = some .convert
    ∧ (strOf (after (.strPowerupWaitDone 0 0) (strUp { strInit 0 with up := some 0 })) 0).on = true
    ∧ rdF (after (.strReplyTimeout 0) (strUp { strInit 0 with on := true, scan := some ⟨0, 0, [17], 1, [], []⟩, win := some (.read 17, 0) }))
      (Reg.LP_STR_NODE_STAT 0 17) 10 8 = 1 :=
  ⟨by decide +kernel, by decide +kernel, by decide +kernel, by decide +kernel, by decide +kernel⟩
/-- The port in its gap with a pass at the stage given. -/
def strPassUp (st p : Nat) : State :=
  { strUp { strInit 0 with on := true, gap := true, pass := some ⟨st, p, 0⟩ } with clk := { up.clk with tb0 := 5000000 } }
theorem wit_StringEnumeration : strMay (strPassUp 1 0) 0 (.search 0 0) = true
    ∧ (strOf (after (.strSearch 0 false) (strPassUp 1 0)) 0).pass = some ⟨2, 2 ^ 47, 0⟩
    ∧ strMay (strPassUp 50 5) 0 (.assign 5 0) = true ∧ strMay (strPassUp 51 5) 0 (.park 5) = true
    ∧ rdF (after (.strBusNoise 0 0) (strUp { strInit 0 with on := true, noise := 2 })) (Reg.LP_STR_STAT 0) 3 0 = 3
    ∧ rdF (after (.strOvercurrent 0 0) (strUp { strInit 0 with on := true })) (Reg.LP_STR_STAT 0) 3 0 = 1
    ∧ mayWrite .host (Reg.LP_STR_CTRL 0) (strUp (strInit 0)) ∧ mayWrite .host (Reg.LP_STR_NODE_ID_HI 0 17) (strUp (strInit 0))
    ∧ nodeId (after (.strNodeIdWrite .host 0 17 5 1) (strUp (strInit 0))) 0 17 = 0x100000005 := by
  refine ⟨?_, ?_, ?_, ?_, ?_, ?_, ?_, ?_, ?_⟩ <;> first | decide +kernel | (unfold mayWrite; decide +kernel)


/-! ### The column tracker (chapter 7) -/

/-- Column C9 of the worked example of chapter 7 at its commit: slot 105 and the barge at level 34 as last committed, the two edges of
PI17 after the last update, and the tables around the points used. -/
def colUp : State :=
  let s := withWords [(Reg.SV_PWR_STAT, 0x1F), (Reg.LP_TRK_CFG 9, 0x80288000), (Reg.LP_TRK_GEOM 9, 0x00300040), (Reg.LP_TRK_PERIOD 9, 10000000),
    (Reg.LP_TRK_PHASE 9, 200000), (Reg.LP_TRK_LPP 9, 0x1000), (Reg.LP_TRK_KW 9, 0x18000), (Reg.LP_TRK_HK 9, 0x40000), (Reg.LP_TRK_EV 9, 0x80000),
    (Reg.LP_TRK_CAP 9, 0x1000), (Reg.LP_TRK_PATM 9, 0x640000), (Reg.LP_TRK_ZONE_SIG 9 0, 0x20020001), (Reg.LP_TRK_ZONE_SIG 9 1, 0x20020001),
    (Reg.LP_TRK_ZONE_START 9 1, 32), (Reg.LP_TRK_STN 9 0, 0x70180003), (Reg.LP_TRK_AGAIN 9, 0x8000), (Reg.LP_TRK_BGAIN 9, 0x4000),
    (Reg.LP_TRK_BMAX 9, 0x10000), (Reg.LP_TRK_HZN 9, 0x20000), (Reg.LP_TRK_VF 9, 0x4000), (Reg.LP_TRK_VMIN 9, 0x20000), (Reg.LP_TRK_ADV 9, 0xF000),
    (Reg.LP_TRK_VRATE 9, 0x310000), (Reg.LP_TRK_TOP 9, 17), (Reg.LP_TRK_SURF_MODE 3, 1), (Reg.LP_TRK_SURF_AX 3 0 0, 0xA0000),
    (Reg.LP_TRK_SURF_AX 3 0 1, 0x20000), (Reg.LP_TRK_SURF_AX 3 0 2, 0x140000), (Reg.LP_TRK_SURF_AX 3 0 3, 0xA0000), (Reg.LP_TRK_SURF_AX 3 0 5, 0x28000),
    (Reg.LP_TRK_EMC_AX 3 1, 0x640000), (Reg.LP_TRK_EMC_AX 3 3, 0x640000), (Reg.LP_TRK_SVP_AX 3 0, 0x490000), (Reg.LP_TRK_SVP_AX 3 1, 0x70000),
    (0x03D05000, 0x236000), (0x03D05004, 0x2F6000), (0x03D05008, 0x3B6000), (0x03D00000 + 4 * 356, 0x20000), (0x03D00000 + 4 * 357, 0x28000),
    (0x03D00000 + 4 * 612, 0x20000), (0x03D00000 + 4 * 613, 0x28000),
    (0x03C00D20, 0x128000), (0x03C00D24, 0x340000), (0x03C00D28, 28800), (0x03C00D38, 1)]
  trkSet { s with clk := { s.clk with tb1 := 1020000000, tb0 := 1020000000 } } 9
    { trkInit 9 with m := 1, started := true, last0 := some 0, edges := [(270000000, 1), (890000000, 1)], upd := some {
      at1 := 1000000000, at0 := 1000000000, commit := 1020000000, m := 1, cmds := [], bias := List.replicate 8 0, done := true, tick0 := 0, seen0 := [],
      sigs := [⟨1, 0x500000, 0, true, 0⟩, ⟨2, 0x50000, 0, true, 0⟩, ⟨3, 0x12C000, 9, true, 0⟩] } }
/-- The values the example reads back. -/
theorem test_column_example :
    let t := after (.trkCommit 9) colUp
    rd t (Reg.LP_TRK_ADV 9) = 0x1000 ∧ rd t (Reg.LP_TRK_VRATE 9) = 0x300000 ∧ rd t (Reg.LP_TRK_TOP 9) = 0x10
      ∧ rd t (Reg.LP_TRK_BIAS 9 0) = 0xFFFFF000 ∧ rdList t 0x03C00D20 4 = [0x129E83, 0x3443BC, 0x70E4, 0x490000]
      ∧ rdList t 0x03C00D34 2 = [0x21800, 0x9] := by decide +kernel
/-- The prediction of the example: M 16.0, RATE 1.5 and EMC 14.0 at LEAD 12 and 48 levels/h give 15.625 %. -/
theorem test_projection : projected colUp 9 12 0x100000 0x18000 0xE0000 0x300000 false = 0xFA000 := by decide +kernel
/-- The work of the example is complete 196.9 ms before its commit. -/
theorem test_column_slack :
    rd (after (.trkUpdateDone 9) (trkSet { colUp with clk := { up.clk with tb1 := 1000310000 } } 9
      { trkOf colUp 9 with upd := ((trkOf colUp 9).upd.map fun u => { u with done := false }) })) (Reg.LP_TRK_SLACK 9) = 0x30124 := by
  decide +kernel
/-- A bed of one layer with its air written. -/
def bedUp (cfg : Nat) (done : Bool) : State :=
  let s := wr (wr (wr (wr (wr colUp (Reg.LP_TRK_CFG 9) (w32 cfg)) (Reg.LP_TRK_GEOM 9) 0x10069) (Reg.LP_TRK_TOP 9) 0) (Reg.LP_TRK_ADV 9) 0)
    (Reg.LP_TRK_PRED 9 0) 0x001A0000
  trkSet s 9 { trkOf s 9 with upd := ((trkOf s 9).upd.map fun u => { u with done := done }) }
theorem wit_ColumnCommits : (trkOf (after (.trkCommit 9) (bedUp 0xA8000000 false)) 9).upd = none
    ∧ rdF (after (.trkCommit 9) (bedUp 0xA8000000 false)) (Reg.LP_TRK_OVR_CNT 9) 15 0 = 1
    ∧ colMode (bedUp 0xA8000000 true) 9 = 1 ∧ colNst (bedUp 0xA8000000 true) 9 = 0 ∧ colBase (bedUp 0xA8000000 true) 9 = 105
    ∧ rdF (after (.trkCommit 9) (bedUp 0x88000000 true)) (Reg.LP_TRK_STAT 9) 3 2 = 0 := by decide +kernel
theorem wit_BargesDry : colAir (bedUp 0xA8000000 true) 9 = 1 ∧ rdB (bedUp 0xA8000000 true) 0x03C00D38 0 = true
    ∧ rdI (after (.trkCommit 9) (bedUp 0xA8000000 true)) 0x03C00D34 = 0x22000
    ∧ rdF (after (.trkCommit 9) (bedUp 0xC0000000 true)) (Reg.LP_TRK_STAT 9) 0 0 = 0
    ∧ (trkOf (after (.trkCommit 9) (bedUp 0xC0000000 true)) 9).upd = none := by decide +kernel
theorem wit_ColumnsLatch : colRuns (bedUp 0xA8000000 true) 9 = true ∧ mayWrite .host (Reg.LP_TRK_CTRL 9) colUp
    ∧ ((trkOf (after (.trkLatch 9) (trkSet { colUp with clk := up.clk } 9 { trkInit 9 with cmds := [⟨2, 1, 0, false⟩] })) 9).upd.map fun u => u.m)
      = some 1 := by unfold mayWrite; decide +kernel


/-! ### Loop steps (chapters 8 and 9) -/

/-- Loop 0 with a program of one step, its state words and coefficients, and a period in progress with the registers given. -/
def stepState (step : Word × Word) (words : List (Nat × Word)) (coefs : List (Nat × Word)) (xs : List Int) : State :=
  let s := withWords ([(0x1020000, 0x80000000), (0x102000C, 0x00200000), (0x1020010, 0x01000000), (0x1800000, step.2), (0x1800004, step.1)] ++ words)
  let cf := coefs.foldl (fun m x => cellPut memDefault m x.1 x.2) []
  loopSet s 0 { loopInit 0 with
    coef := cf, per := some (LoopPer.mk 0 5000 xs [7, 0, 0, 0, 0, 0, 0, 0] 0 0 0 [] [] [] [0, 0, 0, 0] none 0 none [] [] false) }
/-- The period of loop 0 after a command: the destination register, the pending words and the flags. -/
def stepped (c : Instr) (s : State) (d : Nat) : Option (Int × List (Nat × Int) × List (Nat × Int) × Nat × Nat) :=
  (loopOf (after c s) 0).per.map fun p => (p.xs.getD d 0, p.zs, p.lrn, p.flags, p.pc)

/-- Step 7 of Table 09-7: the trim of loop L3 goes from 6.0 to 6.0078125. -/
theorem test_integ_L3 : stepped (.stepInteg 0)
    (stepState (0x60647804, 0x00010001) [(Reg.LP_LOOP_Z 0 1, 0x60000)] [(0x1900008, 0x100), (0x190000C, 16)]
      [0, 0, 0, 0, 0x20000, 0, 0, -0x1E0000, 0x1E0000, 0, 0, 0, 0, 0, 0, 0]) 6 = some (0x60200, [(1, 0x60200)], [], 0, 1) := by decide
/-- Step 9 of Table 09-7: from level 1 with 41 samples served to level 2, output 75.0. -/
theorem test_hyst_L3 : stepped (.stepHyst 0)
    (stepState (0x70B49F02, 0x00030005) [(Reg.LP_LOOP_Z 0 3, 0x290001)]
      [(0x1900030, 0x280000), (0x1900038, 0x4B0000), (0x1900048, 50), (0x1900050, 30), (0x1900058, 30)]
      [0, 0, 0, 0, 0x20000, 0, 0, 0, 0, 0x18000, 0, 0, 0, 0, 0, 0]) 11 = some (0x4B0000, [(3, 2)], [], 0, 1) := by decide
/-- The learning example of chapter 9: the word at index 37 becomes 0x0002_2B33. -/
theorem test_rep_learning : stepped (.stepRep 0)
    (stepState (0x78546700, 0x08F40000) [(Reg.LP_LOOP_Z 0 4, 37), (lrnAddr State.reset 0 37, 0x20000)] []
      [0, 0, 0, 0, 0xCCCD, 0, 0x4000, 0xFC00, 0, 0, 0, 0, 0, 0, 0, 0]) 5 = some (0x20000, [(4, 38)], [(37, 0x22B33)], 0, 1) := by decide
theorem wit_StepsThatMoveValues : stepped (.stepLdi 0) (stepState (0x04000000, 0x00000000) [] [] (List.replicate 16 0)) 0
    = some (7, [], [], 0, 1) := by decide
theorem wit_StepsOfArithmetic : stepped (.stepDiv 0) (stepState (0x30012000, 0) [] [] [0, -3, 2, 0]) 0 = some (-98304, [], [], 0, 1)
    ∧ stepped (.stepDiv 0) (stepState (0x30012000, 0) [] [] [0, -3, 0, 0]) 0 = some (-2147483648, [], [], 4, 1)
    ∧ stepped (.stepAdd 0) (stepState (0x20012000, 0) [] [] [0, 2147483647, 1, 0]) 0 = some (2147483647, [], [], 1, 1) :=
  ⟨by decide, by decide, by decide⟩
theorem wit_StepsWithStateWords : stepped (.stepTimer 0) (stepState (0x7C010000, 0) [(Reg.LP_LOOP_Z 0 0, 5)] [] [0, 1, 0]) 0
    = some (65541, [(0, 65541)], [], 0, 1)
    ∧ stepped (.stepRate 0) (stepState (0x68012000, 0) [(Reg.LP_LOOP_Z 0 0, 5)] [] [0, 100, 10]) 0 = some (15, [(0, 15)], [], 0, 1) :=
  ⟨by decide, by decide⟩
theorem wit_StepsOfTablesAndSwitches : stepped (.stepPwl 0)
    (stepState (0x4C010000, 0) [] [(0x1900008, 100), (0x1900010, 10), (0x1900018, 200)] [0, 5]) 0 = some (150, [], [], 0, 1)
    ∧ stepped (.stepRegion 0) (stepState (0x74010000, 0) [(0x102000C, 0x20200000)] [] [0, 5]) 0 = some (65536, [], [], 0, 1) :=
  ⟨by decide, by decide⟩
theorem wit_ProgramFaults :
    loopState (after (.stepMulc 0) (stepState (0x28010000, 0x20) [] [] [0, 5])) 0 = 4
      ∧ rd (after (.stepMulc 0) (stepState (0x28010000, 0x20) [] [] [0, 5])) (Reg.LP_LOOP_FAULT_ADDR 0) = 0x01900100
      ∧ loopState (after (.stepRep 0) (stepState (0x78010000, 0x00100100) [] [] [0, 5])) 0 = 4 := by decide


/-! ### Latch, commit and signals (chapters 8 and 9) -/

/-- Loop 0 of LP0 running with T 100 µs and the state word given. -/
def loopUp (stat : Word) (words : List (Nat × Word)) : State :=
  withWords ([(Reg.LP_ENG_STAT 1, 1), (Reg.LP_LOOP_CFG 0, 0x80000000), (Reg.LP_LOOP_PERIOD 0, 100), (Reg.LP_LOOP_PHASE 0, 80),
    (Reg.LP_LOOP_IN 0 0, 0x80050000), (Reg.LP_LOOP_STAT 0, stat), (sigAddr 1 0, 0x4E0000), (sigAddr 1 0 + 4, 0x10001)] ++ words)
/-- The same with a request waiting and its inputs latched before. -/
def loopAsked (stat : Word) (stale : Nat) (req : Option (Nat × Nat)) : State :=
  let s := loopUp stat []
  loopSet s 0 { loopInit 0 with started := true, upds := [1, 0, 0, 0, 0, 0, 0, 0], stale := [stale, 0, 0, 0, 0, 0, 0, 0], req := req }
theorem wit_LoopLatchTakesInputs : loopDue (loopUp 0 []) 0 = true ∧ (loopOf (loopUp 0 []) 0).started = false
    ∧ (loopOf (after (.loopLatch 0) (loopUp 0 [])) 0).per.map (fun p => p.ins.getD 0 0) = some 0x4E0000 := by decide
theorem wit_LoopModes_requests : mayWrite .host (Reg.LP_LOOP_MODE_REQ 0) (loopUp 1 []) ∧ loopState (loopUp 1 []) 0 ≤ 3
    ∧ loopState (loopUp 5 []) 0 = 5 := by unfold mayWrite; decide
/-- Five latches without NEW put the loop in HOLD (Table 09-8); a REARM is then refused. -/
theorem wit_LoopModes_latch : loopDue (loopAsked 2 4 none) 0 = true
    ∧ rd (after (.loopLatch 0) (loopAsked 2 4 none)) (Reg.LP_LOOP_STAT 0) = 0x00080003
    ∧ loopState (after (.loopLatch 0) (loopAsked 3 4 (some (4, 1)))) 0 = 3
    ∧ loopState (after (.loopLatch 0) (loopAsked 1 0 (some (2, 1)))) 0 = 2 := by decide
/-- Period k + 1 of the region swap while saturated (Table 09-4): the native integrator goes from 41.0 to 84.0. -/
def swapping : State :=
  let s := withWords [(Reg.LP_LOOP_STAT 0, 0x01000002), (Reg.LP_LOOP_LIM_LO 0, 0), (Reg.LP_LOOP_LIM_HI 0, 0x640000)]
  loopSet s 0 { loopInit 0 with
    started := true, lastRegion := some 0, outs := [0x640000, 0, 0, 0], per := some (LoopPer.mk 0 0 [] [] 0 0 0 [(1, 0x290000)] [] []
      [0x390000, 0, 0, 0] none 0 (some ⟨1, 0x290000, 0, 0x640000⟩) [] [] true) }
theorem test_region_swap : rd (after (.loopCommit 0 0) swapping) (Reg.LP_LOOP_Z 0 1) = 0x540000
    ∧ rd (after (.loopCommit 0 0) swapping) (Reg.LP_LOOP_MANVAL 0) = 0x640000 := by decide
theorem wit_LoopCommit : (loopOf swapping 0).entered = false ∧ devState swapping ≠ 4 ∧ reached swapping.clk.tb1 0 = true
    ∧ loopState (loopUp 1 []) 0 = 1 ∧ loopState (loopUp 3 []) 0 = 3 := by decide
theorem wit_CompletionAndOverrun :
    rdN (after (.loopPeriodComplete 0) { stepState (0, 0) [] [] [] with loops := (loopSet up 0 { loopInit 0 with
      per := some (LoopPer.mk 0 5000 [] [] 0 0 1 [] [] [] [] none 0 none [] [] false) }).loops }) (Reg.LP_LOOP_SLACK 0) = 5000
    ∧ rdF (after (.loopCommit 0 0) { stepState (0, 0) [] [] [] with clk := { up.clk with tb1 := 5000 } }) (Reg.LP_LOOP_OVR_CNT 0) 15 0 = 1 := by
  decide
theorem wit_CoefficientsAndLatchedReads : isCoef 0x01900000 = true ∧ mayWrite .host 0x01900000 up ∧ mayWrite .host (Reg.LP_ENG_CTRL 1) up
    ∧ portsUp up = true ∧ (loopDue (engSet (loopUp 0 []) 1 { applied := [], wait := [0], snaps := [] }) 0 = true) := by unfold mayWrite; decide
theorem wit_ValuesCrossBetweenDies :
    rd (after (.exportApply 1 3 none) { up with sig := { SigSt.init with exports := [⟨0, 1, 3, 0x518000, 960000⟩] } }) (sigAddr 1 3) = 0x518000
    ∧ onGrid up 10000 0 = true ∧ (withWords [(sigAddr 1 3 + 12, 0x40000000)] |> fun s => sigKind s 1 3 = 4 ∧ sigSrcDie s 1 3 = 0)
    ∧ rd (after (.syssigImportApply 1 3 none) { up with sig := { SigSt.init with sys := [⟨0, 1, 3, 5, 0, true, true⟩] } }) (sigAddr 1 3 + 4)
      = 0x10001 := by decide


/-! ### Sequences (chapter 10) -/

/-- Sequence 0 of the aeration example in IDLE, at TB3 `us`: transition 0 to AERATE with the two terms and action 1. -/
def seqUp (us : Nat) : State :=
  let s := withWords [(0x800000, 0x80000002), (0x800004, 0xEA600000), (0x800008, 0x800F), (0x802000, 0x00020000), (0x802004, 0x00010000),
    (0x802008, 0xFF), (0x80200C, 0x10), (0x802010, 0x00020002), (0x802014, 0x00000001), (0x802018, 0xFF), (0x80201C, 0x11), (0x804000, 0x01020000), (0x804010, 0x02000000),
    (0x808000, 0x0380B00A), (0x808004, 0xFFFF8000), (0x808008, 0x001B7740), (0x80800C, 5), (0x808010, 0x0500000D), (0x808014, 0x00020000),
    (0x80801C, 5), (0x810010, 0x04040008), (0x810014, 0x640000), (Reg.SV_SEQ_STAT 0, 0x40000000),
    (sigAddr 0 10, 0xD4000), (sigAddr 0 10 + 4, 0x10000), (sigAddr 0 11, 0xE0000), (sigAddr 0 11 + 4, 0x10000), (sigAddr 0 13, 0x68000),
    (sigAddr 0 13 + 4, 0x10000)]
  seqSet { s with clk := { s.clk with tb1 := BitVec.ofNat 64 (us * 100) } } 0
    { seqInit 0 with entered := true, counts := [(0, 30), (1, 30)], at1 := some 1800000000 }
/-- Term 0 counts 31 above its hold of 30: transition 0 is chosen. -/
theorem test_seq_evaluate : (seqOf (after (.seqEvaluate 0 100) (seqUp 60000000)) 0).pick = some ⟨0, 1, 0, 0⟩ := by decide +kernel
/-- At the transition instant AERATE is in force and S15 reads 1.0. -/
theorem test_seq_transition :
    let t := after (.seqTransition 0 false) (seqSet (seqUp 60005000) 0
      { seqOf (seqUp 60005000) 0 with pick := some ⟨0, 1, 0, 0⟩, at1 := some 6000000000 })
    rd t (Reg.SV_SEQ_STAT 0) = 0x40000100 ∧ rd t (sigAddr 0 15) = 0x10000 := by decide +kernel
/-- Action 1 writes MANVAL of loop L200. -/
theorem test_seq_manval : rd (after (.loopManval 0 1) (seqUp 0)) (Reg.LP_LOOP_MANVAL 200) = 0x640000 := by decide +kernel
/-- Action record 5 with the words given. -/
def actUp (w0 w1 : Nat) : State := wr (wr (wr (wr (seqUp 0) 0x810050 (w32 w0)) 0x810054 (w32 w1)) (sigAddr 0 20 + 12) 0x60000000) Reg.SV_PWR_WAKE_CFG 0
theorem wit_SequencesEvaluate : atEval (seqUp 60000000) 0 = true ∧ seqEn (seqUp 0) 0 = true ∧ seqR (seqUp 0) 0 = 1
    ∧ seqSec (seqUp 60000000) 0 < 0x7FFFFFFF
    ∧ (let s := wr (wr (seqUp 60000000) 0x802000 0x00010001) 0x804010 0x02000000
       (seqOf (after (.seqEvaluate 0 9) s) 0).pick = some ⟨0, 2, 0, 0⟩)
    ∧ (let s := wr (wr (wr (seqUp 60000000) 0x802000 0x00010001) 0x804010 0x02010001) 0x80801C 0
       tget (fun _ => 0) (seqOf (after (.seqEvaluate 0 9) s) 0).counts 0 = 31)
    ∧ (let s := wr (seqSet (seqUp 60000000) 0 { seqInit 0 with resumed := true, frozen := some 5 }) (Reg.SV_SEQ_STAT 0) 0x80000000
       seqTimer (after (.seqEvaluate 0 9) s) 0 = 5) := by decide +kernel
theorem wit_SequencesTransit : atTrans (seqUp 60005000) 0 = true ∧ mayWrite .host (Reg.SV_SEQ_CMD 0) (seqUp 0)
    ∧ seqNow (after (.seqTransition 0 false) (seqSet (wr (seqUp 60005000) 0x802014 0) 0 { seqInit 0 with initDue := true })) 0 = 0
    ∧ (seqOf (after (.seqGoto .host 0 2) (seqUp 0)) 0).want = [⟨20, 2, 1, 0⟩] ∧ seqR (after (.seqStop .host 0) (seqUp 0)) 0 = 0
    ∧ rdF (after (.seqGoto .host 0 3) (seqUp 0)) Reg.SV_VIOL_INFO 19 16 = 7
    ∧ devState (after (.seqTransition 0 false) (seqSet (wr (wr (seqUp 60005000) Reg.SV_BOOT_STAT 4) Reg.SV_BOOT_SAFE_CAUSE 0x20) 0
        { seqInit 0 with pick := some ⟨21, 0, 0, 0⟩, at1 := some 6000000000 })) = 3 := by
  refine ⟨by decide +kernel, by unfold mayWrite; decide +kernel, ?_⟩; decide +kernel
theorem wit_SequenceActions : rd (after (.writeSig 0 5) (actUp 0x01000014 7)) (sigAddr 0 20) = 7
    ∧ sigKind (actUp 0 0) 0 20 = 6 ∧ (after (.seqChan 0 5) (actUp 0x05050003 0)).drv.seqOff = [(false, 3)]
    ∧ ((trkOf (after (.trkCmd 0 5) (actUp 0x06030001 1)) 9).cmds.map fun k => k.act) = [0]
    ∧ devState (after (.seqActSafe 0 5) (actUp 0x08000000 0)) = 4 ∧ devState (after (.seqActHibernate 0 5) (actUp 0x09000000 0)) = 0
    ∧ seqR (after (.seqCtl 0 5) (actUp 0x0B000000 0)) 0 = 0
    ∧ (loopOf (after (.loopReq 0 5) (wr (actUp 0x03010002 2) (Reg.LP_LOOP_CFG 2) 0x80000000)) 2).req = some (2, 4) := by
  refine ⟨?_, ?_, ?_, ?_, ?_, ?_, ?_, ?_⟩ <;> decide +kernel


/-! ### Valve drive (chapter 11) -/

/-- Valve channel 0 in ON_OFF mode with IMAX 3 A, a profile of the words 0 to 3 whose ON entries are 0 and OFF entry 3, and `v` beside. -/
def valveUp (v : VchSt) (st : Nat) (w : List (Nat × Word)) : State :=
  let s := withWords ([(Reg.SV_PWR_STAT, 0x1F), (Reg.DR_VCH_CFG 0, 0x80000BB8), (Reg.DR_VCH_STAT 0, w32 (0x80 + st)), (dieAt 5 0x900004, 0x300000),
    (dieAt 5 0x900008, 0x40000), (dieAt 5 0x90000C, 200), (Reg.DR_VCH_TW_START 0, 0x640000), (Reg.DR_BNK_CFG 0, 3000),
    (Reg.DR_THM_DERATE 5, 65536)] ++ w)
  vSet s 0 v
/-- A RISE word to 1,000 mA within 10 ms at microcode word 0. -/
def riseWord : List (Nat × Word) := [(ucAddr 5 0, 0x80002710), (ucAddr 5 0 + 4, 0x0500003E)]
theorem wit_ValveMicrocode :
    vOn (valveUp { vchInit 0 with pc := some 0 } 3 riseWord) 0 = true ∧ ucOp (valveUp (vchInit 0) 0 riseWord) 5 0 = 1
    ∧ ucI (valveUp (vchInit 0) 0 riseWord) 5 0 = 1000 ∧ ucT (valveUp (vchInit 0) 0 riseWord) 5 0 = 10000
    ∧ vState (after (.ucRise 0) (valveUp { vchInit 0 with pc := some 0 } 0 riseWord)) 0 = 3
    ∧ (vOf (after (.coilCurrentCrossing 0 1000) (valveUp { vchInit 0 with pc := some 0, begun := true } 3 riseWord)) 0).pc = some 1
    ∧ rdF (after (.valveWordTimeout 0) { valveUp { vchInit 0 with pc := some 0, begun := true } 3 riseWord with
        clk := { up.clk with tb0 := 1000000 } }) (Reg.DR_VCH_STAT 0) 23 16 = 1
    ∧ (vOf (after (.ucJmp 0) (valveUp { vchInit 0 with pc := some 0 } 3 [(ucAddr 5 0, 2), (ucAddr 5 0 + 4, 0x10000000)])) 0).pc = some 2
    ∧ vState (after (.ucRecov 0) (valveUp { vchInit 0 with pc := some 0 } 3 [(ucAddr 5 0 + 4, 0x0C000000)])) 0 = 5
    ∧ vState (after (.ucEnd 0) (valveUp { vchInit 0 with pc := some 0 } 3 [])) 0 = 5
    ∧ vState (after (.ucReg 0) (valveUp { vchInit 0 with pc := some 0 } 3 [(ucAddr 5 0 + 4, 0x08000000)])) 0 = 4
    ∧ rdF (after (.valveOvercurrent 0 3001) (valveUp (vchInit 0) 3 [])) (Reg.DR_VCH_STAT 0) 23 16 = 3 := by
  refine ⟨?_, ?_, ?_, ?_, ?_, ?_, ?_, ?_, ?_, ?_, ?_, ?_⟩ <;> decide +kernel
/-- Valve channel 0 idle and armed, a command of 1.0 at its actuation instant, and `w` besides. -/
def valveCmd (val : Int) (w : List (Nat × Word)) : State :=
  let s := valveUp (vchInit 0) 0 w
  { s with drv := { s.drv with acts := [⟨false, 0, 0, val⟩] } }
/-- Valve channel 0 with a deferred start. -/
def valveWait : State := let s := valveUp (vchInit 0) 1 []; { s with drv := { s.drv with waits := [⟨0, 0, true, false⟩] } }
theorem wit_ValveStarts : startFree (valveCmd 65536 []) 0 = true
    ∧ (vOf (after (.driveActuation false 0 none) (valveCmd 65536 [])) 0).pc = some 0
    ∧ rdF (after (.driveActuation false 0 none) (valveCmd 65536 [(Reg.DR_VCH_TW 0, 0x640000)])) (Reg.DR_VCH_STAT 0) 23 16 = 6
    ∧ vState (after (.driveActuation false 0 none) (valveCmd 65536 [(Reg.DR_BNK_CFG 0, 0)])) 0 = 1
    ∧ rdF (after (.driveActuation false 0 none) (valveCmd 65536 [(Reg.DR_BNK_CFG 0, 0x80000000)])) (Reg.DR_VCH_STAT 0) 23 16 = 5
    ∧ (vOf (after (.bankGrant 0) valveWait) 0).pc = some 0
    ∧ rdF (after (.deferTimeout 0) { valveWait with clk := { up.clk with tb0 := 100000000000 } }) (Reg.DR_VCH_STAT 0) 23 16 = 4 := by
  refine ⟨?_, ?_, ?_, ?_, ?_, ?_, ?_⟩ <;> decide +kernel
theorem wit_BoostAndCoil :
    bstMay (valveUp (vchInit 0) 0 [(Reg.DR_BST_CFG 0, 0x80410000)]) 0 = true
    ∧ rdB (after (.boostRecharge 0 60000) (valveUp (vchInit 0) 0 [(Reg.DR_BST_CFG 0, 0x80410000)])) (Reg.DR_BST_STAT 0) 31 = true
    ∧ (bstOf (after (.boostAbs 0 80001) (valveUp (vchInit 0) 0 [])) 0).abs = true
    ∧ rdI (after (.rmeasWindow 0 32768 (24 * 65536) 65536 true) { valveUp { vchInit 0 with clean := some 0 } 4 [] with
        clk := { up.clk with tb0 := 10000000 } }) (Reg.DR_VCH_RMEAS 0) = 763494
    ∧ vOn (valveUp (vchInit 0) 4 []) 0 = true ∧ (vOf (valveUp (vchInit 0) 4 []) 0).rm = none := by
  refine ⟨?_, ?_, ?_, ?_, ?_, ?_⟩ <;> decide +kernel


/-! ### Motion channels and the interlock (chapter 12) -/

/-- Motion channel 0 with tach and current sense, in the phase and with the status word given. -/
def motUp (v : MotSt) (stat : Nat) : State :=
  let s := withWords [(Reg.SV_PWR_STAT, 0x1F), (Reg.DR_MOT_CFG 0, 0x86010000), (Reg.DR_MOT_STAT 0, w32 stat), (Reg.DR_MOT_DUTY 0, 0x00146400),
    (Reg.DR_MOT_KICK 0, 0x006400C8), (Reg.DR_MOT_IBAND 0, 0x07D000C8), (Reg.DR_MOT_RETRY 0, 0x000A2002), (Reg.DR_MOT_TACH 0, 0x00640000),
    (Reg.DR_MOT_SPEED 0, 100)]
  mSet { s with clk := { s.clk with tb0 := 100000000000 } } 0 v
/-- The same with a command at its actuation instant. -/
def motCmd (v : MotSt) (stat : Nat) (val : Int) : State :=
  let s := motUp v stat
  { s with drv := { s.drv with acts := [⟨true, 0, 0, val⟩] } }
theorem wit_MotionChannels : mOn (motUp (motInit 0) 0x80) 0 = true ∧ mSafe (motUp (motInit 0) 0x80) 0 = false
    ∧ rd (after (.driveActuation true 0 none) (motCmd (motInit 0) 0x80 65536)) (Reg.DR_MOT_SPEED 0) = 10000
    ∧ mDuty (after (.driveActuation true 0 none) (motCmd { motInit 0 with ph := 2 } 0x82 (50 * 65536))) 0 = 5000
    ∧ rdF (after (.kickTimeout 0) (motUp { motInit 0 with ph := 1 } 0x81)) (Reg.DR_MOT_STAT 0) 3 0 = 4
    ∧ rdF (after (.kickTimeout 0) (motUp { motInit 0 with ph := 1 } 0x281)) (Reg.DR_MOT_STAT 0) 3 0 = 5
    ∧ rdF (after (.tachTimeout 0 300) (motUp { motInit 0 with ph := 2 } 0x82)) (Reg.DR_MOT_STAT 0) 3 0 = 3
    ∧ rdF (after (.motStall 0) (motUp { motInit 0 with ph := 2, locked := some 0 } 0x82)) (Reg.DR_MOT_STAT 0) 23 16 = 2
    ∧ (mOf (after (.retryKick 0) (motUp { motInit 0 with ph := 4 } 0x84)) 0).ph = 1
    ∧ rdF (after (.retryCountClear 0) (motUp { motInit 0 with ph := 2 } 0x182)) (Reg.DR_MOT_STAT 0) 15 8 = 0
    ∧ mayWrite .host (Reg.DR_MOT_CTRL 0) (motUp { motInit 0 with ph := 5 } 5)
    ∧ rdF (after (.motReset .host 0) (motUp { motInit 0 with ph := 5 } 5)) (Reg.DR_MOT_STAT 0) 3 0 = 0
    ∧ rdF (after (.tachSpeedUpdate 0 0) (motUp { motInit 0 with ph := 2, ref := some 0, edges := [99995000000, 100000000000], last := some 100000000000 } 0x82))
        (Reg.DR_MOT_SPEED 0) 31 16 = 0 := by
  refine ⟨?_, ?_, ?_, ?_, ?_, ?_, ?_, ?_, ?_, ?_, ?_, ?_, ?_⟩ <;> first | decide +kernel | (unfold mayWrite; decide +kernel)
theorem wit_Interlock :
    let s := wr (wr (motUp (motInit 0) 0x80) (Reg.DR_ILK_CFG2 5) 1) (sigAddr 1 0 + 12) 0x45000040
    diesUp s = true ∧ rdF (after (.ilkOpen 0) s) (Reg.DR_MOT_STAT 0) 3 0 = 7
    ∧ (after (.ilkClosed 0) (after (.ilkOpen 0) s)).drv.ilk = [(0, 100000000000)] ∧ running s = true ∧ onGrid s 10000 0 = true
    ∧ driveItem s 0 64 = some 0 := by
  refine ⟨?_, ?_, ?_, ?_, ?_, ?_⟩ <;> decide +kernel


/-! ### CAN channels (chapter 13) -/

/-- N2 enabled in NORMAL with FD, RATE words and one filter element whose w0 is given; further words. -/
def canUp (w0 : Word) (l : List (Nat × Word)) : State :=
  withWords ([(Reg.SV_PWR_STAT, 0x1F), (Reg.NW_CH_CFG 2, 0x90C00000), (Reg.NW_CH_STAT 2, 2), (Reg.NW_CH_FLT 2, 0x00010000), (filtAddr 0, w0),
    (filtAddr 0 + 8, 0x1FFFFFFF), (Reg.NW_HIER_ADDR, 0x80010005), (Reg.NW_HIER_CFG, 0x40020000)] ++ l)
/-- A class-2 frame from address 6, object 7, with a published value 0x10000 of instant 500,000. -/
def rxF : CanFrame := { fmt := .ext, fdf := true, id := 0x10030007, data := [0, 1, 0, 0, 0, 0, 0, 0, 0, 0x07, 0xA1, 0x20] }
theorem wit_ReceivedFrames :
    let s := canUp 0x08000000 []
    let go := Instr.canFrameRx 2 rxF 0x123 false
    chanOn s 2 = true ∧ opst s 2 = 2 ∧ takesFmt s 2 rxF = true ∧ ownSource s rxF = false ∧ errst s 2 = 0
    ∧ rdF (after go s) (Reg.NW_CH_Q0_STAT 2) 6 0 = 1 ∧ rd (after go s) (elemAddr 2 32) = 0x30030007
    ∧ rdF (after go (canUp 0x18000000 [])) (Reg.NW_CH_C0S 2) 3 0 = 1
    ∧ (after go (canUp 0x20000000 [(impAddr 3, 0x80060007), (impAddr 3 + 8, 1000), (impAddr 3 + 4, 0x01000005), (impAddr 3 + 12, 4)])).net.imports
      = [⟨600000, 1, 5, 0x10000, 5000⟩]
    ∧ rdF (after go (canUp 0x20000000 [])) (Reg.NW_FLT_NOMATCH_CNT 2) 30 0 = 1
    ∧ rdF (after (.canFrameRx 2 { rxF with id := 0x10028007 } 0 false) (canUp 0x08000000 [(Reg.NW_HIER_CFG, 0x00000000)])) Reg.NW_HIER_STAT 2 0 = 3
    ∧ rdF (after go (canUp 0x08000000 [(Reg.NW_CH_Q0_STAT 2, 0x000000C0), (Reg.NW_CH_RXCFG 2, 1)])) (Reg.NW_CH_Q0_STAT 2) 15 10 = 1
    ∧ rdF (after (.canFrameRx 2 { rxF with fmt := .xl } 0 false) (canUp 0x3E000000 [(Reg.NW_CH_CFG 2, 0x98C00000), (Reg.NW_CH_XLCFG 2, 0x09000000)]))
        (Reg.NW_CH_XLS 2) 1 0 = 1
    ∧ rd (after (.importApply 1 5) { canUp 0 [] with net := { NetSt.init with imports := [⟨0, 1, 5, 77, 9⟩] } }) (sigAddr 1 5) = 77 := by
  refine ⟨?_, ?_, ?_, ?_, ?_, ?_, ?_, ?_, ?_, ?_, ?_, ?_, ?_, ?_⟩ <;> decide +kernel
/-- N2 with a class-2 frame of the own address in port buffer 24, pending or not. -/
def txUp (pend can : Word) : State :=
  canUp 0 [(elemAddr 2 24, 0x30028007), (elemAddr 2 24 + 4, 0x88000000), (Reg.NW_CH_TXPEND 2, pend), (Reg.NW_CH_TXREQ 2, pend), (Reg.NW_CH_TXCAN 2, can)]
theorem wit_Transmissions :
    mayWrite .host (Reg.NW_CH_TXREQ 2) (txUp 0 0) ∧ mayWrite .host (Reg.NW_CH_TXCAN 2) (txUp 0 0)
    ∧ rdB (after (.txreq .host 2 0x1000000) (txUp 0 0)) (Reg.NW_CH_TXPEND 2) 24 = true
    ∧ rdF (after (.txcan .host 2 0x1000000 0) (txUp 0x1000000 0)) (elemAddr 2 24 + 4) 23 20 = 2
    ∧ rdB (after (.txcan .host 2 0x1000000 0x1000000) (txUp 0x1000000 0)) (Reg.NW_CH_TXCAN 2) 24 = true
    ∧ txEligible (txUp 0x1000000 0) 2 24 = true
    ∧ rdF (after (.canTxComplete 2 24 0x10003AB0 (some 22)) (txUp 0x1000000 0x1000000)) (elemAddr 2 24 + 4) 23 20 = 3
    ∧ rd (after (.canTxComplete 2 24 0x10003AB0 (some 22)) (txUp 0x1000000 0x1000000)) (elemAddr 2 24 + 12) = 0x10003AB0
    ∧ rdF (after (.canTxAttemptFail 2 24 0 ⟨none, true, false⟩) (txUp 0x1000000 0x1000000)) (elemAddr 2 24 + 4) 23 20 = 2
    ∧ inClash (after (.canTxAttemptFail 2 24 0 ⟨none, false, true⟩) (canSet (txUp 0x1000000 0) 2
        { canInit 2 with bitErrs := [(0, 0x10028007), (0, 0x10028007)] })) = true := by
  refine ⟨?_, ?_, ?_, ?_, ?_, ?_, ?_, ?_, ?_, ?_⟩ <;> first | decide +kernel | (unfold mayWrite; decide +kernel)
theorem wit_ErrorConfinement :
    rdF (after (.canErrorFrame 2 3 [.txFlag]) (canUp 0 [(Reg.NW_CH_ECNT 2, 250), (Reg.NW_CH_STAT 2, 0x12)])) (Reg.NW_CH_STAT 2) 5 0 = 0x26
    ∧ rdF (after (.canErrorFrame 2 6 [.rxAfterFlag]) (canUp 0 [(Reg.NW_CH_ECNT 2, 0x7C0000)])) (Reg.NW_CH_ECNT 2) 23 16 = 128
    ∧ opst (after (.canProtocolExc 2 5) (canUp 0 [])) 2 = 1
    ∧ opst (after (.busIntegration 2) (canUp 0 [(Reg.NW_CH_STAT 2, 1)])) 2 = 2
    ∧ opst (after (.canRecoveryDone 2) (canUp 0 [(Reg.NW_CH_STAT 2, 0x26)])) 2 = 2
    ∧ mayWrite .host (Reg.NW_CH_CTRL 2) (canUp 0 [(Reg.NW_CH_STAT 2, 0x25)])
    ∧ opst (after (.canRecover .host 2) (canUp 0 [(Reg.NW_CH_STAT 2, 0x25)])) 2 = 6
    ∧ rdB (after .tb1Wrap (canUp 0 [])) (Reg.NW_CH_IR 2) 10 = true := by
  refine ⟨?_, ?_, ?_, ?_, ?_, ?_, ?_, ?_⟩ <;> first | decide +kernel | (unfold mayWrite; decide +kernel)
/-- N2 in RATE_DETECT on candidate 1 of two, and further words. -/
def rateUp (l : List (Nat × Word)) : State :=
  canUp 0xC0000000 ([(Reg.NW_CH_CFG 2, 0xD0000000), (Reg.NW_CH_STAT 2, 0x00100004), (Reg.NW_CH_RATE_N 2 0, 5), (Reg.NW_CH_RATE_N 2 1, 6),
    (Reg.NW_CH_RD 2, 0x80010000), (Reg.NW_CH_FLT 2, 0)] ++ l)
theorem wit_RateDetection :
    rdF (after (.rateDwellTimeout 2) (rateUp [])) (Reg.NW_CH_STAT 2) 23 20 = 0
    ∧ rd (after (.canFrameRx 2 rxF 0 false) (rateUp [])) (Reg.NW_CH_NBT 2) = 6 ∧ opst (after (.canFrameRx 2 rxF 0 false) (rateUp [])) 2 = 2
    ∧ rdF (after (.canFrameRx 2 { rxF with brs := true } 0 false) (rateUp [])) (Reg.NW_CH_STAT 2) 23 20 = 0
    ∧ mayWrite .host (Reg.NW_CH_CTRL 2) (rateUp []) ∧ rdF (after (.rdRestart .host 2) (rateUp [])) (Reg.NW_CH_STAT 2) 23 20 = 0
    ∧ mayWrite .host (Reg.NW_CH_Q0_REL 2) (rateUp []) ∧ mayWrite .host (Reg.NW_CH_C0S 2) (rateUp []) ∧ mayWrite .host (Reg.NW_CH_XLS 2) (rateUp [])
    ∧ rdF (after (.qRel .host 2 0 2) (rateUp [(Reg.NW_CH_RXCFG 2, 0x700), (Reg.NW_CH_Q0_STAT 2, 3)])) (Reg.NW_CH_Q0_STAT 2) 6 0 = 1
    ∧ rd (after (.c0sRelease .host 2 3) (rateUp [(Reg.NW_CH_RXCFG 2, 0x700), (Reg.NW_CH_C0S 2, 7)])) (Reg.NW_CH_C0S 2) = 4
    ∧ rd (after (.xlRxRelease .host 2) (rateUp [(Reg.NW_CH_RXCFG 2, 0x700), (Reg.NW_CH_XLS 2, 1)])) (Reg.NW_CH_XLS 2) = 0 := by
  refine ⟨?_, ?_, ?_, ?_, ?_, ?_, ?_, ?_, ?_, ?_, ?_, ?_⟩ <;> first | decide +kernel | (unfold mayWrite; decide +kernel)


/-! ### Bridge and hierarchy (chapter 14) -/

/-- N2 bridges to N3, a manager: one element with BRIDGE, one route for all classes, and further words. -/
def brUp (l : List (Nat × Word)) : State :=
  canUp 0x28000000 ([(Reg.NW_BRG_CFG, 0x80000040), (Reg.NW_BRG_QLIM, 0x00100020), (Reg.NW_CH_CFG 3, 0x90800000), (Reg.NW_CH_STAT 3, 2),
    (Reg.NW_HIER_CFG, 0x40040000), (Reg.NW_HIER_BLOCK, 0x00FF0010), (Reg.NW_HIER_POOL, 0x1F), (Reg.NW_HIER_STAT, 2),
    (routeAddr 0, 0x8F040800), (routeAddr 0 + 4, 0x0FFF0000), (routeAddr 0 + 8, 0x7FFF0000)] ++ l)
/-- A stored frame for N3 from N2. -/
def brF (cls : Nat) : BrgFrame := { frame := rxF, out := 3, arr := 2, cls := cls, rx0 := 0 }
theorem wit_BridgeRoutes :
    let s := brUp []
    let c0 := { rxF with id := 0x00030007 }
    filtFirst s 2 c0 = some (0, 5) ∧ routeMatch s 0 2 c0 = true ∧ outOk s 3 = true ∧ hierErr s = false ∧ isAccess s c0 = false
    ∧ txPending (after (.canFrameRx 2 c0 0 false) s) 3 0 = true
    ∧ (after (.canFrameRx 2 c0 0 false) (brUp [(Reg.NW_CH_TXPEND 3, 0xF)])).net.store.length = 1
    ∧ (after (.canFrameRx 2 rxF 0 false) (brUp [(Reg.NW_CH_STAT 3, 5)])).net.store.length = 1
    ∧ rdF (after (.canFrameRx 2 rxF 0 false) (brUp [(routeAddr 0, 0x8F040080)])) (Reg.NW_CH_Q0_STAT 2) 6 0 = 1
    ∧ txPending (after (.bridgeForward 3) { s with net := { s.net with store := [brF 2] } }) 3 4 = true
    ∧ txPending (after (.bridgeForward 3) { s with net := { s.net with store := [brF 2], drr := [(14, ⟨2, [], []⟩)] } }) 3 4 = true := by
  refine ⟨?_, ?_, ?_, ?_, ?_, ?_, ?_, ?_, ?_, ?_, ?_⟩ <;> decide +kernel
/-- The bridge with an empty route table. -/
def brNoRoute : State := brUp [(routeAddr 0, 0), (routeAddr 0 + 4, 0), (routeAddr 0 + 8, 0)]
theorem brNoRoute_mem : brNoRoute.mem = [(0x07A00003, 0x28), (0x07A00008, 0xFF), (0x07A00009, 0xFF), (0x07A0000A, 0xFF), (0x07A0000B, 0x1F)] := by
  decide +kernel
theorem wit_noRoute (j : Nat) (h : j < 2048) : rd brNoRoute (routeAddr j) = 0 := by
  have e : wordBase (routeAddr j) = 0x07B00000 + 16 * j := by unfold wordBase routeAddr; omega
  have u : usesMem (0x07B00000 + 16 * j) = true := by
    have : (0x800000 : Nat) ≤ (0x07B00000 + 16 * j) % winSize := by unfold winSize; omega
    simp only [usesMem, Bool.or_eq_true, decide_eq_true_eq]
    exact Or.inl this
  have g : ∀ k : Nat, 0x07B00000 ≤ k → tget memDefault brNoRoute.mem k = 0 := by
    intro k hk
    rw [brNoRoute_mem]
    simp only [tget, memDefault]
    repeat rw [if_neg (by omega)]
  unfold rd
  rw [e]
  simp only [u, if_true, cellWord]
  rw [g _ (by omega), g _ (by omega), g _ (by omega), g _ (by omega)]
  rfl
/-- A JOIN_REQ of serial 9 with the preferred address and flags given. -/
def joinData (pref : Nat) (fl : Byte) : List Byte := beBytes 8 9 ++ beBytes 2 pref ++ [fl, 0] ++ beBytes 2 5 ++ [0, 0]
theorem wit_Joins :
    isManager (brUp []) = true ∧ isDown (brUp []) 2 = true ∧ maySendOwn (brUp []) = true
    ∧ (after (.joinReqRx 2 (joinData 0x12 0)) (brUp [])).net.bindings = [(0, ⟨9, 0x12, 2⟩)]
    ∧ (after (.joinReqRx 2 (joinData 0x90 0)) (brUp [])).net.bindings = [(0, ⟨9, 0x10, 2⟩)]
    ∧ (after (.joinReqRx 2 (joinData 0x90 0)) { brUp [] with net := { NetSt.init with bindings := [(0, ⟨9, 0x15, 1⟩)] } }).net.bindings = [(0, ⟨9, 0x15, 2⟩)]
    ∧ (after (.joinReqRx 2 (joinData 0x90 2)) (brUp [(Reg.NW_HIER_STAT, 0x302)])).log.raised.map (fun e => e.code) = [0x0802]
    ∧ mayWrite .host Reg.NW_HIER_CTRL (brUp []) ∧ mayWrite .host Reg.NW_HIER_ADDR (brUp [])
    ∧ (after .joinStart (brUp [(Reg.NW_HIER_STAT, 0)])).net.join.isSome = true
    ∧ rdF (after (.joinAckRx 0 1 (beBytes 8 9 ++ [0, 0x22, 0, 2, 0, 0, 0, 0]))
        { brUp [] with regs := (Reg.NW_HIER_SERIAL_LO, 9) :: (Reg.NW_HIER_SERIAL_HI, 0) :: (brUp []).regs, net := { NetSt.init with join := some ⟨0, 0, 0, true⟩ } })
        Reg.NW_HIER_ADDR 31 0 = 0x80010022
    ∧ (after .joinRetry { brUp [] with net := { NetSt.init with join := some ⟨0, 0, 0, true⟩ } }).net.join.map (fun x => x.k) = some 1
    ∧ (after (.hierFree .host) { brUp [] with net := { NetSt.init with bindings := [(0, ⟨9, 0x15, 1⟩)] } }).net.bindings = [] := by
  refine ⟨?_, ?_, ?_, ?_, ?_, ?_, ?_, ?_, ?_, ?_, ?_, ?_, ?_⟩ <;> first | decide +kernel | (unfold mayWrite; decide +kernel)
theorem wit_CensusAndProxying :
    rd (after .censusSend (brUp [(Reg.NW_HIER_ADDR, 0x80010000), (Reg.NW_CH_CFG 0, 0x80000000), (Reg.NW_CH_STAT 0, 2)])) Reg.NW_HIER_CENSUS = 0x10000
    ∧ rd (after (.censusRx 2 6 [0, 30, 0, 31, 2, 0, 0, 0]) (brUp [])) (Reg.NW_BRG_ACTIVE 2) = 0x001F001E
    ∧ (after .censusLost { brUp [] with
      clk := { up.clk with tb0 := 2500000000 }, net := { NetSt.init with census := [⟨6, 2, 30, 31, 0⟩] } }).net.census = []
    ∧ rd (after (.joinReqRx 2 (joinData 0x90 1)) (brUp [(Reg.NW_HIER_ADDR, 5), (Reg.NW_HIER_PROXY 1, 0x80080005)])) (Reg.NW_HIER_PROXY 1) = 0xC0080005
    ∧ txPending (after (.proxyDataRx 2 (beBytes 4 9 ++ [0, 7] ++ List.replicate 14 1))
        { brUp [(Reg.NW_HIER_PROXY 1, 0xC0080005)] with net := { NetSt.init with proxies := [(1, ⟨9, 0, 0, []⟩)] } }) 3 0 = true
    ∧ (after .proxyTimeout { brUp [(Reg.NW_HIER_PROXY 1, 0xC0080005)] with
        clk := { up.clk with tb0 := 1000000000 },
        net := { NetSt.init with proxies := [(1, ⟨9, 0, 0, []⟩)] } }).net.proxies = [] := by
  refine ⟨?_, ?_, ?_, ?_, ?_, ?_⟩ <;> decide +kernel


/-! ### Ports and the owner (chapter 15) -/

/-- What a port is answered: its TAG, status and data. -/
def answered (s : State) : Option (Nat × Status × List Word) := s.port.resp.map fun r => (r.tag, r.status, r.data)
theorem test_crc16 : crc16 [0x31, 0x32, 0x33, 0x34, 0x35, 0x36, 0x37, 0x38, 0x39] = 0x29B1 := by decide +kernel
theorem wit_Transactions :
    listens .host up = true ∧ listens .service up = true ∧ mapped Reg.SV_OWN_CTRL = true ∧ mapped (Reg.SV_OWN_ERR_CNT + 4) = false
    ∧ answered (after (.read .host 1 5 0x40034 1 false false) up) = some (5, .crc, [])
    ∧ answered (after (.read .host 9 5 0x40034 1 true false) up) = some (5, .refused, [])
    ∧ answered (after (.read .host 1 5 0x40034 2 true false) up) = some (5, .unmapped, [])
    ∧ answered (after (.read .host 1 5 0x40034 1 true false) up) = some (5, .ok, [0])
    ∧ answered (after (.read .host 1 6 0x40034 1 true false) (after (.read .host 1 5 0x40034 1 true true) up)) = some (5, .wait, [])
    ∧ answered (after (.poll .host 5 0 0 true) (after (.transactionComplete .host) (after (.read .host 1 5 0x40034 1 true true) up))) = some (5, .ok, [0])
    ∧ answered (after (.poll .host 5 0 0 true) up) = some (5, .refused, [])
    ∧ answered (after (.write .host 1 Reg.SV_OWN_CTRL [1] true false) up) = some (1, .ok, [])
    ∧ answered (after (.write .service 1 Reg.SV_OWN_CTRL [1] true false) up) = some (1, .notOwner, [])
    ∧ answered (after (.write .host 1 Reg.SV_OWN_STAT [1] true false) up) = some (1, .locked, [])
    ∧ answered (after (.write .host 1 Reg.SV_OWN_ERR_CNT [0, 0] true false) up) = some (1, .unmapped, [])
    ∧ rd (after (.frameEndedEarly .host) up) Reg.SV_OWN_ERR_CNT = 1
    ∧ answered (after (.rcFieldRead .host (Reg.NW_BRG_C0_LAT_MAX 2)) (withWords [(Reg.NW_BRG_C0_LAT_MAX 2, 9)])) = some (0, .ok, [9])
    ∧ rd (after (.rcFieldRead .host (Reg.NW_BRG_C0_LAT_MAX 2)) (withWords [(Reg.NW_BRG_C0_LAT_MAX 2, 9)])) (Reg.NW_BRG_C0_LAT_MAX 2) = 0
    ∧ mayWrite .host Reg.SV_OWN_CTRL up ∧ rd (after (.registerWrite .host Reg.SV_OWN_CTRL 3) up) Reg.SV_OWN_CTRL = 1
    ∧ (after .hsCsNRising (after (.read .host 1 5 0x40034 1 true false) up)).port.recs.length = 1 := by
  refine ⟨?_, ?_, ?_, ?_, ?_, ?_, ?_, ?_, ?_, ?_, ?_, ?_, ?_, ?_, ?_, ?_, ?_, ?_, ?_, ?_, ?_⟩ <;> first | decide +kernel | (unfold mayWrite; decide +kernel)
theorem wit_TransactionsCount :
    answered (after (.read .host 1 5 0x40034 0 true false) up) = some (5, .refused, [])
    ∧ answered (after (.read .host 1 5 0x40036 65 true false) up) = some (5, .align, [])
    ∧ answered (after (.read .host 1 5 0x40038 65 true false) up) = some (5, .unmapped, [])
    ∧ answered (after (.write .host 5 Reg.SV_OWN_CTRL [] true false) up) = some (5, .refused, [])
    ∧ answered (after (.poll .host 5 4 0 true) up) = some (5, .refused, [])
    ∧ answered (after (.read .host 1 5 0x20000 1 true true) { up with clk := { up.clk with tb0 := 9 } }) = some (5, .wait, [])
    ∧ (after .resultDiscard { after (.transactionComplete .host) (after (.read .host 1 5 0x40034 1 true true) up) with
        clk := { up.clk with tb0 := 200000000 } }).port.recs.length = 0 := by
  refine ⟨?_, ?_, ?_, ?_, ?_, ?_, ?_⟩ <;> decide +kernel
/-- HOST owns the device and the stored takeover code is that of the worked example. -/
def ownUp : State := { withWords [(Reg.SV_OWN_TKO_SET, 0x4C21)] with port := { PortSt.init with owner := some .host, leaseEnd := 500 } }
/-- SERVICE has taken over (Table 15-5, step 3). -/
def ownTaken : State := after (.svOwnClaim .service 0xC1A70003) (after (.svOwnTko .service 0x4C21) ownUp)
/-- The handover to NET 0x123 (Table 15-5, steps 5 to 7). -/
def ownNet : State := after (.svOwnClaim (.net 0x123) 0xC1A70001) (after (.svOwnRel .service 0x5E1FC123) ownTaken)
theorem test_owner_example : ownTaken.port.owner = some .service ∧ ownNet.port.owner = some (.net 0x123)
    ∧ answered (after (.read .host 1 1 0x40000 1 true false) ownNet) = some (1, .ok, [0x01230103]) ∧ rd ownNet Reg.SV_OWN_CHG_CNT = 3 := by
  refine ⟨?_, ?_, ?_, ?_⟩ <;> decide +kernel
/-- The reason of the last claim refused. -/
def claimReason (s : State) : List Word := (s.log.raised.filter fun e => decide (e.code = 0x0903)).map fun e => e.p1
theorem wit_Ownership :
    portsUp ownUp = true
    ∧ claimReason (after (.svOwnClaim .service 0xC1A70001) ownUp) = [1] ∧ claimReason (after (.svOwnClaim .service 0xC1A70003) ownUp) = [3]
    ∧ claimReason (after (.svOwnClaim .host 0xC1A70003) ownTaken) = [2]
    ∧ claimReason (after (.svOwnClaim .host 0xC1A70001) (after (.svOwnRel .service 0x5E1FC123) ownTaken)) = [4]
    ∧ claimReason (after (.svOwnClaim (.net 5) 0xC1A70001) { ownUp with boot := { BootSt.init with loaded := false } }) = [5]
    ∧ claimReason (after (.svOwnClaim .service 0xC1A70003) (wr ownUp Reg.SV_OWN_CTRL 1)) = [6]
    ∧ (after (.svOwnClaim .host 0xC1A70001) ownUp).port.leaseEnd = 1000000000
    ∧ (after .leaseExpiry { ownUp with clk := { up.clk with tb0 := 500 } }).port.owner = none
    ∧ (after .reservationLapse { ownUp with port := { PortSt.init with resv := some (.host, 0) } }).port.resv = none := by
  refine ⟨?_, ?_, ?_, ?_, ?_, ?_, ?_, ?_, ?_, ?_⟩ <;> decide +kernel


/-! ### The recorder (chapter 16) -/

/-- An event of the code given, on its way. -/
def evOf (code : Nat) : Ev := ⟨5, code, 0, 1, 2, 9, 3, 0, 77, 8, false, false, false⟩
/-- A log in NORMAL with what the recorder holds. -/
def logUp (l : LogSt) : State := { withWords [(Reg.SV_LOG_STAT, 1), (Reg.SV_NVM_STAT, 4), (Reg.SV_TIME_STAT, 0x20)] with log := l }
/-- A record of a sequence number. -/
def recOfSeq (q : Word) : Rec := { seq := q, w1 := 0x04014001, w2 := 0, w3 := 0, w4 := 0, w5 := 0, w6 := 5, w7 := 6 }
theorem wit_Recorder :
    (after .eventRaised (logUp { LogSt.init with raised := [evOf 0x0A05], next := 7 })).log.drawer.map (fun x => (x.2.pend, x.2.r))
      = [(true, ⟨7, 0x0A054000, 9, 0x300, 77, 8, 1, 2⟩)]
    ∧ (after .eventRaised (logUp { LogSt.init with raised := [evOf 0x0901] })).log.runs.map (fun x => (x.count, x.win)) = [(0, 1)]
    ∧ (after .eventRaised (logUp { LogSt.init with raised := [evOf 0x0901], runs := [⟨evOf 0x0901, 4, 1⟩] })).log.runs.map (fun x => x.count) = [5]
    ∧ ((after .runClose { logUp { LogSt.init with runs := [⟨evOf 0x0901, 4, 1⟩] } with clk := { up.clk with tb0 := 200000000 } }).log.drawer.map
        fun x => (x.2.r.w1, x.2.r.w5)) = [(0x09015000, 0x40008)]
    ∧ norWord (after .recordProgramDone (logUp { LogSt.init with drawer := [(0, ⟨recOfSeq 7, true⟩)], head := 3 })) (slotAddr 3 + 4) = 0x04014001
    ∧ logState (after (.logMediaFail false true) (logUp { LogSt.init with drawer := [(0, ⟨recOfSeq 0x3A1F0, true⟩)], head := 25001, next := 0x3A1F1 })) = 2
    ∧ ((after (.logMediaFail false true) (logUp { LogSt.init with drawer := [(0, ⟨recOfSeq 0x3A1F0, true⟩)], head := 25001, next := 0x3A1F1 })).log.drawer.map
        fun x => (x.2.r.seq, x.2.r.w1, x.2.r.w6, x.2.r.w7)) = [(0x3A1F0, 0x04014001, 5, 6), (0x3A1F1, 0x0A01A000, 0x01BC3520, 0x101)]
    ∧ (let t := after (.logRetry 0 false) { withWords [(Reg.SV_LOG_STAT, 2), (Reg.SV_NVM_STAT, 4)] with log := { LogSt.init with drawer := [(0, ⟨recOfSeq 7, true⟩)], retryAt := some 0 } }
       logState t = 1 ∧ t.log.head = 2049) := by
  refine ⟨?_, ?_, ?_, ?_, ?_, ?_, ?_, ?_⟩ <;> decide +kernel
/-- A drawer whose 64 slots are all pending. -/
def fullDrawer : List (Nat × DrawerSlot) := (List.range 64).map fun d => (d, ⟨recOfSeq (BitVec.ofNat 32 d), true⟩)
theorem wit_RecorderFull :
    rd (after .eventRaised (logUp { LogSt.init with raised := [evOf 0x0A07], drawer := fullDrawer, next := 64 })) Reg.SV_LOG_DROP_CNT = 1
    ∧ rd (after .eventRaised (wr (logUp { LogSt.init with raised := [evOf 0x0A07], drawer := fullDrawer, next := 64 }) Reg.SV_LOG_CFG 0x80)) Reg.SV_LOG_LOST_CNT = 1 := by
  refine ⟨?_, ?_⟩ <;> decide +kernel
/-- A device with an address and an XL TX buffer on N0, its log holding record 7 in the drawer. -/
def upl (l : LogSt) : State :=
  { withWords [(Reg.SV_LOG_STAT, 1), (Reg.NW_HIER_ADDR, 0x80010005), (Reg.NW_CH_XLCFG 0, 0x80000000), (Reg.SV_LOG_HEAD_SEQ, 7)] with
    log := { l with drawer := [(0, ⟨recOfSeq 7, false⟩)] } }
theorem wit_LogAccess :
    portsUp up = true ∧ latchGet .host (0xA00000 + 4) (after (.logWindowRead .host false 0) up) = some 0xFFFFFFFF
    ∧ snapWord (after (.snapshotRead .host) (upl LogSt.init)) .host Reg.SV_LOG_SNAP_HEAD_SEQ = 7
    ∧ mayWrite .host Reg.SV_LOG_UPL_CTRL (upl LogSt.init) ∧ (after (.uploadStart .host 3) (upl LogSt.init)).log.upl = some ⟨3, 0, 7, 0, 5000000⟩
    ∧ rd (after (.uploadAbort .host) (upl { LogSt.init with upl := some ⟨3, 0, 7, 0, 0⟩ })) Reg.SV_LOG_UPL_STAT = 0xC0000000
    ∧ (uploadRecs (upl LogSt.init) 7 7).length = 1
    ∧ rd (after .uploadFrame (upl { LogSt.init with upl := some ⟨3, 7, 7, 0, 0⟩ })) (Reg.NW_CH_XLS 0) = 2
    ∧ rd (after .uploadFrame (upl { LogSt.init with upl := some ⟨3, 8, 7, 0, 0⟩ })) Reg.SV_LOG_UPL_STAT = 0x80000000
    ∧ rd (after (.xlRelay { fmt := .xl, id := 0x600, af := 0x6003, data := [1, 2] }) (wr (upl LogSt.init) Reg.NW_HIER_CFG 0x40000000)) (Reg.NW_CH_XLS 0) = 2
    ∧ mayWrite .host Reg.SV_LOG_CLR up
    ∧ rd (after .logClearEraseDone (withWords [(Reg.SV_LOG_STAT, 5)])) Reg.SV_LOG_STAT = 1
    ∧ rd (after .clearBackoffEnd (withWords [(Reg.SV_LOG_STAT, 9)])) Reg.SV_LOG_STAT = 1 := by
  refine ⟨?_, ?_, ?_, ?_, ?_, ?_, ?_, ?_, ?_, ?_, ?_, ?_, ?_⟩ <;> first | decide +kernel | (unfold mayWrite; decide +kernel)
/-- Three wrong codes within a minute: the back-off clause of a clear. -/
theorem wit_logClear_backoff : (({ up with log := { LogSt.init with wrong := [0, 0, 0] } } : State).log.wrong.filter
    fun k => decide ((up.clk.tb0 - k).toNat < 6000000000)).length = 3 := by decide +kernel
/-- The published example of SHA-256 (FIPS 180-4, "abc") and the first of HMAC-SHA-256 (RFC 4231): log entry 3. -/
theorem test_sha256 : (sha256 [0x61, 0x62, 0x63]).take 8 = [0xBA, 0x78, 0x16, 0xBF, 0x8F, 0x01, 0xCF, 0xEA] := by decide +kernel
theorem test_hmac : (hmacSha256 (List.replicate 20 0x0B) [0x48, 0x69, 0x20, 0x54, 0x68, 0x65, 0x72, 0x65]).take 4 = [0xB0, 0x34, 0x4C, 0x61] := by
  decide +kernel
/-- The running part with its log open, a site key and serial number 1, and the code of a clear as it is with nonce 2. -/
def clearUp : State :=
  let key : List Byte := List.replicate 32 0x11
  let x := hmacSha256 key ([0x41, 0x58, 0x47, 0x43] ++ beBytes 4 0 ++ beBytes 4 1 ++ beBytes 4 2)
  { up with regs := [(Reg.NW_HIER_SERIAL_HI, 0), (Reg.NW_HIER_SERIAL_LO, 1), (Reg.SV_LOG_NONCE, 2), (Reg.SV_LOG_STAT, 1)]
      ++ ((List.range 4).map fun k => (Reg.SV_LOG_AUTH k, w32 (beAt x (4 * k) 4))) ++ up.regs, upd := { UpdSt.init with site := key } }
theorem wit_logClear_accepted : authStaged clearUp = clearCode clearUp ∧ mayWrite .host Reg.SV_LOG_CLR clearUp ∧ logState clearUp = 1
    ∧ rdB clearUp Reg.SV_LOG_STAT 2 = false ∧ pendSlots clearUp = [] := by
  refine ⟨?_, ?_, ?_, ?_, ?_⟩ <;> first | decide +kernel | (unfold mayWrite; decide +kernel)


/-! ### Updates (chapter 17) -/

/-- The running part with slot A loaded, in an update session. -/
def updUp (l : List (Nat × Word)) (u : UpdSt) : State := { withWords l with upd := u }
/-- RECEIVING, 512 bytes of HOST. -/
def updRx : State := updUp [(Reg.SV_UPD_STAT, 1), (Reg.SV_UPD_SRC, 1), (Reg.SV_UPD_DATA 0, 0x4B505841)] { UpdSt.init with size := 512 }
/-- RECEIVING, from NET 0x123. -/
def updNet : State := updUp [(Reg.SV_UPD_STAT, 1), (Reg.SV_UPD_SRC, 0x01230003)] { UpdSt.init with size := 4 }
/-- VERIFYING, a header of a package whose length is not the session's. -/
def updVer : State :=
  let h := leOf 4 0x4B505841 ++ leOf 2 1 ++ leOf 2 0x100 ++ leOf 4 600 ++ List.replicate 240 0
  norPutBytes (updUp [(Reg.SV_UPD_STAT, 2)] { UpdSt.init with size := 512 }) 0x00D00000 (h ++ leOf 4 (crc32 h).toNat)
theorem wit_UpdateSessions :
    mayWrite .host Reg.SV_UPD_CTRL up ∧ mayWrite .host Reg.SV_UPD_CHUNK updRx ∧ updTarget updRx = 1
    ∧ rdF (after (.updBegin .host) updRx) Reg.SV_VIOL_INFO 19 16 = 7
    ∧ rd (after (.updChunk .host 256) updRx) Reg.SV_UPD_NEXT = 256
    ∧ rdF (after (.updChunk .host 255) updRx) Reg.SV_VIOL_INFO 19 16 = 7
    ∧ updState (after (.updateFrameRx 0x123 [0, 0, 0, 0, 0, 4, 0, 0, 1, 2, 3, 4]) updNet) = 2
    ∧ updState (after (.updAbort .host) updRx) = 7 ∧ rdF (after (.updAbort .host) up) Reg.SV_VIOL_INFO 19 16 = 7 := by
  refine ⟨?_, ?_, ?_, ?_, ?_, ?_, ?_, ?_, ?_⟩ <;> first | decide +kernel | (unfold mayWrite; decide +kernel)
theorem test_updChunk : norWord (after (.updChunk .host 4) { updRx with upd := { UpdSt.init with size := 4 } }) 0x00D00000 = 0x4B505841 := by decide +kernel
theorem test_updBegin : (let t := after (.updBegin .host) (updUp [(Reg.SV_UPD_LEN, 512)] UpdSt.init)
    (updState t, rd t Reg.SV_BOOT_HDR_GEN)) = (1, 1) := by decide +kernel
theorem wit_UpdateSessionsEnd :
    updState (after (.chunkProgramDone (some 0x00D00000)) { updRx with upd := { updRx.upd with prog := true } }) = 6
    ∧ (after (.chunkProgramDone none) { updRx with upd := { updRx.upd with prog := true } }).upd.prog = false
    ∧ updState (after .sessionIdleTimeout { updRx with clk := { updRx.clk with tb0 := 60000000000 } }) = 7
    ∧ rd (after .verifyDone (updUp [(Reg.SV_UPD_STAT, 2)] UpdSt.init)) Reg.SV_UPD_STAT = 0x00130006
    ∧ rd (after .verifyDone updVer) Reg.SV_UPD_STAT = 0x00110006 := by
  refine ⟨?_, ?_, ?_, ?_, ?_⟩ <;> decide +kernel
/-- READY to activate at 24 V with the guards of the worked example. -/
def updReady : State := updUp [(Reg.SV_UPD_STAT, 3), (Reg.SV_UPD_HOLD, 2200)] UpdSt.init
/-- In a trial of slot A, of ARB 0, that began 100 s ago. -/
def updTrial : State :=
  { up with
    regs := [(0x10000, 0x1F), (0x20000, 0x402), (Reg.SV_UPD_STAT, 5), (Reg.SV_UPD_OTP, 0x705)], nor := (List.range 4).map fun i => (0x00100018 + i, 0),
    upd := { UpdSt.init with trialAt := some 0 }, clk := { up.clk with tb0 := 10000000000 } }
/-- A running part with the stored takeover code changed, since the start. -/
def updDirty (s : State) : State := { wr s Reg.SV_OWN_TKO_SET 0x4C21 with upd := { UpdSt.init with dirty := some 0 }, clk := { up.clk with tb0 := 100000000 } }
/-- A journal 0 of GEN 0x29, and one entry in slot `n`. -/
def jrnl (n : Nat) : State := jProgram 0 n 5 Reg.SV_OWN_TKO_SET 0 (jHeader 0 3 0x29 false 7 up)
theorem wit_Activation :
    updGuards (railShow 0 24000 updReady) = 0
    ∧ updGuards (railShow 0 17999 updReady) = 4 ∧ rdF (after (.updActivate .host 17999) updReady) Reg.SV_VIOL_INFO 19 16 = 7
    ∧ inTrial updTrial = true ∧ tsec updTrial = 100 ∧ rdF (after (.updConfirm .host) up) Reg.SV_VIOL_INFO 19 16 = 7 := by
  refine ⟨?_, ?_, ?_, ?_, ?_, ?_⟩ <;> decide +kernel
theorem test_updActivate : (let t := after (.updActivate .host 24000) updReady
    (tget norDefault t.nor 0xC, norWord t 0x10, t.upd.restartAt)) = (1, 0x200, some 1000000) := by decide +kernel
theorem test_updConfirm : (let t := after (.updConfirm .host) updTrial
    (norWord t 0x10, rd t Reg.SV_UPD_TSEC)) = (3, 100) := by decide +kernel
theorem test_trialTimeout : rd (after .trialTimerExpiry (wr updTrial Reg.SV_UPD_TCFG 60)) Reg.SV_UPD_TRIAL = 0x30000 := by decide +kernel
theorem wit_Commits :
    twf norDefault (updDirty (jrnl 0)).nor = true ∧ mayCommit (updDirty up) = true ∧ changedWords (updDirty up) = [(Reg.SV_OWN_TKO_SET, 0x4C21)]
    ∧ storedVals (updDirty up) = [(Reg.SV_OWN_TKO_SET, 0x4C21)]
    ∧ rd (after (.updCommit .host 0 false) (updDirty up)) Reg.SV_UPD_JGEN = 1 ∧ jHas (updDirty (jrnl 0)) = true
    ∧ jEntries (after (.updCommit .host 1 false) (updDirty (jrnl 0))) 0 = [(Reg.SV_OWN_TKO_SET, 0, 5), (Reg.SV_OWN_TKO_SET, 0x4C21, 6)]
    ∧ rd (after (.updCommit .host 3 false) (updDirty (jrnl 0))) Reg.SV_UPD_CFAIL_CNT = 1
    ∧ rd (after (.settingsCommitTimer 0 false) (updDirty (jrnl 62000))) Reg.SV_UPD_JGEN = 0x2A
    ∧ jCur (after (.settingsCommitTimer 0 false) (updDirty (jrnl 62000))) = 1
    ∧ jCur (after (.settingsCommitTimer 1 true) (updDirty (jrnl 62000))) = 0
    ∧ rd (after (.settingsReset .host) (wr (updDirty up) Reg.SV_UPD_STAT 0x800)) Reg.SV_UPD_JGEN = 1
    ∧ rdF (after (.settingsReset .host) up) Reg.SV_VIOL_INFO 19 16 = 7 := by
  refine ⟨?_, ?_, ?_, ?_, ?_, ?_, ?_, ?_, ?_, ?_, ?_, ?_, ?_⟩ <;> decide +kernel
/-- The running part with a word in SV_UPD_OTP. -/
def otpUp (w : Word) : State := { up with regs := up.regs ++ [(Reg.SV_UPD_OTP, w), (Reg.SV_UPD_SITEKEY 0, 0x01020304)] }
theorem wit_siteKey : rdF (after (.siteKey .host) (otpUp 0x700)) Reg.SV_VIOL_INFO 19 16 = 7
    ∧ (after (.siteKey .host) (otpUp 0x605)).upd.site.take 5 = [1, 2, 3, 4, 0] := by
  refine ⟨?_, ?_⟩ <;> decide +kernel


/-! ### Temperature and ageing (chapter 18) -/

/-- Die 7 in a band, every die seen. -/
def thmUp (b : Word) : State :=
  { withWords [(Reg.SV_THM_BANDS, b * 0x1200000)] with thm := { ThmSt.init with seen := [0, 1, 2, 3, 4, 5, 6, 7] } }
theorem wit_DieTemperatures :
    diesUp (thmUp 2) = true ∧ selBand (thmUp 2) 7 = 2 ∧ pkgBand (thmUp 4) = 4
    ∧ selBand (after (.diodeReading 7 (23 * 65536)) (thmUp 2)) 7 = 2 ∧ causes (after (.diodeReading 7 (125 * 65536)) (thmUp 4)) = 0x100
    ∧ causes (after (.diodeReading 7 (115 * 65536)) { wr (thmUp 4) Reg.SV_BOOT_SAFE_CAUSE 0x100 with
        thm := { ThmSt.init with seen := [0, 1, 2, 3, 4, 5, 6, 7], hot := true } }) = 0
    ∧ thmMay { thmUp 2 with thm := { ThmSt.init with runs := [(7, 0)] } } 7 1000000 = false
    ∧ rd (after (.diodeReading 7 (125 * 65536)) (thmUp 4)) (thmTmax 7) = 0x7D0000 := by
  refine ⟨?_, ?_, ?_, ?_, ?_, ?_, ?_, ?_⟩ <;> decide +kernel
/-- The temperatures at which the band of die 7, in band 2, changes: 70 degrees up, and below 22 degrees down. -/
theorem wit_bandEdges : nextBand 2 (70 * 65536) = 3 ∧ nextBand 2 (70 * 65536 - 1) = 2 ∧ nextBand 2 (22 * 65536) = 2 ∧ nextBand 2 (22 * 65536 - 1) = 1 := by decide
/-- The same with the fan of motion channel 9 in RUN, and with probe 5 enabled. -/
def driftUp : State :=
  let s := withWords [(Reg.SV_THM_BANDS, 2 * 0x1200000), (Reg.DR_MOT_CFG 9, 0x84000000), (Reg.DR_MOT_STAT 9, 2), (Reg.LP_PRB_CFG 5, 0x100000)]
  mSet s 9 { mOf s 9 with ph := 2 }
theorem wit_Canaries :
    (after (.canaryRun 3 3448 800 true) (thmUp 2)).thm.canary = [(3, 1000000000)]
    ∧ running (thmUp 2) = true ∧ rd (after (.driftCheck false 9 65536) driftUp) (Reg.DR_THM_FANBASE 6 1) = 0x10000
    ∧ (after (.driftCheck true 5 70000) (wr driftUp (Reg.LP_THM_GBASE 2 1) 0x10000)).thm.drift = [(3 * 256 + 2, 1)]
    ∧ mayWrite .host Reg.SV_NVM_CTRL (thmUp 2) ∧ rd (after (.nvmReset .host) up) Reg.SV_NVM_STAT = 8
    ∧ rd (after (.nvmResetDone true) (withWords [(Reg.SV_NVM_STAT, 8)])) Reg.SV_NVM_STAT = 4 := by
  refine ⟨?_, ?_, ?_, ?_, ?_, ?_, ?_⟩ <;> first | decide +kernel | (unfold mayWrite; decide +kernel)

end Sys2Proof.Tests
end

section
/-!
PROOFS. The statements about the plant as a whole: columns, loop latches, values that cross between dies, sequence actions, valve
starts, and the interlock.
-/
namespace Sys2Proof.Machine.GrainPlant

/-! ### Running a command and folding an operation -/

/-- An effect that itself leaves the time bases and the queue alone is the effect that runs. -/
theorem keepClk_eq_self {f : State → State} {s : State} (hclk : (f s).clk = s.clk) (hpending : (f s).pending = s.pending) :
    keepClk f s = f s := by
  unfold keepClk; rw [← hclk, ← hpending]

/-- What every operation of the list keeps, the fold keeps. -/
theorem forEach_keeps {α : Type} {P : State → Prop} {f : α → State → State} (l : List α)
    (hkeep : ∀ y ∈ l, ∀ s, P s → P (f y s)) (s : State) (hs : P s) : P (forEach l f s) := by
  induction l generalizing s with
  | nil => exact hs
  | cons y l ih =>
    exact ih (fun z hz => hkeep z (List.mem_cons_of_mem y hz)) (f y s) (hkeep y List.mem_cons_self s hs)

/-- A fold over operations that each do nothing does nothing. -/
theorem forEach_eq_self {α : Type} {f : α → State → State} {s : State} (l : List α) (hid : ∀ y ∈ l, f y s = s) :
    forEach l f s = s :=
  forEach_keeps (P := fun t => t = s) l (fun y hy t ht => by rw [ht]; exact hid y hy) s rfl

/-- What the operation at `x` establishes, with every other one keeping its precondition before and its postcondition after, the fold
establishes. -/
theorem forEach_establishes {α : Type} {Pre Post : State → Prop} {f : α → State → State} {x : α} (l : List α) (hx : x ∈ l)
    (hnodup : l.Nodup) (hpre : ∀ y ∈ l, y ≠ x → ∀ s, Pre s → Pre (f y s)) (hest : ∀ s, Pre s → Post (f x s))
    (hpost : ∀ y ∈ l, y ≠ x → ∀ s, Post s → Post (f y s)) (s : State) (hs : Pre s) : Post (forEach l f s) := by
  induction l generalizing s with
  | nil => exact absurd hx List.not_mem_nil
  | cons y l ih =>
    obtain ⟨hy, hl⟩ := List.nodup_cons.mp hnodup
    by_cases hyx : y = x
    · subst hyx
      exact forEach_keeps l (fun z hz => hpost z (List.mem_cons_of_mem y hz) (fun e => hy (e ▸ hz))) _ (hest s hs)
    · exact ih ((List.mem_cons.mp hx).resolve_left fun e => hyx e.symm) hl
        (fun z hz => hpre z (List.mem_cons_of_mem y hz)) (fun z hz => hpost z (List.mem_cons_of_mem y hz)) _
        (hpre y List.mem_cons_self hyx s hs)

theorem getD_map_range {α : Type} (f : Nat → α) (d : α) {i n : Nat} (h : i < n) : ((List.range n).map f).getD i d = f i := by
  simp [List.getD, h]

/-! ### Words of the registers and words of the memories -/

/-- A register word just written: nothing but the registers differs. -/
theorem wr_register {a : Nat} (h : usesMem (wordBase a) = false) (s : State) (w : Word) :
    wr s a w = { s with regs := (wr s a w).regs } := by
  unfold wr; simp [h]

/-- A memory word just written: nothing but the memories differs. -/
theorem wr_memory {a : Nat} (h : usesMem (wordBase a) = true) (s : State) (w : Word) :
    wr s a w = { s with mem := (wr s a w).mem } := by
  unfold wr; simp [h]

theorem usesMem_eq_false_iff (a : Nat) : usesMem a = false ↔ a % winSize < 0x800000 ∧ (a < 0xA0000 ∨ 0xA2000 ≤ a) := by
  simp [usesMem]; omega

/-- A read depends on the registers and the memories alone. -/
theorem rd_congr {s t : State} (hregs : t.regs = s.regs) (hmem : t.mem = s.mem) (a : Nat) : rd t a = rd s a := by
  unfold rd; rw [hregs, hmem]

/-- Nothing but register words and the marks of this tick has changed. -/
def registersOnly (s t : State) : Prop := t = { s with regs := t.regs, hwset := t.hwset }

theorem registersOnly_refl (s : State) : registersOnly s s := rfl
theorem registersOnly_trans {s t u : State} (h : registersOnly s t) (k : registersOnly t u) : registersOnly s u := by
  unfold registersOnly at *; rw [k, h]
theorem registersOnly_log {s t : State} (h : registersOnly s t) : t.log = s.log := by rw [h]
theorem registersOnly_wr {a : Nat} (h : usesMem (wordBase a) = false) (s : State) (w : Word) : registersOnly s (wr s a w) := by
  unfold registersOnly; rw [wr_register h]

/-- The words outside one window stand. -/
theorem wordsKept_window {lo hi : Nat} {s t : State} (h : ∀ a, a < lo ∨ hi ≤ a → rd t a = rd s a) : wordsKept [(lo, hi)] s t :=
  fun a ha => h a (ha (lo, hi) List.mem_cons_self)

theorem rd_of_wordsKept_window {lo hi a : Nat} {s t : State} (h : wordsKept [(lo, hi)] s t) (ha : a < lo ∨ hi ≤ a) : rd t a = rd s a := by
  refine h a fun x hx => ?_
  obtain rfl := List.mem_singleton.mp hx
  exact ha

/-! ### Events -/

/-- An event just raised is on its way. -/
theorem raisedEvent_raise (code unit : Nat) (p0 p1 : Word) (s : State) : raisedEvent code unit p0 p1 (raise code unit p0 p1 s) :=
  ⟨_, evNow_mem_raise code unit p0 p1 s, rfl, rfl, rfl, rfl⟩

/-- What is on its way depends on the recorder alone. -/
theorem raisedEvent_of_log {code unit : Nat} {p0 p1 : Word} {s t : State} (h : raisedEvent code unit p0 p1 s)
    (hlog : t.log.raised = s.log.raised) : raisedEvent code unit p0 p1 t := by
  unfold raisedEvent; rw [hlog]; exact h

/-! ### Columns (R176, R179, R198, R204, R205) -/

theorem wordBase_trkBias (c i : Nat) : wordBase (Reg.LP_TRK_BIAS c i) = Reg.LP_TRK_BIAS c i := by
  simp only [wordBase, Reg.LP_TRK_BIAS, lpAt, winSize]; omega
/-- The biases of a column lie in a window of 32 bytes. -/
theorem wordBase_trkBias_ne_of_outside {c i a : Nat} (hi : i < 8) (ha : a < Reg.LP_TRK_BIAS c 0 ∨ Reg.LP_TRK_BIAS c 0 + 32 ≤ a) :
    wordBase (Reg.LP_TRK_BIAS c i) ≠ wordBase a := by
  simp only [wordBase, Reg.LP_TRK_BIAS, lpAt, winSize] at *; omega
theorem trkBias_isRegister (c i : Nat) (hi : i < 8) : usesMem (wordBase (Reg.LP_TRK_BIAS c i)) = false := by
  rw [wordBase_trkBias, usesMem_eq_false_iff]
  simp only [Reg.LP_TRK_BIAS, lpAt, winSize]; omega

/-- The configuration words of a column lie below its biases. -/
theorem rd_wr_trkBias_of_lt (s : State) (c i : Nat) (w : Word) {a : Nat} (h : a < Reg.LP_TRK_BIAS c 0) :
    rd (wr s (Reg.LP_TRK_BIAS c i) w) a = rd s a := by
  refine rd_wr_ne s w ?_
  simp only [wordBase, Reg.LP_TRK_BIAS, lpAt, winSize] at *; omega

/-- A column replaced, and register words besides: neither touches anything else. -/
theorem trkSet_of_registersOnly {s t : State} (h : registersOnly s t) (c : Nat) (x : TrkSt) :
    trkSet t c x = { s with regs := (trkSet t c x).regs, hwset := (trkSet t c x).hwset, trk := (trkSet t c x).trk } := by
  rw [h]; rfl
theorem registersOnly_of_trkSet {s t : State} {c : Nat} {x : TrkSt} (h : registersOnly (trkSet s c x) t) :
    t = { s with regs := t.regs, hwset := t.hwset, trk := t.trk } := by
  rw [h]; rfl

/-- CLR_BIAS: every bias is 0, and no other word has changed. -/
def biasesCleared (c : Nat) (s : State) : State := forEach (List.range 8) (fun i s => wr s (Reg.LP_TRK_BIAS c i) 0) s

theorem registersOnly_biasesCleared (c : Nat) (s : State) : registersOnly s (biasesCleared c s) :=
  forEach_keeps (P := registersOnly s) _
    (fun i hi _ h => registersOnly_trans h (registersOnly_wr (trkBias_isRegister c i (List.mem_range.mp hi)) _ _)) s
    (registersOnly_refl s)

theorem rd_biasesCleared_same (c : Nat) (s : State) {i : Nat} (hi : i < 8) : rd (biasesCleared c s) (Reg.LP_TRK_BIAS c i) = 0 := by
  unfold biasesCleared
  refine forEach_establishes (Pre := fun _ => True) (Post := fun t => rd t (Reg.LP_TRK_BIAS c i) = 0) (x := i) (List.range 8)
    (List.mem_range.mpr hi) List.nodup_range ?_ ?_ ?_ s trivial
  · exact fun _ _ _ _ _ => trivial
  · exact fun t _ => rd_wr_same t _ 0
  · intro y _ _ t ht
    rw [rd_wr, ht, ite_self]

theorem rd_biasesCleared_outside (c : Nat) (s : State) {a : Nat} (ha : a < Reg.LP_TRK_BIAS c 0 ∨ Reg.LP_TRK_BIAS c 0 + 32 ≤ a) :
    rd (biasesCleared c s) a = rd s a := by
  refine forEach_keeps (P := fun t => rd t a = rd s a) _ (fun i hi t ht => ?_) s rfl
  rw [rd_wr_ne t _ (wordBase_trkBias_ne_of_outside (List.mem_range.mp hi) ha), ht]

/-- The waiting commands of a column have taken effect. -/
def cmdsTaken (c : Nat) (s : State) : State := forEach (trkOf s c).cmds (trkCmdApply c) s

/-- What a waiting command leaves: the time bases, the queue, the columns and the words below the biases. -/
structure CmdFrame (c : Nat) (s t : State) : Prop where
  clk : t.clk = s.clk
  pending : t.pending = s.pending
  trk : t.trk = s.trk
  below : ∀ a, a < Reg.LP_TRK_BIAS c 0 → rd t a = rd s a

theorem CmdFrame.refl (c : Nat) (s : State) : CmdFrame c s s := ⟨rfl, rfl, rfl, fun _ _ => rfl⟩
theorem CmdFrame.trans {c : Nat} {s t u : State} (h : CmdFrame c s t) (k : CmdFrame c t u) : CmdFrame c s u :=
  ⟨k.clk.trans h.clk, k.pending.trans h.pending, k.trk.trans h.trk, fun a ha => (k.below a ha).trans (h.below a ha)⟩

theorem cmdFrame_biasesCleared (c : Nat) (s : State) : CmdFrame c s (biasesCleared c s) := by
  have h := registersOnly_biasesCleared c s
  exact ⟨by rw [h], by rw [h], by rw [h], fun a ha => rd_biasesCleared_outside c s (.inl ha)⟩

/-- The effect of a command on the biases, past its record. -/
theorem trkCmdApply_eq (c : Nat) (k : TrkCmd) (s : State) :
    trkCmdApply c k s =
      let s := if k.act < 8 ∧ !k.logged then
          raiseN 0x0307 (colDie c) ((if k.act = 0 then 1 else if k.act = 1 then 2 else 4) * 0x10000 + colLocal c) k.port s
        else s
      if k.act = 2 then noteStored (biasesCleared c s)
      else if 8 ≤ k.act then wr s (Reg.LP_TRK_BIAS c (k.act - 8)) k.word else s := rfl

theorem cmdFrame_trkCmdApply (c : Nat) (k : TrkCmd) (s : State) : CmdFrame c s (trkCmdApply c k s) := by
  rw [trkCmdApply_eq]
  have hlog : ∀ u : State, (u = s ∨ ∃ n p, u = raiseN 0x0307 (colDie c) n p s) → CmdFrame c s u := by
    rintro u (rfl | ⟨n, p, rfl⟩)
    · exact .refl c u
    · exact ⟨rfl, rfl, rfl, fun _ _ => rfl⟩
  dsimp only
  generalize hu : (if k.act < 8 ∧ (!k.logged) = true then _ else s) = u
  have hsu : CmdFrame c s u := by
    refine hlog u ?_
    rw [← hu]; split
    · exact .inr ⟨_, _, rfl⟩
    · exact .inl rfl
  split
  · refine hsu.trans ((cmdFrame_biasesCleared c u).trans ⟨?_, ?_, ?_, fun a _ => ?_⟩) <;> simp
  · split
    · exact hsu.trans ⟨by simp, by simp, by simp, fun a ha => rd_wr_trkBias_of_lt u c _ _ ha⟩
    · exact hsu

theorem cmdFrame_cmdsTaken (c : Nat) (s : State) : CmdFrame c s (cmdsTaken c s) :=
  forEach_keeps (P := CmdFrame c s) _ (fun k _ t h => h.trans (cmdFrame_trkCmdApply c k t)) s (.refl c s)

/-- The update that a latch starts (R176). -/
def columnUpdate (c : Nat) (s : State) : TrkUpd :=
  { at1 := tb3Tick s, at0 := tb3At0 s, commit := tb3Tick s + BitVec.ofNat 64 (rdN s (Reg.LP_TRK_PHASE c) * 100),
    m := min 255 ((trkOf s c).m + 1), cmds := (trkOf s c).cmds.filter fun k => decide (k.act < 2),
    bias := (List.range 8).map fun i => rdI (cmdsTaken c s) (Reg.LP_TRK_BIAS c i),
    sigs := (colEntries s c).map (latchSig s c (trkOf s c).seen), done := false, tick0 := s.clk.tb0, seen0 := (trkOf s c).seen }

/-- The column a latch leaves (R176). -/
def columnLatched (c : Nat) (s : State) : TrkSt :=
  { trkOf s c with
    upd := some (columnUpdate c s), endAt := tb3Tick s + BitVec.ofNat 64 (rdN s (Reg.LP_TRK_PERIOD c) * 100), started := true,
    m := min 255 ((trkOf s c).m + 1), cmds := [],
    seen := seenOf (cmdsTaken c s) c ((colEntries s c).map (latchSig s c (trkOf s c).seen)) }

theorem trkLatch_eq (c : Nat) (s : State) : trkLatch c s = trkSet (cmdsTaken c s) c (columnLatched c s) := by
  have hf := cmdFrame_cmdsTaken c s
  have hphase : colPhase (cmdsTaken c s) c = rdN s (Reg.LP_TRK_PHASE c) := by
    unfold colPhase rdN; rw [hf.below _ (by simp only [Reg.LP_TRK_PHASE, Reg.LP_TRK_BIAS, lpAt]; omega)]
  have hperiod : colT (cmdsTaken c s) c = rdN s (Reg.LP_TRK_PERIOD c) := by
    unfold colT rdN; rw [hf.below _ (by simp only [Reg.LP_TRK_PERIOD, Reg.LP_TRK_BIAS, lpAt]; omega)]
  have hinstant : tb3Tick (cmdsTaken c s) = tb3Tick s := by unfold tb3Tick tb3; rw [hf.clk]
  have hat0 : tb3At0 (cmdsTaken c s) = tb3At0 s := by unfold tb3At0 tb1To0 tb3; rw [hf.clk]
  unfold columnLatched columnUpdate
  rw [← hphase, ← hperiod, ← hinstant, ← hat0, ← hf.clk]
  rfl
theorem exec_trkLatch {c : Nat} {s : State} (hc : c < 16) (hruns : colRuns s c = true) (hidle : (trkOf s c).upd = none)
    (hgrid : onGrid s (rdN s (Reg.LP_TRK_PERIOD c)) 0 = true)
    (hdue : (trkOf s c).started = false ∨ reached (tb3Tick s) (trkOf s c).endAt = true) :
    exec (.trkLatch c) s = .next (trkLatch c s) := by
  have heff : effTrkLatch c s = trkLatch c s := by
    have hperiod : onGrid s (colT s c) 0 = true := hgrid
    have hover : (!(trkOf s c).started || reached (tb3Tick s) (trkOf s c).endAt) = true := by
      rcases hdue with h | h <;> simp [h]
    unfold effTrkLatch
    simp only [hruns, hidle, hperiod, hover, Option.isNone_none, Bool.and_self, if_true]
  have hf := cmdFrame_cmdsTaken c s
  have hkeep : keepClk (effTrkLatch c) s = effTrkLatch c s := by
    apply keepClk_eq_self <;> rw [heff, trkLatch_eq]
    · exact hf.clk
    · exact hf.pending
  exact (guardIx_lt hc _).trans (by rw [run_next, hkeep, heff])

/-- Each signal the column reads is in the update as it stands (R176). -/
theorem columnUpdate_sigs (c : Nat) (s : State) {e : Nat} (he : e ∈ colEntries s c) :
    ∃ y ∈ (columnUpdate c s).sigs, y.entry = e ∧ y.value = rdI s (sigAddr (1 + c / 4) e)
      ∧ y.instant = rd s (sigAddr (1 + c / 4) e + 8) ∧ y.valid = rdB s (sigAddr (1 + c / 4) e + 4) 16 :=
  ⟨_, List.mem_map_of_mem he, rfl, rfl, rfl, rfl⟩

theorem columnUpdate_at1_toNat (c : Nat) (s : State) : (columnUpdate c s).at1.toNat = s.clk.tb1.toNat / 100 * 100 := by
  show (BitVec.ofNat 64 (s.clk.tb1.toNat / 100 * 100)).toNat = _
  rw [BitVec.toNat_ofNat]
  have := s.clk.tb1.isLt
  omega

theorem columnUpdate_bias (c : Nat) (s : State) {i : Nat} (hi : i < 8) :
    (columnUpdate c s).bias.getD i 0 = rdI (trkLatch c s) (Reg.LP_TRK_BIAS c i) := by
  rw [trkLatch_eq]
  exact getD_map_range _ _ hi

theorem trkOf_trkLatch_ne {c h : Nat} (s : State) (hne : h ≠ c) : trkOf (trkLatch c s) h = trkOf s h := by
  rw [trkLatch_eq, trkOf_trkSet_ne _ _ (Ne.symm hne)]
  unfold trkOf; rw [(cmdFrame_cmdsTaken c s).trk]

theorem trkOf_trkLatch_same (c : Nat) (s : State) : trkOf (trkLatch c s) c = columnLatched c s := by
  rw [trkLatch_eq, trkOf_trkSet_same]

theorem cmdsTaken_of_nil {c : Nat} {s : State} (h : (trkOf s c).cmds = []) : cmdsTaken c s = s := by
  unfold cmdsTaken; rw [h]; rfl
theorem cmdsTaken_of_one {c : Nat} {s : State} {k : TrkCmd} (h : (trkOf s c).cmds = [k]) : cmdsTaken c s = trkCmdApply c k s := by
  unfold cmdsTaken; rw [h]; rfl

/-- With no command waiting a latch changes the column alone. -/
theorem trkLatch_noCommand {c : Nat} {s : State} (h : (trkOf s c).cmds = []) :
    trkLatch c s = { s with trk := (trkLatch c s).trk } ∧ (columnUpdate c s).cmds = [] := by
  refine ⟨?_, by unfold columnUpdate; rw [h]; rfl⟩
  rw [trkLatch_eq, cmdsTaken_of_nil h]; rfl

theorem trkCmdApply_presetOrClear {c : Nat} {k : TrkCmd} (s : State) (hk : k.act < 2) :
    trkCmdApply c k s = if k.logged = false then
      raiseN 0x0307 (colDie c) ((if k.act = 0 then 1 else 2) * 0x10000 + colLocal c) k.port s else s := by
  rw [trkCmdApply_eq]
  have hcode : (if k.act = 0 then 1 else if k.act = 1 then 2 else 4) = if k.act = 0 then 1 else 2 := by
    split
    · rfl
    · rw [if_pos (by omega)]
  cases hl : k.logged <;> simp [hcode, show k.act < 8 by omega, show k.act ≠ 2 by omega, show ¬ 8 ≤ k.act by omega]

/-- A PRESET or CLEAR goes into the update, and is logged there once (R204). -/
theorem trkLatch_presetOrClear {c : Nat} {s : State} {k : TrkCmd} (h : (trkOf s c).cmds = [k]) (hk : k.act < 2) :
    (columnUpdate c s).cmds = [k] ∧ trkLatch c s = { s with trk := (trkLatch c s).trk, log := (trkLatch c s).log }
      ∧ (k.logged = false → raisedEvent 0x0307 (1 + c / 4) (w32 ((if k.act = 0 then 1 else 2) * 0x10000 + c % 4)) (w32 k.port)
          (trkLatch c s)) := by
  refine ⟨by unfold columnUpdate; rw [h]; simp; omega, ?_, fun hl => ?_⟩
  · rw [trkLatch_eq, cmdsTaken_of_one h, trkCmdApply_presetOrClear s hk]
    split <;> rfl
  · rw [trkLatch_eq, cmdsTaken_of_one h, trkCmdApply_presetOrClear s hk, if_pos hl]
    exact raisedEvent_of_log (raisedEvent_raise _ _ _ _ s) rfl

theorem trkCmdApply_clearBias {c : Nat} {k : TrkCmd} (s : State) (hk : k.act = 2) (hl : k.logged = false) :
    trkCmdApply c k s = noteStored (biasesCleared c (raiseN 0x0307 (colDie c) (0x40000 + colLocal c) k.port s)) := by
  rw [trkCmdApply_eq]; simp [hk, hl]

theorem noteStored_only (s : State) : noteStored s = { s with upd := (noteStored s).upd } := by
  unfold noteStored; split <;> rfl

theorem trkSet_noteStored_of_registersOnly {s t : State} {code unit p0 p1 : Nat} (h : registersOnly (raiseN code unit p0 p1 s) t)
    (c : Nat) (x : TrkSt) :
    trkSet (noteStored t) c x = { s with
      regs := (trkSet (noteStored t) c x).regs, hwset := (trkSet (noteStored t) c x).hwset, trk := (trkSet (noteStored t) c x).trk,
      log := (trkSet (noteStored t) c x).log, upd := (trkSet (noteStored t) c x).upd } := by
  rw [noteStored_only, h]; rfl

/-- CLR_BIAS clears every bias at the latch, and is logged there (R198, R205). -/
theorem trkLatch_clearBias {c : Nat} {s : State} {k : TrkCmd} (h : (trkOf s c).cmds = [k]) (hk : k.act = 2) (hl : k.logged = false) :
    (columnUpdate c s).cmds = [] ∧ (∀ i, i < 8 → rd (trkLatch c s) (Reg.LP_TRK_BIAS c i) = 0)
      ∧ raisedEvent 0x0307 (1 + c / 4) (w32 (0x40000 + c % 4)) (w32 k.port) (trkLatch c s)
      ∧ wordsKept [(Reg.LP_TRK_BIAS c 0, Reg.LP_TRK_BIAS c 0 + 32)] s (trkLatch c s)
      ∧ trkLatch c s = { s with regs := (trkLatch c s).regs, hwset := (trkLatch c s).hwset, trk := (trkLatch c s).trk, log := (trkLatch c s).log, upd := (trkLatch c s).upd } := by
  rw [trkLatch_eq, cmdsTaken_of_one h, trkCmdApply_clearBias s hk hl]
  have hr := registersOnly_biasesCleared c (raiseN 0x0307 (colDie c) (0x40000 + colLocal c) k.port s)
  refine ⟨by unfold columnUpdate; rw [h]; simp [hk], fun i hi => ?_, ?_, wordsKept_window fun a ha => ?_,
    trkSet_noteStored_of_registersOnly hr c _⟩
  · rw [rd_trkSet, rd_noteStored, rd_biasesCleared_same c _ hi]
  · refine raisedEvent_of_log (raisedEvent_raise _ _ _ _ s) ?_
    rw [trkSet_log, noteStored_log, registersOnly_log hr]; rfl
  · rw [rd_trkSet, rd_noteStored, rd_biasesCleared_outside c _ ha, rd_raiseN]

theorem trkCmdApply_bias {c i : Nat} {k : TrkCmd} (s : State) (hk : k.act = 8 + i) :
    trkCmdApply c k s = wr s (Reg.LP_TRK_BIAS c i) k.word := by
  rw [trkCmdApply_eq]
  simp [hk, show ¬ 8 + i < 8 by omega, show ¬ 8 + i = 2 by omega]

/-- A written bias is the one in force from the latch (R198, R205). -/
theorem trkLatch_biasWritten {c i : Nat} {s : State} {k : TrkCmd} (h : (trkOf s c).cmds = [k]) (hk : k.act = 8 + i) (hi : i < 8) :
    (columnUpdate c s).cmds = [] ∧ rd (trkLatch c s) (Reg.LP_TRK_BIAS c i) = k.word
      ∧ wordsKept [(Reg.LP_TRK_BIAS c i, Reg.LP_TRK_BIAS c i + 4)] s (trkLatch c s)
      ∧ trkLatch c s = { s with regs := (trkLatch c s).regs, hwset := (trkLatch c s).hwset, trk := (trkLatch c s).trk } := by
  have ht : trkLatch c s = trkSet (wr s (Reg.LP_TRK_BIAS c i) k.word) c (columnLatched c s) := by
    rw [trkLatch_eq, cmdsTaken_of_one h, trkCmdApply_bias s hk]
  refine ⟨by unfold columnUpdate; rw [h]; simp [hk]; omega, ?_, wordsKept_window fun a ha => ?_, ?_⟩
  · rw [ht, rd_trkSet, rd_wr_same]
  · have hout : wordBase (Reg.LP_TRK_BIAS c i) ≠ wordBase a := by
      simp only [wordBase, Reg.LP_TRK_BIAS, lpAt, winSize] at *; omega
    rw [ht, rd_trkSet, rd_wr_ne _ _ hout]
  · rw [ht]; exact trkSet_of_registersOnly (registersOnly_wr (trkBias_isRegister c i hi) s _) c _

/-! ### Slack of a column, its commands and the read of a barge -/

theorem trkSlackWords_areRegisters (c : Nat) : usesMem (wordBase (Reg.LP_TRK_SLACK c)) = false
    ∧ usesMem (wordBase (Reg.LP_TRK_MIN_SLACK c)) = false ∧ wordBase (Reg.LP_TRK_SLACK c) ≠ wordBase (Reg.LP_TRK_MIN_SLACK c) := by
  simp only [usesMem_eq_false_iff, wordBase, Reg.LP_TRK_SLACK, Reg.LP_TRK_MIN_SLACK, lpAt, winSize]; omega

theorem registersOnly_trkSlack (c v : Nat) (s : State) : registersOnly s (trkSlack c v s) := by
  obtain ⟨hslack, hmin, -⟩ := trkSlackWords_areRegisters c
  exact registersOnly_trans (registersOnly_wr hslack s _) (registersOnly_wr hmin _ _)

/-- A slack shown: the word of the last, the least of both in MIN_SLACK, no other word (R179). -/
theorem trkSlack_words (c : Nat) {v : Nat} (s : State) (hv : v < 2 ^ 32) :
    rdN (trkSlack c v s) (Reg.LP_TRK_SLACK c) = v
      ∧ rdN (trkSlack c v s) (Reg.LP_TRK_MIN_SLACK c) = min v (rdN s (Reg.LP_TRK_MIN_SLACK c))
      ∧ wordsKept [(Reg.LP_TRK_SLACK c, Reg.LP_TRK_SLACK c + 8)] s (trkSlack c v s) := by
  obtain ⟨-, -, hne⟩ := trkSlackWords_areRegisters c
  unfold trkSlack rdN
  dsimp only
  rw [rd_wrN_ne _ _ (Ne.symm hne), rd_wrN_same, rd_wrN_ne _ _ hne, rd_wrN_same]
  refine ⟨?_, ?_, wordsKept_window fun a ha => ?_⟩
  · simp only [w32, BitVec.toNat_ofNat, Nat.mod_eq_of_lt hv]
  · have : min v (rd s (Reg.LP_TRK_MIN_SLACK c)).toNat < 2 ^ 32 := by omega
    simp only [w32, BitVec.toNat_ofNat, Nat.mod_eq_of_lt this]
  · have hout : wordBase (Reg.LP_TRK_SLACK c) ≠ wordBase a ∧ wordBase (Reg.LP_TRK_MIN_SLACK c) ≠ wordBase a := by
      simp only [wordBase, Reg.LP_TRK_SLACK, Reg.LP_TRK_MIN_SLACK, lpAt, winSize] at *; omega
    rw [rd_wrN_ne _ _ hout.2, rd_wrN_ne _ _ hout.1]

theorem exec_trkUpdateDone {c : Nat} {s : State} {u : TrkUpd} (hc : c < 16) (hu : (trkOf s c).upd = some u) (hdone : u.done = false)
    (hearly : reached s.clk.tb1 u.commit = false) :
    exec (.trkUpdateDone c) s = .next (trkSlack c (min 0xFFFFFFFF ((u.commit - s.clk.tb1).toNat / 100))
      (trkSet s c { trkOf s c with upd := some { u with done := true } })) := by
  have heff : effTrkUpdateDone c s = trkSlack c (min 0xFFFFFFFF ((u.commit - s.clk.tb1).toNat / 100))
      (trkSet s c { trkOf s c with upd := some { u with done := true } }) := by
    unfold effTrkUpdateDone
    rw [hu]
    simp only [hdone, hearly, Bool.not_false, Bool.and_self, if_true]
    rfl
  have hkeep : keepClk (effTrkUpdateDone c) s = effTrkUpdateDone c s := by
    apply keepClk_eq_self <;> rw [heff, registersOnly_trkSlack] <;> rfl
  exact (guardIx_lt hc _).trans (by rw [run_next, hkeep, heff])

/-- A port's write that is taken performs its operation, with the lease renewed (R390, R401, R405). -/
theorem ownerWrite_taken {p : PortId} {a : Nat} {s : State} (h : mayWrite p a s) (f : State → State) :
    ownerWrite p a (wOk f) s = f (renewLease p s) := by
  obtain ⟨hup, hboot, howner, hloaded⟩ := h
  rcases ownerWrite_cases p a (wOk f) s with ⟨hheld, -⟩ | ⟨hno, -⟩ | ⟨-, hnl, hnr, -⟩ | ⟨-, -, -, e⟩ | ⟨-, -, hbad, -⟩
  · rcases hheld with hdown | ⟨hp, hst, hword⟩
    · simp [hdown] at hup
    · rcases hboot with h | h | h
      · exact absurd h hp
      · exact absurd hst h
      · simp [hword] at h
  · simp [hno] at howner
  · simp [hnl, hnr] at hloaded
  · exact e
  · exact absurd rfl hbad

/-- A command of the owner waits at its column for the next sample instant (R204). -/
theorem exec_trkCommand {p : PortId} {c k : Nat} {i : Instr} {s : State} (hc : c < 16) (hw : mayWrite p (Reg.LP_TRK_CTRL c) s)
    (hi : (i = .trkPreset p c ∧ k = 0) ∨ (i = .trkClear p c ∧ k = 1) ∨ (i = .trkClrBias p c ∧ k = 2)) :
    exec i s = .next (portMark 3 c (trkCommand c k (portCode p) (renewLease p s))) := by
  have hrun : guardIx c 16 (run (ownerWrite p (Reg.LP_TRK_CTRL c) (opTrkCtrl p c k)) s)
      = .next (portMark 3 c (trkCommand c k (portCode p) (renewLease p s))) := by
    have heff : ownerWrite p (Reg.LP_TRK_CTRL c) (opTrkCtrl p c k) s = portMark 3 c (trkCommand c k (portCode p) (renewLease p s)) :=
      ownerWrite_taken hw _
    rw [guardIx_lt hc, run_next, keepClk_eq_self, heff] <;> rw [heff] <;> simp [portMark, trkCommand]
  rcases hi with ⟨rfl, rfl⟩ | ⟨rfl, rfl⟩ | ⟨rfl, rfl⟩ <;> exact hrun

/-- A word latched for a port is the one found at its address, and at every other the one found before. -/
theorem latchGet_latchPut (p : PortId) (a b : Nat) (w : Word) (s : State) :
    latchGet p b (latchPut p a w s) = if a = b then some w else latchGet p b s := by
  unfold latchGet latchPut
  simp only [List.find?_append]
  by_cases hab : a = b
  · subst hab
    have hnone : (s.port.latches.filter fun x => decide (¬ (x.1 = p ∧ x.2.1 = a))).find? (fun x => decide (x.1 = p ∧ x.2.1 = a)) = none := by
      rw [List.find?_eq_none]; intro x hx; simpa [imp_iff_not_or] using (List.mem_filter.mp hx).2
    simp only [hnone]; simp
  · have hkeep : (s.port.latches.filter fun x => decide (¬ (x.1 = p ∧ x.2.1 = a))).find? (fun x => decide (x.1 = p ∧ x.2.1 = b))
        = s.port.latches.find? (fun x => decide (x.1 = p ∧ x.2.1 = b)) := by
      rw [List.find?_filter]
      congr 1; funext x
      by_cases hx : x.1 = p ∧ x.2.1 = b
      · simp [hx, Ne.symm hab]
      · simp [hx]
    rw [hkeep]; simp [hab]

/-- Latched words upward from an address: each is found as it was read. -/
theorem latchGet_latchWords (p : PortId) (f : Nat → Word) (n a : Nat) (s : State) {j : Nat} (hj : j < n) :
    latchGet p (a + 4 * j) (latchWords p f n a s) = some (f (a + 4 * j)) := by
  have hbelow : ∀ n a b s, b < a → latchGet p b (latchWords p f n a s) = latchGet p b s := by
    intro n
    induction n with
    | zero => exact fun _ _ _ _ => rfl
    | succ n ih =>
      intro a b s hb
      rw [latchWords, ih _ _ _ (by omega), latchGet_latchPut, if_neg (by omega)]
  induction n generalizing a s j with
  | zero => omega
  | succ n ih =>
    rw [latchWords]
    cases j with
    | zero => rw [hbelow _ _ _ _ (by omega), latchGet_latchPut, if_pos (by omega), Nat.mul_zero, Nat.add_zero]
    | succ j =>
      have := ih (a + 4) (latchPut p a (f a) s) (j := j) (by omega)
      rwa [show a + 4 + 4 * j = a + 4 * (j + 1) by omega] at this

theorem latchWords_only (p : PortId) (f : Nat → Word) (n a : Nat) (s : State) :
    latchWords p f n a s = { s with port := (latchWords p f n a s).port } := by
  induction n generalizing a s with
  | zero => rfl
  | succ n ih => rw [latchWords, ih]; rfl

theorem exec_bargeRead {p : PortId} {i n : Nat} {s : State} (hi : i < 4) (hn : n < 512) (hup : portsUp s = true)
    (hboot : p = .runtime ∨ devState s ≠ 1) : exec (.bargeRead p i n) s = .next (effBargeRead p i n s) := by
  have heff : portAct p (bargeAddr (i + 1) n) (effBargeRead p i n) s = effBargeRead p i n s := by
    unfold portAct
    rw [if_neg]
    rintro (h | ⟨hp, hst, -⟩)
    · simp [hup] at h
    · exact hboot.elim hp (fun h => h hst)
  have hkeep : keepClk (portAct p (bargeAddr (i + 1) n) (effBargeRead p i n)) s = effBargeRead p i n s := by
    rw [keepClk_eq_self, heff] <;> rw [heff, effBargeRead, latchWords_only]
  exact (guardIx_lt hi _).trans ((guardIx_lt hn _).trans (by rw [run_next, hkeep]))

/-- Settles O25: a latch is the waiting commands taken, in their order, and the column replaced. -/
theorem columnsLatchTheirSignalsAndCommands : Obligations.ColumnsLatchTheirSignalsAndCommands := by
  unfold Obligations.ColumnsLatchTheirSignalsAndCommands
  intro c s hc d x others
  refine ⟨fun hruns hidle hgrid hdue => ?_, fun u hu hdone hearly => ?_, fun p i k hw hi => ?_, fun p i n hi hn hup hboot => ?_⟩
  · refine ⟨trkLatch c s, columnUpdate c s, exec_trkLatch hc hruns hidle hgrid hdue, ?_, columnUpdate_at1_toNat c s, rfl, rfl, rfl, ?_, ?_,
      fun h hne => trkOf_trkLatch_ne s hne, ?_, fun e he => columnUpdate_sigs c s he, fun i hi => columnUpdate_bias c s hi,
      trkLatch_noCommand, fun k h hk => trkLatch_presetOrClear h hk, fun k h hk hl => trkLatch_clearBias h hk hl,
      fun k i h hk hi => trkLatch_biasWritten h hk hi⟩ <;> rw [trkOf_trkLatch_same] <;> rfl
  · have hr := registersOnly_trkSlack c (min 0xFFFFFFFF ((u.commit - s.clk.tb1).toNat / 100))
      (trkSet s c { x with upd := some { u with done := true } })
    have htrk : ∀ h, trkOf (trkSlack c (min 0xFFFFFFFF ((u.commit - s.clk.tb1).toNat / 100))
        (trkSet s c { x with upd := some { u with done := true } })) h = trkOf (trkSet s c { x with upd := some { u with done := true } }) h := by
      intro h; unfold trkOf; rw [hr]
    obtain ⟨hslack, hmin, hwords⟩ := trkSlack_words c (v := min 0xFFFFFFFF ((u.commit - s.clk.tb1).toNat / 100))
      (trkSet s c { x with upd := some { u with done := true } }) (by omega)
    refine ⟨_, exec_trkUpdateDone hc hu hdone hearly, ?_, fun h hne => ?_, hslack, hmin, ?_, hwords⟩
    · rw [htrk, trkOf_trkSet_same]
    · rw [htrk, trkOf_trkSet_ne _ _ (Ne.symm hne)]
    · exact registersOnly_of_trkSet hr
  · have hx : trkOf (renewLease p s) c = x := by unfold trkOf; rw [renewLease_trk]; rfl
    refine ⟨_, exec_trkCommand hc hw hi, ?_, fun h hne => ?_, ?_⟩
    · show trkOf (trkSet _ c _) c = _
      rw [trkOf_trkSet_same, hx]
    · show trkOf (trkSet _ c _) h = _
      rw [trkOf_trkSet_ne _ _ (Ne.symm hne)]
      unfold trkOf; rw [renewLease_trk]
    · unfold portMark trkCommand; rw [renewLease_only]; rfl
  · refine ⟨_, exec_bargeRead hi hn hup hboot, latchWords_only _ _ _ _ _, fun j h1 hj => ?_⟩
    have := latchGet_latchWords p (rd s) 7 (bargeAddr (i + 1) n + 4) s (j := j - 1) (by omega)
    rwa [show bargeAddr (i + 1) n + 4 + 4 * (j - 1) = dieAt (i + 1) 0xC00000 + 32 * n + 4 * j by unfold bargeAddr; omega] at this

/-! ### A loop's first latch (R234, R257) -/

/-- Loop 0 before its first latch, in AUTO already by its word, with its freeze monitor on and its window full. -/
def frozenBeforeFirstLatch : State :=
  loopSet
    { State.reset with
      regs := [(Reg.LP_ENG_STAT 1, 1), (Reg.LP_LOOP_CFG 0, 0x90000000), (Reg.LP_LOOP_PERIOD 0, 100),
        (Reg.LP_LOOP_FRZ 0, 0x80020000), (Reg.LP_LOOP_FRZ_DIN 0, 1), (Reg.LP_LOOP_STAT 0, 2)] }
    0 { loopInit 0 with win := [(0, 0), (0, 10)] }

theorem loopDue_frozenBeforeFirstLatch : loopDue frozenBeforeFirstLatch 0 = true := by decide

/-- Its word says AUTO, so the first latch enters no state anew and keeps the window: the freeze monitor trips, and the loop holds. -/
theorem loopLatch_frozenBeforeFirstLatch {t : State} (h : exec (.loopLatch 0) frozenBeforeFirstLatch = .next t) : loopState t 0 = 3 := by
  have ht : t = keepClk (effLoopLatch 0) frozenBeforeFirstLatch := by injection h.symm
  subst ht
  decide

/-- Refutes O33: nothing in the statement says that a loop before its first latch is in DISABLED, and one whose word says AUTO already
keeps a full window at that latch; its freeze monitor then puts it in HOLD, although START_AUTO is 1. -/
theorem not_loopLatchTakesInputs : ¬ Obligations.LoopLatchTakesInputs := by
  unfold Obligations.LoopLatchTakesInputs
  intro h
  obtain ⟨t, p, hexec, -, -, -, -, -, -, -, -, -, -, -, -, -, -, -, -, -, hfirst, -⟩ :=
    h 0 frozenBeforeFirstLatch (by decide) loopDue_frozenBeforeFirstLatch
  have hauto := hfirst (by decide) (by decide)
  rw [loopLatch_frozenBeforeFirstLatch hexec] at hauto
  exact absurd hauto (by decide)

/-! ### A deferral that times out (R285, R302) -/

/-- Valve channel 0 FORCED, with a deferred start of its own and a DEFER_MAX of 0. -/
def forcedWithRequest : State :=
  { State.reset with
    regs := [(Reg.DR_VCH_STAT 0, 8), (Reg.DR_BNK_DEFER_MAX 0, 0)]
    drv := { DrvSt.init with waits := [⟨0, 0, true, false⟩] } }

/-- A fault of a forced channel leaves it FORCED (Table 11-8). -/
theorem deferTimeout_forcedWithRequest {t : State} (h : exec (.deferTimeout 0) forcedWithRequest = .next t) : vState t 0 = 8 := by
  have ht : t = keepClk (effDeferTimeout 0) forcedWithRequest := by injection h.symm
  subst ht
  decide +kernel

/-- Refutes O43: the clause on a request that has waited DEFER_MAX asks for the state FAULT of every channel, and a channel that is FORCED
stays so under a fault. The statement does not exclude a forced channel with a request. -/
theorem not_valveStartsAreGrantedDeferredOrRejected : ¬ Obligations.ValveStartsAreGrantedDeferredOrRejected := by
  unfold Obligations.ValveStartsAreGrantedDeferredOrRejected
  intro h
  obtain ⟨-, hwait⟩ := h 0 forcedWithRequest (by decide)
  obtain ⟨-, -, hfault, -⟩ := hwait ⟨0, 0, true, false⟩ rfl rfl
  obtain ⟨t, hexec, -, hstate, -⟩ := hfault (by decide)
  rw [deferTimeout_forcedWithRequest hexec] at hstate
  exact absurd hstate (by decide)

/-! ### What was latched in this tick (R31, Table 08-10) -/

/-- What was latched, sampled or evaluated in this tick is the same in both states, but that an evaluation may have gone. -/
structure SameLatches (s t : State) : Prop where
  clk : t.clk = s.clk
  tick : t.sig.tick = s.sig.tick
  at1 : ∀ n, (seqOf t n).at1 = (seqOf s n).at1 ∨ (seqOf t n).at1 = none
  eng : t.eng = s.eng
  trk : ∀ c, (trkOf t c).upd = (trkOf s c).upd
  prb : t.sense.prb = s.sense.prb

theorem SameLatches.refl (s : State) : SameLatches s s := ⟨rfl, rfl, fun _ => .inl rfl, rfl, fun _ => rfl, rfl⟩
theorem SameLatches.trans {s t u : State} (h : SameLatches s t) (k : SameLatches t u) : SameLatches s u :=
  ⟨k.clk.trans h.clk, k.tick.trans h.tick, fun n => (k.at1 n).elim (fun e => e ▸ h.at1 n) .inr, k.eng.trans h.eng,
    fun c => (k.trk c).trans (h.trk c), k.prb.trans h.prb⟩

/-- A die on which nothing was latched in this tick stays so. -/
theorem SameLatches.quiet {s t : State} (h : SameLatches s t) {d : Nat} (hq : quiet d s) : quiet d t := by
  unfold Machine.quiet at *
  split
  · next hd =>
    rw [if_pos hd] at hq
    refine ⟨by rw [h.tick, h.clk]; exact hq.1, fun n hn => ?_⟩
    rcases h.at1 n with e | e
    · rw [e, h.clk]; exact hq.2 n hn
    · rw [e]; exact nofun
  · next hd =>
    rw [if_neg hd] at hq
    obtain ⟨hsnaps, hcols, hprb⟩ := hq
    unfold engOf prbOf at *
    rw [h.eng, h.clk, h.prb]
    exact ⟨hsnaps, fun c hc u hu => hcols c hc u (by rw [← h.trk c]; exact hu), hprb⟩

theorem relatch_eq_self {d : Nat} {s : State} (h : ∀ y ∈ (engOf s d).snaps, y.at0 ≠ s.clk.tb0) : relatch d s = s := by
  refine forEach_eq_self _ fun y hy => ?_
  unfold relatchOne
  simp [h y hy]

theorem prbAgain_eq_self {d : Nat} {s : State}
    (h : ∀ k, k < 4 → (prbOf s ((d - 1) * 4 + k)).conv = none ∨ (prbOf s ((d - 1) * 4 + k)).was.1 ≠ s.clk.tb0) :
    prbAgain d s = s := by
  refine forEach_eq_self _ fun x hx => ?_
  obtain ⟨k, hk, rfl⟩ := List.mem_map.mp hx
  rcases h k (List.mem_range.mp hk) with e | e <;> simp [e]

theorem trkAgain_eq_self {d : Nat} {s : State} (h : ∀ c ∈ dieCols d, ∀ u, (trkOf s c).upd = some u → u.tick0 ≠ s.clk.tb0) :
    trkAgain d s = s := by
  refine forEach_eq_self _ fun c hc => ?_
  cases hu : (trkOf s c).upd with
  | none => simp [hu]
  | some u => simp [hu, h c hc u hu]

theorem sysAgain_eq_self {s : State} (h : s.sig.tick ≠ some s.clk.tb0) : sysAgain s = s := if_neg h

theorem evalAgain_eq_self {n : Nat} {s : State} (h : (seqOf s n).at1 ≠ some s.clk.tb1) : evalAgain n s = s := if_pos h

/-- A signal written where nothing was latched in this tick leads to no latch made again. -/
theorem sigAgain_quiet {d : Nat} {s : State} (h : quiet d s) : sigAgain d s = s := by
  unfold quiet at h
  unfold sigAgain
  split
  · next hd =>
    rw [if_pos hd] at h
    rw [sysAgain_eq_self h.1]
    exact forEach_eq_self _ fun n hn => evalAgain_eq_self (h.2 n (List.mem_range.mp hn))
  · next hd =>
    rw [if_neg hd] at h
    obtain ⟨hsnaps, hcols, hprb⟩ := h
    rw [relatch_eq_self hsnaps, prbAgain_eq_self hprb, trkAgain_eq_self hcols]

/-! ### Signal entries (R221, R480) -/

theorem sigAddr_aligned (d e : Nat) : sigAddr d e % 4 = 0 := by
  unfold sigAddr dieAt winSize; split <;> omega

/-- The words of an entry lie in a memory (Table 19-2, R480). -/
theorem sigAddr_isMemory {d e : Nat} (he : e < sigCount d) {k : Nat} (hk : k < 16) : usesMem (wordBase (sigAddr d e + k)) = true := by
  by_contra hu
  rw [Bool.not_eq_true, usesMem_eq_false_iff] at hu
  unfold sigCount at he
  unfold sigAddr dieAt winSize wordBase at hu
  split at he <;> simp only [*, if_true, if_false] at hu <;> omega

/-- The three words an entry takes at once: VALUE, INSTANT, and VALID with UPD. -/
def entryPut (a : Nat) (v inst w1 : Word) (s : State) : State := wr (wr (wr s a v) (a + 8) inst) (a + 4) w1

theorem sigWrite_eq (d e : Nat) (v inst : Word) (s : State) :
    sigWrite d e v inst s = entryPut (sigAddr d e) v inst
      (setBit (setBits (rd s (sigAddr d e + 4)) 15 0 (sigUpd s d e + 1)) 16 true) s := rfl

theorem rd_entryPut_w1 (a : Nat) (v inst w1 : Word) (s : State) : rd (entryPut a v inst w1 s) (a + 4) = w1 := rd_wr_same _ _ _

section
variable {a : Nat} (ha : a % 4 = 0) (v inst w1 : Word) (s : State)
include ha

theorem rd_entryPut_value : rd (entryPut a v inst w1 s) a = v := by
  unfold entryPut
  rw [rd_wr_ne _ _ (by unfold wordBase; omega), rd_wr_ne _ _ (by unfold wordBase; omega), rd_wr_same]

theorem rd_entryPut_instant : rd (entryPut a v inst w1 s) (a + 8) = inst := by
  unfold entryPut
  rw [rd_wr_ne _ _ (by unfold wordBase; omega), rd_wr_same]

theorem wordsKept_entryPut : wordsKept [(a, a + 12)] s (entryPut a v inst w1 s) := by
  refine wordsKept_window fun b hb => ?_
  unfold entryPut
  rw [rd_wr_ne _ _ (by unfold wordBase; omega), rd_wr_ne _ _ (by unfold wordBase; omega), rd_wr_ne _ _ (by unfold wordBase; omega)]

end

/-- An entry written changes the memories alone. -/
theorem entryPut_only {d e : Nat} (he : e < sigCount d) (v inst w1 : Word) (s : State) :
    entryPut (sigAddr d e) v inst w1 s = { s with mem := (entryPut (sigAddr d e) v inst w1 s).mem } := by
  unfold entryPut
  rw [wr_memory (sigAddr_isMemory he (by omega)), wr_memory (sigAddr_isMemory he (by omega)),
    wr_memory (a := sigAddr d e) (by simpa using sigAddr_isMemory he (k := 0) (by omega))]

theorem bit_validWord (w : Word) (u : Nat) (b : Bool) : bit (setBit (setBits w 15 0 u) 16 b) 16 = b := bit_setBit_same _ _ _ (by omega)
theorem bits_updWord (w : Word) (u : Nat) (b : Bool) : bits (setBit (setBits w 15 0 u) 16 b) 15 0 = u % 65536 := by
  rw [bits_setBit_ne _ _ _ _ _ (by omega) (by omega), bits_setBits_same _ _ _ _ (by omega) (by omega)]
  rfl

/-- A write to an entry: VALUE, INSTANT, VALID and one more UPD; no other word, and nothing but a memory (R221). -/
theorem sigWrite_words (d e : Nat) (v inst : Word) (s : State) :
    rd (sigWrite d e v inst s) (sigAddr d e) = v ∧ rd (sigWrite d e v inst s) (sigAddr d e + 8) = inst
      ∧ rdB (sigWrite d e v inst s) (sigAddr d e + 4) 16 = true
      ∧ rdF (sigWrite d e v inst s) (sigAddr d e + 4) 15 0 = (rdF s (sigAddr d e + 4) 15 0 + 1) % 65536
      ∧ wordsKept [(sigAddr d e, sigAddr d e + 12)] s (sigWrite d e v inst s) := by
  have ha := sigAddr_aligned d e
  rw [sigWrite_eq]
  refine ⟨rd_entryPut_value ha _ _ _ s, rd_entryPut_instant ha _ _ _ s, ?_, ?_, wordsKept_entryPut ha _ _ _ s⟩
  · unfold rdB; rw [rd_entryPut_w1, bit_validWord]
  · unfold rdF; rw [rd_entryPut_w1, bits_updWord]; rfl

theorem sigWrite_only {d e : Nat} (he : e < sigCount d) (v inst : Word) (s : State) :
    sigWrite d e v inst s = { s with mem := (sigWrite d e v inst s).mem } := by
  rw [sigWrite_eq]; exact entryPut_only he _ _ _ s

/-- What changed is a memory: what was latched stands. -/
theorem SameLatches.of_memory {s t : State} (h : t = { s with mem := t.mem }) : SameLatches s t := by
  rw [h]; exact ⟨rfl, rfl, fun _ => .inl rfl, rfl, fun _ => rfl, rfl⟩

/-! ### Values on their way between dies (R32, R35, R222, R223) -/

/-- An event raised latches nothing. -/
theorem raise_sameLatches (code unit : Nat) (p0 p1 : Word) (s : State) : SameLatches s (raise code unit p0 p1 s) :=
  ⟨rfl, rfl, fun _ => .inl rfl, rfl, fun _ => rfl, rfl⟩

/-- Values on their way, with the time bases, the tick of the last sample and all else as they stand. -/
def withExports (l : List PendExport) (s : State) : State := { s with sig := { s.sig with exports := l } }
def withSamples (l : List SysSample) (s : State) : State := { s with sig := { s.sig with sys := l } }

theorem withExports_sameLatches (l : List PendExport) (s : State) : SameLatches s (withExports l s) :=
  ⟨rfl, rfl, fun _ => .inl rfl, rfl, fun _ => rfl, rfl⟩
theorem withSamples_sameLatches (l : List SysSample) (s : State) : SameLatches s (withSamples l s) :=
  ⟨rfl, rfl, fun _ => .inl rfl, rfl, fun _ => rfl, rfl⟩

/-- The value on its way that entry `e` of die `d` takes next. -/
def exportNow (s : State) (d e : Nat) : Option PendExport :=
  s.sig.exports.find? fun y => decide (y.die = d ∧ y.entry = e) && reached s.clk.tb1 y.at1
/-- The sample that entry `e` of die `d` takes next. -/
def sampleNow (s : State) (d e : Nat) : Option SysSample :=
  s.sig.sys.find? fun y => decide (y.die = d ∧ y.entry = e) && reached s.clk.tb1 y.at1

theorem effExportApply_inTime {d e : Nat} {s : State} {x : PendExport} (h : exportNow s d e = some x) :
    effExportApply d e none s = sigWrite d e x.value x.instant (withExports (s.sig.exports.erase x) s) := by
  unfold effExportApply; unfold exportNow at h; rw [h]; rfl
theorem effExportApply_late {d e n : Nat} {s : State} {x : PendExport} (h : exportNow s d e = some x) :
    effExportApply d e (some n) s = towpathLate d e n (withExports (s.sig.exports.erase x) s) := by
  unfold effExportApply; unfold exportNow at h; rw [h]; rfl

/-- The second word of an entry that takes a system signal: UPD counts a new sample, VALID follows the signal (R223). -/
def importW1 (s : State) (d e : Nat) (x : SysSample) : Word :=
  setBit (setBits (rd s (sigAddr d e + 4)) 15 0 (sigUpd s d e + b2n x.fresh)) 16 x.valid

theorem effSyssigImportApply_inTime {d e : Nat} {s : State} {x : SysSample} (h : sampleNow s d e = some x) :
    effSyssigImportApply d e none s
      = entryPut (sigAddr d e) x.value x.instant (importW1 s d e x) (withSamples (s.sig.sys.erase x) s) := by
  unfold effSyssigImportApply; unfold sampleNow at h; rw [h]; rfl
theorem effSyssigImportApply_late {d e n : Nat} {s : State} {x : SysSample} (h : sampleNow s d e = some x) :
    effSyssigImportApply d e (some n) s = towpathLate d e n (withSamples (s.sig.sys.erase x) s) := by
  unfold effSyssigImportApply; unfold sampleNow at h; rw [h]; rfl

/-- An effect on which nothing of this tick hangs, run with what comes after it. -/
theorem run_sigAgain_quiet {d : Nat} {s t : State} {f : State → State} (hf : f s = t) (hsame : SameLatches s t) (hq : quiet d s)
    (hpending : t.pending = s.pending) : run (fun s => sigAgain d (f s)) s = .next t := by
  have h : sigAgain d (f s) = t := by rw [hf]; exact sigAgain_quiet (hsame.quiet hq)
  rw [run_next, keepClk_eq_self, h] <;> rw [h]
  · exact hsame.clk
  · exact hpending

theorem exec_exportApply_inTime {d e : Nat} {s : State} {x : PendExport} (he : e < sigCount d) (hx : exportNow s d e = some x)
    (hq : quiet d s) :
    exec (.exportApply d e none) s = .next (sigWrite d e x.value x.instant (withExports (s.sig.exports.erase x) s)) := by
  have hmem := sigWrite_only he x.value x.instant (withExports (s.sig.exports.erase x) s)
  exact run_sigAgain_quiet (effExportApply_inTime hx) ((withExports_sameLatches _ s).trans (.of_memory hmem)) hq (by rw [hmem]; rfl)

theorem exec_exportApply_late {d e n : Nat} {s : State} {x : PendExport} (hx : exportNow s d e = some x) (hq : quiet d s) :
    exec (.exportApply d e (some n)) s = .next (towpathLate d e n (withExports (s.sig.exports.erase x) s)) :=
  run_sigAgain_quiet (effExportApply_late hx) ((withExports_sameLatches _ s).trans (raise_sameLatches _ _ _ _ _)) hq rfl

theorem exec_syssigImportApply_inTime {d e : Nat} {s : State} {x : SysSample} (he : e < sigCount d) (hx : sampleNow s d e = some x)
    (hq : quiet d s) :
    exec (.syssigImportApply d e none) s
      = .next (entryPut (sigAddr d e) x.value x.instant (importW1 s d e x) (withSamples (s.sig.sys.erase x) s)) := by
  have hmem := entryPut_only he x.value x.instant (importW1 s d e x) (withSamples (s.sig.sys.erase x) s)
  exact run_sigAgain_quiet (effSyssigImportApply_inTime hx) ((withSamples_sameLatches _ s).trans (.of_memory hmem)) hq
    (by rw [hmem]; rfl)

theorem exec_syssigImportApply_late {d e n : Nat} {s : State} {x : SysSample} (hx : sampleNow s d e = some x) (hq : quiet d s) :
    exec (.syssigImportApply d e (some n)) s = .next (towpathLate d e n (withSamples (s.sig.sys.erase x) s)) :=
  run_sigAgain_quiet (effSyssigImportApply_late hx) ((withSamples_sameLatches _ s).trans (raise_sameLatches _ _ _ _ _)) hq rfl

/-- A memory written behind a change of the values on their way: these and the memory differ, no more. -/
theorem memoryAndSignals_only {s t u : State} (h : t = { s with sig := t.sig }) (k : u = { t with mem := u.mem }) :
    u.sig = t.sig ∧ u = { s with mem := u.mem, sig := u.sig, regs := u.regs, hwset := u.hwset } := by
  refine ⟨by rw [k], ?_⟩
  rw [k, h]

/-! ### A latch made again takes the value written (R31, Table 08-10) -/

/-- The inputs of a period are what the latch reads, its coefficients taken (R225). -/
theorem loopLatch_ins (g : Nat) (s : State) :
    ∃ q, (loopOf (loopLatch g s) g).per = some q ∧ q.ins = (List.range 8).map fun i => inValue (loopTakeCoef g s) g i := by
  unfold loopLatch
  exact ⟨_, congrArg LoopSt.per (loopOf_loopSet_same _ _ _), rfl⟩

/-- Taking the coefficients writes the state word of the die's engine alone. -/
theorem rd_loopTakeCoef (g : Nat) (s : State) {a : Nat} (ha : wordBase (Reg.LP_ENG_STAT (loopDie g)) ≠ wordBase a) :
    rd (loopTakeCoef g s) a = rd s a := by
  unfold loopTakeCoef
  dsimp only
  split
  · rfl
  · next d y hy =>
    obtain rfl : d = loopDie g := by simpa using List.find?_some hy
    split
    · rw [rd_loopSet]
      split
      · rw [rd_wrB_ne _ _ _ ha]; exact rd_congr rfl rfl a
      · exact rd_congr rfl rfl a
    · rfl

/-- What a latch made again writes before it latches. -/
theorem inValue_of_rd {s t : State} {g i : Nat} (h : ∀ a, wordBase (Reg.LP_ENG_STAT (loopDie g)) ≠ wordBase a →
    wordBase (Reg.LP_LOOP_STAT g) ≠ wordBase a → rd t a = rd s a) (hi : i < 8) : inValue t g i = inValue s g i := by
  have hin : rd t (Reg.LP_LOOP_IN g i) = rd s (Reg.LP_LOOP_IN g i) := by
    apply h <;> simp only [wordBase, Reg.LP_ENG_STAT, Reg.LP_LOOP_STAT, Reg.LP_LOOP_IN, lpAt, dieAt, winSize, loopDie] <;> omega
  have hsig : ∀ e, e < 2048 → rd t (sigAddr (loopDie g) e) = rd s (sigAddr (loopDie g) e) := by
    intro e he
    have hd : loopDie g ≠ 0 := by unfold loopDie; omega
    apply h <;> simp only [sigAddr, if_neg hd] <;>
      simp only [wordBase, Reg.LP_ENG_STAT, Reg.LP_LOOP_STAT, lpAt, dieAt, winSize, loopDie] <;> omega
  have hfield : bits (rd s (Reg.LP_LOOP_IN g i)) 10 0 < 2048 := Nat.mod_lt _ (by decide)
  unfold inValue sigVal rdI
  rw [hin]
  dsimp only
  rw [hsig _ hfield]

/-- A latch made again in this tick takes its inputs as they then stand. -/
theorem relatchOne_ins {y : LatchSnap} {q : LoopPer} {s : State} (hat0 : y.at0 = s.clk.tb0) (hper : (loopOf s y.g).per = some q)
    (hpc : q.pc = 0) (hdone : q.done = false) {i : Nat} (hi : i < 8) :
    ∃ q', (loopOf (relatchOne y s) y.g).per = some q' ∧ q'.ins.getD i 0 = inValue s y.g i := by
  unfold relatchOne
  simp only [hat0, hper, hpc, hdone, decide_true, Bool.not_false, Bool.and_self, if_true]
  obtain ⟨q', hq', hins⟩ := loopLatch_ins y.g _
  refine ⟨q', hq', ?_⟩
  rw [hins, getD_map_range _ _ hi]
  refine inValue_of_rd (fun a heng hstat => ?_) hi
  rw [rd_loopTakeCoef _ _ heng, rd_loopSet, rd_wrB_ne _ _ _ heng, rd_engSet, rd_wr_ne _ _ hstat]
  rfl

theorem prbAgain_loops (d : Nat) (s : State) : (prbAgain d s).loops = s.loops := by
  refine forEach_keeps (P := fun t => t.loops = s.loops) _ (fun x _ t ht => ?_) s rfl
  split
  · exact ht
  · exact ht

theorem trkAgain_loops (d : Nat) (s : State) : (trkAgain d s).loops = s.loops := by
  refine forEach_keeps (P := fun t => t.loops = s.loops) _ (fun c _ t ht => ?_) s rfl
  dsimp only
  split
  · exact ht
  · split <;> exact ht

/-! ### The sampling of system signals (R223) -/

theorem mem_sysImports {s : State} {d e : Nat} (hd1 : 1 ≤ d) (hd : d < 5) (he : e < 2048) (hkind : sigKind s d e = 4)
    (hsv : sigSrcDie s d e = 0) (hsrc : sigSrc s d e < 512) : (d, e) ∈ sysImports s := by
  unfold sysImports
  rw [List.mem_flatMap]
  refine ⟨d, ?_, ?_⟩
  · simp only [List.mem_cons, List.not_mem_nil, or_false]; omega
  · rw [List.mem_map]
    refine ⟨e, ?_, rfl⟩
    rw [List.mem_filter, List.mem_range]
    exact ⟨he, by simp [hkind, hsv, hsrc]⟩

/-- Keeping the UPD of the imported signals touches no sample. -/
theorem sysKeep_only (s : State) : (sysKeep s).sig.sys = s.sig.sys ∧ sysKeep s = { s with sig := (sysKeep s).sig } := by
  unfold sysKeep
  refine forEach_keeps (P := fun t => t.sig.sys = s.sig.sys ∧ t = { s with sig := t.sig }) (sysImports s) ?_ s ⟨rfl, rfl⟩
  rintro x - t ⟨hsys, hframe⟩
  exact ⟨hsys, by rw [hframe]⟩

/-- The samples taken at a grid instant join those on their way. -/
def sampled (s : State) : State :=
  sysKeep { s with sig := { s.sig with tick := some s.clk.tb0, sys := s.sig.sys ++ (sysImports s).map (sysTake s) } }

theorem exec_syssigSample {s : State} (hgrid : onGrid s 10000 0 = true) (hnew : ∀ y ∈ s.sig.sys, y.at1 ≠ tb3Tick s + 1000000) :
    exec .syssigSample s = .next (sampled s) := by
  have hfirst : (s.sig.sys.any fun y => decide (y.at1 = BitVec.ofNat 64 (tb3 s) + 1000000)) = false := by
    rw [List.any_eq_false]; exact fun y hy => by simpa [tb3Tick] using hnew y hy
  have heff : effSyssigSample s = sampled s := by unfold effSyssigSample; simp only [hgrid, hfirst, Bool.not_false, Bool.and_self, if_true]; rfl
  have hframe := (sysKeep_only { s with sig := { s.sig with tick := some s.clk.tb0, sys := s.sig.sys ++ (sysImports s).map (sysTake s) } }).2
  refine (run_next _ _).trans ?_
  rw [keepClk_eq_self, heff] <;> rw [heff, sampled, hframe]

theorem mem_sampled {s : State} {d e : Nat} (h : (d, e) ∈ sysImports s) : sysTake s (d, e) ∈ (sampled s).sig.sys := by
  unfold sampled
  rw [(sysKeep_only _).1]
  exact List.mem_append_right _ (List.mem_map_of_mem h)

/-- The input words of a loop lie below the signal entries of its die. -/
theorem loopIn_lt_sigAddr {g d i e : Nat} (hdie : loopDie g = d) (hd1 : 1 ≤ d) (hi : i < 8) : Reg.LP_LOOP_IN g i < sigAddr d e := by
  unfold sigAddr
  rw [if_neg (by omega), ← hdie]
  simp only [Reg.LP_LOOP_IN, lpAt, dieAt, winSize, loopDie]; omega

/-- Settles O38: each application is a write of one entry, and with nothing latched in its tick no latch is made again; the latch that is
made again reads the entry as written. -/
theorem valuesCrossBetweenDies : Obligations.ValuesCrossBetweenDies := by
  unfold Obligations.ValuesCrossBetweenDies
  intro d e s hd he a
  refine ⟨fun x hx => ⟨fun y q i hsnaps hdie hat0 hper hpc hdone hi hen hsel hd1 => ?_, fun hq => ?_, fun n hq => ?_⟩,
    fun hgrid hd1 hkind hsv hsrc hnew => ?_, fun x hq hx => ⟨?_, fun n => ?_⟩⟩
  · -- the latch of this tick, made again after the write
    have hmem := sigWrite_only he x.value x.instant (withExports (s.sig.exports.erase x) s)
    have hwords := sigWrite_words d e x.value x.instant (withExports (s.sig.exports.erase x) s)
    have heff := effExportApply_inTime (d := d) (e := e) (s := s) hx
    generalize sigWrite d e x.value x.instant (withExports (s.sig.exports.erase x) s) = u at hmem hwords heff
    obtain ⟨hvalue, -, -, -, hkept⟩ := hwords
    have hin : rd u (Reg.LP_LOOP_IN y.g i) = rd s (Reg.LP_LOOP_IN y.g i) :=
      rd_of_wordsKept_window hkept (.inl (loopIn_lt_sigAddr hdie hd1 hi))
    have hrelatch : relatch d u = relatchOne y u := by
      unfold relatch
      have : (engOf u d).snaps = [y] := by rw [← hsnaps, hmem]; rfl
      rw [this]; rfl
    obtain ⟨q', hq', hins⟩ := relatchOne_ins (y := y) (q := q) (s := u) (by rw [hat0, hmem]; rfl)
      (by rw [hmem]; exact hper) hpc hdone hi
    refine ⟨_, q', run_next _ _, ?_, ?_⟩
    · have : (sigAgain d u).loops = (relatchOne y u).loops := by
        unfold sigAgain
        rw [if_neg (by omega), trkAgain_loops, prbAgain_loops, hrelatch]
      rw [← hq']
      unfold loopOf
      rw [keepClk_loops, heff, this]
    · rw [hins]
      unfold inValue sigVal rdI
      rw [hin, hdie]
      have : bit (rd s (Reg.LP_LOOP_IN y.g i)) 31 = true := hen
      have hsel' : bits (rd s (Reg.LP_LOOP_IN y.g i)) 10 0 = e := hsel
      simp only [this, hsel', if_true, hvalue]
  · have hmem := sigWrite_only he x.value x.instant (withExports (s.sig.exports.erase x) s)
    obtain ⟨hvalue, hinst, hvalid, hupd, hkept⟩ := sigWrite_words d e x.value x.instant (withExports (s.sig.exports.erase x) s)
    obtain ⟨hsig, hframe⟩ := memoryAndSignals_only (s := s) rfl hmem
    exact ⟨_, exec_exportApply_inTime he hx hq, hvalue, hinst, hvalid, hupd, hsig, hframe, hkept⟩
  · exact ⟨_, exec_exportApply_late hx hq, rfl, raisedEvent_raise _ _ _ _ _, rfl⟩
  · refine ⟨sampled s, exec_syssigSample hgrid hnew, (sysKeep_only _).2, sysTake s (d, e),
      mem_sampled (mem_sysImports hd1 hd ?_ hkind hsv hsrc), rfl, rfl, rfl, rfl, rfl, ?_⟩
    · unfold sigCount at he; rwa [if_neg (by omega)] at he
    · show decide (_ ≠ _) = true ↔ _
      rw [decide_eq_true_iff]; exact ne_comm
  · have hmem := entryPut_only he x.value x.instant (importW1 s d e x) (withSamples (s.sig.sys.erase x) s)
    obtain ⟨-, hframe⟩ := memoryAndSignals_only (s := s) rfl hmem
    have ha := sigAddr_aligned d e
    refine ⟨_, exec_syssigImportApply_inTime he hx hq, rd_entryPut_value ha _ _ _ _, rd_entryPut_instant ha _ _ _ _, ?_, ?_, hframe,
      wordsKept_entryPut ha _ _ _ (withSamples (s.sig.sys.erase x) s)⟩
    · unfold rdB; rw [rd_entryPut_w1]; exact bit_validWord _ _ _
    · unfold rdF; rw [rd_entryPut_w1]; exact bits_updWord _ _ _
  · exact ⟨_, exec_syssigImportApply_late hx hq, raisedEvent_raise _ _ _ _ _, rfl⟩

/-! ### What judging the drive channels can touch (R285, R321, R322, R295) -/

/-- A status word of the drive dies: of the sequencer, the banks and the converters, or one past the settings of a channel. -/
def driveStatus (a : Nat) : Prop :=
  (a / winSize = 5 ∨ a / winSize = 6) ∧ 0x10000 ≤ a % winSize ∧ a % winSize < 0x60000
    ∧ (a % winSize / 0x10000 = 2 ∨ a % winSize / 0x10000 = 5 → 0x40 ≤ a % 0x100)

theorem driveStatus_isRegister {a : Nat} (h : driveStatus a) : usesMem a = false := by
  rw [usesMem_eq_false_iff]; unfold driveStatus winSize at *; omega

/-- Channel state beside the registers, words of the drive status and events: nothing else differs, and no event is taken back but one of
a motion channel's stalls and tach losses. -/
structure DriveFrame (s t : State) : Prop where
  frame : t = { s with regs := t.regs, hwset := t.hwset, log := t.log, drv := { s.drv with
    vch := t.drv.vch, waits := t.drv.waits, bst := t.drv.bst, mot := t.drv.mot } }
  words : ∀ a, ¬ driveStatus (wordBase a) → rd t a = rd s a
  raised : ∀ e ∈ s.log.raised, ¬ (0x0601 ≤ e.code ∧ e.code ≤ 0x0603) → e ∈ t.log.raised

theorem DriveFrame.refl (s : State) : DriveFrame s s := ⟨rfl, fun _ _ => rfl, fun _ h _ => h⟩
theorem DriveFrame.trans {s t u : State} (h : DriveFrame s t) (k : DriveFrame t u) : DriveFrame s u := by
  refine ⟨?_, fun a ha => (k.words a ha).trans (h.words a ha), fun e he hc => k.raised e (h.raised e he hc) hc⟩
  rw [k.frame, h.frame]

/-- Valve channel `x` keeps its state, its microcode word, its hold current and its claim; its path stays or goes to OFF_REC. -/
structure ValveKept (x : Nat) (s t : State) : Prop where
  state : vState t x = vState s x
  pc : (vOf t x).pc = (vOf s x).pc
  hold : (vOf t x).hold = (vOf s x).hold
  claim : (vOf t x).claim = (vOf s x).claim
  path : (vOf t x).path = (vOf s x).path ∨ (vOf t x).path = .offRec

theorem ValveKept.refl (x : Nat) (s : State) : ValveKept x s s := ⟨rfl, rfl, rfl, rfl, .inl rfl⟩
theorem ValveKept.trans {x : Nat} {s t u : State} (h : ValveKept x s t) (k : ValveKept x t u) : ValveKept x s u :=
  ⟨k.state.trans h.state, k.pc.trans h.pc, k.hold.trans h.hold, k.claim.trans h.claim, k.path.elim (fun e => e ▸ h.path) .inr⟩
theorem ValveKept.of_same {x : Nat} {s t : State} (hstate : vState t x = vState s x) (hv : vOf t x = vOf s x) : ValveKept x s t :=
  ⟨hstate, by rw [hv], by rw [hv], by rw [hv], .inl (by rw [hv])⟩

/-- Motion channel `x` keeps its state beside the registers, its status and its duty. -/
structure MotorKept (x : Nat) (s t : State) : Prop where
  chan : mOf t x = mOf s x
  stat : rd t (Reg.DR_MOT_STAT x) = rd s (Reg.DR_MOT_STAT x)
  speed : rd t (Reg.DR_MOT_SPEED x) = rd s (Reg.DR_MOT_SPEED x)

theorem MotorKept.refl (x : Nat) (s : State) : MotorKept x s s := ⟨rfl, rfl, rfl⟩
theorem MotorKept.trans {x : Nat} {s t u : State} (h : MotorKept x s t) (k : MotorKept x t u) : MotorKept x s u :=
  ⟨k.chan.trans h.chan, k.stat.trans h.stat, k.speed.trans h.speed⟩

/-- The one channel an operation acts on. -/
inductive Acts where
  | none | valve (x : Nat) | motor (x : Nat)

/-- An operation on one drive channel, or on none. -/
structure DriveStep (c : Acts) (s t : State) : Prop extends DriveFrame s t where
  valves : ∀ x, c ≠ .valve x → ValveKept x s t
  motors : ∀ x, c ≠ .motor x → MotorKept x s t

theorem DriveStep.refl (c : Acts) (s : State) : DriveStep c s s := ⟨.refl s, fun x _ => .refl x s, fun x _ => .refl x s⟩
theorem DriveStep.trans {c : Acts} {s t u : State} (h : DriveStep c s t) (k : DriveStep c t u) : DriveStep c s u :=
  ⟨h.toDriveFrame.trans k.toDriveFrame, fun x hx => (h.valves x hx).trans (k.valves x hx),
    fun x hx => (h.motors x hx).trans (k.motors x hx)⟩
/-- An operation on no channel is one on any. -/
theorem DriveStep.of_none {s t : State} (h : DriveStep .none s t) (c : Acts) : DriveStep c s t :=
  ⟨h.toDriveFrame, fun x _ => h.valves x nofun, fun x _ => h.motors x nofun⟩
theorem DriveStep.ite {c : Acts} {s t u : State} {p : Prop} [Decidable p] (h : DriveStep c s t) (k : DriveStep c s u) :
    DriveStep c s (if p then t else u) := by
  split
  · exact h
  · exact k

/-! #### The primitives -/

/-- A status word written: it is no valve's state and no motion channel's word but that of the channel acted on. -/
theorem driveStep_wr {c : Acts} {s : State} {a : Nat} (w : Word) (ha : driveStatus (wordBase a))
    (hv : ∀ x, c ≠ .valve x → vState (wr s a w) x = vState s x)
    (hm : ∀ x, c ≠ .motor x → wordBase a ≠ wordBase (Reg.DR_MOT_STAT x) ∧ wordBase a ≠ wordBase (Reg.DR_MOT_SPEED x)) :
    DriveStep c s (wr s a w) where
  frame := by rw [wr_register (driveStatus_isRegister ha)]
  words := fun b hb => rd_wr_ne s w fun e => hb (e ▸ ha)
  raised := fun e he _ => by rwa [wr_log]
  valves := fun x hx => .of_same (hv x hx) (by unfold vOf; rw [wr_drv])
  motors := fun x hx => ⟨by unfold mOf; rw [wr_drv], rd_wr_ne s w (hm x hx).1, rd_wr_ne s w (hm x hx).2⟩

theorem vState_wr_ne {a : Nat} (s : State) (w : Word) {x : Nat} (h : wordBase a ≠ wordBase (Reg.DR_VCH_STAT x)) :
    vState (wr s a w) x = vState s x := by
  unfold vState rdF; rw [rd_wr_ne s w h]

theorem driveStatus_vchStat {x : Nat} (hx : x < 24) : driveStatus (wordBase (Reg.DR_VCH_STAT x)) := by
  simp only [driveStatus, wordBase, Reg.DR_VCH_STAT, drAt, winSize]; omega
theorem vchStat_ne_vchStat {x y : Nat} (h : y ≠ x) : wordBase (Reg.DR_VCH_STAT y) ≠ wordBase (Reg.DR_VCH_STAT x) := by
  simp only [wordBase, Reg.DR_VCH_STAT, drAt, winSize]; omega
theorem vchStat_ne_mot (x y : Nat) : wordBase (Reg.DR_VCH_STAT y) ≠ wordBase (Reg.DR_MOT_STAT x)
    ∧ wordBase (Reg.DR_VCH_STAT y) ≠ wordBase (Reg.DR_MOT_SPEED x) := by
  simp only [wordBase, Reg.DR_VCH_STAT, Reg.DR_MOT_STAT, Reg.DR_MOT_SPEED, drAt, winSize]; omega

/-- The state of a valve channel is set. -/
theorem driveStep_vPut {x : Nat} (hx : x < 24) (st : Nat) (s : State) : DriveStep (.valve x) s (vPut x st s) :=
  driveStep_wr _ (driveStatus_vchStat hx) (fun _ hy => vState_wr_ne s _ (vchStat_ne_vchStat fun e => hy (e ▸ rfl)))
    fun y _ => vchStat_ne_mot y x

/-- A flag beside the state of a valve channel is set. -/
theorem driveStep_vchFlag {x : Nat} (hx : x < 24) {i : Nat} (hi : 4 ≤ i) (b : Bool) (s : State) :
    DriveStep .none s (wrB s (Reg.DR_VCH_STAT x) i b) := by
  refine driveStep_wr _ (driveStatus_vchStat hx) (fun y _ => ?_) fun y _ => vchStat_ne_mot y x
  by_cases hy : x = y
  · subst hy; exact rdF_wrB_field s _ i b 3 0 (by omega) (by omega)
  · exact vState_wr_ne s _ (vchStat_ne_vchStat hy)

theorem driveStep_vIset {x : Nat} (hx : x < 24) (i : Nat) (s : State) : DriveStep .none s (vIset x i s) := by
  refine driveStep_wr _ ?_ (fun y _ => vState_wr_ne s _ ?_) fun y _ => ?_ <;>
    simp only [driveStatus, wordBase, Reg.DR_VCH_I, Reg.DR_VCH_STAT, Reg.DR_MOT_STAT, Reg.DR_MOT_SPEED, drAt, winSize] <;> omega

theorem driveStep_bnkStat {b : Nat} (hb : b < 12) (n : Nat) (s : State) : DriveStep .none s (wrN s (Reg.DR_BNK_STAT b) n) := by
  refine driveStep_wr _ ?_ (fun y _ => vState_wr_ne s _ ?_) fun y _ => ?_ <;>
    simp only [driveStatus, wordBase, Reg.DR_BNK_STAT, Reg.DR_VCH_STAT, Reg.DR_MOT_STAT, Reg.DR_MOT_SPEED, drAt, winSize] <;> omega

theorem driveStep_seqStat {d : Nat} (hd : d = 5 ∨ d = 6) (i : Nat) (b : Bool) (s : State) :
    DriveStep .none s (wrB s (Reg.DR_SEQ_STAT d) i b) := by
  refine driveStep_wr _ ?_ (fun y _ => vState_wr_ne s _ ?_) fun y _ => ?_ <;>
    simp only [driveStatus, wordBase, Reg.DR_SEQ_STAT, Reg.DR_VCH_STAT, Reg.DR_MOT_STAT, Reg.DR_MOT_SPEED, drAt, dieAt, winSize] <;> omega

theorem driveStep_bstStat {k : Nat} (hk : k < 4) (i : Nat) (b : Bool) (s : State) :
    DriveStep .none s (wrB s (Reg.DR_BST_STAT k) i b) := by
  refine driveStep_wr _ ?_ (fun y _ => vState_wr_ne s _ ?_) fun y _ => ?_ <;>
    simp only [driveStatus, wordBase, Reg.DR_BST_STAT, Reg.DR_VCH_STAT, Reg.DR_MOT_STAT, Reg.DR_MOT_SPEED, drAt, winSize] <;> omega

/-- The four status words of a motion channel. -/
def motWord (x a : Nat) : Prop :=
  a = Reg.DR_MOT_STAT x ∨ a = Reg.DR_MOT_SPEED x ∨ a = Reg.DR_MOT_STALL_CNT x ∨ a = Reg.DR_MOT_TL_CNT x

theorem driveStep_motWord {x : Nat} (hx : x < 16) {a : Nat} (ha : motWord x a) (w : Word) (s : State) :
    DriveStep (.motor x) s (wr s a w) := by
  refine driveStep_wr w ?_ (fun y _ => vState_wr_ne s _ ?_) fun y hy => ?_
  · rcases ha with rfl | rfl | rfl | rfl <;>
      simp only [driveStatus, wordBase, Reg.DR_MOT_STAT, Reg.DR_MOT_SPEED, Reg.DR_MOT_STALL_CNT, Reg.DR_MOT_TL_CNT, drAt, winSize] <;>
      omega
  · rcases ha with rfl | rfl | rfl | rfl <;>
      simp only [wordBase, Reg.DR_VCH_STAT, Reg.DR_MOT_STAT, Reg.DR_MOT_SPEED, Reg.DR_MOT_STALL_CNT, Reg.DR_MOT_TL_CNT, drAt, winSize] <;>
      omega
  · have hne : x ≠ y := fun e => hy (e ▸ rfl)
    rcases ha with rfl | rfl | rfl | rfl <;>
      simp only [wordBase, Reg.DR_MOT_STAT, Reg.DR_MOT_SPEED, Reg.DR_MOT_STALL_CNT, Reg.DR_MOT_TL_CNT, drAt, winSize] <;> omega

/-- Valve channel state replaced. -/
theorem driveStep_vSet (x : Nat) (v : VchSt) (s : State) : DriveStep (.valve x) s (vSet s x v) where
  frame := rfl
  words := fun _ _ => rfl
  raised := fun _ h _ => h
  valves := fun _ hy => .of_same rfl (vOf_vSet_ne s v fun e => hy (e ▸ rfl))
  motors := fun _ _ => ⟨rfl, rfl, rfl⟩

/-- Valve channel state replaced but for what counts. -/
theorem driveStep_vSet_kept {x : Nat} {v : VchSt} {s : State} (hpc : v.pc = (vOf s x).pc) (hhold : v.hold = (vOf s x).hold)
    (hclaim : v.claim = (vOf s x).claim) (hpath : v.path = (vOf s x).path ∨ v.path = .offRec) : DriveStep .none s (vSet s x v) where
  frame := rfl
  words := fun _ _ => rfl
  raised := fun _ h _ => h
  valves := fun y _ => by
    by_cases hy : x = y
    · subst hy; exact ⟨rfl, by simp [hpc], by simp [hhold], by simp [hclaim], by simpa using hpath⟩
    · exact .of_same rfl (vOf_vSet_ne s v hy)
  motors := fun _ _ => ⟨rfl, rfl, rfl⟩

theorem driveStep_mSet (x : Nat) (v : MotSt) (s : State) : DriveStep (.motor x) s (mSet s x v) where
  frame := rfl
  words := fun _ _ => rfl
  raised := fun _ h _ => h
  valves := fun _ _ => .of_same rfl rfl
  motors := fun _ hy => ⟨mOf_mSet_ne s v fun e => hy (e ▸ rfl), rfl, rfl⟩

theorem driveStep_bstSet (k : Nat) (v : BstSt) (s : State) : DriveStep .none s (bstSet s k v) :=
  ⟨⟨rfl, fun _ _ => rfl, fun _ h _ => h⟩, fun _ _ => .of_same rfl rfl, fun _ _ => ⟨rfl, rfl, rfl⟩⟩
theorem driveStep_vUnwait (x : Nat) (s : State) : DriveStep .none s (vUnwait x s) :=
  ⟨⟨rfl, fun _ _ => rfl, fun _ h _ => h⟩, fun _ _ => .of_same rfl rfl, fun _ _ => ⟨rfl, rfl, rfl⟩⟩
theorem driveStep_raise (code unit : Nat) (p0 p1 : Word) (s : State) : DriveStep .none s (raise code unit p0 p1 s) :=
  ⟨⟨rfl, fun _ _ => rfl, fun _ h _ => mem_raise h⟩, fun _ _ => .of_same rfl rfl, fun _ _ => ⟨rfl, rfl, rfl⟩⟩

/-! #### Valve channels and banks -/

/-- A valve channel that follows the other one of its bank, `fb` in LS_FALLBACK (R287, R293). -/
def vFollowed (x : Nat) (fb good : Bool) (s : State) : State :=
  vSet s x { vOf s x with
    path := if fb ∧ (vOf s x).path = .freewheel then .offRec else (vOf s x).path,
    clean := if good then (if (vOf s x).clean.isSome then (vOf s x).clean else some s.clk.tb0) else none }

theorem driveStep_vFollowed (x : Nat) (fb good : Bool) (s : State) : DriveStep .none s (vFollowed x fb good s) := by
  refine driveStep_vSet_kept rfl rfl rfl ?_
  split
  · exact .inr rfl
  · exact .inl rfl

theorem vFollow_eq (x : Nat) (s : State) :
    ∃ fb good, vFollow x s = vFollowed x fb good (wrB s (Reg.DR_VCH_STAT x) 5 fb) := ⟨_, _, rfl⟩

theorem driveStep_vFollow {x : Nat} (hx : x < 24) (s : State) : DriveStep .none s (vFollow x s) := by
  obtain ⟨fb, good, h⟩ := vFollow_eq x s
  rw [h]
  exact (driveStep_vchFlag hx (i := 5) (by omega) fb s).trans (driveStep_vFollowed x fb good _)

theorem driveStep_bankRefresh {b : Nat} (hb : b < 12) (s : State) : DriveStep .none s (bankRefresh b s) := by
  have hdie : vDie (2 * b) = 5 ∨ vDie (2 * b) = 6 := by unfold vDie; omega
  have hput : ∀ i j p q u, DriveStep .none u (wrB (wrB u (Reg.DR_SEQ_STAT (vDie (2 * b))) i p) (Reg.DR_SEQ_STAT (vDie (2 * b))) j q) :=
    fun i j p q u => (driveStep_seqStat hdie i p u).trans (driveStep_seqStat hdie j q _)
  exact (driveStep_vFollow (by omega) s).trans <| (driveStep_vFollow (by omega) _).trans <| (driveStep_bnkStat hb _ _).trans <|
    (hput _ _ _ _ _).trans (hput _ _ _ _ _)

theorem driveStep_vUnderate {x : Nat} (hx : x < 24) (s : State) : DriveStep .none s (vUnderate x s) :=
  .ite ((driveStep_vchFlag hx (i := 4) (by omega) false s).trans (driveStep_raise _ _ _ _ _)) (.refl _ s)

theorem driveStep_vStop {x : Nat} (hx : x < 24) (s : State) : DriveStep (.valve x) s (vStop x s) :=
  (((driveStep_vUnwait x s).trans (driveStep_vIset hx 0 _)).trans (driveStep_vUnderate hx _)).of_none _ |>.trans
    (driveStep_vSet x _ _)

/-- Forcing of a valve channel (R285) touches no other channel. -/
theorem driveStep_vForce {x : Nat} (hx : x < 24) (s : State) : DriveStep (.valve x) s (vForce x s) := by
  have hbank : ∀ u, DriveStep (.valve x) u (bankRefresh (vBank x) u) :=
    fun u => (driveStep_bankRefresh (by unfold vBank; omega) u).of_none _
  refine .ite (.ite (.ite (.refl _ s) ?_) (.ite ?_ (.refl _ s))) (.refl _ s)
  · exact (((driveStep_vStop hx s).trans (driveStep_vPut hx 8 _)).trans
      ((driveStep_vchFlag hx (by omega) false _).of_none _)).trans (hbank _)
  · exact (driveStep_vPut hx _ s).trans (hbank _)

/-! #### Motion channels -/

/-- Events of a motion channel's stall or tach loss taken back. -/
theorem driveStep_forget {c : Acts} {p : Ev → Bool} (hp : ∀ e : Ev, ¬ (0x0601 ≤ e.code ∧ e.code ≤ 0x0603) → p e = true) (u : State) :
    DriveStep c u { u with log := { u.log with raised := u.log.raised.filter p } } where
  frame := rfl
  words := fun _ _ => rfl
  raised := fun e he hc => List.mem_filter.mpr ⟨he, hp e hc⟩
  valves := fun _ _ => .of_same rfl rfl
  motors := fun _ _ => ⟨rfl, rfl, rfl⟩

section
variable {x : Nat} (hx : x < 16) (s : State)
include hx

theorem driveStep_motStat (w : Word) : DriveStep (.motor x) s (wr s (Reg.DR_MOT_STAT x) w) :=
  driveStep_motWord hx (.inl rfl) w s
theorem driveStep_mPutD (n : Nat) : DriveStep (.motor x) s (mPutD x n s) := driveStep_motWord hx (.inr (.inl rfl)) _ s
theorem driveStep_mArm (b : Bool) : DriveStep (.motor x) s (mArm x b s) := driveStep_motStat hx s _
theorem driveStep_mFault (c : Nat) : DriveStep (.motor x) s (mFault x c s) := driveStep_motStat hx s _
theorem driveStep_mRefresh : DriveStep (.motor x) s (mRefresh x s) :=
  (driveStep_motStat hx s _).trans (driveStep_motStat hx _ _)

omit hx in
theorem driveStep_mLeave : DriveStep (.motor x) s (mLeave x s) := .ite ((driveStep_raise _ _ _ _ s).of_none _) (.refl _ s)

theorem driveStep_mUnmark : DriveStep (.motor x) s (mUnmark x s) := by
  unfold mUnmark
  split
  · exact .refl _ s
  · refine .ite (.refl _ s) ?_
    refine (driveStep_motStat hx s _).trans <| (driveStep_motWord hx (.inr (.inr (.inl rfl))) _ _).trans <|
      (driveStep_motWord hx (.inr (.inr (.inr rfl))) _ _).trans <| (DriveStep.trans (driveStep_forget ?_ _) (driveStep_mSet x _ _))
    intro e he
    simp only [Bool.not_eq_true', decide_eq_false_iff_not]
    exact fun h => he ⟨h.2.2.1, h.2.2.2.1⟩

theorem driveStep_mIdle : DriveStep (.motor x) s (mIdle x s) :=
  (driveStep_mLeave s).trans <| (driveStep_mSet x _ _).trans <| (driveStep_mPutD hx _ 0).trans <| (driveStep_mFault hx _ 0).trans <|
    (driveStep_motStat hx _ _).trans (driveStep_mRefresh hx _)
theorem driveStep_mKick : DriveStep (.motor x) s (mKick x s) :=
  (driveStep_mSet x _ s).trans <| (driveStep_mPutD hx _ _).trans (driveStep_mRefresh hx _)
theorem driveStep_mDutyTo (n : Nat) : DriveStep (.motor x) s (mDutyTo x n s) :=
  .ite (driveStep_mKick hx s) ((driveStep_mPutD hx s n).trans (driveStep_mRefresh hx _))

/-- The safe value entered (R322). -/
theorem driveStep_mSafeEnter : DriveStep (.motor x) s (mSafeEnter x s) :=
  .ite (.refl _ s) <| .ite (driveStep_mIdle hx s) <| .ite (driveStep_mKick hx s) <| .ite (driveStep_mDutyTo hx s _) <|
    .ite ((driveStep_mLeave s).trans ((driveStep_mSet x _ _).trans (driveStep_mDutyTo hx _ _))) (driveStep_mRefresh hx s)

theorem driveStep_mSafeSync : DriveStep (.motor x) s (mSafeSync x s) :=
  .ite ((driveStep_mSet x _ s).trans <| .ite (driveStep_mSafeEnter hx _) <| .ite (driveStep_mIdle hx _) (driveStep_mRefresh hx _))
    (.refl _ s)

/-- Forcing of a motion channel (R321) touches no other channel. -/
theorem driveStep_mForce : DriveStep (.motor x) s (mForce x s) := by
  refine .ite (.ite (.refl _ s) (.ite ?_ ?_)) (.refl _ s)
  · exact (driveStep_mUnmark hx s).trans <| (driveStep_mLeave _).trans <| (driveStep_mSet x _ _).trans <|
      (driveStep_mPutD hx _ 0).trans (driveStep_mRefresh hx _)
  · refine (driveStep_mSet x _ s).trans <| .trans (.ite (driveStep_mRefresh hx _) (driveStep_mIdle hx _)) <|
      .trans (.ite (.refl _ _) (driveStep_mArm hx _ false)) (.ite (driveStep_mSafeEnter hx _) (.refl _ _))

end

/-! #### All channels judged -/

theorem driveStep_bstJudge (s : State) : DriveStep .none s (bstJudge s) := by
  unfold bstJudge
  exact forEach_keeps (P := DriveStep .none s) _ (fun k hk t ht => ht.trans <| .ite (.refl _ t)
    ((driveStep_bstStat (List.mem_range.mp hk) 31 false t).trans (driveStep_bstSet k _ _))) s (.refl _ s)

/-- The motion channels judged, each forced first. -/
def motJudge (s : State) : State := forEach (List.range 16) (fun x s => mSafeSync x (mForce x s)) s

theorem driveJudge_eq (s : State) : driveJudge s = bstJudge (motJudge (vForceAll s)) := rfl

theorem driveFrame_vForceAll (s : State) : DriveFrame s (vForceAll s) := by
  unfold vForceAll
  exact forEach_keeps (P := DriveFrame s) _
    (fun x hx t ht => ht.trans (driveStep_vForce (List.mem_range.mp hx) t).toDriveFrame) s (.refl s)

theorem driveFrame_motJudge (s : State) : DriveFrame s (motJudge s) := by
  unfold motJudge
  exact forEach_keeps (P := DriveFrame s) _ (fun x hx t ht => ht.trans
    ((driveStep_mForce (List.mem_range.mp hx) t).trans (driveStep_mSafeSync (List.mem_range.mp hx) _)).toDriveFrame) s (.refl s)

/-- Judging the drive channels changes channel state, drive status and events, no more. -/
theorem driveFrame_driveJudge (s : State) : DriveFrame s (driveJudge s) :=
  ((driveFrame_vForceAll s).trans (driveFrame_motJudge _)).trans (driveStep_bstJudge _).toDriveFrame

/-- Judging the motion channels leaves every valve channel alone. -/
theorem valveKept_motJudge (x : Nat) (s : State) : ValveKept x s (motJudge s) := by
  unfold motJudge
  exact forEach_keeps (P := ValveKept x s) _ (fun y hy t ht => ht.trans
    (((driveStep_mForce (List.mem_range.mp hy) t).trans (driveStep_mSafeSync (List.mem_range.mp hy) _)).valves x nofun)) s (.refl x s)

/-- Forcing the valve channels leaves every motion channel alone. -/
theorem motorKept_vForceAll (x : Nat) (s : State) : MotorKept x s (vForceAll s) := by
  unfold vForceAll
  exact forEach_keeps (P := MotorKept x s) _
    (fun y hy t ht => ht.trans ((driveStep_vForce (List.mem_range.mp hy) t).motors x nofun)) s (.refl x s)

/-! ### Forcing (R285, R310, R321) -/

/-- The settings and the stimuli of the drive are no words of its status. -/
theorem vchCfg_kept {s t : State} (h : DriveFrame s t) (x : Nat) : rd t (Reg.DR_VCH_CFG x) = rd s (Reg.DR_VCH_CFG x) := by
  refine h.words _ ?_
  simp only [driveStatus, wordBase, Reg.DR_VCH_CFG, drAt, winSize]; omega
theorem motCfg_kept {s t : State} (h : DriveFrame s t) (x : Nat) : rd t (Reg.DR_MOT_CFG x) = rd s (Reg.DR_MOT_CFG x) := by
  refine h.words _ ?_
  simp only [driveStatus, wordBase, Reg.DR_MOT_CFG, drAt, winSize]; omega
theorem ilk_kept {s t : State} (h : DriveFrame s t) {d a : Nat} (ha : Reg.DR_ILK_CFG d ≤ a ∧ a < Reg.DR_ILK_CFG d + 20) : rd t a = rd s a := by
  refine h.words _ ?_
  simp only [driveStatus, wordBase, Reg.DR_ILK_CFG, dieAt, winSize] at *; omega

/-- The words of the interlock of a die lie in a window of 20 bytes. -/
theorem ilkCfg2_eq (d : Nat) : Reg.DR_ILK_CFG2 d = Reg.DR_ILK_CFG d + 4 := by simp only [Reg.DR_ILK_CFG2, Reg.DR_ILK_CFG, dieAt, Nat.add_assoc]
theorem ilkStat_eq (d : Nat) : Reg.DR_ILK_STAT d = Reg.DR_ILK_CFG d + 8 := by simp only [Reg.DR_ILK_STAT, Reg.DR_ILK_CFG, dieAt, Nat.add_assoc]
theorem ilkTripCnt_eq (d : Nat) : Reg.DR_ILK_TRIP_CNT d = Reg.DR_ILK_CFG d + 12 := by
  simp only [Reg.DR_ILK_TRIP_CNT, Reg.DR_ILK_CFG, dieAt, Nat.add_assoc]
theorem ilkTs_eq (d : Nat) : Reg.DR_ILK_TS d = Reg.DR_ILK_CFG d + 16 := by simp only [Reg.DR_ILK_TS, Reg.DR_ILK_CFG, dieAt, Nat.add_assoc]
theorem ilkCfg_aligned (d : Nat) : Reg.DR_ILK_CFG d % 4 = 0 := by simp only [Reg.DR_ILK_CFG, dieAt, winSize]; omega

/-- What forces a channel stands when the drive channels are judged. -/
theorem DriveFrame.driveRailBad {s t : State} (h : DriveFrame s t) : driveRailBad t = driveRailBad s := by
  unfold Machine.driveRailBad rdB
  rw [h.words Reg.SV_PWR_STAT (by simp [driveStatus, wordBase, Reg.SV_PWR_STAT, winSize])]
theorem DriveFrame.devState {s t : State} (h : DriveFrame s t) : devState t = devState s := by
  unfold Machine.devState rdF
  rw [h.words Reg.SV_BOOT_STAT (by simp [driveStatus, wordBase, Reg.SV_BOOT_STAT, winSize])]
theorem DriveFrame.ilkForces {s t : State} (h : DriveFrame s t) {d cfg : Nat} (i : Nat)
    (hcfg : Reg.DR_ILK_CFG d ≤ cfg ∧ cfg < Reg.DR_ILK_CFG d + 20) : ilkForces t d cfg i = ilkForces s d cfg i := by
  unfold Machine.ilkForces
  rw [ilk_kept h hcfg, ilk_kept h (d := d) (a := Reg.DR_ILK_STAT d) (by rw [ilkStat_eq]; omega)]
theorem DriveFrame.seqOff {s t : State} (h : DriveFrame s t) : t.drv.seqOff = s.drv.seqOff := by rw [h.frame]
theorem DriveFrame.vForcedNow {s t : State} (h : DriveFrame s t) (x : Nat) : vForcedNow t x = vForcedNow s x := by
  unfold Machine.vForcedNow
  rw [h.devState, h.seqOff, h.driveRailBad, h.ilkForces _ ⟨Nat.le_refl _, by omega⟩]
theorem DriveFrame.mForcedNow {s t : State} (h : DriveFrame s t) (x : Nat) : mForcedNow t x = mForcedNow s x := by
  unfold Machine.mForcedNow
  rw [h.driveRailBad, h.ilkForces _ (by rw [ilkCfg2_eq]; omega)]

/-! #### Valve channels -/

/-- An enabled valve channel not yet forced, with a cause to be (R285). -/
structure ValveDue (x : Nat) (s : State) : Prop where
  enabled : rdB s (Reg.DR_VCH_CFG x) 31 = true
  checked : vState s x ≠ 9
  free : vState s x ≠ 8
  cause : vForcedNow s x = true

/-- A valve channel in FORCED at OFF_REC with nothing running. -/
structure ValveForced (x : Nat) (t : State) : Prop where
  state : vState t x = 8
  pc : (vOf t x).pc = none
  path : (vOf t x).path = .offRec
  hold : (vOf t x).hold = 0
  claim : (vOf t x).claim = false

theorem ValveDue.kept {x : Nat} {s t : State} (h : ValveDue x s) (hf : DriveFrame s t) (hk : ValveKept x s t) : ValveDue x t :=
  ⟨by unfold rdB; rw [vchCfg_kept hf]; exact h.enabled, by rw [hk.state]; exact h.checked, by rw [hk.state]; exact h.free,
    by rw [hf.vForcedNow]; exact h.cause⟩
theorem ValveForced.kept {x : Nat} {s t : State} (h : ValveForced x s) (hk : ValveKept x s t) : ValveForced x t :=
  ⟨hk.state.trans h.state, hk.pc.trans h.pc, hk.path.elim (fun e => e.trans h.path) id, hk.hold.trans h.hold, hk.claim.trans h.claim⟩

theorem vForce_eq_of_due {x : Nat} {s : State} (h : ValveDue x s) :
    vForce x s = bankRefresh (vBank x) (wrB (vPut x 8 (vStop x s)) (Reg.DR_VCH_STAT x) 7 false) := by
  unfold vForce
  simp [h.enabled, h.checked, h.free, h.cause]

/-- What stopping a channel leaves of it. -/
theorem vOf_vStop (x : Nat) (s : State) : (vOf (vStop x s) x).pc = none ∧ (vOf (vStop x s) x).path = .offRec
    ∧ (vOf (vStop x s) x).hold = 0 ∧ (vOf (vStop x s) x).claim = false := by
  unfold vStop
  simp

theorem valveForced_vForce {x : Nat} (hx : x < 24) {s : State} (h : ValveDue x s) : ValveForced x (vForce x s) := by
  rw [vForce_eq_of_due h]
  obtain ⟨hpc, hpath, hhold, hclaim⟩ := vOf_vStop x s
  generalize vStop x s = u at hpc hpath hhold hclaim
  have hput : ValveForced x (vPut x 8 u) := by
    have hv : vOf (vPut x 8 u) x = vOf u x := vOf_wr u _ x _
    exact ⟨rdF_wrF_same u _ 3 0 8 (by omega) (by omega), hv ▸ hpc, hv ▸ hpath, hv ▸ hhold, hv ▸ hclaim⟩
  exact (hput.kept ((driveStep_vchFlag hx (by omega) false _).valves x nofun)).kept
    ((driveStep_bankRefresh (by unfold vBank; omega) _).valves x nofun)

theorem valveForced_vForceAll {x : Nat} (hx : x < 24) {s : State} (h : ValveDue x s) : ValveForced x (vForceAll s) := by
  unfold vForceAll
  have hstep : ∀ y ∈ List.range 24, ∀ t, DriveStep (.valve y) t (vForce y t) := fun y hy t => driveStep_vForce (List.mem_range.mp hy) t
  have hkept : ∀ y ∈ List.range 24, y ≠ x → ∀ t, ValveKept x t (vForce y t) :=
    fun y hy hne t => (hstep y hy t).valves x fun e => hne (by cases e; rfl)
  exact forEach_establishes (Pre := ValveDue x) (Post := ValveForced x) (List.range 24) (List.mem_range.mpr hx) List.nodup_range
    (fun y hy hne t ht => ht.kept (hstep y hy t).toDriveFrame (hkept y hy hne t)) (fun _ ht => valveForced_vForce hx ht)
    (fun y hy hne t ht => ht.kept (hkept y hy hne t)) s h

/-- Every valve channel due is forced at once (R285, R310). -/
theorem valveForced_driveJudge {x : Nat} (hx : x < 24) {s : State} (h : ValveDue x s) : ValveForced x (driveJudge s) := by
  rw [driveJudge_eq]
  exact ((valveForced_vForceAll hx h).kept (valveKept_motJudge x _)).kept ((driveStep_bstJudge _).valves x nofun)

/-! #### Motion channels -/

/-- An enabled motion channel not yet forced, with a cause to be (R321). -/
structure MotorDue (x : Nat) (s : State) : Prop where
  enabled : rdB s (Reg.DR_MOT_CFG x) 31 = true
  checked : (mOf s x).ph ≠ 8
  free : (mOf s x).forced = false
  cause : mForcedNow s x = true

/-- A motion channel in FORCED at duty 0. -/
structure MotorForced (x : Nat) (t : State) : Prop where
  checked : (mOf t x).ph ≠ 8
  forced : (mOf t x).forced = true
  duty : mDuty t x = 0
  state : rdF t (Reg.DR_MOT_STAT x) 3 0 = 7

theorem MotorDue.kept {x : Nat} {s t : State} (h : MotorDue x s) (hf : DriveFrame s t) (hk : MotorKept x s t) : MotorDue x t :=
  ⟨by unfold rdB; rw [motCfg_kept hf]; exact h.enabled, by rw [hk.chan]; exact h.checked, by rw [hk.chan]; exact h.free,
    by rw [hf.mForcedNow]; exact h.cause⟩
theorem MotorForced.kept {x : Nat} {s t : State} (h : MotorForced x s) (hk : MotorKept x s t) : MotorForced x t :=
  ⟨by rw [hk.chan]; exact h.checked, by rw [hk.chan]; exact h.forced, by unfold mDuty rdF; rw [hk.speed]; exact h.duty,
    by unfold rdF; rw [hk.stat]; exact h.state⟩

theorem rdF_mRefresh (x : Nat) (s : State) : rdF (mRefresh x s) (Reg.DR_MOT_STAT x) 3 0 = mStateNow s x % 16 := by
  unfold mRefresh
  exact (rdF_wrB_field _ _ 6 _ 3 0 (by omega) (by omega)).trans (rdF_wrF_same s _ 3 0 _ (by omega) (by omega))
theorem mOf_mRefresh (x : Nat) (s : State) : mOf (mRefresh x s) x = mOf s x := (mOf_wr _ _ x _).trans (mOf_wr s _ x _)
theorem mDuty_mRefresh (x : Nat) (s : State) : mDuty (mRefresh x s) x = mDuty s x := by
  have hne : wordBase (Reg.DR_MOT_STAT x) ≠ wordBase (Reg.DR_MOT_SPEED x) := by
    simp only [wordBase, Reg.DR_MOT_STAT, Reg.DR_MOT_SPEED, drAt, winSize]; omega
  unfold mDuty mRefresh rdF
  rw [rd_wrB_ne _ _ _ hne, rd_wrF_ne _ _ _ _ hne]

theorem motorForced_mRefresh {x : Nat} {s : State} (hcfg : mCfg s x 31 = true) (hchecked : (mOf s x).ph ≠ 8)
    (hforced : (mOf s x).forced = true) (hduty : mDuty s x = 0) : MotorForced x (mRefresh x s) := by
  have hst : mStateNow s x = 7 := by unfold mStateNow; simp [hcfg, hchecked, hforced]
  exact ⟨by rw [mOf_mRefresh]; exact hchecked, by rw [mOf_mRefresh]; exact hforced, by rw [mDuty_mRefresh]; exact hduty,
    by rw [rdF_mRefresh, hst]⟩

/-- The channel as forcing leaves it before its state is shown anew. -/
def mForcedRaw (x : Nat) (s : State) : State :=
  mPutD x 0 (mSet s x { mOf s x with
    forced := true, ph := if (mOf s x).ph = 5 then 5 else 0, slow := none, locked := none, ok := none })

theorem mForce_eq_of_due {x : Nat} {s : State} (h : MotorDue x s) :
    mForce x s = mRefresh x (mForcedRaw x (mLeave x (mUnmark x s))) := by
  have hcfg : mCfg s x 31 = true := h.enabled
  unfold mForce
  simp only [hcfg, h.checked, h.free, h.cause, ne_eq, not_false_eq_true, decide_true, Bool.and_self, if_true, Bool.true_eq_false,
    if_false]
  rfl

theorem motorForced_mForce {x : Nat} (hx : x < 16) {s : State} (h : MotorDue x s) : MotorForced x (mForce x s) := by
  rw [mForce_eq_of_due h]
  have hframe := ((driveStep_mUnmark hx s).trans (driveStep_mLeave (x := x) _)).toDriveFrame
  generalize mLeave x (mUnmark x s) = u at hframe
  have hraw : DriveFrame u (mForcedRaw x u) := ((driveStep_mSet x _ u).trans (driveStep_mPutD hx _ 0)).toDriveFrame
  have hchan : mOf (mForcedRaw x u) x = { mOf u x with
      forced := true, ph := if (mOf u x).ph = 5 then 5 else 0, slow := none, locked := none, ok := none } :=
    (mOf_wr _ _ x _).trans (mOf_mSet_same u x _)
  refine motorForced_mRefresh ?_ ?_ ?_ (rdF_wrF_same _ _ 15 0 0 (by omega) (by omega))
  · unfold mCfg rdB; rw [motCfg_kept (hframe.trans hraw)]; exact h.enabled
  · rw [hchan]; dsimp only; split <;> omega
  · rw [hchan]

/-- A forced channel stays forced when its safe value is judged (R321, R322). -/
theorem motorForced_mSafeSync {x : Nat} {s : State} (h : MotorForced x s) : MotorForced x (mSafeSync x s) := by
  unfold mSafeSync
  split
  · next hon =>
    have hcfg : mCfg s x 31 = true := (Bool.and_eq_true_iff.mp hon).1
    have hset : ∀ b, MotorForced x (mSet s x { mOf s x with sv := b }) := fun b =>
      ⟨by rw [mOf_mSet_same]; exact h.checked, by rw [mOf_mSet_same]; exact h.forced, h.duty, h.state⟩
    dsimp only
    split
    · unfold mSafeEnter
      rw [if_pos (.inl (hset _).forced)]
      exact hset _
    · rw [if_neg (by simp [h.forced])]
      exact motorForced_mRefresh hcfg (hset _).checked (hset _).forced (hset _).duty
  · exact h

theorem motorForced_motJudge {x : Nat} (hx : x < 16) {s : State} (h : MotorDue x s) : MotorForced x (motJudge s) := by
  unfold motJudge
  have hstep : ∀ y ∈ List.range 16, ∀ t, DriveStep (.motor y) t (mSafeSync y (mForce y t)) := fun y hy t =>
    (driveStep_mForce (List.mem_range.mp hy) t).trans (driveStep_mSafeSync (List.mem_range.mp hy) _)
  have hkept : ∀ y ∈ List.range 16, y ≠ x → ∀ t, MotorKept x t (mSafeSync y (mForce y t)) :=
    fun y hy hne t => (hstep y hy t).motors x fun e => hne (by cases e; rfl)
  exact forEach_establishes (Pre := MotorDue x) (Post := MotorForced x) (List.range 16) (List.mem_range.mpr hx) List.nodup_range
    (fun y hy hne t ht => ht.kept (hstep y hy t).toDriveFrame (hkept y hy hne t))
    (fun _ ht => motorForced_mSafeSync (motorForced_mForce hx ht)) (fun y hy hne t ht => ht.kept (hkept y hy hne t)) s h

/-- Every motion channel due is forced at once (R310, R321). -/
theorem motorForced_driveJudge {x : Nat} (hx : x < 16) {s : State} (h : MotorDue x s) : MotorForced x (driveJudge s) := by
  rw [driveJudge_eq]
  exact (motorForced_motJudge hx (h.kept (driveFrame_vForceAll s) (motorKept_vForceAll x s))).kept ((driveStep_bstJudge _).motors x nofun)

/-! ### The interlock (R309 to R311) -/

/-- Words of a die's interlock inputs, marks and events: nothing else differs. -/
structure IlkStep (d : Nat) (s t : State) : Prop where
  only : t = { s with regs := t.regs, hwset := t.hwset, log := t.log }
  words : ∀ a, a < Reg.DR_ILK_CFG d + 8 ∨ Reg.DR_ILK_CFG d + 20 ≤ a → rd t a = rd s a
  raised : ∀ e ∈ s.log.raised, e ∈ t.log.raised

theorem IlkStep.refl (d : Nat) (s : State) : IlkStep d s s := ⟨rfl, fun _ _ => rfl, fun _ h => h⟩
theorem IlkStep.trans {d : Nat} {s t u : State} (h : IlkStep d s t) (k : IlkStep d t u) : IlkStep d s u :=
  ⟨by rw [k.only, h.only], fun a ha => (k.words a ha).trans (h.words a ha), fun e he => k.raised e (h.raised e he)⟩

section
variable {d a : Nat} (ha : Reg.DR_ILK_CFG d + 8 ≤ a ∧ a < Reg.DR_ILK_CFG d + 20)
include ha

theorem ilk_isRegister : usesMem (wordBase a) = false := by
  rw [usesMem_eq_false_iff]
  simp only [wordBase, Reg.DR_ILK_CFG, dieAt, winSize] at *; omega
theorem ilk_outside {b : Nat} (hb : b < Reg.DR_ILK_CFG d + 8 ∨ Reg.DR_ILK_CFG d + 20 ≤ b) : wordBase a ≠ wordBase b := by
  have := ilkCfg_aligned d
  unfold wordBase; omega

theorem ilkStep_wr (w : Word) (s : State) : IlkStep d s (wr s a w) where
  only := by rw [wr_register (ilk_isRegister ha)]
  words := fun b hb => rd_wr_ne s w (ilk_outside ha hb)
  raised := fun e he => by rwa [wr_log]
theorem ilkStep_wrB (i : Nat) (v : Bool) (s : State) : IlkStep d s (wrB s a i v) := ilkStep_wr ha _ s
theorem ilkStep_hwSet (i : Nat) (s : State) : IlkStep d s (hwSet s a i) :=
  (ilkStep_wrB ha i true s).trans ⟨rfl, fun _ _ => rfl, fun _ h => h⟩
omit ha in
theorem ilkStep_raise (code unit : Nat) (p0 p1 : Word) (s : State) : IlkStep d s (raise code unit p0 p1 s) :=
  ⟨rfl, fun _ _ => rfl, fun _ h => mem_raise h⟩
theorem ilkStep_count31 (s : State) : IlkStep d s (count31 a s) := by
  unfold count31 countS
  dsimp only
  split
  · exact .refl d s
  · split
    · exact (ilkStep_wr ha _ s).trans ((ilkStep_hwSet ha 31 _).trans (ilkStep_raise _ _ _ _ _))
    · exact ilkStep_wr ha _ s

end

/-- A class S counter [30:0] counts and stops at its maximum (R22). -/
theorem rdF_count31 (a : Nat) (s : State) : rdF (count31 a s) a 30 0 = min 0x7FFFFFFF (rdF s a 30 0 + 1) := by
  have hlt : rdF s a 30 0 < 0x80000000 := Nat.mod_lt _ (by decide)
  unfold count31 countS
  dsimp only
  split
  · omega
  · next hmax =>
    have hput : rdF (wrF s a 30 0 (rdF s a 30 0 + 1)) a 30 0 = rdF s a 30 0 + 1 := by
      rw [rdF_wrF_same _ _ 30 0 _ (by omega) (by omega)]; exact Nat.mod_eq_of_lt (by omega)
    split
    · unfold rdF at *
      rw [rd_raiseN]
      have hset := rdF_wrB_field (wrF s a 30 0 (bits (rd s a) 30 0 + 1)) a 31 true 30 0 (by omega) (by omega)
      unfold rdF at hset
      exact (hset.trans hput).trans (by omega)
    · rw [hput]; omega

/-- An input that has opened, shown on a die: its bit and sticky bit set, the opening counted, with the TB0 tick (R311). -/
structure IlkTripped (b d : Nat) (s t : State) : Prop where
  stat : rdB t (Reg.DR_ILK_STAT d) b = true
  sticky : rdB t (Reg.DR_ILK_STAT d) (4 + b) = true
  ts : rd t (Reg.DR_ILK_TS d) = s.clk.tb0.extractLsb' 0 32
  count : rdF t (Reg.DR_ILK_TRIP_CNT d) 30 0 = min 0x7FFFFFFF (rdF s (Reg.DR_ILK_TRIP_CNT d) 30 0 + 1)

/-- What keeps the words of the die's interlock keeps what they show. -/
theorem IlkTripped.kept {b d : Nat} {s t u : State} (h : IlkTripped b d s t)
    (hk : ∀ a, Reg.DR_ILK_CFG d ≤ a ∧ a < Reg.DR_ILK_CFG d + 20 → rd u a = rd t a) : IlkTripped b d s u := by
  have hstat := hk (Reg.DR_ILK_STAT d) (by rw [ilkStat_eq]; omega)
  have hts := hk (Reg.DR_ILK_TS d) (by rw [ilkTs_eq]; omega)
  have hcnt := hk (Reg.DR_ILK_TRIP_CNT d) (by rw [ilkTripCnt_eq]; omega)
  exact ⟨by unfold rdB; rw [hstat]; exact h.stat, by unfold rdB; rw [hstat]; exact h.sticky, hts.trans h.ts,
    by unfold rdF; rw [hcnt]; exact h.count⟩

/-- The words of an opening on a die, before its event. -/
def ilkTrip (b d : Nat) (s : State) : State :=
  let u := hwSet (wrB s (Reg.DR_ILK_STAT d) b true) (Reg.DR_ILK_STAT d) (4 + b)
  wr (count31 (Reg.DR_ILK_TRIP_CNT d) u) (Reg.DR_ILK_TS d) (u.clk.tb0.extractLsb' 0 32)

theorem ilkOpenDie_eq (b d : Nat) (s : State) : ∃ w6 w7, ilkOpenDie b d s = raiseN 0x0504 d w6 w7 (ilkTrip b d s) := ⟨_, _, rfl⟩

/-- The words of the interlock window are distinct. -/
theorem ilkWords_ne (d : Nat) : wordBase (Reg.DR_ILK_TS d) ≠ wordBase (Reg.DR_ILK_STAT d)
    ∧ wordBase (Reg.DR_ILK_TRIP_CNT d) ≠ wordBase (Reg.DR_ILK_STAT d) ∧ wordBase (Reg.DR_ILK_TS d) ≠ wordBase (Reg.DR_ILK_TRIP_CNT d)
    ∧ wordBase (Reg.DR_ILK_STAT d) ≠ wordBase (Reg.DR_ILK_TRIP_CNT d) := by
  simp only [wordBase, Reg.DR_ILK_TS, Reg.DR_ILK_STAT, Reg.DR_ILK_TRIP_CNT, dieAt, winSize]; omega

theorem ilkStep_ilkTrip (b d : Nat) (s : State) : IlkStep d s (ilkTrip b d s) := by
  have hstat : IlkStep d s (hwSet (wrB s (Reg.DR_ILK_STAT d) b true) (Reg.DR_ILK_STAT d) (4 + b)) :=
    (ilkStep_wrB (by rw [ilkStat_eq]; omega) b true s).trans (ilkStep_hwSet (by rw [ilkStat_eq]; omega) (4 + b) _)
  unfold ilkTrip
  dsimp only
  generalize hwSet (wrB s (Reg.DR_ILK_STAT d) b true) (Reg.DR_ILK_STAT d) (4 + b) = u at *
  have hcnt : IlkStep d u (count31 (Reg.DR_ILK_TRIP_CNT d) u) := ilkStep_count31 (by rw [ilkTripCnt_eq]; omega) u
  exact hstat.trans (hcnt.trans (ilkStep_wr (by rw [ilkTs_eq]; omega) _ _))

theorem ilkStep_ilkOpenDie (b d : Nat) (s : State) : IlkStep d s (ilkOpenDie b d s) := by
  obtain ⟨w6, w7, h⟩ := ilkOpenDie_eq b d s
  rw [h]
  exact (ilkStep_ilkTrip b d s).trans (ilkStep_raise _ _ _ _ _)

/-- A bit set by hardware leaves the others of its word. -/
theorem rdB_hwSet_bit (s : State) (a : Nat) {i j : Nat} (h : i ≠ j) : rdB (hwSet s a i) a j = rdB s a j := rdB_wrB_bit s a i j true h
theorem rd_count31_ne (s : State) {a b : Nat} (h : wordBase a ≠ wordBase b) : rd (count31 a s) b = rd s b := rd_countS_ne s 30 0 31 h

theorem ilkTripped_ilkTrip {b : Nat} (hb : b < 2) (d : Nat) (s : State) : IlkTripped b d s (ilkTrip b d s) := by
  obtain ⟨htsStat, hcntStat, htsCnt, hstatCnt⟩ := ilkWords_ne d
  unfold ilkTrip
  dsimp only
  have hstat : rdB (hwSet (wrB s (Reg.DR_ILK_STAT d) b true) (Reg.DR_ILK_STAT d) (4 + b)) (Reg.DR_ILK_STAT d) b = true :=
    (rdB_hwSet_bit _ _ (by omega)).trans (rdB_wrB_same s _ b true (by omega))
  have hsticky : rdB (hwSet (wrB s (Reg.DR_ILK_STAT d) b true) (Reg.DR_ILK_STAT d) (4 + b)) (Reg.DR_ILK_STAT d) (4 + b) = true :=
    rdB_hwSet_same _ _ _ (by omega)
  have hcnt : rd (hwSet (wrB s (Reg.DR_ILK_STAT d) b true) (Reg.DR_ILK_STAT d) (4 + b)) (Reg.DR_ILK_TRIP_CNT d)
      = rd s (Reg.DR_ILK_TRIP_CNT d) := by rw [rd_hwSet_ne _ _ hstatCnt, rd_wrB_ne _ _ _ hstatCnt]
  have hclk : (hwSet (wrB s (Reg.DR_ILK_STAT d) b true) (Reg.DR_ILK_STAT d) (4 + b)).clk = s.clk := by simp
  generalize hwSet (wrB s (Reg.DR_ILK_STAT d) b true) (Reg.DR_ILK_STAT d) (4 + b) = u at *
  have hshown : ∀ w, rd (wr (count31 (Reg.DR_ILK_TRIP_CNT d) u) (Reg.DR_ILK_TS d) w) (Reg.DR_ILK_STAT d) = rd u (Reg.DR_ILK_STAT d) :=
    fun w => (rd_wr_ne _ w htsStat).trans (rd_count31_ne u hcntStat)
  refine ⟨?_, ?_, ?_, ?_⟩
  · unfold rdB; rw [hshown]; exact hstat
  · unfold rdB; rw [hshown]; exact hsticky
  · rw [rd_wr_same, hclk]
  · have := rdF_count31 (Reg.DR_ILK_TRIP_CNT d) u
    unfold rdF at *
    rw [rd_wr_ne _ _ htsCnt, this, hcnt]

theorem raisedEvent_of_subset {code unit : Nat} {p0 p1 : Word} {s t : State} (h : raisedEvent code unit p0 p1 s)
    (hsub : ∀ e ∈ s.log.raised, e ∈ t.log.raised) : raisedEvent code unit p0 p1 t := by
  obtain ⟨e, he, hfields⟩ := h
  exact ⟨e, hsub e he, hfields⟩
/-- Judging the drive channels takes back no event but of a motion channel's stalls and tach losses. -/
theorem raisedEvent_driveJudge {code unit : Nat} {p0 p1 : Word} {s : State} (hcode : ¬ (0x0601 ≤ code ∧ code ≤ 0x0603))
    (h : raisedEvent code unit p0 p1 s) : raisedEvent code unit p0 p1 (driveJudge s) := by
  obtain ⟨e, he, hc, hfields⟩ := h
  exact ⟨e, (driveFrame_driveJudge s).raised e he (by rw [hc]; exact hcode), hc, hfields⟩

/-! #### An opening on both drive dies -/

/-- The input noted open since this tick. -/
def ilkNoted (b : Nat) (s : State) : State :=
  { s with drv := { s.drv with ilk := (s.drv.ilk.filter fun y => decide (y.1 ≠ b)) ++ [(b, s.clk.tb0)] } }
/-- The opening shown on both dies, before the channels are judged. -/
def ilkOpened (b : Nat) (s : State) : State := ilkOpenDie b 6 (ilkOpenDie b 5 (ilkNoted b s))

/-- Words of the interlock of either drive die, marks and events: nothing else differs. -/
structure IlkFrame (s t : State) : Prop where
  only : t = { s with regs := t.regs, hwset := t.hwset, log := t.log }
  words : ∀ a, (∀ d, d = 5 ∨ d = 6 → a < Reg.DR_ILK_CFG d + 8 ∨ Reg.DR_ILK_CFG d + 20 ≤ a) → rd t a = rd s a

theorem IlkStep.both {s t u : State} (h : IlkStep 5 s t) (k : IlkStep 6 t u) : IlkFrame s u :=
  ⟨by rw [k.only, h.only], fun a ha => (k.words a (ha 6 (.inr rfl))).trans (h.words a (ha 5 (.inl rfl)))⟩

/-- The interlock of one die is no part of the other's. -/
theorem ilk_otherDie {a d e : Nat} (hne : d ≠ e) (ha : Reg.DR_ILK_CFG d ≤ a ∧ a < Reg.DR_ILK_CFG d + 20) :
    a < Reg.DR_ILK_CFG e + 8 ∨ Reg.DR_ILK_CFG e + 20 ≤ a := by
  simp only [Reg.DR_ILK_CFG, dieAt, winSize] at *; omega

theorem ilkFrame_ilkOpened (b : Nat) (s : State) : IlkFrame (ilkNoted b s) (ilkOpened b s) :=
  (ilkStep_ilkOpenDie b 5 _).both (ilkStep_ilkOpenDie b 6 _)

/-- An opening on a die is shown there, with its event. -/
theorem ilkOpenDie_shows {b : Nat} (hb : b < 2) (d : Nat) (s : State) :
    IlkTripped b d s (ilkOpenDie b d s) ∧ ∃ w6 w7, raisedEvent 0x0504 d (w32 w6) (w32 w7) (ilkOpenDie b d s) := by
  obtain ⟨w6, w7, h⟩ := ilkOpenDie_eq b d s
  rw [h]
  exact ⟨(ilkTripped_ilkTrip hb d s).kept fun a _ => rd_raiseN _ _ _ _ _ a, w6, w7, raisedEvent_raise _ _ _ _ _⟩

theorem ilkOpened_shows {b d : Nat} (hb : b < 2) (hd : d = 5 ∨ d = 6) (s : State) :
    IlkTripped b d s (ilkOpened b s) ∧ ∃ w6 w7, raisedEvent 0x0504 d (w32 w6) (w32 w7) (ilkOpened b s) := by
  have hfive := ilkStep_ilkOpenDie b 5 (ilkNoted b s)
  rcases hd with rfl | rfl
  · have hsix := ilkStep_ilkOpenDie b 6 (ilkOpenDie b 5 (ilkNoted b s))
    obtain ⟨htrip, w6, w7, hev⟩ := ilkOpenDie_shows hb 5 (ilkNoted b s)
    refine ⟨IlkTripped.kept (s := s) ⟨htrip.stat, htrip.sticky, htrip.ts, htrip.count⟩ fun a ha =>
      hsix.words a (ilk_otherDie (by omega) ha), w6, w7, raisedEvent_of_subset hev hsix.raised⟩
  · obtain ⟨htrip, w6, w7, hev⟩ := ilkOpenDie_shows hb 6 (ilkOpenDie b 5 (ilkNoted b s))
    have hcnt : rd (ilkOpenDie b 5 (ilkNoted b s)) (Reg.DR_ILK_TRIP_CNT 6) = rd s (Reg.DR_ILK_TRIP_CNT 6) :=
      hfive.words _ (ilk_otherDie (d := 6) (by omega) (by rw [ilkTripCnt_eq]; omega))
    have hclk : (ilkOpenDie b 5 (ilkNoted b s)).clk = s.clk := by rw [hfive.only]; rfl
    refine ⟨⟨htrip.stat, htrip.sticky, htrip.ts.trans (by rw [hclk]), htrip.count.trans ?_⟩, w6, w7, hev⟩
    unfold rdF; rw [hcnt]

/-- An open input forces the channels of its group (R310). -/
theorem ilkForces_of_stat {s : State} {b d cfg i : Nat} (hb : b < 2) (hstat : rdB s (Reg.DR_ILK_STAT d) b = true)
    (hcfg : rdB s cfg (16 * b + i) = true) : ilkForces s d cfg i = true := by
  unfold ilkForces rdB at *
  rcases Nat.lt_succ_iff_lt_or_eq.mp hb with h | rfl
  · obtain rfl : b = 0 := by omega
    simp only [Nat.mul_zero, Nat.zero_add] at hcfg
    simp [hstat, hcfg]
  · simp only [Nat.mul_one] at hcfg
    simp [hstat, hcfg]

theorem effIlkOpen_eq {b : Nat} {s : State} (hup : diesUp s = true) (hshut : rdB s (Reg.DR_ILK_STAT 5) b = false) :
    effIlkOpen b s = driveJudge (ilkOpened b s) := by
  unfold effIlkOpen
  rw [if_neg (by simp [hup, hshut])]
  rfl

/-! #### An opening and a closing -/

/-- An effect that leaves the time bases and the queue alone, run. -/
theorem run_eq_next {f : State → State} {s t : State} (hf : f s = t) (hclk : t.clk = s.clk) (hpending : t.pending = s.pending) :
    run f s = .next t := by
  subst hf
  rw [run_next, keepClk_eq_self hclk hpending]

theorem run_eq_self {f : State → State} {s : State} (hf : f s = s) : run f s = .next s := run_eq_next hf rfl rfl

/-- The interlock and what judging the channels does leave all the rest of the plant. -/
theorem driveJudge_only (s : State) : (driveJudge s).clk = s.clk ∧ (driveJudge s).pending = s.pending ∧ (driveJudge s).loops = s.loops
    ∧ (driveJudge s).seq = s.seq ∧ (driveJudge s).nor = s.nor := by
  rw [(driveFrame_driveJudge s).frame]; exact ⟨rfl, rfl, rfl, rfl, rfl⟩
theorem ilkOpened_only (b : Nat) (s : State) : (ilkOpened b s).clk = s.clk ∧ (ilkOpened b s).pending = s.pending
    ∧ (ilkOpened b s).loops = s.loops ∧ (ilkOpened b s).seq = s.seq ∧ (ilkOpened b s).nor = s.nor := by
  rw [(ilkFrame_ilkOpened b s).only]; exact ⟨rfl, rfl, rfl, rfl, rfl⟩

theorem exec_ilkOpen {b : Nat} {s : State} (hb : b < 2) (hup : diesUp s = true) (hshut : rdB s (Reg.DR_ILK_STAT 5) b = false) :
    exec (.ilkOpen b) s = .next (driveJudge (ilkOpened b s)) := by
  obtain ⟨hclk, hpending, -⟩ := driveJudge_only (ilkOpened b s)
  obtain ⟨hclk', hpending', -⟩ := ilkOpened_only b s
  exact (guardIx_lt hb _).trans (run_eq_next (effIlkOpen_eq hup hshut) (hclk.trans hclk') (hpending.trans hpending'))

/-- The settings of the channels, of the rails and of the interlock groups lie outside the words of the inputs. -/
theorem IlkFrame.vchCfg {s t : State} (h : IlkFrame s t) (x : Nat) : rd t (Reg.DR_VCH_CFG x) = rd s (Reg.DR_VCH_CFG x) := by
  refine h.words _ fun d hd => ?_
  simp only [Reg.DR_VCH_CFG, Reg.DR_ILK_CFG, drAt, dieAt, winSize]; omega
theorem IlkFrame.vState {s t : State} (h : IlkFrame s t) (x : Nat) : vState t x = vState s x := by
  unfold Machine.vState rdF
  rw [h.words]
  intro d hd
  simp only [Reg.DR_VCH_STAT, Reg.DR_ILK_CFG, drAt, dieAt, winSize]; omega
theorem IlkFrame.motCfg {s t : State} (h : IlkFrame s t) (x : Nat) : rd t (Reg.DR_MOT_CFG x) = rd s (Reg.DR_MOT_CFG x) := by
  refine h.words _ fun d hd => ?_
  simp only [Reg.DR_MOT_CFG, Reg.DR_ILK_CFG, drAt, dieAt, winSize]; omega
theorem IlkFrame.ilkCfg {s t : State} (h : IlkFrame s t) (d : Nat) : rd t (Reg.DR_ILK_CFG d) = rd s (Reg.DR_ILK_CFG d)
    ∧ rd t (Reg.DR_ILK_CFG2 d) = rd s (Reg.DR_ILK_CFG2 d) := by
  constructor <;> refine h.words _ fun e he => ?_ <;> simp only [Reg.DR_ILK_CFG, Reg.DR_ILK_CFG2, dieAt, winSize] <;> omega

/-- An enabled valve channel in the group of an input that opened is due to be forced (R310). -/
theorem valveDue_ilkOpened {b x : Nat} {s : State} (hb : b < 2) (hx : x < 24) (hon : rdB s (Reg.DR_VCH_CFG x) 31 = true)
    (hchecked : vState s x ≠ 9) (hfree : vState s x ≠ 8) (hgroup : rdB s (Reg.DR_ILK_CFG (5 + x / 12)) (16 * b + x % 12) = true) :
    ValveDue x (ilkOpened b s) := by
  have hframe := ilkFrame_ilkOpened b s
  have hstat := (ilkOpened_shows hb (d := 5 + x / 12) (by omega) s).1.stat
  have hsame : ∀ a, rd (ilkNoted b s) a = rd s a := fun a => rfl
  generalize ilkOpened b s = u at *
  refine ⟨?_, ?_, ?_, ?_⟩
  · unfold rdB; rw [hframe.vchCfg, hsame]; exact hon
  · rw [hframe.vState]; exact hchecked
  · rw [hframe.vState]; exact hfree
  · have hforces : ilkForces u (vDie x) (Reg.DR_ILK_CFG (vDie x)) (x % 12) = true :=
      ilkForces_of_stat hb hstat (by unfold rdB; rw [(hframe.ilkCfg _).1, hsame]; exact hgroup)
    unfold vForcedNow
    simp [hforces]

/-- An enabled motion channel in the group of an input that opened is due to be forced (R310, R321). -/
theorem motorDue_ilkOpened {b x : Nat} {s : State} (hb : b < 2) (hx : x < 16) (hon : rdB s (Reg.DR_MOT_CFG x) 31 = true)
    (hchecked : (mOf s x).ph ≠ 8) (hfree : (mOf s x).forced = false)
    (hgroup : rdB s (Reg.DR_ILK_CFG2 (5 + x / 8)) (16 * b + x % 8) = true) : MotorDue x (ilkOpened b s) := by
  have hframe := ilkFrame_ilkOpened b s
  have hstat := (ilkOpened_shows hb (d := 5 + x / 8) (by omega) s).1.stat
  have hsame : ∀ a, rd (ilkNoted b s) a = rd s a := fun a => rfl
  have hchan : mOf (ilkOpened b s) x = mOf s x := by rw [hframe.only]; rfl
  generalize ilkOpened b s = u at *
  refine ⟨?_, ?_, ?_, ?_⟩
  · unfold rdB; rw [hframe.motCfg, hsame]; exact hon
  · rw [hchan]; exact hchecked
  · rw [hchan]; exact hfree
  · have hforces : ilkForces u (mDie x) (Reg.DR_ILK_CFG2 (mDie x)) (x % 8) = true :=
      ilkForces_of_stat hb hstat (by unfold rdB; rw [(hframe.ilkCfg _).2, hsame]; exact hgroup)
    unfold mForcedNow
    simp [hforces]

/-- The closing shown on a die (R311): its bit cleared, and the time it was open logged. -/
def ilkShut (b us d : Nat) (s : State) : State :=
  raiseN 0x0505 d (ilkBits (wrB s (Reg.DR_ILK_STAT d) b false) d * 0x10000) us (wrB s (Reg.DR_ILK_STAT d) b false)
/-- The closing shown on both dies. -/
def ilkClosed (b us : Nat) (s : State) : State := ilkShut b us 6 (ilkShut b us 5 s)

/-- The time in us that an input open since a tick has been open, at most the largest word (R311). -/
def ilkOpenUs (s : State) (k : Tick) : Nat := min 0xFFFFFFFF ((s.clk.tb0 - k).toNat / 100)

theorem ilkStep_ilkShut (b us d : Nat) (s : State) : IlkStep d s (ilkShut b us d s) :=
  (ilkStep_wrB (by rw [ilkStat_eq]; omega) b false s).trans (ilkStep_raise _ _ _ _ _)

theorem ilkShut_shows {b : Nat} (hb : b < 2) (us d : Nat) (s : State) : rdB (ilkShut b us d s) (Reg.DR_ILK_STAT d) b = false
    ∧ ∃ w6, raisedEvent 0x0505 d (w32 w6) (w32 us) (ilkShut b us d s) := by
  unfold ilkShut
  refine ⟨?_, _, raisedEvent_raise _ _ _ _ _⟩
  unfold rdB
  rw [rd_raiseN]
  exact rdB_wrB_same s _ b false (by omega)

theorem ilkClosed_shows {b d : Nat} (hb : b < 2) (hd : d = 5 ∨ d = 6) (us : Nat) (s : State) :
    rdB (ilkClosed b us s) (Reg.DR_ILK_STAT d) b = false ∧ ∃ w6, raisedEvent 0x0505 d (w32 w6) (w32 us) (ilkClosed b us s) := by
  rcases hd with rfl | rfl
  · have hsix := ilkStep_ilkShut b us 6 (ilkShut b us 5 s)
    obtain ⟨hstat, w6, hev⟩ := ilkShut_shows hb us 5 s
    refine ⟨?_, w6, raisedEvent_of_subset hev hsix.raised⟩
    unfold rdB ilkClosed
    rw [hsix.words _ (ilk_otherDie (d := 5) (by omega) (by rw [ilkStat_eq]; omega))]
    exact hstat
  · exact ilkShut_shows hb us 6 _

theorem ilkClosed_only (b us : Nat) (s : State) : (ilkClosed b us s).clk = s.clk ∧ (ilkClosed b us s).pending = s.pending
    ∧ (ilkClosed b us s).loops = s.loops ∧ (ilkClosed b us s).nor = s.nor := by
  unfold ilkClosed
  rw [((ilkStep_ilkShut b us 5 s).both (ilkStep_ilkShut b us 6 _)).only]
  exact ⟨rfl, rfl, rfl, rfl⟩

theorem exec_ilkClosed {b : Nat} {s : State} {k : Tick} (hb : b < 2) (hopen : rdB s (Reg.DR_ILK_STAT 5) b = true)
    (hk : (s.drv.ilk.find? fun y => decide (y.1 = b)) = some (b, k)) :
    exec (.ilkClosed b) s = .next (driveJudge (ilkClosed b (ilkOpenUs s k) s)) := by
  obtain ⟨hclk, hpending, -⟩ := driveJudge_only (ilkClosed b (ilkOpenUs s k) s)
  obtain ⟨hclk', hpending', -⟩ := ilkClosed_only b (ilkOpenUs s k) s
  have heff : effIlkClosed b s = driveJudge (ilkClosed b (ilkOpenUs s k) s) := by
    unfold effIlkClosed
    rw [if_pos hopen, hk]
    rfl
  exact (guardIx_lt hb _).trans (run_eq_next heff (hclk.trans hclk') (hpending.trans hpending'))

/-! ### Published items and a late auxiliary speed (R312, R320) -/

theorem effDriveItemPublish_offGrid {k : Nat} {s : State} (h : onGrid s 10000 0 = false) : effDriveItemPublish k s = s := by
  unfold effDriveItemPublish; rw [h, Bool.and_false]; rfl
theorem effDriveItemPublish_one {k d e i : Nat} {s : State} (hrun : running s = true) (hgrid : onGrid s 10000 0 = true)
    (hone : itemImports s k = [(d, e, i)]) : effDriveItemPublish k s = match driveItem s k i with
      | none => s
      | some v => exportPut (BitVec.ofNat 64 ((tb3us s + 10000) * 100)) d e (i32 v) (nowUs s) s := by
  unfold effDriveItemPublish; rw [hrun, hgrid, hone]; rfl

/-- A late auxiliary speed leaves the channel's speeds (R35). -/
theorem auxLate_eq {x n : Nat} {s : State} {a : Tick × Int}
    (ha : ((mOf s x).aux.reverse.find? fun y => reached s.clk.tb1 y.1) = some a) :
    auxLate (5 + x / 8) (x % 8) n s
      = towpathLate (5 + x / 8) (x % 8) n (mSet s x { mOf s x with aux := (mOf s x).aux.erase a }) := by
  have hx : (5 + x / 8 - 5) * 8 + x % 8 = x := by omega
  unfold auxLate
  dsimp only
  rw [hx]
  unfold mOf at ha
  rw [ha]
  rfl

theorem exec_exportApply_auxLate {x n : Nat} {s : State} {a : Tick × Int} (hx : x < 16) (hq : quiet (5 + x / 8) s)
    (hnone : ∀ y ∈ s.sig.exports, y.die ≠ 5 + x / 8) (ha : ((mOf s x).aux.reverse.find? fun y => reached s.clk.tb1 y.1) = some a) :
    exec (.exportApply (5 + x / 8) (x % 8) (some n)) s
      = .next (towpathLate (5 + x / 8) (x % 8) n (mSet s x { mOf s x with aux := (mOf s x).aux.erase a })) := by
  have hfind : exportNow s (5 + x / 8) (x % 8) = none := by
    unfold exportNow
    rw [List.find?_eq_none]
    intro y hy
    simp [hnone y hy]
  refine run_sigAgain_quiet ?_ ⟨rfl, rfl, fun _ => .inl rfl, rfl, fun _ => rfl, rfl⟩ hq rfl
  unfold effExportApply
  unfold exportNow at hfind
  rw [hfind]
  dsimp only
  rw [if_pos (by omega), auxLate_eq ha]

/-- Settles O46: the opening is shown on each die by words the other does not touch; each channel is judged by itself, and judging the
others keeps both the cause and the forced state. -/
theorem interlockForcesAndDriveItemsArePublished : Obligations.InterlockForcesAndDriveItemsArePublished := by
  unfold Obligations.InterlockForcesAndDriveItemsArePublished
  refine ⟨fun b s hb => ⟨fun hup hshut => ?_, fun hopen => ⟨?_, fun k hk => ?_⟩, fun hshut => ?_⟩,
    fun k s hk hrun => ⟨fun hgrid => ?_, fun d e i hgrid hone => ⟨fun hnone => ?_, fun v hv => ?_, fun hi => ?_, fun hlo hi => ?_,
      fun hlo hi => ?_, fun x n s a hx hq hnone ha => ?_⟩⟩⟩
  · obtain ⟨hclk, -, hloops, hseq, hnor⟩ := driveJudge_only (ilkOpened b s)
    obtain ⟨hclk', -, hloops', hseq', hnor'⟩ := ilkOpened_only b s
    refine ⟨_, exec_ilkOpen hb hup hshut, hclk.trans hclk', hloops.trans hloops', hseq.trans hseq', hnor.trans hnor', fun d hd => ?_,
      fun x hx hon hchecked hfree hgroup => ?_, fun x hx hon hchecked hfree hgroup => ?_⟩
    · obtain ⟨htrip, w6, w7, hev⟩ := ilkOpened_shows hb hd s
      obtain ⟨hstat, hsticky, hts, hcount⟩ := htrip.kept fun a ha => ilk_kept (driveFrame_driveJudge _) ha
      exact ⟨hstat, hsticky, hts, hcount, w6, w7, raisedEvent_driveJudge (by omega) hev⟩
    · obtain ⟨hstate, hpc, hpath, hhold, hclaim⟩ :=
        valveForced_driveJudge hx (valveDue_ilkOpened hb hx hon hchecked hfree hgroup)
      exact ⟨hstate, hpc, hpath, hhold, hclaim⟩
    · obtain ⟨-, hforced, hduty, hstate⟩ := motorForced_driveJudge hx (motorDue_ilkOpened hb hx hon hchecked hfree hgroup)
      exact ⟨hforced, hduty, hstate⟩
  · refine (guardIx_lt hb _).trans (run_eq_self ?_)
    unfold effIlkOpen; rw [if_pos (.inl hopen)]
  · obtain ⟨hclk, -, hloops, -, hnor⟩ := driveJudge_only (ilkClosed b (ilkOpenUs s k) s)
    obtain ⟨hclk', -, hloops', hnor'⟩ := ilkClosed_only b (ilkOpenUs s k) s
    refine ⟨_, exec_ilkClosed hb hopen hk, hclk.trans hclk', hloops.trans hloops', hnor.trans hnor', fun d hd => ?_⟩
    · obtain ⟨hstat, w6, hev⟩ := ilkClosed_shows hb hd (ilkOpenUs s k) s
      refine ⟨?_, w6, raisedEvent_driveJudge (by omega) hev⟩
      unfold rdB
      rw [ilk_kept (driveFrame_driveJudge _) (d := d) (by rw [ilkStat_eq]; omega)]
      exact hstat
  · refine (guardIx_lt hb _).trans (run_eq_self ?_)
    unfold effIlkClosed; rw [if_neg (by simp [hshut])]
  · exact (guardIx_lt hk _).trans (run_eq_self (effDriveItemPublish_offGrid hgrid))
  · refine (guardIx_lt hk _).trans (run_eq_self ?_)
    rw [effDriveItemPublish_one hrun hgrid hone, hnone]
  · have heff := effDriveItemPublish_one hrun hgrid hone
    rw [hv] at heff
    exact ⟨_, (guardIx_lt hk _).trans (run_eq_next heff rfl rfl), rfl⟩
  · unfold driveItem; rw [if_pos hi]; rfl
  · unfold driveItem; rw [if_neg (by omega), if_neg (by omega), if_pos hi]
  · unfold driveItem
    rw [if_neg (by omega), if_neg (by omega), if_neg (by omega), if_neg (by omega), if_neg (by omega), if_pos hi]
    rfl
  · exact ⟨_, exec_exportApply_auxLate hx hq hnone ha, congrArg MotSt.aux (mOf_mSet_same s x _), raisedEvent_raise _ _ _ _ _, rfl⟩

/-! ### What one action of a sequence leaves (R31, R266, R271) -/

theorem SameLatches.quietAll {s t : State} (h : SameLatches s t) (hq : ∀ d, d < 5 → Machine.quiet d s) :
    ∀ d, d < 5 → Machine.quiet d t :=
  fun d hd => h.quiet (hq d hd)

/-- Where nothing was latched in this tick, no latch is made again on any die. -/
theorem sigAgainAll_quiet {s : State} (hq : ∀ d, d < 5 → quiet d s) : sigAgainAll s = s := by
  unfold sigAgainAll
  exact forEach_eq_self (f := sigAgain) _ fun d hd => sigAgain_quiet (hq d (List.mem_range.mp hd))

/-- Judging the drive channels latches nothing. -/
theorem DriveFrame.sameLatches {s t : State} (h : DriveFrame s t) : SameLatches s t := by
  rw [h.frame]; exact ⟨rfl, rfl, fun _ => .inl rfl, rfl, fun _ => rfl, rfl⟩

/-- A sequence's record as it stands, put back. -/
def seqReput (n : Nat) (s : State) : State := seqSet s n (seqOf s n)

theorem seqOf_seqReput (n m : Nat) (s : State) : seqOf (seqReput n s) m = seqOf s m := by
  by_cases h : n = m
  · subst h; exact seqOf_seqSet_same s n _
  · exact seqOf_seqSet_ne s _ h
theorem rd_seqReput (n : Nat) (s : State) (a : Nat) : rd (seqReput n s) a = rd s a := rd_seqSet s n _ a
theorem seqReput_sameLatches (n : Nat) (s : State) : SameLatches s (seqReput n s) :=
  ⟨rfl, rfl, fun m => .inl (by rw [seqOf_seqReput]), rfl, fun _ => rfl, rfl⟩

/-- Where no action asked for SAFE or HIBERNATE, nothing more comes at the end of the instant. -/
theorem seqAsked_of_none {n : Nat} {s : State} (hsafe : (seqOf s n).askSafe = false) (hhib : (seqOf s n).askHib = false) :
    seqAsked n s = seqReput n s := by
  have hsame : { seqOf s n with askSafe := false, askHib := false } = seqOf s n := by
    generalize seqOf s n = v at *
    cases v
    simp_all
  unfold seqAsked seqReput
  dsimp only
  rw [hsafe, hhib, hsame]
  rfl

section
variable {op n a : Nat} {s u : State} (hn : n < 8) (ha : a < 2048) (hop : bits (seqAct s a 0) 31 24 = op)
  (hq : ∀ d, d < 5 → quiet d s)
include hn ha hop hq

/-- An action row, its effect and what it asked for given. -/
theorem run_seqRow_asked (hact : seqAsked n (seqDo n a s) = u) (hsame : SameLatches s u) (hpending : u.pending = s.pending) :
    guardIx n 8 (run (seqRow op n a) s) = .next u := by
  refine (guardIx_lt hn _).trans (run_eq_next ?_ hsame.clk hpending)
  unfold seqRow
  rw [if_pos ⟨ha, hop⟩, hact]
  exact sigAgainAll_quiet (hsame.quietAll hq)

/-- An action row whose action asks for neither SAFE nor HIBERNATE. -/
theorem run_seqRow (hact : seqDo n a s = u) (hsame : SameLatches s u) (hpending : u.pending = s.pending)
    (hsafe : (seqOf u n).askSafe = false) (hhib : (seqOf u n).askHib = false) :
    guardIx n 8 (run (seqRow op n a) s) = .next (seqReput n u) :=
  run_seqRow_asked hn ha hop hq (by rw [hact, seqAsked_of_none hsafe hhib]) (hsame.trans (seqReput_sameLatches n u)) hpending

end

/-- A record of another operation does nothing. -/
theorem run_seqRow_other {op n a : Nat} {s : State} (hn : n < 8) (hop : bits (seqAct s a 0) 31 24 ≠ op) :
    guardIx n 8 (run (seqRow op n a) s) = .next s := by
  refine (guardIx_lt hn _).trans (run_eq_self ?_)
  unfold seqRow
  rw [if_neg fun h => hop h.2]

/-! #### Signals (R39, R266) -/

/-- WRITE_SIG and COPY_SIG write one entry of kind SEQUENCE or HOST_PARAM; a port's write of the same tick keeps its value. -/
theorem actSig_eq {a : Nat} {v : Word} {s : State} (hd : bits (seqAct s a 0) 23 16 ≤ 4)
    (he : bits (seqAct s a 0) 15 0 < sigCount (bits (seqAct s a 0) 23 16))
    (hkind : sigKind s (bits (seqAct s a 0) 23 16) (bits (seqAct s a 0) 15 0) = 6
      ∨ sigKind s (bits (seqAct s a 0) 23 16) (bits (seqAct s a 0) 15 0) = 7) :
    ∃ u, u = { s with upd := u.upd } ∧ actSig a v s = sigWrite (bits (seqAct s a 0) 23 16) (bits (seqAct s a 0) 15 0)
      (if portMarked s 0 (bits (seqAct s a 0) 23 16 * 4096 + bits (seqAct s a 0) 15 0)
        then rd s (sigAddr (bits (seqAct s a 0) 23 16) (bits (seqAct s a 0) 15 0)) else v) (nowUs s) u := by
  unfold actSig
  generalize bits (seqAct s a 0) 23 16 = d at *
  generalize bits (seqAct s a 0) 15 0 = e at *
  dsimp only
  rw [if_pos ⟨hd, he, hkind⟩]
  have hmark : portMarked (noteStored s) 0 (d * 4096 + e) = portMarked s 0 (d * 4096 + e) := by unfold portMarked; rw [noteStored_sig]
  have hnow : nowUs (noteStored s) = nowUs s := by unfold nowUs tb3us; rw [noteStored_clk]
  split
  · exact ⟨noteStored s, noteStored_only s, by rw [hmark, hnow, rd_noteStored]⟩
  · exact ⟨s, rfl, rfl⟩

/-- The entry an action has written, and nothing else. -/
structure EntryWritten (d e : Nat) (v : Word) (s t : State) : Prop where
  value : rd t (sigAddr d e) = v
  inst : rd t (sigAddr d e + 8) = nowUs s
  valid : sigValid t d e = true
  upd : sigUpd t d e = (sigUpd s d e + 1) % 65536
  words : wordsKept [(sigAddr d e, sigAddr d e + 12)] s t
  only : t = { s with mem := t.mem, upd := t.upd }

theorem entryWritten_sigWrite {d e : Nat} (he : e < sigCount d) (v : Word) {s u : State} (hu : u = { s with upd := u.upd }) :
    EntryWritten d e v s (sigWrite d e v (nowUs s) u) := by
  have hrd : ∀ b, rd u b = rd s b := fun b => by rw [hu]; rfl
  have honly := sigWrite_only he v (nowUs s) u
  obtain ⟨hvalue, hinst, hvalid, hupd, hwords⟩ := sigWrite_words d e v (nowUs s) u
  generalize sigWrite d e v (nowUs s) u = t at *
  refine ⟨hvalue, hinst, hvalid, hupd.trans (by unfold sigUpd rdF; rw [hrd]), fun b hb => (hwords b hb).trans (hrd b), ?_⟩
  rw [honly, hu]

theorem EntryWritten.sameLatches {d e : Nat} {v : Word} {s t : State} (h : EntryWritten d e v s t) : SameLatches s t := by
  rw [h.only]; exact ⟨rfl, rfl, fun _ => .inl rfl, rfl, fun _ => rfl, rfl⟩
theorem EntryWritten.seqs {d e : Nat} {v : Word} {s t : State} (h : EntryWritten d e v s t) (m : Nat) : seqOf t m = seqOf s m := by
  rw [h.only]; rfl
theorem EntryWritten.pending {d e : Nat} {v : Word} {s t : State} (h : EntryWritten d e v s t) : t.pending = s.pending := by rw [h.only]
theorem EntryWritten.reput {d e : Nat} {v : Word} {s t : State} (h : EntryWritten d e v s t) (n : Nat) :
    seqReput n t = { s with mem := (seqReput n t).mem, upd := (seqReput n t).upd, seq := (seqReput n t).seq } := by
  rw [h.only]; rfl

theorem actSig_entryWritten {a d e : Nat} {v : Word} {s : State} (hdie : bits (seqAct s a 0) 23 16 = d)
    (hentry : bits (seqAct s a 0) 15 0 = e) (hd : d ≤ 4) (he : e < sigCount d) (hkind : sigKind s d e = 6 ∨ sigKind s d e = 7) :
    EntryWritten d e (if portMarked s 0 (d * 4096 + e) then rd s (sigAddr d e) else v) s (actSig a v s) := by
  subst hdie hentry
  obtain ⟨u, hu, h⟩ := actSig_eq (v := v) hd he hkind
  rw [h]
  exact entryWritten_sigWrite he _ hu

theorem portMarked_nil {s : State} (h : s.sig.ports = []) (k i : Nat) : portMarked s k i = false := by
  unfold portMarked; rw [h]; rfl
theorem portMarked_one {s : State} {k i : Nat} (h : s.sig.ports = [(k, i)]) : portMarked s k i = true := by
  unfold portMarked; rw [h]; simp

/-! #### MANVAL -/

theorem loopManval_isRegister (g : Nat) : usesMem (wordBase (Reg.LP_LOOP_MANVAL g)) = false := by
  rw [usesMem_eq_false_iff]
  simp only [wordBase, Reg.LP_LOOP_MANVAL, lpAt, winSize]; omega

/-- One stored word of a register written. -/
structure WordStored (b : Nat) (w : Word) (s t : State) : Prop where
  value : rd t b = w
  words : ∀ c, wordBase b ≠ wordBase c → rd t c = rd s c
  only : t = { s with regs := t.regs, upd := t.upd }

theorem wordStored_wrStored {b : Nat} (hb : usesMem (wordBase b) = false) (w : Word) (s : State) :
    WordStored b w s (wrStored b w s) := by
  have honly := wr_register hb s w
  have hvalue := rd_wr_same s b w
  have hwords : ∀ c, wordBase b ≠ wordBase c → rd (wr s b w) c = rd s c := fun c hc => rd_wr_ne s w hc
  unfold wrStored
  generalize wr s b w = u at *
  split
  · refine ⟨by rw [rd_noteStored, hvalue], fun c hc => by rw [rd_noteStored, hwords c hc], ?_⟩
    rw [noteStored_only, honly]
  · exact ⟨hvalue, hwords, by rw [honly]⟩

theorem WordStored.sameLatches {b : Nat} {w : Word} {s t : State} (h : WordStored b w s t) : SameLatches s t := by
  rw [h.only]; exact ⟨rfl, rfl, fun _ => .inl rfl, rfl, fun _ => rfl, rfl⟩
theorem WordStored.seqs {b : Nat} {w : Word} {s t : State} (h : WordStored b w s t) (m : Nat) : seqOf t m = seqOf s m := by
  rw [h.only]; rfl
theorem WordStored.pending {b : Nat} {w : Word} {s t : State} (h : WordStored b w s t) : t.pending = s.pending := by rw [h.only]
theorem WordStored.reput {b : Nat} {w : Word} {s t : State} (h : WordStored b w s t) (n : Nat) :
    seqReput n t = { s with
      regs := (seqReput n t).regs, hwset := (seqReput n t).hwset, upd := (seqReput n t).upd, seq := (seqReput n t).seq } := by
  rw [h.only]; rfl

/-! #### Channels, columns and pulse inputs -/

/-- A sequence withholds or gives the sequence enable of a channel (R274). -/
def seqOffPut (c : Bool × Nat) (off : Bool) (s : State) : State :=
  { s with drv := { s.drv with
    seqOff := if off then s.drv.seqOff.filter (fun y => decide (y ≠ c)) ++ [c] else s.drv.seqOff.filter fun y => decide (y ≠ c) } }

theorem actChan_eq (a : Nat) (s : State) :
    actChan a s = driveJudge (seqOffPut (actChanOf s a) (decide (seqAct s a 1 = 0)) s) := by
  unfold actChan seqOffPut
  simp only [decide_eq_true_eq]

theorem actChanOf_valve {s : State} {a : Nat} (hx : bits (seqAct s a 0) 15 0 < 12) :
    actChanOf s a = (false, (bits (seqAct s a 0) 23 16 - 5) * 12 + bits (seqAct s a 0) 15 0) := by
  unfold actChanOf
  dsimp only
  rw [if_neg (by omega), Nat.mod_eq_of_lt (by omega)]

theorem mem_seqOffPut (c y : Bool × Nat) (off : Bool) (s : State) :
    y ∈ (seqOffPut c off s).drv.seqOff ↔ (y = c ∧ off = true) ∨ (y ≠ c ∧ y ∈ s.drv.seqOff) := by
  unfold seqOffPut
  cases off <;> by_cases h : y = c <;> simp [h]

/-- What withholding a channel leaves: all but the drive, the registers and the events. -/
theorem actChan_frame (a : Nat) (s : State) : SameLatches s (actChan a s) ∧ (actChan a s).clk = s.clk
    ∧ (actChan a s).pending = s.pending ∧ (actChan a s).loops = s.loops ∧ (∀ m, seqOf (actChan a s) m = seqOf s m)
    ∧ (actChan a s).drv.seqOff = (seqOffPut (actChanOf s a) (decide (seqAct s a 1 = 0)) s).drv.seqOff := by
  rw [actChan_eq]
  have hput : SameLatches s (seqOffPut (actChanOf s a) (decide (seqAct s a 1 = 0)) s) :=
    ⟨rfl, rfl, fun _ => .inl rfl, rfl, fun _ => rfl, rfl⟩
  have hrest : (seqOffPut (actChanOf s a) (decide (seqAct s a 1 = 0)) s).clk = s.clk
      ∧ (seqOffPut (actChanOf s a) (decide (seqAct s a 1 = 0)) s).pending = s.pending
      ∧ (seqOffPut (actChanOf s a) (decide (seqAct s a 1 = 0)) s).loops = s.loops
      ∧ (seqOffPut (actChanOf s a) (decide (seqAct s a 1 = 0)) s).seq = s.seq := ⟨rfl, rfl, rfl, rfl⟩
  generalize seqOffPut (actChanOf s a) (decide (seqAct s a 1 = 0)) s = u at *
  obtain ⟨hclk, hpending, hloops, hseq, -⟩ := driveJudge_only u
  obtain ⟨hclk', hpending', hloops', hseq'⟩ := hrest
  exact ⟨hput.trans (driveFrame_driveJudge u).sameLatches, hclk.trans hclk', hpending.trans hpending', hloops.trans hloops',
    fun m => by unfold seqOf; rw [hseq, hseq'], (driveFrame_driveJudge u).seqOff⟩

/-- The command a TRK_CMD gives (Table 10-6). -/
def trkCmdOf (w : Word) : TrkCmd :=
  { act := if w.toNat = 1 then 0 else if w.toNat = 2 then 1 else 2, port := 0, word := 0, logged := false }

/-- With no port's write in this tick the command comes behind those that wait (R204, R271). -/
theorem actTrkCmd_eq {a : Nat} {s : State} (hports : s.sig.ports = [])
    (hw : (seqAct s a 1).toNat = 1 ∨ (seqAct s a 1).toNat = 2 ∨ (seqAct s a 1).toNat = 4) :
    actTrkCmd a s = trkSet s (actLp s a 4)
      { trkOf s (actLp s a 4) with cmds := (trkOf s (actLp s a 4)).cmds ++ [trkCmdOf (seqAct s a 1)] } := by
  unfold actTrkCmd trkCmdOf
  rw [hports]
  rcases hw with h | h | h <;> simp [h]

theorem trkSet_cmds_sameLatches (c : Nat) (l : List TrkCmd) (s : State) :
    SameLatches s (trkSet s c { trkOf s c with cmds := l }) := by
  refine ⟨rfl, rfl, fun _ => .inl rfl, rfl, fun h => ?_, rfl⟩
  by_cases hc : c = h
  · subst hc; rw [trkOf_trkSet_same]
  · rw [trkOf_trkSet_ne _ _ hc]

/-! #### SAFE (R94, R276) -/

/-- What a cause that halts the plant keeps of the sequences' resume terms, the device's state and its causes. -/
structure HaltStep (s t : State) : Prop extends SameLatches s t where
  pending : t.pending = s.pending
  rterm : ∀ m, (seqOf t m).rterm = (seqOf s m).rterm
  state : rd t Reg.SV_BOOT_STAT = rd s Reg.SV_BOOT_STAT
  cause : rd t Reg.SV_BOOT_SAFE_CAUSE = rd s Reg.SV_BOOT_SAFE_CAUSE

theorem HaltStep.refl (s : State) : HaltStep s s := ⟨.refl s, rfl, fun _ => rfl, rfl, rfl⟩
theorem HaltStep.trans {s t u : State} (h : HaltStep s t) (k : HaltStep t u) : HaltStep s u :=
  ⟨h.toSameLatches.trans k.toSameLatches, k.pending.trans h.pending, fun m => (k.rterm m).trans (h.rterm m), k.state.trans h.state,
    k.cause.trans h.cause⟩

theorem haltStep_seqSet {n : Nat} {v : SeqSt} {s : State} (hat1 : v.at1 = (seqOf s n).at1) (hrterm : v.rterm = (seqOf s n).rterm) :
    HaltStep s (seqSet s n v) := by
  have hsame : ∀ m, (seqOf (seqSet s n v) m).at1 = (seqOf s m).at1 ∧ (seqOf (seqSet s n v) m).rterm = (seqOf s m).rterm := by
    intro m
    by_cases h : n = m
    · subst h; rw [seqOf_seqSet_same]; exact ⟨hat1, hrterm⟩
    · rw [seqOf_seqSet_ne _ _ h]; exact ⟨rfl, rfl⟩
  exact ⟨⟨rfl, rfl, fun m => .inl (hsame m).1, rfl, fun _ => rfl, rfl⟩, rfl, fun m => (hsame m).2, rfl, rfl⟩

/-- A register word that is neither the device's state nor its causes. -/
theorem haltStep_wr {b : Nat} (hb : usesMem (wordBase b) = false) (hstate : wordBase b ≠ wordBase Reg.SV_BOOT_STAT)
    (hcause : wordBase b ≠ wordBase Reg.SV_BOOT_SAFE_CAUSE) (w : Word) (s : State) : HaltStep s (wr s b w) := by
  have honly := wr_register hb s w
  have hstate' := rd_wr_ne s w hstate
  have hcause' := rd_wr_ne s w hcause
  generalize wr s b w = u at *
  refine ⟨?_, by rw [honly], fun m => by rw [honly]; rfl, hstate', hcause'⟩
  rw [honly]; exact ⟨rfl, rfl, fun _ => .inl rfl, rfl, fun _ => rfl, rfl⟩

theorem haltStep_seqRPut {n : Nat} (hn : n < 8) (r : Nat) (s : State) : HaltStep s (seqRPut n r s) := by
  refine haltStep_wr ?_ ?_ ?_ _ s
  · rw [usesMem_eq_false_iff]; simp only [wordBase, Reg.SV_SEQ_STAT, winSize]; omega
  · simp only [wordBase, Reg.SV_SEQ_STAT, Reg.SV_BOOT_STAT]; omega
  · simp only [wordBase, Reg.SV_SEQ_STAT, Reg.SV_BOOT_SAFE_CAUSE]; omega

theorem haltStep_seqHalt {n : Nat} (hn : n < 8) (s : State) : HaltStep s (seqHalt n s) := by
  unfold seqHalt
  dsimp only
  split
  · refine HaltStep.trans ?_ (haltStep_seqRPut hn 2 _)
    exact haltStep_seqSet rfl rfl
  · exact haltStep_seqSet rfl rfl

theorem haltStep_driveJudge (s : State) : HaltStep s (driveJudge s) := by
  have hframe := driveFrame_driveJudge s
  obtain ⟨-, hpending, -, hseq, -⟩ := driveJudge_only s
  refine ⟨hframe.sameLatches, hpending, fun m => by unfold seqOf; rw [hseq], hframe.words _ ?_, hframe.words _ ?_⟩
  · simp [driveStatus, wordBase, Reg.SV_BOOT_STAT, winSize]
  · simp [driveStatus, wordBase, Reg.SV_BOOT_SAFE_CAUSE, winSize]

/-- The plant as SAFE finds it, its state set (R94). -/
def safeSet (s : State) : State :=
  wrF { s with boot := { s.boot with safeAt := s.clk.tb0, safeFrom := devState s, seen := causes s } } Reg.SV_BOOT_STAT 2 0 4

theorem safeEnter_eq (s : State) : safeEnter s = driveJudge (forEach (List.range 8) seqHalt (safeSet s)) := rfl

theorem haltStep_safeEnter (s : State) : HaltStep (safeSet s) (safeEnter s) := by
  rw [safeEnter_eq]
  exact (forEach_keeps (P := HaltStep (safeSet s)) _
    (fun n hn t ht => ht.trans (haltStep_seqHalt (List.mem_range.mp hn) t)) _ (.refl _)).trans (haltStep_driveJudge _)

theorem safeSet_shows (s : State) : devState (safeSet s) = 4 ∧ causes (safeSet s) = causes s
    ∧ SameLatches s (safeSet s) ∧ (safeSet s).pending = s.pending ∧ ∀ m, seqOf (safeSet s) m = seqOf s m := by
  have hne : wordBase Reg.SV_BOOT_STAT ≠ wordBase Reg.SV_BOOT_SAFE_CAUSE := by decide
  have hreg : usesMem (wordBase Reg.SV_BOOT_STAT) = false := by decide
  unfold safeSet
  have hboot : ∀ b, SameLatches s { s with boot := b } ∧ ∀ c, rd { s with boot := b } c = rd s c :=
    fun b => ⟨⟨rfl, rfl, fun _ => .inl rfl, rfl, fun _ => rfl, rfl⟩, fun _ => rfl⟩
  have hrest : ∀ b : BootSt, ({ s with boot := b } : State).pending = s.pending ∧ ∀ m, seqOf { s with boot := b } m = seqOf s m :=
    fun b => ⟨rfl, fun _ => rfl⟩
  specialize hboot { s.boot with safeAt := s.clk.tb0, safeFrom := devState s, seen := causes s }
  specialize hrest { s.boot with safeAt := s.clk.tb0, safeFrom := devState s, seen := causes s }
  generalize ({ s with boot := { s.boot with safeAt := s.clk.tb0, safeFrom := devState s, seen := causes s } } : State) = u at *
  obtain ⟨hsame, hrd⟩ := hboot
  obtain ⟨hpending, hseq⟩ := hrest
  have honly := wr_register hreg u (setBits (rd u Reg.SV_BOOT_STAT) 2 0 4)
  refine ⟨rdF_wrF_same u _ 2 0 4 (by omega) (by omega), ?_, hsame.trans ?_, ?_, fun m => (seqOf_wr _ _ _ _).trans (hseq m)⟩
  · unfold causes rdF; rw [rd_wrF_ne _ _ _ _ hne, hrd]
  · unfold wrF; rw [honly]; exact ⟨rfl, rfl, fun _ => .inl rfl, rfl, fun _ => rfl, rfl⟩
  · unfold wrF; rw [honly]; exact hpending

theorem safeEnter_shows (s : State) : devState (safeEnter s) = 4 ∧ causes (safeEnter s) = causes s
    ∧ SameLatches s (safeEnter s) ∧ (safeEnter s).pending = s.pending
    ∧ ∀ m, (seqOf (safeEnter s) m).rterm = (seqOf s m).rterm := by
  obtain ⟨hstate, hcauses, hsame, hpending, hseq⟩ := safeSet_shows s
  have h := haltStep_safeEnter s
  generalize safeEnter s = t at *
  refine ⟨?_, ?_, hsame.trans h.toSameLatches, h.pending.trans hpending, fun m => (h.rterm m).trans (by rw [hseq])⟩
  · unfold devState rdF at *; rw [h.state]; exact hstate
  · unfold causes rdF at *; rw [h.cause]; exact hcauses

/-- A cause written to the words that show it. -/
def causeShown (m : Nat) (s : State) : State :=
  let t := wrF s Reg.SV_BOOT_SAFE_CAUSE 8 0 (causes s ||| m)
  hwMark Reg.SV_BOOT_SAFE_HIST m (wrF t Reg.SV_BOOT_SAFE_HIST 8 0 (rdF t Reg.SV_BOOT_SAFE_HIST 8 0 ||| m))

theorem causeShown_shows {m : Nat} (hm : m < 512) (s : State) : devState (causeShown m s) = devState s
    ∧ causes (causeShown m s) = causes s ||| m ∧ SameLatches s (causeShown m s) ∧ (causeShown m s).pending = s.pending
    ∧ ∀ i, seqOf (causeShown m s) i = seqOf s i := by
  have hcauses : causes s < 2 ^ 9 := Nat.mod_lt _ (by decide)
  have hor : causes s ||| m < 2 ^ 9 := Nat.or_lt_two_pow hcauses hm
  unfold causeShown
  dsimp only
  have hreg := wr_register (a := Reg.SV_BOOT_SAFE_CAUSE) (by decide) s (setBits (rd s Reg.SV_BOOT_SAFE_CAUSE) 8 0 (causes s ||| m))
  have hstate : rd (wrF s Reg.SV_BOOT_SAFE_CAUSE 8 0 (causes s ||| m)) Reg.SV_BOOT_STAT = rd s Reg.SV_BOOT_STAT :=
    rd_wrF_ne s _ _ _ (by decide)
  have hcause : rdF (wrF s Reg.SV_BOOT_SAFE_CAUSE 8 0 (causes s ||| m)) Reg.SV_BOOT_SAFE_CAUSE 8 0 = causes s ||| m :=
    (rdF_wrF_same s _ 8 0 _ (by omega) (by omega)).trans (Nat.mod_eq_of_lt hor)
  unfold wrF at *
  generalize wr s Reg.SV_BOOT_SAFE_CAUSE _ = t at *
  have hreg' := wr_register (a := Reg.SV_BOOT_SAFE_HIST) (by decide) t
    (setBits (rd t Reg.SV_BOOT_SAFE_HIST) 8 0 (rdF t Reg.SV_BOOT_SAFE_HIST 8 0 ||| m))
  have hstate' := rd_wr_ne t (a := Reg.SV_BOOT_SAFE_HIST) (b := Reg.SV_BOOT_STAT)
    (setBits (rd t Reg.SV_BOOT_SAFE_HIST) 8 0 (rdF t Reg.SV_BOOT_SAFE_HIST 8 0 ||| m)) (by decide)
  have hcause' := rd_wr_ne t (a := Reg.SV_BOOT_SAFE_HIST) (b := Reg.SV_BOOT_SAFE_CAUSE)
    (setBits (rd t Reg.SV_BOOT_SAFE_HIST) 8 0 (rdF t Reg.SV_BOOT_SAFE_HIST 8 0 ||| m)) (by decide)
  generalize wr t Reg.SV_BOOT_SAFE_HIST _ = u at *
  refine ⟨?_, ?_, ?_, ?_, fun i => ?_⟩
  · unfold devState rdF; rw [rd_hwMark, hstate', hstate]
  · unfold causes rdF; rw [rd_hwMark, hcause']; exact hcause
  · rw [hreg', hreg]; exact ⟨rfl, rfl, fun _ => .inl rfl, rfl, fun _ => rfl, rfl⟩
  · rw [hreg', hreg]; rfl
  · rw [hreg', hreg]; rfl

/-- A new cause in TRIAL or RUN enters SAFE and is logged (R94). -/
theorem causeAdd_enters {m : Nat} {s : State} (hm : m < 512) (hnew : causes s &&& m ≠ m) (hstate : devState s = 2 ∨ devState s = 3) :
    causeAdd m s = raiseN 0x0003 0 m (devState s) (safeEnter (causeShown m s)) := by
  have hsame := (causeShown_shows hm s).1
  have heq : causeAdd m s = if devState (causeShown m s) = 2 ∨ devState (causeShown m s) = 3
      then raiseN 0x0003 0 m (devState (causeShown m s)) (safeEnter (causeShown m s))
      else if devState (causeShown m s) = 4
        then raiseN 0x0003 0 m 4 { causeShown m s with boot := { (causeShown m s).boot with seen := (causeShown m s).boot.seen ||| m } }
        else causeShown m s := by
    unfold causeAdd
    dsimp only
    rw [if_neg hnew]
    rfl
  rw [heq, hsame, if_pos hstate]

theorem causeSet_enters {m : Nat} {s : State} (hm : m < 512) (hexit : exitNow s = none) (hnew : causes s &&& m ≠ m)
    (hstate : devState s = 2 ∨ devState s = 3) :
    causeSet m s = raiseN 0x0003 0 m (devState s) (safeEnter (causeShown m s)) := by
  unfold causeSet
  rw [hexit]
  exact causeAdd_enters hm hnew hstate

/-- SAFE entered by a cause, with what the cause leaves of the sequences. -/
theorem causeSet_shows {m : Nat} {s : State} (hm : m < 512) (hexit : exitNow s = none) (hnew : causes s &&& m ≠ m)
    (hstate : devState s = 2 ∨ devState s = 3) : devState (causeSet m s) = 4 ∧ causes (causeSet m s) = causes s ||| m
      ∧ SameLatches s (causeSet m s) ∧ (causeSet m s).pending = s.pending
      ∧ (∀ i, (seqOf (causeSet m s) i).rterm = (seqOf s i).rterm) ∧ raisedEvent 0x0003 0 (w32 m) (w32 (devState s)) (causeSet m s) := by
  rw [causeSet_enters hm hexit hnew hstate]
  obtain ⟨-, hcauses, hsame, hpending, hseq⟩ := causeShown_shows hm s
  generalize causeShown m s = u at *
  obtain ⟨hdev, hcauses', hsame', hpending', hrterm⟩ := safeEnter_shows u
  generalize safeEnter u = t at *
  have hrd : ∀ b, rd (raiseN 0x0003 0 m (devState s) t) b = rd t b := fun b => rd_raiseN _ _ _ _ _ b
  refine ⟨?_, ?_, (hsame.trans hsame').trans (raise_sameLatches _ _ _ _ _), hpending'.trans hpending,
    fun i => (hrterm i).trans (by rw [hseq]), raisedEvent_raise _ _ _ _ _⟩
  · unfold devState rdF at *; rw [hrd]; exact hdev
  · unfold causes rdF at *; rw [hrd]; exact hcauses'.trans hcauses

/-! #### A sequence's record replaced -/

section
variable {m : Nat} {v : SeqSt} {s : State}

theorem seqSet_sameLatches (h : v.at1 = (seqOf s m).at1 ∨ v.at1 = none) : SameLatches s (seqSet s m v) := by
  refine ⟨rfl, rfl, fun i => ?_, rfl, fun _ => rfl, rfl⟩
  by_cases hi : m = i
  · subst hi; rw [seqOf_seqSet_same]; exact h
  · rw [seqOf_seqSet_ne _ _ hi]; exact .inl rfl

/-- What a record asks for at the end of an instant, where the one put in its place asks for the same. -/
theorem asks_seqSet (hsafe : v.askSafe = (seqOf s m).askSafe) (hhib : v.askHib = (seqOf s m).askHib) (i : Nat) :
    (seqOf (seqSet s m v) i).askSafe = (seqOf s i).askSafe ∧ (seqOf (seqSet s m v) i).askHib = (seqOf s i).askHib := by
  by_cases hi : m = i
  · subst hi; rw [seqOf_seqSet_same]; exact ⟨hsafe, hhib⟩
  · rw [seqOf_seqSet_ne _ _ hi]; exact ⟨rfl, rfl⟩

end

/-! #### SEQ_CTL (R266, R277) -/

/-- A stopped sequence's record: in no state, nothing waits. -/
def seqStopped (m : Nat) (s : State) : SeqSt :=
  { seqInit m with want := [], lat := (seqOf s m).lat, askSafe := (seqOf s m).askSafe, askHib := (seqOf s m).askHib }

section
variable {a m : Nat} {s : State} (hm : bits (seqAct s a 0) 2 0 = m) (hports : s.sig.ports = []) (hen : seqEn s m = true)
  (hr : seqR s m ≠ 3)
include hm hports hen hr

theorem actSeqCtl_stop (hw : seqAct s a 1 = 0) : actSeqCtl a s = seqRPut m 0 (seqSet s m (seqStopped m s)) := by
  unfold actSeqCtl seqStop seqStopped
  simp [hm, hen, hr, hw, portMarked_nil hports]

theorem actSeqCtl_start (hw : seqAct s a 1 = 1) : actSeqCtl a s = seqSet s m { seqOf s m with
    want := (seqOf s m).want ++ [{ kind := 18, target := seqInitOf s m, port := 0, us := tb3us s }] } := by
  unfold actSeqCtl
  simp [hm, hen, hr, hw, portMarked_nil hports]

end

/-- What stopping a sequence leaves. -/
theorem seqRPut_seqSet_shows {m : Nat} (hm : m < 8) (v : SeqSt) (s : State) :
    seqR (seqRPut m 0 (seqSet s m v)) m = 0 ∧ (∀ i, seqOf (seqRPut m 0 (seqSet s m v)) i = seqOf (seqSet s m v) i)
      ∧ seqRPut m 0 (seqSet s m v) = { s with
          regs := (seqRPut m 0 (seqSet s m v)).regs, seq := (seqRPut m 0 (seqSet s m v)).seq } := by
  have hreg : usesMem (wordBase (Reg.SV_SEQ_STAT m)) = false := by
    rw [usesMem_eq_false_iff]; simp only [wordBase, Reg.SV_SEQ_STAT, winSize]; omega
  have hput : seqSet s m v = { s with seq := (seqSet s m v).seq } := rfl
  generalize seqSet s m v = u at *
  have honly := wr_register hreg u (setBits (rd u (Reg.SV_SEQ_STAT m)) 31 30 0)
  refine ⟨rdF_wrF_same u _ 31 30 0 (by omega) (by omega), fun i => seqOf_wr _ _ _ _, ?_⟩
  unfold seqRPut wrF
  generalize wr u (Reg.SV_SEQ_STAT m) _ = t at *
  rw [honly, hput]

/-! #### SAFE and HIBERNATE asked for -/

/-- The resume term of a SAFE action (R276), its count at 0. -/
def resumeTermOf (s : State) (a : Nat) : Option (Nat × Nat) :=
  if bit (seqAct s a 2) 31 then some (bits (seqAct s a 2) 10 0, 0) else none
/-- The sequence's record as the cause SEQUENCE finds it: with the resume term, its request taken. -/
def safeAsked (n a : Nat) (s : State) : State := seqSet (actSafe n a s) n { seqOf s n with rterm := resumeTermOf s a }

theorem safeAsked_shows (n a : Nat) (s : State) : SameLatches s (safeAsked n a s) ∧ (seqOf (safeAsked n a s) n).rterm = resumeTermOf s a
    ∧ exitNow (safeAsked n a s) = exitNow s ∧ causes (safeAsked n a s) = causes s ∧ devState (safeAsked n a s) = devState s
    ∧ (safeAsked n a s).pending = s.pending := by
  have hask : SameLatches s (actSafe n a s) := seqSet_sameLatches (.inl rfl)
  have hput : SameLatches (actSafe n a s) (safeAsked n a s) := by
    refine seqSet_sameLatches (.inl ?_)
    unfold actSafe
    dsimp only
    rw [seqOf_seqSet_same]
  exact ⟨hask.trans hput, by unfold safeAsked; rw [seqOf_seqSet_same], rfl, rfl, rfl, rfl⟩

section
variable {n : Nat} {s : State} (hsafe : (seqOf s n).askSafe = false) (hhib : (seqOf s n).askHib = false)
include hsafe hhib

theorem seqAsked_actSafe (a : Nat) : seqAsked n (actSafe n a s) = causeSet 0x20 (safeAsked n a s) := by
  have hv : seqOf (actSafe n a s) n = { seqOf s n with askSafe := true, rterm := resumeTermOf s a } := seqOf_seqSet_same s n _
  unfold seqAsked safeAsked
  dsimp only
  rw [hv]
  dsimp only
  rw [hhib, if_pos rfl]
  generalize seqOf s n = v at *
  cases v
  simp_all

theorem seqAsked_actHib : seqAsked n (actHib n s) = hibRequest 0 (seqSet (actHib n s) n (seqOf s n)) := by
  have hv : seqOf (actHib n s) n = { seqOf s n with askHib := true } := seqOf_seqSet_same s n _
  unfold seqAsked
  dsimp only
  rw [hv]
  dsimp only
  rw [hsafe, if_pos rfl]
  generalize seqOf s n = v at *
  cases v
  simp_all

end

/-- The record of a sequence put back after an action wrote it. -/
theorem seqOf_seqSet_back {n : Nat} {v : SeqSt} {s : State} (m : Nat) :
    seqOf (seqSet (seqSet s n v) n (seqOf s n)) m = seqOf s m := by
  by_cases h : n = m
  · subst h; exact seqOf_seqSet_same _ n _
  · rw [seqOf_seqSet_ne _ _ h, seqOf_seqSet_ne _ _ h]

/-- The power domain replaced. -/
def withPwr (p : PwrSt) (s : State) : State := { s with pwr := p }

/-- The dies after HIBERNATE: reset, with the device's state 0 (Table 02-5). -/
theorem hibEnter_eq (who : Nat) (s : State) : ∃ u cfg p,
    hibEnter who s = withPwr p (wr (wrF (restartBase 1 u) Reg.SV_BOOT_STAT 2 0 0) Reg.SV_PWR_WAKE_CFG cfg) := ⟨_, _, _, rfl⟩

theorem devState_hibEnter (who : Nat) (s : State) : devState (hibEnter who s) = 0 := by
  obtain ⟨u, cfg, p, h⟩ := hibEnter_eq who s
  rw [h]
  generalize restartBase 1 u = r
  have hstat := rdF_wrF_same r Reg.SV_BOOT_STAT 2 0 0 (by omega) (by omega)
  have hkept : ∀ t, rd (withPwr p (wr t Reg.SV_PWR_WAKE_CFG cfg)) Reg.SV_BOOT_STAT = rd t Reg.SV_BOOT_STAT :=
    fun t => rd_wr_ne t cfg (by decide)
  unfold devState rdF at *
  rw [hkept]
  exact hstat

/-- A plant whose dies were just reset has latched nothing. -/
theorem quiet_of_reset {s : State} (hsig : s.sig.tick = none) (hseq : s.seq = []) (heng : s.eng = []) (htrk : s.trk = [])
    (hprb : s.sense.prb = []) (d : Nat) : quiet d s := by
  unfold quiet seqOf engOf trkOf prbOf
  rw [hsig, hseq, heng, htrk, hprb]
  split
  · simp [seqInit]
  · simp [engInit, trkInit, prbInit]

theorem quiet_hibEnter (who : Nat) (s : State) (d : Nat) : quiet d (hibEnter who s) := by
  obtain ⟨u, cfg, p, h⟩ := hibEnter_eq who s
  rw [h]
  have hreset : (restartBase 1 u).sig.tick = none ∧ (restartBase 1 u).seq = [] ∧ (restartBase 1 u).eng = []
      ∧ (restartBase 1 u).trk = [] ∧ (restartBase 1 u).sense.prb = [] := ⟨rfl, rfl, rfl, rfl, rfl⟩
  generalize restartBase 1 u = r at *
  obtain ⟨hsig, hseq, heng, htrk, hprb⟩ := hreset
  have hkept : ∀ b w (t : State), (wr t b w).sig = t.sig ∧ (wr t b w).seq = t.seq ∧ (wr t b w).eng = t.eng ∧ (wr t b w).trk = t.trk
      ∧ (wr t b w).sense = t.sense := fun b w t => ⟨wr_sig _ _ _, wr_seq _ _ _, wr_eng _ _ _, wr_trk _ _ _, wr_sense _ _ _⟩
  obtain ⟨hsig', hseq', heng', htrk', hsense'⟩ := hkept Reg.SV_PWR_WAKE_CFG cfg (wrF r Reg.SV_BOOT_STAT 2 0 0)
  obtain ⟨hsig'', hseq'', heng'', htrk'', hsense''⟩ := hkept Reg.SV_BOOT_STAT (setBits (rd r Reg.SV_BOOT_STAT) 2 0 0) r
  unfold wrF at *
  apply quiet_of_reset
  · exact (congrArg SigSt.tick (hsig'.trans hsig'')).trans hsig
  · exact (hseq'.trans hseq'').trans hseq
  · exact (heng'.trans heng'').trans heng
  · exact (htrk'.trans htrk'').trans htrk
  · exact (congrArg SenseSt.prb (hsense'.trans hsense'')).trans hprb

/-- HIBERNATE entered by a row: nothing is latched again in the dies just reset. -/
theorem run_seqRow_hibEnter {n a : Nat} {s : State} (hn : n < 8) (ha : a < 2048) (hop : bits (seqAct s a 0) 31 24 = 9)
    (hsafe : (seqOf s n).askSafe = false) (hhib : (seqOf s n).askHib = false) (hgo : hibRefusal s = 0) :
    ∃ t, guardIx n 8 (run (seqRow 9 n a) s) = .next t ∧ devState t = 0 := by
  refine ⟨_, (guardIx_lt hn _).trans (run_next _ _), ?_⟩
  have hdo : seqDo n a s = actHib n s := by unfold seqDo; rw [hop]; rfl
  have hrow : seqRow 9 n a s = hibEnter 0 (seqSet (actHib n s) n (seqOf s n)) := by
    have hask : hibRefusal (seqSet (actHib n s) n (seqOf s n)) = 0 := hgo
    unfold seqRow
    rw [if_pos ⟨ha, hop⟩, hdo, seqAsked_actHib hsafe hhib]
    unfold hibRequest
    rw [hask]
    exact sigAgainAll_quiet fun d _ => quiet_hibEnter _ _ d
  have hrd : rd (keepClk (seqRow 9 n a) s) Reg.SV_BOOT_STAT = rd (seqRow 9 n a s) Reg.SV_BOOT_STAT := rd_congr rfl rfl _
  have h := devState_hibEnter 0 (seqSet (actHib n s) n (seqOf s n))
  unfold devState rdF at *
  rw [hrd, hrow, h]

/-! #### The rows -/

section
variable {n a : Nat} {s : State} (hn : n < 8) (ha : a < 2048) (hq : ∀ d, d < 5 → quiet d s)
  (hsafe : (seqOf s n).askSafe = false) (hhib : (seqOf s n).askHib = false)
include hn ha hq hsafe hhib

/-- A row whose action leaves every sequence's record. -/
theorem run_seqRow_plain {op : Nat} {u : State} (hop : bits (seqAct s a 0) 31 24 = op) (hact : seqDo n a s = u)
    (hsame : SameLatches s u) (hpending : u.pending = s.pending) (hseq : ∀ m, seqOf u m = seqOf s m) :
    guardIx n 8 (run (seqRow op n a) s) = .next (seqReput n u) ∧ ∀ m, seqOf (seqReput n u) m = seqOf s m :=
  ⟨run_seqRow hn ha hop hq hact hsame hpending (by rw [hseq]; exact hsafe) (by rw [hseq]; exact hhib),
    fun m => (seqOf_seqReput n m u).trans (hseq m)⟩

/-- WRITE_SIG and COPY_SIG (R39): the row writes the entry. -/
theorem run_seqRow_sig {op d e : Nat} {v : Word} (hop : bits (seqAct s a 0) 31 24 = op) (hact : seqDo n a s = actSig a v s)
    (hdie : bits (seqAct s a 0) 23 16 = d) (hentry : bits (seqAct s a 0) 15 0 = e) (hd : d ≤ 4) (he : e < sigCount d)
    (hkind : sigKind s d e = 6 ∨ sigKind s d e = 7) :
    ∃ t, guardIx n 8 (run (seqRow op n a) s) = .next t
      ∧ rd t (sigAddr d e) = (if portMarked s 0 (d * 4096 + e) then rd s (sigAddr d e) else v) ∧ sigValid t d e = true
      ∧ sigUpd t d e = (sigUpd s d e + 1) % 65536 ∧ rd t (sigAddr d e + 8) = nowUs s ∧ (∀ m, seqOf t m = seqOf s m)
      ∧ t = { s with mem := t.mem, upd := t.upd, seq := t.seq } ∧ wordsKept [(sigAddr d e, sigAddr d e + 12)] s t := by
  have hw := actSig_entryWritten (v := v) hdie hentry hd he hkind
  generalize actSig a v s = u at *
  obtain ⟨hexec, hseqs⟩ := run_seqRow_plain hn ha hq hsafe hhib hop hact hw.sameLatches hw.pending hw.seqs
  exact ⟨_, hexec, hw.value, hw.valid, hw.upd, hw.inst, hseqs, hw.reput n, fun c hc => (rd_seqReput n u c).trans (hw.words c hc)⟩

/-- LOOP_REQ with no port's request in this tick puts the request of a loop that latches (R235). -/
theorem run_seqRow_loopReq {g : Nat} (hop : bits (seqAct s a 0) 31 24 = 3) (hports : s.sig.ports = []) (hg : actLp s a 64 = g)
    (hcfg : rdB s (Reg.LP_LOOP_CFG g) 31 = true) (hstate : loopState s g ≤ 3) :
    ∃ t, guardIx n 8 (run (seqRow 3 n a) s) = .next t ∧ loopOf t g = { loopOf s g with req := some ((seqAct s a 1).toNat, 4) }
      ∧ (∀ m, seqOf t m = seqOf s m) ∧ t = { s with loops := t.loops, seq := t.seq } := by
  have hact : seqDo n a s = loopSet s g { loopOf s g with req := some ((seqAct s a 1).toNat, 4) } := by
    have hdo : seqDo n a s = actLoopReq a s := by unfold seqDo; rw [hop]; rfl
    have hlatch : loopLatches s g = true := by unfold loopLatches; rw [hcfg]; simpa using hstate
    rw [hdo]
    unfold actLoopReq loopRequest
    simp [hg, portMarked_nil hports, hlatch]
  obtain ⟨hexec, hseqs⟩ := run_seqRow_plain hn ha hq hsafe hhib hop hact ⟨rfl, rfl, fun _ => .inl rfl, rfl, fun _ => rfl, rfl⟩ rfl
    fun _ => rfl
  exact ⟨_, hexec, loopOf_loopSet_same s g _, hseqs, rfl⟩

/-- LOOP_MANVAL where a port has written it in this tick (R271). -/
theorem run_seqRow_manvalMarked (hop : bits (seqAct s a 0) 31 24 = 4) (hmark : portMarked s 2 (actLp s a 64) = true) :
    ∃ t, guardIx n 8 (run (seqRow 4 n a) s) = .next t
      ∧ rd t (Reg.LP_LOOP_MANVAL (actLp s a 64)) = rd s (Reg.LP_LOOP_MANVAL (actLp s a 64)) := by
  have hact : seqDo n a s = s := by unfold seqDo; rw [hop]; exact if_pos hmark
  obtain ⟨hexec, -⟩ := run_seqRow_plain hn ha hq hsafe hhib hop hact (.refl s) rfl fun _ => rfl
  exact ⟨_, hexec, rd_seqReput n s _⟩

/-- LOOP_MANVAL (R266): the row writes the word. -/
theorem run_seqRow_manval {g : Nat} (hop : bits (seqAct s a 0) 31 24 = 4) (hports : s.sig.ports = []) (hg : actLp s a 64 = g) :
    ∃ t, guardIx n 8 (run (seqRow 4 n a) s) = .next t ∧ rd t (Reg.LP_LOOP_MANVAL g) = seqAct s a 1 ∧ (∀ m, seqOf t m = seqOf s m)
      ∧ t = { s with regs := t.regs, hwset := t.hwset, upd := t.upd, seq := t.seq }
      ∧ wordsKept [(Reg.LP_LOOP_MANVAL g, Reg.LP_LOOP_MANVAL g + 4)] s t := by
  have hw := wordStored_wrStored (loopManval_isRegister g) (seqAct s a 1) s
  have hact : seqDo n a s = wrStored (Reg.LP_LOOP_MANVAL g) (seqAct s a 1) s := by
    have hdo : seqDo n a s = actLoopManval a s := by unfold seqDo; rw [hop]; rfl
    rw [hdo]
    unfold actLoopManval
    simp [hg, portMarked_nil hports]
  generalize wrStored (Reg.LP_LOOP_MANVAL g) (seqAct s a 1) s = u at *
  obtain ⟨hexec, hseqs⟩ := run_seqRow_plain hn ha hq hsafe hhib hop hact hw.sameLatches hw.pending hw.seqs
  refine ⟨_, hexec, (rd_seqReput n u _).trans hw.value, hseqs, hw.reput n, wordsKept_window fun c hc =>
    (rd_seqReput n u c).trans (hw.words c ?_)⟩
  simp only [wordBase, Reg.LP_LOOP_MANVAL, lpAt, winSize] at *
  omega

/-- CHAN (R274): the row withholds or gives the sequence enable of a valve channel. -/
theorem run_seqRow_chan {c : Bool × Nat} (hop : bits (seqAct s a 0) 31 24 = 5) (hc : actChanOf s a = c) :
    ∃ t, guardIx n 8 (run (seqRow 5 n a) s) = .next t ∧ (seqAct s a 1 = 0 → c ∈ t.drv.seqOff) ∧ (seqAct s a 1 = 1 → c ∉ t.drv.seqOff)
      ∧ (∀ y, y ≠ c → (y ∈ t.drv.seqOff ↔ y ∈ s.drv.seqOff)) ∧ t.clk = s.clk ∧ t.loops = s.loops ∧ ∀ m, seqOf t m = seqOf s m := by
  obtain ⟨hsame, hclk, hpending, hloops, hseq, hoff⟩ := actChan_frame a s
  have hact : seqDo n a s = actChan a s := by unfold seqDo; rw [hop]; rfl
  rw [hc] at hoff
  generalize actChan a s = u at *
  obtain ⟨hexec, hseqs⟩ := run_seqRow_plain hn ha hq hsafe hhib hop hact hsame hpending hseq
  have hmem : ∀ y, y ∈ (seqReput n u).drv.seqOff ↔ (y = c ∧ decide (seqAct s a 1 = 0) = true) ∨ (y ≠ c ∧ y ∈ s.drv.seqOff) := by
    intro y
    rw [← mem_seqOffPut c y (decide (seqAct s a 1 = 0)) s, ← hoff]
    rfl
  refine ⟨_, hexec, fun hw => ?_, fun hw => ?_, fun y hy => ?_, hclk, hloops, hseqs⟩
  · rw [hmem]; exact .inl ⟨rfl, by simp [hw]⟩
  · rw [hmem]; simp [hw]
  · rw [hmem]; simp [hy]

/-- TRK_CMD (R204): the row gives the column its command. -/
theorem run_seqRow_trkCmd {c : Nat} (hop : bits (seqAct s a 0) 31 24 = 6) (hports : s.sig.ports = []) (hc : actLp s a 4 = c)
    (hw : (seqAct s a 1).toNat = 1 ∨ (seqAct s a 1).toNat = 2 ∨ (seqAct s a 1).toNat = 4) :
    ∃ t, guardIx n 8 (run (seqRow 6 n a) s) = .next t ∧ (∀ m, seqOf t m = seqOf s m) ∧ t = { s with trk := t.trk, seq := t.seq }
      ∧ trkOf t c = { trkOf s c with cmds := (trkOf s c).cmds ++ [trkCmdOf (seqAct s a 1)] } := by
  have hact : seqDo n a s = actTrkCmd a s := by unfold seqDo; rw [hop]; rfl
  rw [actTrkCmd_eq hports hw, hc] at hact
  obtain ⟨hexec, hseqs⟩ := run_seqRow_plain hn ha hq hsafe hhib hop hact (trkSet_cmds_sameLatches _ _ s) rfl fun _ => rfl
  exact ⟨_, hexec, hseqs, rfl, trkOf_trkSet_same s c _⟩

/-- PLS_CLR (R147): the row clears the accumulator. -/
theorem run_seqRow_plsClr {x : Nat} (hop : bits (seqAct s a 0) 31 24 = 7) (hx : actLp s a 8 = x) :
    ∃ t, guardIx n 8 (run (seqRow 7 n a) s) = .next t ∧ (plsOf t x).acc = 0 ∧ (∀ m, seqOf t m = seqOf s m)
      ∧ t = { s with sense := t.sense, seq := t.seq } := by
  have hact : seqDo n a s = plsClear x s := by
    have hdo : seqDo n a s = actPlsClr a s := by unfold seqDo; rw [hop]; rfl
    rw [hdo, ← hx]; rfl
  obtain ⟨hexec, hseqs⟩ := run_seqRow_plain hn ha hq hsafe hhib hop hact ⟨rfl, rfl, fun _ => .inl rfl, rfl, fun _ => rfl, rfl⟩ rfl
    fun _ => rfl
  exact ⟨_, hexec, congrArg PlsSt.acc (plsOf_plsSet_same s x _), hseqs, rfl⟩

/-- LOG (R266): the row logs SEQ_MARK. -/
theorem run_seqRow_log (hop : bits (seqAct s a 0) 31 24 = 10) :
    ∃ t, guardIx n 8 (run (seqRow 10 n a) s) = .next t ∧ raisedEvent 0x0022 0 (w32 (n + seqNow s n * 256)) (seqAct s a 1) t
      ∧ (∀ m, seqOf t m = seqOf s m) ∧ t = { s with log := t.log, seq := t.seq } := by
  have hword : w32 (seqAct s a 1).toNat = seqAct s a 1 := by unfold w32; simp
  have hact : seqDo n a s = raise 0x0022 0 (w32 (n + seqNow s n * 256)) (seqAct s a 1) s := by
    have hdo : seqDo n a s = raise 0x0022 0 (w32 (n + seqNow s n * 256)) (w32 (seqAct s a 1).toNat) s := by unfold seqDo; rw [hop]; rfl
    rw [hdo, hword]
  obtain ⟨hexec, hseqs⟩ := run_seqRow_plain hn ha hq hsafe hhib hop hact (raise_sameLatches _ _ _ _ _) rfl fun _ => rfl
  exact ⟨_, hexec, raisedEvent_of_log (raisedEvent_raise _ _ _ _ s) rfl, hseqs, rfl⟩

/-- SEQ_CTL (R266, R277): the row stops a sequence. -/
theorem run_seqRow_stop {m : Nat} (hop : bits (seqAct s a 0) 31 24 = 11) (hports : s.sig.ports = [])
    (hm : bits (seqAct s a 0) 2 0 = m) (hm8 : m < 8) (hen : seqEn s m = true) (hr : seqR s m ≠ 3) (hw : seqAct s a 1 = 0) :
    ∃ t, guardIx n 8 (run (seqRow 11 n a) s) = .next t ∧ seqR t m = 0 ∧ (seqOf t m).entered = false
      ∧ t = { s with regs := t.regs, hwset := t.hwset, seq := t.seq } := by
  have hact : seqDo n a s = seqRPut m 0 (seqSet s m (seqStopped m s)) := by
    have hdo : seqDo n a s = actSeqCtl a s := by unfold seqDo; rw [hop]; rfl
    rw [hdo, actSeqCtl_stop hm hports hen hr hw]
  obtain ⟨hstop, hseq, honly⟩ := seqRPut_seqSet_shows hm8 (seqStopped m s) s
  have hlatch : SameLatches s (seqSet s m (seqStopped m s)) := seqSet_sameLatches (.inr rfl)
  have hasks := asks_seqSet (m := m) (v := seqStopped m s) (s := s) rfl rfl n
  have hentered : (seqOf (seqSet s m (seqStopped m s)) m).entered = false := by rw [seqOf_seqSet_same]; rfl
  have hsame := (haltStep_seqRPut hm8 0 (seqSet s m (seqStopped m s))).toSameLatches
  generalize seqRPut m 0 (seqSet s m (seqStopped m s)) = u at *
  refine ⟨_, run_seqRow hn ha hop hq hact (hlatch.trans hsame) (by rw [honly]) ?_ ?_, ?_, ?_, ?_⟩
  · rw [hseq, hasks.1]; exact hsafe
  · rw [hseq, hasks.2]; exact hhib
  · unfold seqR rdF at *; rw [rd_seqReput]; exact hstop
  · rw [seqOf_seqReput, hseq]; exact hentered
  · rw [honly]; rfl

/-- SEQ_CTL (R266): the row starts a sequence at its next transition instant. -/
theorem run_seqRow_start {m : Nat} (hop : bits (seqAct s a 0) 31 24 = 11) (hports : s.sig.ports = [])
    (hm : bits (seqAct s a 0) 2 0 = m) (hen : seqEn s m = true) (hr : seqR s m ≠ 3) (hw : seqAct s a 1 = 1) :
    ∃ t, guardIx n 8 (run (seqRow 11 n a) s) = .next t ∧ t = { s with seq := t.seq } ∧ seqOf t m = { seqOf s m with
      want := (seqOf s m).want ++ [{ kind := 18, target := seqInitOf s m, port := 0, us := tb3us s }] } := by
  have hact : seqDo n a s = seqSet s m { seqOf s m with
      want := (seqOf s m).want ++ [{ kind := 18, target := seqInitOf s m, port := 0, us := tb3us s }] } := by
    have hdo : seqDo n a s = actSeqCtl a s := by unfold seqDo; rw [hop]; rfl
    rw [hdo, actSeqCtl_start hm hports hen hr hw]
  have hasks := asks_seqSet (m := m) (v := { seqOf s m with
    want := (seqOf s m).want ++ [{ kind := 18, target := seqInitOf s m, port := 0, us := tb3us s }] }) (s := s) rfl rfl n
  refine ⟨_, run_seqRow hn ha hop hq hact (seqSet_sameLatches (.inl rfl)) rfl (hasks.1.trans hsafe) (hasks.2.trans hhib), rfl, ?_⟩
  rw [seqOf_seqReput, seqOf_seqSet_same]

/-- SAFE (R276): the row enters SAFE with the cause SEQUENCE and the resume term. -/
theorem run_seqRow_safe (hop : bits (seqAct s a 0) 31 24 = 8) (hnew : causes s &&& 0x20 = 0) (hexit : exitNow s = none)
    (hstate : devState s = 2 ∨ devState s = 3) :
    ∃ t, guardIx n 8 (run (seqRow 8 n a) s) = .next t ∧ devState t = 4 ∧ causes t = causes s ||| 0x20
      ∧ (seqOf t n).rterm = (if bit (seqAct s a 2) 31 then some (bits (seqAct s a 2) 10 0, 0) else none)
      ∧ raisedEvent 0x0003 0 0x20 (w32 (devState s)) t := by
  have hact : seqAsked n (seqDo n a s) = causeSet 0x20 (safeAsked n a s) := by
    have hdo : seqDo n a s = actSafe n a s := by unfold seqDo; rw [hop]; rfl
    rw [hdo, seqAsked_actSafe hsafe hhib]
  obtain ⟨hset, hterm, hexit', hcauses', hstate', hpending'⟩ := safeAsked_shows n a s
  generalize safeAsked n a s = u at *
  obtain ⟨hdev, hcauses, hsame, hpending, hrterm, hev⟩ := causeSet_shows (m := 0x20) (s := u) (by omega) (hexit'.trans hexit)
    (by rw [hcauses', hnew]; omega) (by rw [hstate']; exact hstate)
  rw [hstate'] at hev
  rw [hcauses'] at hcauses
  exact ⟨_, run_seqRow_asked hn ha hop hq hact (hset.trans hsame) (hpending.trans hpending'), hdev, hcauses, (hrterm n).trans hterm, hev⟩

/-- HIBERNATE refused (R54): the row logs the reason, no more. -/
theorem run_seqRow_hibRefused (hop : bits (seqAct s a 0) 31 24 = 9) (hno : hibRefusal s = 1 ∨ hibRefusal s = 2) :
    ∃ t, guardIx n 8 (run (seqRow 9 n a) s) = .next t ∧ raisedEvent 0x0015 0 (w32 (hibRefusal s)) 0 t ∧ (∀ m, seqOf t m = seqOf s m)
      ∧ t = { s with log := t.log, seq := t.seq } := by
  have hback : ∀ m, seqOf (seqSet (actHib n s) n (seqOf s n)) m = seqOf s m := seqOf_seqSet_back
  have hsame : SameLatches s (seqSet (actHib n s) n (seqOf s n)) := ⟨rfl, rfl, fun m => .inl (by rw [hback]), rfl, fun _ => rfl, rfl⟩
  have hframe : seqSet (actHib n s) n (seqOf s n) = { s with seq := (seqSet (actHib n s) n (seqOf s n)).seq } := rfl
  have hask : hibRefusal (seqSet (actHib n s) n (seqOf s n)) = hibRefusal s := rfl
  have hact : seqAsked n (seqDo n a s) = hibRequest 0 (seqSet (actHib n s) n (seqOf s n)) := by
    have hdo : seqDo n a s = actHib n s := by unfold seqDo; rw [hop]; rfl
    rw [hdo, seqAsked_actHib hsafe hhib]
  generalize seqSet (actHib n s) n (seqOf s n) = u at *
  have hreq : hibRequest 0 u = raiseN 0x0015 0 (hibRefusal s) 0 u := by
    unfold hibRequest
    rcases hno with h | h <;> rw [hask, h] <;> rfl
  rw [hreq] at hact
  refine ⟨_, run_seqRow_asked hn ha hop hq hact (hsame.trans (raise_sameLatches _ _ _ _ _)) ?_, raisedEvent_raise _ _ _ _ _,
    hback, ?_⟩
  · rw [hframe]; rfl
  · rw [hframe]; rfl

end

/-- Settles O41: each row is its action followed by what it asked for at the end of the instant, with no latch to make again. -/
theorem sequenceActionsAct : Obligations.SequenceActionsAct := by
  unfold Obligations.SequenceActionsAct
  intro n a s hn ha v d x w seqs hsafe hhib hq
  refine ⟨fun hop hd he hkind hports => ?_, fun hop hd1 hd hx hports => ?_,
    fun hports op hop => ⟨?_, ?_, ?_, ?_, ?_, ?_, ?_, ?_, ?_, ?_, ?_⟩, fun c op hc hop => ?_⟩
  · obtain ⟨t, hexec, hvalue, -, hupd, -⟩ :=
      run_seqRow_sig hn ha hq hsafe hhib (v := w) hop (by unfold seqDo; rw [hop]; rfl) rfl rfl hd he hkind
    exact ⟨t, hexec, hvalue.trans (if_pos (portMarked_one hports)), hupd⟩
  · exact run_seqRow_manvalMarked hn ha hq hsafe hhib hop (portMarked_one hports)
  · rintro rfl hd he hkind
    obtain ⟨t, hexec, hvalue, hrest⟩ :=
      run_seqRow_sig hn ha hq hsafe hhib (v := w) hop (by unfold seqDo; rw [hop]; rfl) rfl rfl hd he hkind
    exact ⟨t, hexec, hvalue.trans (if_neg (by simp [portMarked_nil hports])), hrest⟩
  · rintro rfl hd he hkind
    obtain ⟨t, hexec, hvalue, -, -, -, hseqs, hframe, hwords⟩ :=
      run_seqRow_sig hn ha hq hsafe hhib hop (by unfold seqDo; rw [hop]; rfl) rfl rfl hd he hkind
    refine ⟨t, hexec, hseqs, hframe, hwords, fun k hk => hvalue.trans ((if_neg (by simp [portMarked_nil hports])).trans ?_)⟩
    rw [hk]
  · rintro rfl - - - - g hcfg hstate
    exact run_seqRow_loopReq hn ha hq hsafe hhib hop hports rfl hcfg hstate
  · rintro rfl - - -
    exact run_seqRow_manval hn ha hq hsafe hhib hop hports rfl
  · rintro rfl - hx
    exact run_seqRow_chan hn ha hq hsafe hhib hop (actChanOf_valve hx)
  · rintro rfl - - - hw c
    exact run_seqRow_trkCmd hn ha hq hsafe hhib hop hports rfl hw
  · rintro rfl - - - -
    exact run_seqRow_plsClr hn ha hq hsafe hhib hop rfl
  · rintro rfl hnew hexit hstate
    exact run_seqRow_safe hn ha hq hsafe hhib hop hnew hexit hstate
  · rintro rfl
    exact ⟨fun hgo => run_seqRow_hibEnter hn ha hop hsafe hhib hgo, fun hno => run_seqRow_hibRefused hn ha hq hsafe hhib hop hno⟩
  · rintro rfl
    exact run_seqRow_log hn ha hq hsafe hhib hop
  · rintro rfl m hen hr
    exact ⟨fun hw => run_seqRow_stop hn ha hq hsafe hhib hop hports rfl (Nat.mod_lt _ (by decide)) hen hr hw,
      fun hw => run_seqRow_start hn ha hq hsafe hhib hop hports rfl hen hr hw⟩
  · simp only [List.mem_cons, Prod.mk.injEq, List.not_mem_nil, or_false] at hc
    rcases hc with ⟨rfl, rfl⟩ | ⟨rfl, rfl⟩ | ⟨rfl, rfl⟩ | ⟨rfl, rfl⟩ | ⟨rfl, rfl⟩ | ⟨rfl, rfl⟩ | ⟨rfl, rfl⟩ | ⟨rfl, rfl⟩ | ⟨rfl, rfl⟩
      | ⟨rfl, rfl⟩ | ⟨rfl, rfl⟩ <;> exact run_seqRow_other hn hop

end Sys2Proof.Machine.GrainPlant
end

section
/-!
PROOFS. What the statements about rails, HIBERNATE, starts and pulse inputs share: register words within windows, counters, and a port's
write that is refused.
-/
namespace Sys2Proof.Machine.PackageRails
open Sys2Proof.Machine.GrainPlant

/-! ### Register words within windows -/

/-- Register words of the windows, marks and events: nothing else differs, and no event is taken back. -/
structure Within (ws : List (Nat × Nat)) (s t : State) : Prop where
  only : t = { s with regs := t.regs, hwset := t.hwset, log := t.log }
  words : wordsKept ws s t
  raised : ∀ e ∈ s.log.raised, e ∈ t.log.raised

theorem Within.refl (ws : List (Nat × Nat)) (s : State) : Within ws s s := ⟨rfl, fun _ _ => rfl, fun _ h => h⟩
theorem Within.trans {ws : List (Nat × Nat)} {s t u : State} (h : Within ws s t) (k : Within ws t u) : Within ws s u :=
  ⟨by rw [k.only, h.only], fun a ha => (k.words a ha).trans (h.words a ha), fun e he => k.raised e (h.raised e he)⟩

theorem within_raise (ws : List (Nat × Nat)) (code unit : Nat) (p0 p1 : Word) (s : State) : Within ws s (raise code unit p0 p1 s) :=
  ⟨rfl, fun _ _ => rfl, fun _ h => mem_raise h⟩

section
variable {ws : List (Nat × Nat)} {lo hi a : Nat} (hmem : (lo, hi) ∈ ws) (halign : lo % 4 = 0 ∧ hi % 4 = 0) (ha : lo ≤ a ∧ a < hi)
  (hreg : usesMem (wordBase a) = false)
include hmem halign ha hreg

theorem within_wr (w : Word) (s : State) : Within ws s (wr s a w) where
  only := by rw [wr_register hreg]
  words := fun b hb => rd_wr_ne s w (by have := hb _ hmem; unfold wordBase; omega)
  raised := fun e he => by rwa [wr_log]
theorem within_wrB (i : Nat) (v : Bool) (s : State) : Within ws s (wrB s a i v) := within_wr hmem halign ha hreg _ s
theorem within_wrF (h l v : Nat) (s : State) : Within ws s (wrF s a h l v) := within_wr hmem halign ha hreg _ s
theorem within_hwSet (i : Nat) (s : State) : Within ws s (hwSet s a i) :=
  (within_wrB hmem halign ha hreg i true s).trans ⟨rfl, fun _ _ => rfl, fun _ h => h⟩
theorem within_countS (h l ovf : Nat) (s : State) : Within ws s (countS a h l ovf s) := by
  unfold countS
  dsimp only
  split
  · exact .refl ws s
  · split
    · exact (within_wrF hmem halign ha hreg _ _ _ s).trans ((within_hwSet hmem halign ha hreg ovf _).trans (within_raise _ _ _ _ _ _))
    · exact within_wrF hmem halign ha hreg _ _ _ s

end

/-- A register bit written: the words of its window, and no event. -/
theorem wrB_only {a : Nat} (hreg : usesMem (wordBase a) = false) (s : State) (i : Nat) (b : Bool) :
    wrB s a i b = { s with regs := (wrB s a i b).regs } := wr_register hreg s _
theorem registersOnly_hwSet {a : Nat} (hreg : usesMem (wordBase a) = false) (s : State) (i : Nat) : registersOnly s (hwSet s a i) := by
  have hmark : ∀ u : State, registersOnly u (hwMark a (2 ^ i) u) := fun _ => rfl
  exact registersOnly_trans (registersOnly_wr hreg s _) (hmark _)

/-! ### Counters (R22) -/

/-- A class S counter counts and stops at its maximum (R22). -/
theorem rdF_countS (a : Nat) {hi lo ovf : Nat} (hlo : lo ≤ hi) (hhi : hi ≤ 31) (hovf : hi < ovf ∨ ovf < lo) (s : State) :
    rdF (countS a hi lo ovf s) a hi lo = min (2 ^ (hi - lo + 1) - 1) (rdF s a hi lo + 1) := by
  have hlt : rdF s a hi lo < 2 ^ (hi - lo + 1) := Nat.mod_lt _ (by positivity)
  unfold countS
  dsimp only
  generalize hn : 2 ^ (hi - lo + 1) = n at *
  split
  · omega
  · have hput : rdF (wrF s a hi lo (rdF s a hi lo + 1)) a hi lo = rdF s a hi lo + 1 := by
      rw [rdF_wrF_same _ _ _ _ _ hhi hlo, hn]; exact Nat.mod_eq_of_lt (by omega)
    split
    · have hset := rdF_wrB_field (wrF s a hi lo (rdF s a hi lo + 1)) a ovf true hi lo hlo hovf
      exact (hset.trans hput).trans (by omega)
    · rw [hput]; omega

theorem rdF_count16 (a : Nat) (s : State) : rdF (count16 a s) a 15 0 = min 65535 (rdF s a 15 0 + 1) :=
  rdF_countS a (by omega) (by omega) (by omega) s

/-! ### A port's write that is refused (R25, R26) -/

/-- A refused write of the owner logs an ACCESS_VIOL after what the refusal leaves behind. -/
theorem ownerWrite_refused {p : PortId} {a : Nat} {s : State} {op : WOp} {f : State → State} (h : mayWrite p a s)
    (hop : op s = (.refused, f)) : ownerWrite p a op s = logViol p 2 .refused a (f s) := by
  obtain ⟨hup, hboot, howner, hloaded⟩ := h
  rcases ownerWrite_cases p a op s with ⟨hheld, -⟩ | ⟨hno, -⟩ | ⟨-, hnl, hnr, -⟩ | ⟨-, -, hok, -⟩ | ⟨-, -, -, e⟩
  · rcases hheld with hdown | ⟨hp, hst, hword⟩
    · simp [hdown] at hup
    · rcases hboot with h | h | h
      · exact absurd h hp
      · exact absurd hst h
      · simp [hword] at h
  · simp [hno] at howner
  · simp [hnl, hnr] at hloaded
  · rw [hop] at hok; exact absurd hok nofun
  · rw [e, hop]

/-- A taken write of the owner performs its operation, with the lease renewed. -/
theorem ownerWrite_accepted {p : PortId} {a : Nat} {s : State} {op : WOp} {f : State → State} (h : mayWrite p a s)
    (hop : op s = (.ok, f)) : ownerWrite p a op s = f (renewLease p s) := by
  have htaken := ownerWrite_taken h f
  have hsame : ownerWrite p a op s = ownerWrite p a (wOk f) s := by
    unfold ownerWrite portAct ownerJudge wOk
    rw [hop]
  rw [hsame, htaken]

/-- What a logged refusal shows (R26): its address, its status, words of the SV die, marks and events. -/
theorem logViol_refused (p : PortId) (a : Nat) (s : State) : rdF (logViol p 2 .refused a s) Reg.SV_VIOL_INFO 19 16 = 7
    ∧ rd (logViol p 2 .refused a s) Reg.SV_VIOL_ADDR = w32 a
    ∧ Within [(Reg.SV_OWN_ATTN, Reg.SV_VIOL_CNT + 4)] s (logViol p 2 .refused a s) := by
  have hcode : portCode p < 4 := by cases p <;> simp [portCode]
  have hinfo : bits (w32 (portAddr p * 0x100000 + 7 * 0x10000 + 2 * 256 + portCode p)) 19 16 = 7 := by
    unfold bits w32; rw [BitVec.toNat_ofNat]; omega
  unfold logViol rdF
  dsimp only
  rw [rd_raiseN, rd_raiseN, rd_hwSet_ne _ _ (by decide), rd_hwSet_ne _ _ (by decide)]
  unfold count31
  rw [rd_countS_ne _ _ _ _ (by decide), rd_countS_ne _ _ _ _ (by decide), rd_wrN_same, rd_wrN_ne _ _ (by decide), rd_wrN_same]
  refine ⟨hinfo, rfl, ?_⟩
  refine Within.trans ?_ (within_raise _ _ _ _ _ _)
  refine Within.trans ?_ (within_hwSet (a := Reg.SV_OWN_ATTN) List.mem_cons_self (by decide) (by decide) (by decide) _ _)
  refine Within.trans ?_ (within_countS (a := Reg.SV_VIOL_CNT) List.mem_cons_self (by decide) (by decide) (by decide) _ _ _ _)
  refine Within.trans ?_ (within_wr (a := Reg.SV_VIOL_INFO) List.mem_cons_self (by decide) (by decide) (by decide) _ _)
  exact within_wr (a := Reg.SV_VIOL_ADDR) List.mem_cons_self (by decide) (by decide) (by decide) _ s

end Sys2Proof.Machine.PackageRails
end

section
/-!
PROOFS. A device frame queued for the bus, and a value put out by its producer: what they touch (R221, R222, R352, R360).
-/
namespace Sys2Proof.Machine.PackageRails
open Sys2Proof.Machine.GrainPlant

/-! ### The NW die (R343, R352) -/

/-- Words of the NW die, channel records, marks and events: nothing else differs. -/
structure NwFrame (s t : State) : Prop where
  only : t = { s with regs := t.regs, mem := t.mem, hwset := t.hwset, log := t.log, can := t.can }
  words : ∀ a, a < 0x07000000 ∨ 0x08000000 ≤ a → rd t a = rd s a

theorem NwFrame.refl (s : State) : NwFrame s s := ⟨rfl, fun _ _ => rfl⟩
theorem NwFrame.trans {s t u : State} (h : NwFrame s t) (k : NwFrame t u) : NwFrame s u :=
  ⟨by rw [k.only, h.only], fun a ha => (k.words a ha).trans (h.words a ha)⟩

theorem nwFrame_wr {a : Nat} (ha : 0x07000000 ≤ a ∧ a < 0x08000000) (w : Word) (s : State) : NwFrame s (wr s a w) where
  only := by unfold wr; dsimp only; split <;> rfl
  words := fun b hb => rd_wr_ne s w (by unfold wordBase; omega)
theorem nwFrame_wrB {a : Nat} (ha : 0x07000000 ≤ a ∧ a < 0x08000000) (i : Nat) (b : Bool) (s : State) : NwFrame s (wrB s a i b) :=
  nwFrame_wr ha _ s
theorem nwFrame_canSet (n : Nat) (c : CanSt) (s : State) : NwFrame s (canSet s n c) := ⟨rfl, fun _ _ => rfl⟩
theorem nwFrame_count31 {a : Nat} (ha : 0x07000000 ≤ a ∧ a < 0x08000000) (s : State) : NwFrame s (count31 a s) := by
  unfold count31 countS
  dsimp only
  split
  · exact .refl s
  · split
    · exact (nwFrame_wr ha _ s).trans ((nwFrame_wrB ha 31 true _).trans ⟨rfl, fun _ _ => rfl⟩)
    · exact nwFrame_wr ha _ s

theorem nwFrame_wrList {a : Nat} {l : List Word} (ha : 0x07000000 ≤ a ∧ a + 4 * l.length ≤ 0x08000000) (s : State) :
    NwFrame s (wrList s a l) := by
  induction l generalizing a s with
  | nil => exact .refl s
  | cons w l ih =>
    rw [List.length_cons] at ha
    exact (nwFrame_wr (by omega) w s).trans (ih (by omega) _)

theorem length_packWords (l : List Byte) : (packWords l).length = (l.length + 3) / 4 := by
  induction l using packWords.induct with
  | case1 => rfl
  | case2 => simp [packWords]
  | case3 => simp [packWords]
  | case4 => simp [packWords]
  | case5 a b c d r ih => simp only [packWords, List.length_cons, ih]; omega

/-- The words of a TX buffer, and of its channel, lie in the window of the NW die. -/
theorem txWords_inNw {n b : Nat} (hn : n < 8) (hb : b < 33) : 0x07000000 ≤ elemAddr n b ∧ elemAddr n b + 80 ≤ 0x08000000
    ∧ (0x07000000 ≤ Reg.NW_CH_TXREQ n ∧ Reg.NW_CH_TXREQ n < 0x08000000)
    ∧ (0x07000000 ≤ Reg.NW_CH_TXPEND n ∧ Reg.NW_CH_TXPEND n < 0x08000000)
    ∧ (0x07000000 ≤ Reg.NW_CH_TXCAN n ∧ Reg.NW_CH_TXCAN n < 0x08000000) := by
  simp only [elemAddr, Reg.NW_CH_TXREQ, Reg.NW_CH_TXPEND, Reg.NW_CH_TXCAN]; omega

theorem nwFrame_txRequest {n b : Nat} (hn : n < 8) (hb : b < 33) (s : State) : NwFrame s (txRequest s n b) := by
  obtain ⟨hlo, hhi, hreq, hpend, hcan⟩ := txWords_inNw hn hb
  unfold txRequest
  refine NwFrame.trans ?_ (nwFrame_canSet n _ _)
  refine NwFrame.trans ?_ (nwFrame_wrB hcan b false _)
  refine NwFrame.trans ?_ (nwFrame_wrB hpend b true _)
  refine NwFrame.trans ?_ (nwFrame_wrB hreq b true _)
  exact NwFrame.trans (nwFrame_wr (by omega) _ s) (nwFrame_wr (by omega) _ _)

theorem nwFrame_txLoad {n b : Nat} (hn : n < 8) (hb : b < 33) {f : CanFrame} (hf : f.data.length ≤ 64) (l : Option Word) (s : State) :
    NwFrame s (txLoad s n b f l) := by
  obtain ⟨hlo, hhi, -⟩ := txWords_inNw hn hb
  have hlen : (packWords (f.data ++ List.replicate (64 - f.data.length) 0)).length = 16 := by
    rw [length_packWords, List.length_append, List.length_replicate]; omega
  unfold txLoad
  refine NwFrame.trans ?_ (nwFrame_txRequest hn hb _)
  refine NwFrame.trans ?_ (nwFrame_wrList (by omega) _)
  exact (nwFrame_wr (by omega) _ s).trans ((nwFrame_wr (by omega) _ _).trans (nwFrame_wr (by omega) _ _))

/-- A frame queued in one of the buffers 0 to 32, if one is free. -/
theorem nwFrame_txQueue {n lo hi : Nat} (hn : n < 8) (hhi : hi < 33) {f : CanFrame} (hf : f.data.length ≤ 64) {l : Option Word}
    {s t : State} (h : txQueue s n lo hi f l = some t) : NwFrame s t := by
  unfold txQueue at h
  split at h
  · exact absurd h nofun
  · next b hfree =>
    have hb := List.mem_of_find?_eq_some hfree
    obtain ⟨i, hi', rfl⟩ := List.mem_map.mp hb
    have := List.mem_range.mp hi'
    rw [← Option.some.inj h]
    exact nwFrame_txLoad hn (by omega) hf l s

theorem upCh_lt (s : State) : upCh s < 8 := Nat.mod_lt _ (by decide)

/-! ### Publications (R360, R376) -/

theorem pskip_inNw {n : Nat} (hn : n < 8) : 0x07000000 ≤ Reg.NW_CH_PSKIP_CNT n ∧ Reg.NW_CH_PSKIP_CNT n < 0x08000000 := by
  simp only [Reg.NW_CH_PSKIP_CNT]; omega

/-- A frame queued, or the one that finds no free buffer counted. -/
theorem nwFrame_queueOrSkip {n lo hi : Nat} (hn : n < 8) (hhi : hi < 33) {f : CanFrame} (hf : f.data.length ≤ 64) (l : Option Word)
    (s : State) :
    NwFrame s (match txQueue s n lo hi f l with | some t => t | none => count31 (Reg.NW_CH_PSKIP_CNT n) s) := by
  split
  · next h => exact nwFrame_txQueue hn hhi hf h
  · exact nwFrame_count31 (pskip_inNw hn) s

theorem length_beBytes (n v : Nat) : (beBytes n v).length = n := by
  induction n with
  | zero => rfl
  | succ n ih => rw [beBytes, List.length_cons, ih]

theorem length_pubPayload (v : Word) (t : Tick) : (pubPayload v t).length = 12 := by
  unfold pubPayload; rw [List.length_append, length_beBytes, length_beBytes]

theorem length_proxyData (s : State) (obj : Nat) (v : Word) (t : Tick) : (proxyData s obj v t).data.length = 20 := by
  unfold proxyData; simp [length_beBytes]

theorem nwFrame_publishOn {n : Nat} (hn : n < 8) (cls obj : Nat) (brs : Bool) (v : Word) (t : Tick) (s : State) :
    NwFrame s (publishOn cls obj brs v t n s) := by
  have hf : ({ ownFrame s n cls obj (pubPayload v t) with brs := brs } : CanFrame).data.length ≤ 64 :=
    (length_pubPayload v t).trans_le (by omega)
  unfold publishOn
  dsimp only
  split
  · next u h =>
    split at h
    · exact nwFrame_txQueue hn (by omega) hf h
    · exact nwFrame_txQueue hn (by omega) hf h
  · exact nwFrame_count31 (pskip_inNw hn) s

theorem nwFrame_publishRec (v : Word) (t : Tick) (p : Nat) (s : State) : NwFrame s (publishRec v t p s) := by
  unfold publishRec
  dsimp only
  split
  · split
    · exact nwFrame_queueOrSkip (upCh_lt s) (by omega) ((length_proxyData s _ v t).trans_le (by omega)) _ s
    · exact .refl s
  · split
    · refine forEach_keeps (P := NwFrame s) _ (fun n hn u hu => hu.trans (nwFrame_publishOn ?_ _ _ _ v t u)) s (.refl s)
      exact List.mem_range.mp (List.mem_filter.mp (List.mem_filter.mp hn).1).1
    · exact .refl s

theorem nwFrame_publish (d e : Nat) (v : Word) (t : Tick) (s : State) : NwFrame s (publish d e v t s) := by
  unfold publish
  exact forEach_keeps (P := NwFrame s) _ (fun p _ u hu => hu.trans (nwFrame_publishRec v t p u)) s (.refl s)

/-! ### A value put out by its producer (R32, R221, R222) -/

/-- The values sent on their way to the dies that import an entry. -/
theorem exports_only (l : List Nat) (f : Nat → State → State) (hf : ∀ i u, ∃ x, f i u = withExports x u) (s : State) :
    ∃ x, forEach l f s = withExports x s := by
  refine forEach_keeps (P := fun t => ∃ x, t = withExports x s) l (fun i _ t ht => ?_) s ⟨s.sig.exports, rfl⟩
  obtain ⟨x, rfl⟩ := ht
  obtain ⟨y, hy⟩ := hf i (withExports x s)
  exact ⟨y, hy⟩

theorem sigProduce_eq (d e : Nat) (v inst : Word) (T : Nat) (s : State) :
    ∃ x, sigProduce d e v inst T s = withExports x (sigWrite d e v inst s) :=
  exports_only _ _ (fun _ _ => ⟨_, rfl⟩) _

/-- A value produced: its entry takes it, and nothing else differs but the exports and the NW die. -/
theorem produce_shows {d e : Nat} (hd : d < 5) (he : e < sigCount d) (v inst : Word) (T : Nat) (t1 : Tick) (s : State) :
    rd (produce d e v inst T t1 s) (sigAddr d e) = v
    ∧ wordsKept [(sigAddr d e, sigAddr d e + 12), (0x07000000, 0x08000000)] s (produce d e v inst T t1 s)
    ∧ ∃ u x, u = { s with mem := u.mem } ∧ NwFrame (withExports x u) (produce d e v inst T t1 s) := by
  obtain ⟨x, hx⟩ := sigProduce_eq d e v inst T s
  obtain ⟨hval, -, -, -, hkept⟩ := sigWrite_words d e v inst s
  have hrd : ∀ a, rd (withExports x (sigWrite d e v inst s)) a = rd (sigWrite d e v inst s) a := fun a => rd_congr rfl rfl a
  have hframe := nwFrame_publish d e v t1 (sigProduce d e v inst T s)
  rw [hx] at hframe
  unfold produce
  rw [hx]
  refine ⟨?_, fun a ha => ?_, _, x, sigWrite_only he v inst s, hframe⟩
  · rw [hframe.words _ (.inl ?_), hrd, hval]
    unfold sigCount at he
    unfold sigAddr dieAt winSize
    split at he <;> simp only [*, if_true, if_false] <;> omega
  · rw [hframe.words a (ha (0x07000000, 0x08000000) (by simp)), hrd, hkept a fun y hy => ha y (List.mem_cons.mpr (.inl ?_))]
    exact List.mem_singleton.mp hy

end Sys2Proof.Machine.PackageRails
end

section
/-!
PROOFS. Pulse inputs: what an edge, a sample and a clear leave, and the statement about them (R144 to R147).
-/
namespace Sys2Proof.Machine.PackageRails
open Sys2Proof.Machine.GrainPlant

/-! ### The words of a pulse input -/

/-- The words of a pulse input lie in a window of 0x40 bytes, from its CFG on. -/
theorem plsWords (x : Nat) : Reg.LP_PLS_COUNT x = Reg.LP_PLS_CFG x + 0x14 ∧ Reg.LP_PLS_LAST_TS x = Reg.LP_PLS_CFG x + 0x18
    ∧ Reg.LP_PLS_VALUE x = Reg.LP_PLS_CFG x + 0x1C ∧ Reg.LP_PLS_STAT x = Reg.LP_PLS_CFG x + 0x20
    ∧ Reg.LP_PLS_REJ_CNT x = Reg.LP_PLS_CFG x + 0x24 ∧ Reg.LP_PLS_CFG x % 4 = 0 := by
  simp only [Reg.LP_PLS_COUNT, Reg.LP_PLS_LAST_TS, Reg.LP_PLS_VALUE, Reg.LP_PLS_STAT, Reg.LP_PLS_REJ_CNT, Reg.LP_PLS_CFG, lpAt, winSize]
  omega

theorem pls_isRegister {x a : Nat} (ha : Reg.LP_PLS_CFG x ≤ a ∧ a < Reg.LP_PLS_CFG x + 0x40) : usesMem (wordBase a) = false := by
  rw [usesMem_eq_false_iff]
  simp only [wordBase, Reg.LP_PLS_CFG, lpAt, winSize] at *; omega

/-! ### Edges (R144, R145, R147) -/

theorem exec_plsEdge {x : Nat} {rise rej : Bool} {k : Tick} {s t : State} (hx : x < 32) (heff : effPlsEdge x rise k rej s = t)
    (hclk : t.clk = s.clk) (hpending : t.pending = s.pending) : exec (.plsEdge x rise k rej) s = .next t :=
  (guardIx_lt hx _).trans (run_eq_next heff hclk hpending)

/-- Register words written and a pulse input replaced: nothing else differs. -/
theorem plsSet_of_registers {s t : State} (h : t = { s with regs := t.regs }) (x : Nat) (p : PlsSt) :
    plsSet t x p = { s with regs := (plsSet t x p).regs, sense := (plsSet t x p).sense } := by
  rw [h]; rfl

/-- The level of the input shown, and its newest edge kept (R144). -/
def edgeShown (x : Nat) (rise : Bool) (k : Tick) (s : State) : State :=
  plsSet (wrB s (Reg.LP_PLS_STAT x) 0 rise) x { plsOf (wrB s (Reg.LP_PLS_STAT x) 0 rise) x with any := some k }

section
variable {x : Nat} {rise : Bool} {k : Tick} {s : State}

theorem effPlsEdge_v5Bad {rej : Bool} (hbad : v5Good s = false) : effPlsEdge x rise k rej s = s := by
  unfold effPlsEdge; simp [hbad]

theorem effPlsEdge_early (hgood : v5Good s = true) (hon : plsOn s x = true)
    (hearly : filtered s k (rdF s (Reg.LP_PLS_CFG x) 14 0) = false) : effPlsEdge x rise k false s = s := by
  unfold effPlsEdge; simp [hgood, hon, hearly]

theorem effPlsEdge_rejected (hgood : v5Good s = true) (hon : plsOn s x = true) :
    effPlsEdge x rise k true s = count16 (Reg.LP_PLS_REJ_CNT x) s := by
  unfold effPlsEdge; simp [hgood, hon]

theorem rd_edgeShown_ne {a : Nat} (h : wordBase (Reg.LP_PLS_STAT x) ≠ wordBase a) : rd (edgeShown x rise k s) a = rd s a := by
  unfold edgeShown; rw [rd_plsSet, rd_wrB_ne s 0 rise h]
theorem rdB_edgeShown : rdB (edgeShown x rise k s) (Reg.LP_PLS_STAT x) 0 = rise := by
  have h := rdB_wrB_same s (Reg.LP_PLS_STAT x) 0 rise (by omega)
  unfold edgeShown rdB at *; rw [rd_plsSet, h]
theorem plsOf_edgeShown : plsOf (edgeShown x rise k s) x = { plsOf s x with any := some k } := by
  unfold edgeShown wrB; rw [plsOf_plsSet_same, plsOf_wr]
theorem edgeShown_only : edgeShown x rise k s
    = { s with regs := (edgeShown x rise k s).regs, sense := (edgeShown x rise k s).sense } := by
  obtain ⟨-, -, -, hstat, -, -⟩ := plsWords x
  exact plsSet_of_registers (wrB_only (pls_isRegister (x := x) (by omega)) s 0 rise) x _

theorem rd_edgeShown_cfg : rd (edgeShown x rise k s) (Reg.LP_PLS_CFG x) = rd s (Reg.LP_PLS_CFG x) := by
  obtain ⟨-, -, -, hstat, -, halign⟩ := plsWords x
  exact rd_edgeShown_ne (by unfold wordBase; omega)

/-- An accepted edge of an input that is in no QUAD pair shows its level; of the counted polarity it counts one. -/
theorem effPlsEdge_accepted (hgood : v5Good s = true) (hon : plsOn s x = true) (hB : plsIsB s x = false) (hquad : plsMode s x ≠ 3)
    (hlate : filtered s k (rdF s (Reg.LP_PLS_CFG x) 14 0) = true) :
    effPlsEdge x rise k false s = if rise = rdB s (Reg.LP_PLS_CFG x) 15 then edgeShown x rise k s
      else plsCount x k 1 (edgeShown x rise k s) := by
  have hpol : rdB (edgeShown x rise k s) (Reg.LP_PLS_CFG x) 15 = rdB s (Reg.LP_PLS_CFG x) 15 := by unfold rdB; rw [rd_edgeShown_cfg]
  have hmode : plsMode (edgeShown x rise k s) x ≠ 3 := by unfold plsMode rdF at *; rwa [rd_edgeShown_cfg]
  have hshown : plsSet (wrB s (Reg.LP_PLS_STAT x) 0 rise) x { plsOf (wrB s (Reg.LP_PLS_STAT x) 0 rise) x with any := some k }
      = edgeShown x rise k s := rfl
  unfold effPlsEdge
  simp only [hgood, hon, hB, hlate, hshown, hpol, hmode, Bool.not_true, Bool.false_eq_true, Bool.true_or, or_self, if_false,
    Bool.not_false, Bool.and_false, false_or, false_and]

end

/-! #### A counted edge -/

/-- The pulse input with a counted edge (R144, R147): `gap` is the time since the edge before it. -/
def plsCounted (p : PlsSt) (k : Tick) (gap : Nat) : PlsSt :=
  { p with edges := p.edges ++ [(k, 1)], clears := (accCount k 1 p.clears p.acc).1, acc := (accCount k 1 p.clears p.acc).2,
           last := some k, gap := min p.gap gap }

/-- The time in ticks since the counted edge before one at `k`. -/
def edgeGap (p : PlsSt) (k : Tick) : Nat := match p.last with | none => 0xFFFFFFFF | some l => (k - l).toNat

/-- An edge that no clear follows counts in the present accumulator (R147). -/
theorem accCount_noClear {k : Tick} {l : List (Tick × Int)} (h : ∀ y ∈ l, laterN 64 y.1.toNat k.toNat = false) (acc : Int) :
    (accCount k 1 l acc).2 = acc + 1 := by
  induction l with
  | nil => rfl
  | cons y l ih =>
    unfold accCount
    rw [h y List.mem_cons_self]
    exact ih fun z hz => h z (List.mem_cons_of_mem y hz)

/-- The words of a counted edge: COUNT and LAST_TS (R145). -/
def countShown (x : Nat) (k : Tick) (s : State) : State :=
  wr (wrI s (Reg.LP_PLS_COUNT x) (rdI s (Reg.LP_PLS_COUNT x) + 1)) (Reg.LP_PLS_LAST_TS x) (k.extractLsb' 0 32)

/-- Two counted edges closer than 5 µs: the flag of the shortest gap and its event (R144). -/
def gapFlagged (x gap : Nat) (s : State) : State := raiseN 0x0205 (plsDie x) (x % 8) gap (hwSet s (Reg.LP_PLS_STAT x) 3)

/-- The words a counted edge writes. -/
def countWindows (x : Nat) : List (Nat × Nat) :=
  [(Reg.LP_PLS_COUNT x, Reg.LP_PLS_COUNT x + 8), (Reg.LP_PLS_STAT x, Reg.LP_PLS_STAT x + 4)]

theorem countShown_shows (x : Nat) (k : Tick) (s : State) : Within (countWindows x) s (countShown x k s)
    ∧ rd (countShown x k s) (Reg.LP_PLS_COUNT x) = i32 (rdI s (Reg.LP_PLS_COUNT x) + 1)
    ∧ rd (countShown x k s) (Reg.LP_PLS_LAST_TS x) = k.extractLsb' 0 32
    ∧ rd (countShown x k s) (Reg.LP_PLS_STAT x) = rd s (Reg.LP_PLS_STAT x) := by
  obtain ⟨hcount, hlast, -, hstat, -, halign⟩ := plsWords x
  have hmem : (Reg.LP_PLS_COUNT x, Reg.LP_PLS_COUNT x + 8) ∈ countWindows x := List.mem_cons_self
  unfold countShown
  refine ⟨?_, ?_, rd_wr_same _ _ _, ?_⟩
  · exact (within_wr hmem (by omega) (by omega) (pls_isRegister (x := x) (by omega)) _ s).trans
      (within_wr hmem (by omega) (by omega) (pls_isRegister (x := x) (by omega)) _ _)
  · rw [rd_wr_ne _ _ (by unfold wordBase; omega), rd_wrI_same]
  · rw [rd_wr_ne _ _ (by unfold wordBase; omega), rd_wrI_ne _ _ (by unfold wordBase; omega)]

theorem gapFlagged_shows (x gap : Nat) (s : State) : Within (countWindows x) s (gapFlagged x gap s)
    ∧ (∀ a, wordBase (Reg.LP_PLS_STAT x) ≠ wordBase a → rd (gapFlagged x gap s) a = rd s a)
    ∧ rdB (gapFlagged x gap s) (Reg.LP_PLS_STAT x) 0 = rdB s (Reg.LP_PLS_STAT x) 0
    ∧ rdB (gapFlagged x gap s) (Reg.LP_PLS_STAT x) 3 = true := by
  obtain ⟨hcount, -, -, hstat, -, halign⟩ := plsWords x
  have hmem : (Reg.LP_PLS_STAT x, Reg.LP_PLS_STAT x + 4) ∈ countWindows x := List.mem_cons_of_mem _ List.mem_cons_self
  have hkept := rdB_hwSet_bit s (Reg.LP_PLS_STAT x) (i := 3) (j := 0) (by omega)
  have hset := rdB_hwSet_same s (Reg.LP_PLS_STAT x) 3 (by omega)
  unfold gapFlagged rdB at *
  refine ⟨(within_hwSet hmem (by omega) (by omega) (pls_isRegister (x := x) (by omega)) 3 s).trans (within_raise _ _ _ _ _ _),
    fun a ha => ?_, ?_, ?_⟩
  · rw [rd_raiseN, rd_hwSet_ne _ _ ha]
  · rw [rd_raiseN, hkept]
  · rw [rd_raiseN, hset]

/-- The record of a counted edge beside the registers. -/
def countKept (x : Nat) (k : Tick) (s : State) : State := plsSet s x (plsCounted (plsOf s x) k (edgeGap (plsOf s x) k))

/-- What a counted edge shows, the edge itself with its flag. -/
def countFlagged (x : Nat) (k : Tick) (s : State) : State :=
  if edgeGap (plsOf s x) k < 500 then gapFlagged x (min (plsOf s x).gap (edgeGap (plsOf s x) k)) (countShown x k (countKept x k s))
  else countShown x k (countKept x k s)

theorem plsCount_eq (x : Nat) (k : Tick) (s : State) : plsCount x k 1 s = trkEdge x k 1 (countFlagged x k s) := by
  unfold plsCount
  simp only [decide_eq_true_eq]
  rfl

theorem countFlagged_shows (x : Nat) (k : Tick) (s : State) : Within (countWindows x) (countKept x k s) (countFlagged x k s)
    ∧ rd (countFlagged x k s) (Reg.LP_PLS_COUNT x) = i32 (rdI s (Reg.LP_PLS_COUNT x) + 1)
    ∧ rd (countFlagged x k s) (Reg.LP_PLS_LAST_TS x) = k.extractLsb' 0 32
    ∧ rdB (countFlagged x k s) (Reg.LP_PLS_STAT x) 0 = rdB s (Reg.LP_PLS_STAT x) 0
    ∧ (edgeGap (plsOf s x) k < 500 → rdB (countFlagged x k s) (Reg.LP_PLS_STAT x) 3 = true) := by
  obtain ⟨hcount, hlast, -, hstat, -, halign⟩ := plsWords x
  obtain ⟨hwithin, hcnt, hts, hkept⟩ := countShown_shows x k (countKept x k s)
  have hsame : ∀ a, rd (countKept x k s) a = rd s a := fun a => rd_plsSet s x _ a
  unfold rdI at hcnt
  rw [hsame] at hcnt hkept
  unfold countFlagged
  generalize countShown x k (countKept x k s) = u at *
  have hstat0 : rdB u (Reg.LP_PLS_STAT x) 0 = rdB s (Reg.LP_PLS_STAT x) 0 := by unfold rdB; rw [hkept]
  split
  · obtain ⟨hflag, hother, hbit0, hbit3⟩ := gapFlagged_shows x (min (plsOf s x).gap (edgeGap (plsOf s x) k)) u
    exact ⟨hwithin.trans hflag, (hother _ (by unfold wordBase; omega)).trans hcnt, (hother _ (by unfold wordBase; omega)).trans hts,
      hbit0.trans hstat0, fun _ => hbit3⟩
  · next hgap => exact ⟨hwithin, hcnt, hts, hstat0, fun h => absurd h hgap⟩

theorem trkEdge_only (x : Nat) (k : Tick) (dir : Int) (s : State) : trkEdge x k dir s = { s with trk := (trkEdge x k dir s).trk } := by
  unfold trkEdge
  refine forEach_keeps (P := fun t => t = { s with trk := t.trk }) _ (fun c _ t ht => ?_) s rfl
  dsimp only
  split
  · rw [ht]; rfl
  · exact ht

/-- The front end, then words with their events, then the columns: nothing else differs. -/
theorem senseWordsColumns_only {s u v t : State} (hsense : u = { s with sense := u.sense })
    (hwords : v = { u with regs := v.regs, hwset := v.hwset, log := v.log }) (htrk : t = { v with trk := t.trk }) :
    t = { s with regs := t.regs, hwset := t.hwset, log := t.log, sense := t.sense, trk := t.trk } := by
  rw [htrk, hwords, hsense]

/-- A counted edge (R144, R145, R147): COUNT, LAST_TS, the record of the input and the columns that advance on it. -/
theorem plsCount_shows (x : Nat) (k : Tick) (s : State) :
    rd (plsCount x k 1 s) (Reg.LP_PLS_COUNT x) = i32 (rdI s (Reg.LP_PLS_COUNT x) + 1)
    ∧ rd (plsCount x k 1 s) (Reg.LP_PLS_LAST_TS x) = k.extractLsb' 0 32
    ∧ rdB (plsCount x k 1 s) (Reg.LP_PLS_STAT x) 0 = rdB s (Reg.LP_PLS_STAT x) 0
    ∧ (edgeGap (plsOf s x) k < 500 → rdB (plsCount x k 1 s) (Reg.LP_PLS_STAT x) 3 = true)
    ∧ plsOf (plsCount x k 1 s) x = plsCounted (plsOf s x) k (edgeGap (plsOf s x) k)
    ∧ plsCount x k 1 s = { s with
        regs := (plsCount x k 1 s).regs, hwset := (plsCount x k 1 s).hwset, log := (plsCount x k 1 s).log,
        sense := (plsCount x k 1 s).sense, trk := (plsCount x k 1 s).trk }
    ∧ wordsKept (countWindows x) s (plsCount x k 1 s) := by
  obtain ⟨hwithin, hcnt, hts, hbit0, hbit3⟩ := countFlagged_shows x k s
  have hpls : plsOf (countKept x k s) x = plsCounted (plsOf s x) k (edgeGap (plsOf s x) k) := plsOf_plsSet_same s x _
  have hkeep : countKept x k s = { s with sense := (countKept x k s).sense } := rfl
  have hsame : ∀ a, rd (countKept x k s) a = rd s a := fun a => rd_plsSet s x _ a
  have htrk := trkEdge_only x k 1 (countFlagged x k s)
  rw [plsCount_eq]
  generalize countKept x k s = u at *
  generalize countFlagged x k s = v at *
  generalize trkEdge x k 1 v = t at *
  have hrd : ∀ a, rd t a = rd v a := rd_congr (by rw [htrk]) (by rw [htrk])
  have honly := hwithin.only
  unfold rdB at *
  simp only [hrd]
  refine ⟨hcnt, hts, hbit0, hbit3, ?_, senseWordsColumns_only hkeep honly htrk, fun a ha => ?_⟩
  · rw [← hpls]; unfold plsOf; rw [htrk, honly]
  · rw [hrd, hwithin.words a ha, hsame]

/-! ### Samples (R126, R146, R147) -/

/-- The rate at a sample as a fraction per hour, and whether it has come to 0 (R146). -/
def sampleRate (x : Nat) (s0 : Tick) (s : State) : Int × Nat × Bool :=
  let p := plsOf s x
  let lo := s0 - BitVec.ofNat 64 (tb1To0 s (rdN s (Reg.LP_PLS_PERIOD x) * 100))
  let upTo := p.edges.filter fun e => !laterN 64 e.1.toNat s0.toNat
  let here := upTo.filter fun e => laterN 64 e.1.toNat lo.toNat
  let before := upTo.filter fun e => !laterN 64 e.1.toNat lo.toNat
  let ref := match before.getLast? with | some e => some e.1 | none => p.ref
  let lastT := match upTo.getLast? with | some e => e.1 | none => ref.getD 0
  plsRate p.num p.den (netCount here) ref lastT s0 (rdN s (Reg.LP_PLS_ZERO x))

/-- The result at a sample, before saturation: the count or the rate, times WEIGHT (R146, R147). -/
def sampleValue (x : Nat) (s0 : Tick) (s : State) : Int :=
  if plsMode s x = 1 then accAt (plsOf s x) s0 * rdI s (Reg.LP_PLS_WEIGHT x)
  else rdivRaw ((sampleRate x s0 s).1 * rdI s (Reg.LP_PLS_WEIGHT x)) (sampleRate x s0 s).2.1

/-- Saturation noted (R9): the flag of a value out of range. -/
def saturationShown (x : Nat) (v : Int) (s : State) : State := if satd v then hwSet s (Reg.LP_PLS_STAT x) 4 else s

/-- A result published to the entry that is declared with this input as its source (R29, R126). -/
def resultWritten (x : Nat) (v : Int) (s1 : Tick) (s : State) : State :=
  let r := senseWrite (plsDie x) (rdF s (Reg.LP_PLS_CFG x) 31 21) (768 + x % 8) 2 (x % 8) (Reg.LP_PLS_STAT x) 5 (sat32 v) s1
    (rdN s (Reg.LP_PLS_PERIOD x)) s
  if r.1 then wrI r.2 (Reg.LP_PLS_VALUE x) (sat32 v) else r.2

theorem plsSample_held (x : Nat) (s1 s0 : Tick) (s : State) :
    ∃ p, plsSample x true s1 s0 s = resultWritten x (sampleValue x s0 s) s1 (saturationShown x (sampleValue x s0 s) (plsSet s x p)) := by
  unfold plsSample sampleValue sampleRate
  dsimp only
  generalize plsRate (plsOf s x).num (plsOf s x).den _ _ _ _ _ = r
  obtain ⟨num, den, zero⟩ := r
  exact ⟨_, rfl⟩

/-! #### The value -/

theorem netCount_ones {l : List (Tick × Int)} (h : ∀ y ∈ l, y.2 = 1) : netCount l = l.length := by
  have hfold : ∀ a : Int, l.foldl (fun a x => a + x.2) a = a + l.length := by
    induction l with
    | nil => simp
    | cons y l ih =>
      intro a
      rw [List.foldl_cons, ih (fun z hz => h z (List.mem_cons_of_mem y hz)), h y List.mem_cons_self, List.length_cons]
      push_cast; ring
  unfold netCount
  rw [hfold 0]; exact Int.zero_add _

/-- Rounding to nearest leaves at most half a unit (R212). -/
theorem roundAway_near (p : Int) {q : Nat} (hq : 0 < q) : (2 * (roundAway p q * q - p)).natAbs ≤ q := by
  have hnonneg : ∀ n : Int, 0 ≤ n → (2 * ((2 * n + q) / (2 * q) * q - n)).natAbs ≤ q := by
    intro n hn
    have hle := Int.ediv_mul_le (2 * n + q) (b := 2 * q) (by omega)
    have hlt := Int.lt_ediv_add_one_mul_self (2 * n + q) (b := 2 * q) (by omega)
    generalize (2 * n + q) / (2 * q) = z at *
    rw [show z * (2 * q) = 2 * (z * q) by ring] at hle
    rw [show (z + 1) * (2 * q) = 2 * (z * q) + 2 * q by ring] at hlt
    omega
  unfold roundAway
  split
  · next h => exact hnonneg p h
  · next h =>
    have := hnonneg (-p) (by omega)
    rw [Int.neg_mul]
    omega

theorem rdivRaw_nat (p : Int) (q : Nat) : rdivRaw p q = roundAway p q := if_neg (by omega)

section
variable {x : Nat} {s : State} {s0 : Tick}

/-- The rate where every edge kept lies in the period (R146): counts over the time from the edge before the period to the newest. -/
theorem sampleRate_inPeriod {last : Tick × Int}
    (hin : ∀ y ∈ (plsOf s x).edges, laterN 64 y.1.toNat (s0 - BitVec.ofNat 64 (tb1To0 s (rdN s (Reg.LP_PLS_PERIOD x) * 100))).toNat = true
      ∧ laterN 64 y.1.toNat s0.toNat = false)
    (hones : ∀ y ∈ (plsOf s x).edges, y.2 = 1) (hlast : (plsOf s x).edges.getLast? = some last) :
    sampleRate x s0 s = match (plsOf s x).ref with
      | none => (0, 1, false)
      | some k => ((plsOf s x).edges.length * perHour, max (last.1 - k).toNat 1, false) := by
  have hne : (plsOf s x).edges.length ≠ 0 := by
    intro h; rw [List.length_eq_zero_iff.mp h] at hlast; exact absurd hlast nofun
  have hupTo : ((plsOf s x).edges.filter fun e => !laterN 64 e.1.toNat s0.toNat) = (plsOf s x).edges :=
    List.filter_eq_self.mpr fun y hy => by simp [(hin y hy).2]
  unfold sampleRate
  dsimp only
  rw [hupTo]
  generalize s0 - BitVec.ofNat 64 (tb1To0 s (rdN s (Reg.LP_PLS_PERIOD x) * 100)) = lo at *
  have hhere : ((plsOf s x).edges.filter fun e => laterN 64 e.1.toNat lo.toNat) = (plsOf s x).edges :=
    List.filter_eq_self.mpr fun y hy => (hin y hy).1
  have hbefore : ((plsOf s x).edges.filter fun e => !laterN 64 e.1.toNat lo.toNat) = [] :=
    List.filter_eq_nil_iff.mpr fun y hy => by simp [(hin y hy).1]
  rw [hhere, hbefore, netCount_ones hones, hlast]
  cases (plsOf s x).ref with
  | none => rfl
  | some k =>
    have hcount : ((plsOf s x).edges.length : Int) ≠ 0 := by omega
    simp only [List.getLast?_nil, plsRate, ne_eq, hcount, not_false_eq_true, if_true]

/-- A RATE input: 0 before it has an edge to measure from, the rate times WEIGHT to nearest from then on (R146). -/
theorem sampleValue_rate {last : Tick × Int} (hmode : plsMode s x = 2)
    (hin : ∀ y ∈ (plsOf s x).edges, laterN 64 y.1.toNat (s0 - BitVec.ofNat 64 (tb1To0 s (rdN s (Reg.LP_PLS_PERIOD x) * 100))).toNat = true
      ∧ laterN 64 y.1.toNat s0.toNat = false)
    (hones : ∀ y ∈ (plsOf s x).edges, y.2 = 1) (hlast : (plsOf s x).edges.getLast? = some last) :
    ((plsOf s x).ref = none → sampleValue x s0 s = 0)
    ∧ ∀ k, (plsOf s x).ref = some k → 0 < (last.1 - k).toNat → (2 * (sampleValue x s0 s * ((last.1 - k).toNat : Int)
        - ((plsOf s x).edges.length : Int) * 360000000000 * rdI s (Reg.LP_PLS_WEIGHT x))).natAbs ≤ (last.1 - k).toNat := by
  have hrate := sampleRate_inPeriod hin hones hlast
  unfold sampleValue
  rw [if_neg (by omega), hrate, rdivRaw_nat]
  refine ⟨fun hnone => ?_, fun k hk hpos => ?_⟩
  · rw [hnone]
    dsimp only
    rw [Int.zero_mul]
    rfl
  · rw [hk]
    dsimp only
    rw [max_eq_left (by omega)]
    exact roundAway_near _ hpos

/-- A COUNT input with no edge waiting and no clear since its sample instant: the accumulator times WEIGHT (R147). -/
theorem sampleValue_count (hmode : plsMode s x = 1) (hedges : (plsOf s x).edges = [])
    (hclears : ∀ y ∈ (plsOf s x).clears, laterN 64 y.1.toNat s0.toNat = false) :
    sampleValue x s0 s = (plsOf s x).acc * rdI s (Reg.LP_PLS_WEIGHT x) := by
  have hnone : ((plsOf s x).clears.find? fun c => laterN 64 c.1.toNat s0.toNat) = none :=
    List.find?_eq_none.mpr fun y hy => by simp [hclears y hy]
  unfold sampleValue accAt
  rw [if_pos hmode, hnone, hedges]
  simp [netCount]

end

/-! #### The result written -/

theorem sat32_ne_iff (v : Int) : satd v = true ↔ sat32 v ≠ v := decide_eq_true_iff

theorem saturationShown_shows (x : Nat) (v : Int) (s : State) : registersOnly s (saturationShown x v s)
    ∧ (∀ a, wordBase (Reg.LP_PLS_STAT x) ≠ wordBase a → rd (saturationShown x v s) a = rd s a)
    ∧ (sat32 v ≠ v → rdB (saturationShown x v s) (Reg.LP_PLS_STAT x) 4 = true) := by
  obtain ⟨-, -, -, hstat, -, -⟩ := plsWords x
  unfold saturationShown
  split
  · exact ⟨registersOnly_hwSet (pls_isRegister (x := x) (by omega)) s 4, fun a ha => rd_hwSet_ne s 4 ha,
      fun _ => rdB_hwSet_same s _ 4 (by omega)⟩
  · next h => exact ⟨registersOnly_refl s, fun _ _ => rfl, fun hv => absurd ((sat32_ne_iff v).mpr hv) h⟩

/-- A pulse input's words lie below the memories of its die, its signal entries among them. -/
theorem pls_ne_sigAddr {x a e : Nat} (j : Nat) (ha : Reg.LP_PLS_CFG x ≤ a ∧ a < Reg.LP_PLS_CFG x + 0x40) :
    wordBase a ≠ wordBase (sigAddr (1 + x / 8) e + j) := by
  simp only [wordBase, Reg.LP_PLS_CFG, lpAt, sigAddr, dieAt, winSize] at *
  rw [if_neg (by omega)]
  omega

theorem pls_outside {x : Nat} (hx : x < 32) {a e : Nat} (ha : Reg.LP_PLS_CFG x ≤ a ∧ a < Reg.LP_PLS_CFG x + 0x40) :
    ∀ w ∈ [(sigAddr (1 + x / 8) e, sigAddr (1 + x / 8) e + 12), (0x07000000, 0x08000000)], a < w.1 ∨ w.2 ≤ a := by
  intro w hw
  simp only [List.mem_cons, List.not_mem_nil, or_false] at hw
  rcases hw with rfl | rfl <;> simp only [Reg.LP_PLS_CFG, lpAt, sigAddr, dieAt, winSize] at *
  · rw [if_neg (by omega)]; omega
  · omega

theorem senseWrite_declared {d dest src kind loc stat errBit : Nat} {v : Int} {at1 : Tick} {T : Nat} {s : State}
    (hkind : sigKind s d dest = 1) (hsrc : sigSrc s d dest = src) : senseWrite d dest src kind loc stat errBit v at1 T s
      = (true, produce d dest (i32 v) (w32 (at1.toNat / 100)) T s.clk.tb1 s) := if_pos ⟨hkind, hsrc⟩

/-- A result goes to the entry declared with this input as its source, and is shown (R29, R126). -/
theorem resultWritten_shows {x : Nat} (hx : x < 32) (v : Int) (s1 : Tick) {s : State}
    (hkind : sigKind s (1 + x / 8) (rdF s (Reg.LP_PLS_CFG x) 31 21) = 1)
    (hsrc : sigSrc s (1 + x / 8) (rdF s (Reg.LP_PLS_CFG x) 31 21) = 768 + x % 8) :
    rd (resultWritten x v s1 s) (Reg.LP_PLS_VALUE x) = i32 (sat32 v)
    ∧ rd (resultWritten x v s1 s) (sigAddr (1 + x / 8) (rdF s (Reg.LP_PLS_CFG x) 31 21)) = i32 (sat32 v)
    ∧ rd (resultWritten x v s1 s) (Reg.LP_PLS_STAT x) = rd s (Reg.LP_PLS_STAT x)
    ∧ wordsKept [(Reg.LP_PLS_VALUE x, Reg.LP_PLS_STAT x + 4), (sigAddr (1 + x / 8) (rdF s (Reg.LP_PLS_CFG x) 31 21),
        sigAddr (1 + x / 8) (rdF s (Reg.LP_PLS_CFG x) 31 21) + 12), (0x07000000, 0x08000000)] s (resultWritten x v s1 s)
    ∧ ∃ u y w, u = { s with mem := u.mem } ∧ NwFrame (withExports y u) w
        ∧ resultWritten x v s1 s = { w with regs := (resultWritten x v s1 s).regs } := by
  obtain ⟨-, -, hvalue, hstat, -, halign⟩ := plsWords x
  have hdest : rdF s (Reg.LP_PLS_CFG x) 31 21 < sigCount (1 + x / 8) := by
    have : rdF s (Reg.LP_PLS_CFG x) 31 21 < 2 ^ 11 := Nat.mod_lt _ (by decide)
    unfold sigCount
    rw [if_neg (by omega)]
    omega
  have heq : resultWritten x v s1 s = wrI (produce (1 + x / 8) (rdF s (Reg.LP_PLS_CFG x) 31 21) (i32 (sat32 v)) (w32 (s1.toNat / 100))
      (rdN s (Reg.LP_PLS_PERIOD x)) s.clk.tb1 s) (Reg.LP_PLS_VALUE x) (sat32 v) := by
    unfold resultWritten plsDie
    rw [senseWrite_declared hkind hsrc]
    exact if_pos rfl
  obtain ⟨hval, hkept, u, y, hu, hnw⟩ := produce_shows (by omega) hdest (i32 (sat32 v)) (w32 (s1.toNat / 100))
    (rdN s (Reg.LP_PLS_PERIOD x)) s.clk.tb1 s
  rw [heq]
  obtain ⟨w, hw⟩ : ∃ w, w = produce (1 + x / 8) (rdF s (Reg.LP_PLS_CFG x) 31 21) (i32 (sat32 v)) (w32 (s1.toNat / 100))
    (rdN s (Reg.LP_PLS_PERIOD x)) s.clk.tb1 s := ⟨_, rfl⟩
  rw [← hw] at hval hkept hnw ⊢
  refine ⟨rd_wrI_same _ _ _, ?_, ?_, fun a ha => ?_, u, y, w, hu, hnw,
    wr_register (pls_isRegister (x := x) (by omega)) w _⟩
  · have hne := pls_ne_sigAddr (x := x) (e := rdF s (Reg.LP_PLS_CFG x) 31 21) (a := Reg.LP_PLS_VALUE x) 0 (by omega)
    rw [Nat.add_zero] at hne
    rw [rd_wrI_ne _ _ hne, hval]
  · rw [rd_wrI_ne _ _ (by unfold wordBase; omega), hkept _ (pls_outside hx (by omega))]
  · have hout := ha _ List.mem_cons_self
    rw [rd_wrI_ne _ _ (by unfold wordBase; omega), hkept a fun w hw => ha w (List.mem_cons_of_mem _ hw)]

/-! #### The sample due on the grid -/

/-- The front end, then words and marks, then a result on its way and shown: what was latched in this tick stands. -/
theorem sample_only {s b u m w t : State} {y : List PendExport} (hb : b = { s with sense := b.sense })
    (hu : registersOnly b u) (hm : m = { u with mem := m.mem }) (hw : NwFrame (withExports y m) w)
    (ht : t = { w with regs := t.regs }) (hprb : b.sense.prb = s.sense.prb) :
    SameLatches s t ∧ t.pending = s.pending ∧ t.nor = s.nor := by
  have hframe : t = { s with
      regs := t.regs, mem := t.mem, hwset := t.hwset, log := t.log, can := t.can, sense := b.sense, sig := t.sig }
      ∧ t.sig.tick = s.sig.tick := by
    rw [ht, hw.only, hm, hu, hb]; exact ⟨rfl, rfl⟩
  obtain ⟨hframe, htick⟩ := hframe
  refine ⟨⟨?_, htick, fun n => .inl ?_, ?_, fun c => ?_, ?_⟩, ?_, ?_⟩
  · rw [hframe]
  · unfold seqOf; rw [hframe]
  · rw [hframe]
  · unfold trkOf; rw [hframe]
  · rw [hframe]; exact hprb
  · rw [hframe]
  · rw [hframe]

/-! #### The sample due on the grid -/

/-- The state in which a sample is computed: its period begun (R126). -/
def sampleBegun (x : Nat) (s : State) : State := inBegin (80 + x) (rdN s (Reg.LP_PLS_PERIOD x)) (tb3Tick s - 5000) s

/-- The TB0 tick of the sample instant published now. -/
def sampleAt0 (s : State) : Tick := tb3At0 s - BitVec.ofNat 64 (tb1To0 s 5000)

theorem effPlsSample_grid {x : Nat} {s : State} (hon : plsOn s x = true) (hmoved : (plsOf s x).moved = none)
    (hgrid : onGrid s (rdN s (Reg.LP_PLS_PERIOD x)) (rdN s (Reg.LP_PLS_PHASE x) + 50) = true)
    (hdue : inDue s (80 + x) (tb3Tick s - 5000) = true)
    (hheld : v5Held s (sampleAt0 s - BitVec.ofNat 64 (tb1To0 s (rdN s (Reg.LP_PLS_PERIOD x) * 100))) = true) :
    effPlsSample x s = plsSample x true (tb3Tick s - 5000) (sampleAt0 s) (sampleBegun x s) := by
  have hnow : plsDue s x = some { at1 := tb3Tick s - 5000, at0 := sampleAt0 s } := by
    unfold plsDue
    rw [hmoved]
    dsimp only
    rw [hgrid, hdue]
    rfl
  unfold effPlsSample
  rw [if_pos hon, hnow]
  dsimp only
  rw [hheld]
  rfl

section
variable (x : Nat) (s : State)

theorem rd_sampleBegun (a : Nat) : rd (sampleBegun x s) a = rd s a := rd_congr rfl rfl a

theorem sampleValue_sampleBegun (s0 : Tick) : sampleValue x s0 (sampleBegun x s) = sampleValue x s0 s := by
  unfold sampleValue sampleRate plsMode rdF rdI rdN
  simp only [rd_sampleBegun]
  rfl

end

/-- The two words that an entry declares its producer with stand under register words of a pulse input. -/
theorem sig_of_plsKept {x e : Nat} {s u : State} (h : ∀ a, wordBase (Reg.LP_PLS_STAT x) ≠ wordBase a → rd u a = rd s a) :
    sigKind u (1 + x / 8) e = sigKind s (1 + x / 8) e ∧ sigSrc u (1 + x / 8) e = sigSrc s (1 + x / 8) e := by
  obtain ⟨-, -, -, hstat, -, -⟩ := plsWords x
  have hword := h (sigAddr (1 + x / 8) e + 12) (pls_ne_sigAddr 12 (by omega))
  unfold sigKind sigSrc rdF
  rw [hword]
  exact ⟨rfl, rfl⟩

/-- A sample due on the grid is computed, published and shown (R126, R146, R147). -/
theorem exec_plsSample {x : Nat} {s : State} (hx : x < 32) (hon : plsOn s x = true) (hmoved : (plsOf s x).moved = none)
    (hgrid : onGrid s (rdN s (Reg.LP_PLS_PERIOD x)) (rdN s (Reg.LP_PLS_PHASE x) + 50) = true)
    (hdue : inDue s (80 + x) (tb3Tick s - 5000) = true)
    (hheld : v5Held s (sampleAt0 s - BitVec.ofNat 64 (tb1To0 s (rdN s (Reg.LP_PLS_PERIOD x) * 100))) = true)
    (hquiet : quiet (1 + x / 8) s) (hkind : sigKind s (1 + x / 8) (rdF s (Reg.LP_PLS_CFG x) 31 21) = 1)
    (hsrc : sigSrc s (1 + x / 8) (rdF s (Reg.LP_PLS_CFG x) 31 21) = 768 + x % 8) :
    ∃ t, exec (.plsSample x) s = .next t ∧ rd t (Reg.LP_PLS_VALUE x) = i32 (sat32 (sampleValue x (sampleAt0 s) s))
      ∧ rd t (sigAddr (1 + x / 8) (rdF s (Reg.LP_PLS_CFG x) 31 21)) = i32 (sat32 (sampleValue x (sampleAt0 s) s))
      ∧ (sat32 (sampleValue x (sampleAt0 s) s) ≠ sampleValue x (sampleAt0 s) s → rdB t (Reg.LP_PLS_STAT x) 4 = true) ∧ t.nor = s.nor
      ∧ wordsKept [(Reg.LP_PLS_VALUE x, Reg.LP_PLS_STAT x + 4), (sigAddr (1 + x / 8) (rdF s (Reg.LP_PLS_CFG x) 31 21),
          sigAddr (1 + x / 8) (rdF s (Reg.LP_PLS_CFG x) 31 21) + 12), (0x07000000, 0x08000000)] s t := by
  obtain ⟨-, -, hvalue, hstat, -, halign⟩ := plsWords x
  have heff := effPlsSample_grid hon hmoved hgrid hdue hheld
  obtain ⟨p, hp⟩ := plsSample_held x (tb3Tick s - 5000) (sampleAt0 s) (sampleBegun x s)
  rw [hp, sampleValue_sampleBegun] at heff
  generalize sampleValue x (sampleAt0 s) s = v at *
  have hkept : ∀ a, rd (plsSet (sampleBegun x s) x p) a = rd s a := fun a => (rd_plsSet _ x p a).trans (rd_sampleBegun x s a)
  have hsense : plsSet (sampleBegun x s) x p = { s with sense := (plsSet (sampleBegun x s) x p).sense } := rfl
  have hprb : (plsSet (sampleBegun x s) x p).sense.prb = s.sense.prb := rfl
  obtain ⟨b, hb⟩ : ∃ b, b = plsSet (sampleBegun x s) x p := ⟨_, rfl⟩
  rw [← hb] at heff hkept hsense hprb
  obtain ⟨honly, hother, hsat⟩ := saturationShown_shows x v b
  obtain ⟨u, hu⟩ : ∃ u, u = saturationShown x v b := ⟨_, rfl⟩
  rw [← hu] at heff honly hother hsat
  have hsame : ∀ a, wordBase (Reg.LP_PLS_STAT x) ≠ wordBase a → rd u a = rd s a := fun a ha => (hother a ha).trans (hkept a)
  have hcfg : rdF u (Reg.LP_PLS_CFG x) 31 21 = rdF s (Reg.LP_PLS_CFG x) 31 21 := by
    unfold rdF; rw [hsame _ (by unfold wordBase; omega)]
  obtain ⟨hkind', hsrc'⟩ := sig_of_plsKept (e := rdF s (Reg.LP_PLS_CFG x) 31 21) hsame
  obtain ⟨hval, hentry, hstat', hwords, m, y, w, hm, hnw, hreg⟩ := resultWritten_shows hx v (tb3Tick s - 5000)
    (by rw [hcfg, hkind', hkind]) (by rw [hcfg, hsrc', hsrc])
  obtain ⟨t, ht⟩ : ∃ t, t = resultWritten x v (tb3Tick s - 5000) u := ⟨_, rfl⟩
  rw [← ht] at heff hval hentry hstat' hwords hreg
  rw [hcfg] at hentry hwords
  obtain ⟨hlatch, hpending, hnor⟩ := sample_only hsense honly hm hnw hreg hprb
  refine ⟨t, (guardIx_lt hx _).trans (run_eq_next ?_ hlatch.clk hpending), hval, hentry, fun h => ?_, hnor, fun a ha => ?_⟩
  · rw [heff]
    exact sigAgain_quiet (hlatch.quiet hquiet)
  · unfold rdB at *
    rw [hstat']; exact hsat h
  · have hout := ha _ List.mem_cons_self
    rw [hwords a ha, hsame a (by unfold wordBase; omega)]

/-! ### The accumulator cleared (R147) -/

/-- Clearing ACC moves only the pulse input. -/
theorem plsClear_shows (x : Nat) (s : State) : (plsOf (plsClear x s) x).acc = 0 ∧ plsClear x s = { s with sense := (plsClear x s).sense } := by
  unfold plsClear
  exact ⟨by rw [plsOf_plsSet_same], rfl⟩

theorem exec_clrAcc_count {q : PortId} {x : Nat} {s : State} (hx : x < 32) (hw : mayWrite q (Reg.LP_PLS_CTRL x) s)
    (hmode : plsMode s x = 1) :
    ∃ t, exec (.clrAcc q x) s = .next t ∧ (plsOf t x).acc = 0 ∧ t = { s with sense := t.sense, port := t.port } := by
  have heff : ownerWrite q (Reg.LP_PLS_CTRL x) (opClrAcc x) s = plsClear x (renewLease q s) :=
    ownerWrite_accepted (f := plsClear x) hw (if_pos hmode)
  have hport := renewLease_only q s
  obtain ⟨hacc, honly⟩ := plsClear_shows x (renewLease q s)
  obtain ⟨u, hu⟩ : ∃ u, u = renewLease q s := ⟨_, rfl⟩
  rw [← hu] at heff hport hacc honly
  obtain ⟨t, ht⟩ : ∃ t, t = plsClear x u := ⟨_, rfl⟩
  rw [← ht] at heff hacc honly
  have hframe : t = { s with sense := t.sense, port := t.port } := by rw [honly, hport]
  exact ⟨t, (guardIx_lt hx _).trans (run_eq_next heff (by rw [hframe]) (by rw [hframe])), hacc, hframe⟩

theorem exec_clrAcc_refused {q : PortId} {x : Nat} {s : State} (hx : x < 32) (hw : mayWrite q (Reg.LP_PLS_CTRL x) s)
    (hmode : plsMode s x ≠ 1) :
    ∃ t, exec (.clrAcc q x) s = .next t ∧ t = { s with regs := t.regs, hwset := t.hwset, log := t.log }
      ∧ rdF t Reg.SV_VIOL_INFO 19 16 = 7 ∧ rd t Reg.SV_VIOL_ADDR = w32 (Reg.LP_PLS_CTRL x) := by
  have heff : ownerWrite q (Reg.LP_PLS_CTRL x) (opClrAcc x) s = logViol q 2 .refused (Reg.LP_PLS_CTRL x) s :=
    ownerWrite_refused (f := id) hw (if_neg hmode)
  obtain ⟨hinfo, haddr, hwithin⟩ := logViol_refused q (Reg.LP_PLS_CTRL x) s
  exact ⟨_, (guardIx_lt hx _).trans (run_eq_next heff (by rw [hwithin.only]) (by rw [hwithin.only])), hwithin.only, hinfo, haddr⟩

/-! ### The statement -/

/-- An accepted edge of the counted polarity (R144, R145, R147). -/
theorem exec_plsEdge_counted {x : Nat} {rise : Bool} {k : Tick} {s : State} (hx : x < 32)
    (heff : effPlsEdge x rise k false s = plsCount x k 1 (edgeShown x rise k s)) :
    ∃ t, exec (.plsEdge x rise k false) s = .next t ∧ rdI t (Reg.LP_PLS_COUNT x) = (i32 (rdI s (Reg.LP_PLS_COUNT x) + 1)).toInt
      ∧ rd t (Reg.LP_PLS_LAST_TS x) = k.extractLsb' 0 32 ∧ rdB t (Reg.LP_PLS_STAT x) 0 = rise
      ∧ ((∀ y ∈ (plsOf s x).clears, laterN 64 y.1.toNat k.toNat = false) → (plsOf t x).acc = (plsOf s x).acc + 1)
      ∧ (plsOf t x).edges = (plsOf s x).edges ++ [(k, 1)]
      ∧ (∀ l, (plsOf s x).last = some l → (k - l).toNat < 500 → rdB t (Reg.LP_PLS_STAT x) 3 = true)
      ∧ t = { s with regs := t.regs, hwset := t.hwset, log := t.log, sense := t.sense, trk := t.trk }
      ∧ wordsKept [(Reg.LP_PLS_COUNT x, Reg.LP_PLS_COUNT x + 8), (Reg.LP_PLS_STAT x, Reg.LP_PLS_STAT x + 4)] s t := by
  obtain ⟨hcount, -, -, hstat, -, halign⟩ := plsWords x
  have hpls := plsOf_edgeShown (x := x) (rise := rise) (k := k) (s := s)
  have hshown := edgeShown_only (x := x) (rise := rise) (k := k) (s := s)
  have hlevel := rdB_edgeShown (x := x) (rise := rise) (k := k) (s := s)
  have hother := fun (a : Nat) => rd_edgeShown_ne (x := x) (rise := rise) (k := k) (s := s) (a := a)
  obtain ⟨u, hu⟩ : ∃ u, u = edgeShown x rise k s := ⟨_, rfl⟩
  rw [← hu] at heff hpls hshown hlevel hother
  obtain ⟨hcnt, hts, hbit0, hbit3, hplsCount, honly, hwords⟩ := plsCount_shows x k u
  obtain ⟨t, ht⟩ : ∃ t, t = plsCount x k 1 u := ⟨_, rfl⟩
  rw [← ht] at heff hcnt hts hbit0 hbit3 hplsCount honly hwords
  have hframe : t = { s with regs := t.regs, hwset := t.hwset, log := t.log, sense := t.sense, trk := t.trk } := by
    rw [honly, hshown]
  have hgap : ∀ l, (plsOf s x).last = some l → edgeGap (plsOf u x) k = (k - l).toNat := fun l hl => by
    unfold edgeGap; rw [hpls, hl]
  refine ⟨t, exec_plsEdge hx heff (by rw [hframe]) (by rw [hframe]), ?_, hts, hbit0.trans hlevel, fun hclears => ?_, ?_,
    fun l hl hlt => hbit3 (by rw [hgap l hl]; exact hlt), hframe, fun a ha => ?_⟩
  · unfold rdI at *
    rw [hcnt, hother _ (by unfold wordBase; omega)]
  · rw [hplsCount, hpls]
    exact accCount_noClear hclears _
  · rw [hplsCount, hpls]; rfl
  · have hout := ha (Reg.LP_PLS_STAT x, Reg.LP_PLS_STAT x + 4) (List.mem_cons_of_mem _ List.mem_cons_self)
    rw [hwords a ha, hother a (by unfold wordBase; omega)]

/-- An accepted edge of the other polarity (R145). -/
theorem exec_plsEdge_other {x : Nat} {rise : Bool} {k : Tick} {s : State} (hx : x < 32)
    (heff : effPlsEdge x rise k false s = edgeShown x rise k s) :
    ∃ t, exec (.plsEdge x rise k false) s = .next t ∧ rdB t (Reg.LP_PLS_STAT x) 0 = rise ∧ (plsOf t x).acc = (plsOf s x).acc
      ∧ t = { s with regs := t.regs, hwset := t.hwset, sense := t.sense }
      ∧ wordsKept [(Reg.LP_PLS_STAT x, Reg.LP_PLS_STAT x + 4)] s t := by
  obtain ⟨-, -, -, hstat, -, halign⟩ := plsWords x
  have hpls := plsOf_edgeShown (x := x) (rise := rise) (k := k) (s := s)
  have hframe := edgeShown_only (x := x) (rise := rise) (k := k) (s := s)
  have hlevel := rdB_edgeShown (x := x) (rise := rise) (k := k) (s := s)
  have hother := fun (a : Nat) => rd_edgeShown_ne (x := x) (rise := rise) (k := k) (s := s) (a := a)
  obtain ⟨t, ht⟩ : ∃ t, t = edgeShown x rise k s := ⟨_, rfl⟩
  rw [← ht] at heff hpls hframe hlevel hother
  exact ⟨t, exec_plsEdge hx heff (by rw [hframe]) (by rw [hframe]), hlevel, by rw [hpls], by rw [hframe],
    wordsKept_window fun a ha => hother a (by unfold wordBase; omega)⟩

/-- A rejected edge (R145). -/
theorem exec_plsEdge_rejected {x : Nat} {rise : Bool} {k : Tick} {s : State} (hx : x < 32)
    (heff : effPlsEdge x rise k true s = count16 (Reg.LP_PLS_REJ_CNT x) s) :
    ∃ t, exec (.plsEdge x rise k true) s = .next t
      ∧ rdF t (Reg.LP_PLS_REJ_CNT x) 15 0 = min 65535 (rdF s (Reg.LP_PLS_REJ_CNT x) 15 0 + 1)
      ∧ t = { s with regs := t.regs, hwset := t.hwset, log := t.log }
      ∧ wordsKept [(Reg.LP_PLS_REJ_CNT x, Reg.LP_PLS_REJ_CNT x + 4)] s t := by
  obtain ⟨-, -, -, -, hrej, halign⟩ := plsWords x
  have hwithin : Within [(Reg.LP_PLS_REJ_CNT x, Reg.LP_PLS_REJ_CNT x + 4)] s (count16 (Reg.LP_PLS_REJ_CNT x) s) :=
    within_countS (a := Reg.LP_PLS_REJ_CNT x) List.mem_cons_self (by omega) (by omega) (pls_isRegister (x := x) (by omega)) 15 0 31 s
  have hcount := rdF_count16 (Reg.LP_PLS_REJ_CNT x) s
  obtain ⟨t, ht⟩ : ∃ t, t = count16 (Reg.LP_PLS_REJ_CNT x) s := ⟨_, rfl⟩
  rw [← ht] at heff hwithin hcount
  exact ⟨t, exec_plsEdge hx heff (by rw [hwithin.only]) (by rw [hwithin.only]), hcount, hwithin.only, hwithin.words⟩

/-- Settles O22: edges by their case, samples by the value of the mode, clears by what the port's write does. -/
theorem pulseInputsCountAndMeasure : Obligations.PulseInputsCountAndMeasure := by
  unfold Obligations.PulseInputsCountAndMeasure
  intro x s hx hon d p sat
  refine ⟨fun rise k hgood hearly => exec_plsEdge hx (effPlsEdge_early hgood hon hearly) rfl rfl,
    fun rise k hgood hB hquad hlate => ⟨fun hpol => exec_plsEdge_counted hx ((effPlsEdge_accepted hgood hon hB hquad hlate).trans (if_neg hpol)),
      fun hpol => exec_plsEdge_other hx ((effPlsEdge_accepted hgood hon hB hquad hlate).trans (if_pos hpol)),
      exec_plsEdge_rejected hx (effPlsEdge_rejected hgood hon)⟩,
    fun rise rej k hbad => exec_plsEdge hx (effPlsEdge_v5Bad hbad) rfl rfl, ?_,
    fun q hw => ⟨exec_clrAcc_count hx hw, exec_clrAcc_refused hx hw⟩⟩
  intro hgrid s0 lo hheld hquiet hmoved hdue hkind hsrc
  obtain ⟨t, hexec, hval, hentry, hsat, hnor, hwords⟩ := exec_plsSample hx hon hmoved hgrid hdue hheld hquiet hkind hsrc
  refine ⟨fun hmode e r last hedges hin hones hlast => ?_, fun hmode hedges hclears => ?_⟩
  · obtain ⟨hnone, hsome⟩ := sampleValue_rate (s0 := s0) hmode hin hones hlast
    exact ⟨t, _, hexec, hval, hentry, hnone, hsome, hsat, hnor⟩
  · have hcount : sampleValue x (sampleAt0 s) s = (plsOf s x).acc * rdI s (Reg.LP_PLS_WEIGHT x) := sampleValue_count hmode hedges hclears
    rw [hcount] at hval
    exact ⟨t, hexec, hval, hnor, hwords⟩

end Sys2Proof.Machine.PackageRails
end

section
/-!
PROOFS. The recorder, the wear counts and the settings store: what events and stored words on their way to the NOR leave alone
(R412 to R425, R453 to R458).
-/
namespace Sys2Proof.Machine.PackageRails
open Sys2Proof.Machine.GrainPlant

/-! ### The frame of the recorder and of the settings store -/

/-- The words by which a start and its rails show where they stand: no record and no journal touches them. -/
def startShown : List Nat :=
  [Reg.SV_PWR_STAT, Reg.SV_BOOT_STAT, Reg.SV_BOOT_SAFE_CAUSE, Reg.SV_BOOT_ERR_ADDR, Reg.SV_NVM_STAT, Reg.SV_NVM_ID]

/-- Words other than those of `startShown`, the NOR, the log, the journals and what is sent of them: nothing else differs. -/
structure Recorded (s t : State) : Prop where
  only : t = { s with
    regs := t.regs, mem := t.mem, nor := t.nor, hwset := t.hwset, log := t.log, can := t.can, upd := t.upd }
  shown : ∀ a ∈ startShown, rd t a = rd s a

theorem Recorded.refl (s : State) : Recorded s s := ⟨rfl, fun _ _ => rfl⟩
theorem Recorded.trans {s t u : State} (h : Recorded s t) (k : Recorded t u) : Recorded s u :=
  ⟨by rw [k.only, h.only], fun a ha => (k.shown a ha).trans (h.shown a ha)⟩
theorem Recorded.clk {s t : State} (h : Recorded s t) : t.clk = s.clk := by rw [h.only]
theorem Recorded.pending {s t : State} (h : Recorded s t) : t.pending = s.pending := by rw [h.only]
theorem recorded_ite {s t u : State} (c : Prop) [Decidable c] (h : Recorded s t) (k : Recorded s u) :
    Recorded s (if c then t else u) := by split; exact h; exact k
theorem recorded_forEach {α : Type} (l : List α) {f : α → State → State} (h : ∀ y s, Recorded s (f y s)) (s : State) :
    Recorded s (forEach l f s) :=
  forEach_keeps (P := Recorded s) l (fun y _ u hu => hu.trans (h y u)) s (.refl s)

theorem recorded_log (l : LogSt) (s : State) : Recorded s { s with log := l } := ⟨rfl, fun _ _ => rfl⟩
theorem recorded_nor (c : List Host.Cell) (s : State) : Recorded s { s with nor := c } := ⟨rfl, fun _ _ => rfl⟩
theorem recorded_upd (v : UpdSt) (s : State) : Recorded s { s with upd := v } := ⟨rfl, fun _ _ => rfl⟩
theorem recorded_raise (code unit : Nat) (p0 p1 : Word) (s : State) : Recorded s (raise code unit p0 p1 s) := recorded_log _ s

/-- The address is none of `startShown`. -/
abbrev hidden (a : Nat) : Prop := ∀ b ∈ startShown, wordBase a ≠ wordBase b

section
variable {a : Nat} (ha : hidden a)
include ha

theorem recorded_wr (w : Word) (s : State) : Recorded s (wr s a w) where
  only := by unfold wr; dsimp only; split <;> rfl
  shown := fun b hb => rd_wr_ne s w (ha b hb)
theorem recorded_wrN (n : Nat) (s : State) : Recorded s (wrN s a n) := recorded_wr ha _ s
theorem recorded_wrB (i : Nat) (v : Bool) (s : State) : Recorded s (wrB s a i v) := recorded_wr ha _ s
theorem recorded_wrF (h l v : Nat) (s : State) : Recorded s (wrF s a h l v) := recorded_wr ha _ s
theorem recorded_hwSet (i : Nat) (s : State) : Recorded s (hwSet s a i) :=
  (recorded_wrB ha i true s).trans ⟨rfl, fun _ _ => rfl⟩
theorem recorded_countS (h l ovf : Nat) (s : State) : Recorded s (countS a h l ovf s) := by
  unfold countS
  exact recorded_ite _ (.refl s) (recorded_ite _ (((recorded_wrF ha _ _ _ s).trans (recorded_hwSet ha _ _)).trans (recorded_raise _ _ _ _ _))
    (recorded_wrF ha _ _ _ s))
theorem recorded_count31 (s : State) : Recorded s (count31 a s) := recorded_countS ha _ _ _ s

end

theorem recorded_nwFrame {s t : State} (h : NwFrame s t) : Recorded s t where
  only := by rw [h.only]
  shown := fun a ha => h.words a (.inl (by revert a; decide))

/-! ### Records (R412, R417, R420 to R422, R430) -/

theorem recorded_sendNotice (r : Rec) (s : State) : Recorded s (sendNotice r s) := by
  unfold sendNotice
  dsimp only
  refine recorded_ite _ ?_ (.refl s)
  cases h : txQueue s (upCh s) 4 23 (ownFrame s (upCh s) 1 0x7E03 (noticeData r)) none with
  | none => exact .refl s
  | some t => exact recorded_nwFrame (nwFrame_txQueue (upCh_lt s) (by omega) (by simp [ownFrame, noticeData, length_beBytes]) h)

/-- A record numbered and placed. -/
theorem recorded_writeRec (e : Ev) (cnt : Nat) (run sat : Bool) (s : State) : Recorded s (writeRec e cnt run sat s) := by
  unfold writeRec
  dsimp only
  split
  · exact (recorded_log _ s).trans (recorded_count31 (a := Reg.SV_LOG_DROP_CNT) (by decide) _)
  · refine .trans ?_ (recorded_sendNotice _ _)
    refine .trans ?_ (recorded_ite _ (recorded_hwSet (a := Reg.SV_OWN_ATTN) (by decide) _ _) (.refl _))
    refine .trans ?_ (recorded_wr (a := Reg.SV_LOG_HEAD_SEQ) (by decide) _ _)
    refine .trans ?_ (recorded_log _ _)
    refine .trans ?_ (recorded_log _ _)
    exact recorded_ite _ ((recorded_log _ s).trans (recorded_count31 (a := Reg.SV_LOG_LOST_CNT) (by decide) _)) (.refl s)

theorem recorded_closeRun (r : Run) (sat : Bool) (s : State) : Recorded s (closeRun r sat s) :=
  recorded_ite _ (.refl s) (recorded_writeRec _ _ _ _ s)
theorem recorded_closeAllRuns (s : State) : Recorded s (closeAllRuns s) :=
  (recorded_log _ s).trans (recorded_forEach _ (fun r u => recorded_closeRun r false u) _)

theorem recorded_record (e : Ev) (s : State) : Recorded s (record e s) := by
  unfold record
  dsimp only
  split
  · exact recorded_writeRec _ _ _ _ s
  · split
    · refine .trans (.trans ?_ (recorded_writeRec _ _ _ _ _)) (recorded_log _ _)
      refine recorded_ite _ ?_ (.refl s)
      split
      · exact .refl s
      · exact (recorded_log _ s).trans (recorded_closeRun _ _ _)
    · refine recorded_ite _ ?_ (recorded_ite _ ?_ (recorded_log _ s))
      · exact (((recorded_log _ s).trans (recorded_closeRun _ _ _)).trans (recorded_writeRec _ _ _ _ _)).trans (recorded_log _ _)
      · exact (recorded_log _ s).trans (recorded_closeRun _ _ _)

theorem recorded_takeRaised (s : State) : Recorded s (takeRaised s) := by
  unfold takeRaised
  split
  · exact .refl s
  · exact (recorded_log _ s).trans (recorded_record _ _)

theorem recorded_drainRaised (n : Nat) (s : State) : Recorded s (drainRaised n s) := by
  induction n generalizing s with
  | zero => exact .refl s
  | succ n ih => exact recorded_ite _ (.refl s) ((recorded_takeRaised s).trans (ih _))
theorem recorded_drainAll (s : State) : Recorded s (drainAll s) := recorded_drainRaised _ s

/-! ### Programs and erases (R415, R417, R423, R471) -/

theorem recorded_norPutBytes (a : Nat) (l : List Byte) (s : State) : Recorded s (norPutBytes s a l) := by
  induction l generalizing a s with
  | nil => exact .refl s
  | cons b l ih => exact (recorded_nor _ s).trans (ih _ _)

theorem recorded_noteStored (s : State) : Recorded s (noteStored s) := by
  unfold noteStored
  split
  · exact .refl s
  · exact recorded_upd _ s

theorem hidden_norErase {k : Nat} (hk : k < 8) : hidden (Reg.SV_THM_NOR_ERASE k) := by
  have hall : ∀ k < 8, hidden (Reg.SV_THM_NOR_ERASE k) := by decide
  exact hall k hk

theorem recorded_noteErase {k : Nat} (hk : k < 8) (sec : Nat) (s : State) : Recorded s (noteErase k sec s) := by
  unfold noteErase
  dsimp only
  refine recorded_ite _ (recorded_upd _ s) ?_
  refine .trans ?_ (recorded_ite _ (recorded_raise _ _ _ _ _) (.refl _))
  exact ((recorded_upd _ s).trans (recorded_countS (hidden_norErase hk) _ _ _ _)).trans (recorded_noteStored _)

theorem recorded_advanceTail (k : Nat) (s : State) : Recorded s (advanceTail k s) := by
  have herase : ∀ u, Recorded u (eraseSector k u) := fun u => (recorded_nor _ u).trans (recorded_noteErase (by decide) _ _)
  unfold advanceTail
  dsimp only
  refine .trans ?_ (herase _)
  refine recorded_ite _ ?_ (.refl s)
  split <;> exact recorded_log _ s

theorem recorded_norPut (a : Nat) (w : Word) (s : State) : Recorded s (norPut s a w) := recorded_nor _ s

theorem recorded_programSlot (n : Nat) (r : Rec) (s : State) : Recorded s (programSlot n r s) := by
  unfold programSlot
  dsimp only
  iterate 7 refine .trans ?_ (recorded_norPut _ _ _)
  exact recorded_norPut _ _ s

theorem recorded_programOldest (s : State) : Recorded s (programOldest s) := by
  unfold programOldest
  split
  · exact .refl s
  · next d x hold =>
    extract_lets n s1 sec l1 s2 s3 l3 s4 m l4 s5
    have h3 : Recorded s s3 := by
      refine .trans ?_ (recorded_wrF (a := Reg.SV_LOG_STAT) (by decide) _ _ _ s2)
      refine .trans ?_ (recorded_log _ s1)
      exact (recorded_programSlot n x.r s).trans (recorded_log _ _)
    have h4 : Recorded s s4 := h3.trans (recorded_ite _ (.refl s3) (recorded_ite _ (.refl s3) (recorded_log _ s3)))
    have h5 : Recorded s s5 := h4.trans (recorded_log _ s4)
    refine recorded_ite _ ?_ (recorded_ite _ ?_ h5)
    · split
      · exact h5
      · exact recorded_ite _ h5 (h5.trans (recorded_advanceTail _ _))
    · split
      · exact h5
      · exact (h4.trans (recorded_ite _ (recorded_advanceTail _ s4) (.refl s4))).trans (recorded_log _ _)

theorem recorded_flushPending (n : Nat) (s : State) : Recorded s (flushPending n s) := by
  induction n generalizing s with
  | zero => exact .refl s
  | succ n ih => exact recorded_ite _ (.refl s) ((recorded_programOldest s).trans (ih _))

theorem recorded_markBad (k : Nat) (s : State) : Recorded s (markBad k s) :=
  recorded_ite _ (recorded_wrB (a := Reg.SV_LOG_BAD_LO) (by decide) _ _ s) (recorded_wrB (a := Reg.SV_LOG_BAD_HI) (by decide) _ _ s)

theorem recorded_mediaFail (kind : Nat) (timeout : Bool) (addr : Nat) (s : State) : Recorded s (mediaFail kind timeout addr s) := by
  unfold mediaFail
  dsimp only
  refine .trans ?_ (recorded_writeRec _ _ _ _ _)
  refine .trans ?_ (recorded_log _ _)
  refine .trans ?_ (recorded_wrF (a := Reg.SV_LOG_STAT) (by decide) _ _ _ _)
  refine .trans ?_ (recorded_ite _ (recorded_log _ _) (.refl _))
  refine .trans ?_ (recorded_count31 (a := Reg.SV_NVM_ERR_CNT) (by decide) _)
  exact recorded_markBad _ s

theorem recorded_effRecordProgramDone (s : State) : Recorded s (effRecordProgramDone s) :=
  recorded_ite _ (recorded_ite _ (recorded_programOldest s) (recorded_mediaFail _ _ _ s)) (.refl s)

/-! ### Journals and commits (R453 to R456) -/

theorem recorded_jShow (j : Nat) (s : State) : Recorded s (jShow j s) := by
  unfold jShow
  dsimp only
  refine .trans ?_ (recorded_wrN (a := Reg.SV_UPD_JGEN) (by decide) _ _)
  refine .trans ?_ (recorded_wrN (a := Reg.SV_UPD_JRNL) (by decide) _ _)
  exact recorded_wrF (a := Reg.SV_UPD_STAT) (by decide) _ _ _ s

theorem recorded_jAppend (j i e : Nat) (l : List (Nat × Word)) (s : State) : Recorded s (jAppend j i e l s) := by
  induction l generalizing i e s with
  | nil => exact .refl s
  | cons x l ih => exact (recorded_norPutBytes _ _ s).trans (ih _ _ _)

theorem recorded_jErase {j : Nat} (hj : j < 2) (s : State) : Recorded s (jErase j s) := by
  unfold jErase
  dsimp only
  exact ((recorded_upd _ s).trans (recorded_nor _ _)).trans
    (recorded_forEach (List.range 16) (fun k u => recorded_noteErase (by omega) k u) _)

theorem recorded_jNew {j : Nat} (hj : j < 2) (ver gen : Nat) (trial : Bool) (vals : List (Nat × Word)) (s : State) :
    Recorded s (jNew j ver gen trial vals s) := by
  unfold jNew jHeader jBindStore
  dsimp only
  refine .trans ?_ (recorded_jShow j _)
  refine .trans ?_ (recorded_norPutBytes _ _ _)
  refine .trans ?_ (recorded_upd _ _)
  exact (recorded_jErase hj s).trans (recorded_jAppend _ _ _ _ _)

theorem recorded_rebase (s : State) : Recorded s (rebase s) := recorded_upd _ s
theorem recorded_again (s : State) : Recorded s (again s) := recorded_upd _ s

theorem recorded_commitFail (addr kind : Nat) (timeout : Bool) (s : State) : Recorded s (commitFail addr kind timeout s) :=
  (recorded_count31 (a := Reg.SV_UPD_CFAIL_CNT) (by decide) s).trans (recorded_raise _ _ _ _ _)

theorem recorded_countNvmErr (s : State) : Recorded s (count31 Reg.SV_NVM_ERR_CNT s) :=
  recorded_count31 (a := Reg.SV_NVM_ERR_CNT) (by decide) s

theorem jCur_lt (s : State) : jCur s < 2 := Nat.mod_lt _ (by decide)

theorem recorded_commit (fails : Nat) (timeout : Bool) (s : State) : Recorded s (commit fails timeout s) := by
  unfold commit
  refine recorded_ite _ (.refl s) (recorded_ite _ (recorded_upd _ s) ?_)
  extract_lets l v s0 j i bad s1
  have h0 : Recorded s s0 := recorded_upd _ s
  have hj : j < 2 := jCur_lt s0
  have hbad : ∀ k u, Recorded u (bad k u) := fun k u => (recorded_countNvmErr u).trans (recorded_norPut _ _ _)
  have h1 : Recorded s s1 := h0.trans (recorded_forEach _ hbad s0)
  have hfail : ∀ a, Recorded s (again (commitFail a 2 timeout (count31 Reg.SV_NVM_ERR_CNT s0))) := fun a =>
    ((h0.trans (recorded_countNvmErr s0)).trans (recorded_commitFail _ _ _ _)).trans (recorded_again _)
  have hnew : ∀ k ver gen, k < 2 → Recorded s (rebase (jNew k ver gen false (storedVals s0) s0)) := fun k ver gen hk =>
    (h0.trans (recorded_jNew hk _ _ _ _ s0)).trans (recorded_rebase _)
  refine recorded_ite _ h0 (recorded_ite _ (recorded_ite _ (hfail _) (hnew 0 _ _ (by decide))) ?_)
  refine recorded_ite _ (recorded_ite _ (hfail _) (hnew _ _ _ (by omega))) (recorded_ite _ ?_ ?_)
  · exact ((h1.trans (recorded_commitFail _ _ _ s1)).trans (recorded_jShow j _)).trans (recorded_again _)
  · exact (((h1.trans (recorded_jAppend _ _ _ _ s1)).trans (recorded_upd _ _)).trans (recorded_jShow j _)).trans (recorded_rebase _)

/-- No byte of `startShown` holds a field that the journal restores (R454). -/
theorem rwsMask_startShown {a : Nat} (ha : ¬hidden a) (s : State) : rwsMask s a = 0 := by
  have hrow : ∀ b ∈ startShown, ∀ j < 4, b % 4 = 0 ∧ b + j < 0xA0000 ∧ b + j ≠ Reg.SV_OWN_TKO_SET
      ∧ (match findRow (b + j) with | some r => w32 r.rws | none => 0) = 0 := by decide
  obtain ⟨b, hb, hword⟩ : ∃ b ∈ startShown, wordBase a = wordBase b := by
    simpa only [hidden, not_forall, not_not, exists_prop] using ha
  have halign := (hrow b hb 0 (by decide)).1
  have hbyte : a = b + a % 4 := by unfold wordBase at hword; omega
  obtain ⟨-, hlow, hset, hrws⟩ := hrow b hb (a % 4) (Nat.mod_lt _ (by decide))
  rw [← hbyte] at hlow hset hrws
  have hdie : dieOf a = 0 := Nat.div_eq_of_lt (hlow.trans (by decide))
  have hoff : a % winSize = a := Nat.mod_eq_of_lt (hlow.trans (by decide))
  unfold rwsMask
  simp only [hdie, hoff, if_true]
  rw [if_neg (by omega), if_neg hset]
  exact hrws

theorem recorded_restoreWord (x : Nat × Word) (s : State) : Recorded s (restoreWord x s) := by
  unfold restoreWord
  dsimp only
  split
  · exact .refl s
  · next hmask => exact recorded_wr (not_not.mp fun h => hmask (rwsMask_startShown h s)) _ s

end Sys2Proof.Machine.PackageRails
end

section
/-!
PROOFS. HIBERNATE and wake: the request, the wake sources, the latched wake and the time-out of the rails (R54 to R57).
-/
namespace Sys2Proof.Machine.PackageRails
open Sys2Proof.Machine.GrainPlant

/-! ### HIBERNATE entered (R54, Table 02-5) -/

theorem clk_seqLast (n : Nat) (s : State) : (seqLast n s).clk = s.clk ∧ (seqLast n s).pending = s.pending := ⟨wr_clk .., wr_pending ..⟩
theorem clk_restartBase (kind : Nat) (s : State) : (restartBase kind s).clk = s.clk ∧ (restartBase kind s).pending = s.pending :=
  forEach_keeps (P := fun u => u.clk = s.clk ∧ u.pending = s.pending) (List.range 8)
    (fun n _ u hu => ⟨(clk_seqLast n u).1.trans hu.1, (clk_seqLast n u).2.trans hu.2⟩) s ⟨rfl, rfl⟩

theorem railHand_handed (r low : Nat) (s : State) : (railHand r low s).clk = s.clk ∧ (railHand r low s).pending = s.pending := by
  unfold railHand
  split
  · exact ⟨rfl, rfl⟩
  · exact ⟨countS_clk .., countS_pending ..⟩

theorem rd_withPwr (p : PwrSt) (s : State) (a : Nat) : rd (withPwr p s) a = rd s a := rd_congr rfl rfl a

/-- What the island holds after the entry (Table 02-5). -/
def hibPwr (p : PwrSt) (at2 : Nat) : PwrSt :=
  { p with
    cold := true, woke := true, latched := 0, waking := false, faults := [], lost := [], loss := none, hibAt := at2 }

/-- The dies reset with the faults handed over, the log flushed and the settings committed: TB2 goes on (Table 02-5). -/
theorem hibEnter_entered (who : Nat) (s : State) : ∃ u, u.clk = s.clk ∧ u.pending = s.pending ∧ hibEnter who s = withPwr
    (hibPwr (restartBase 1 u).pwr (tb2Val u.clk))
    (wr (wrF (restartBase 1 u) Reg.SV_BOOT_STAT 2 0 0) Reg.SV_PWR_WAKE_CFG (rd s Reg.SV_PWR_WAKE_CFG)) := by
  unfold hibEnter
  extract_lets cfg s1 s2 s3 s4 s5 s6
  have h1 : s1.clk = s.clk ∧ s1.pending = s.pending := by
    refine forEach_keeps (P := fun u => u.clk = s.clk ∧ u.pending = s.pending) [0, 1] (fun r _ u hu => ?_) _
      ⟨(recorded_drainAll s).clk, (recorded_drainAll s).pending⟩
    obtain ⟨hclk, hpending⟩ := railHand_handed r 0xFFFF u
    exact ⟨hclk.trans hu.1, hpending.trans hu.2⟩
  have h2 : Recorded s1 s2 := (recorded_drainAll s1).trans (recorded_closeAllRuns _)
  have h4 : Recorded s1 s4 := (h2.trans (recorded_commit 0 false s2)).trans ((recorded_raise _ _ _ _ s3).trans (recorded_drainAll _))
  have h5 : Recorded s1 s5 := h4.trans
    (recorded_ite _ (recorded_ite _ (recorded_flushPending 65 s4) (recorded_effRecordProgramDone s4)) (.refl s4))
  refine ⟨s5, h5.clk.trans h1.1, h5.pending.trans h1.2, ?_⟩
  have hpwr : s6.pwr = (restartBase 1 s5).pwr := (wr_pwr ..).trans (wr_pwr ..)
  have hclk : s6.clk = s5.clk := (wr_clk ..).trans ((wr_clk ..).trans (clk_restartBase 1 s5).1)
  rw [← hpwr, ← hclk]
  rfl

/-- What the dies, the island and TB2 show once HIBERNATE is entered (R54). -/
theorem hibEnter_shows (who : Nat) (s : State) : devState (hibEnter who s) = 0
    ∧ rd (hibEnter who s) Reg.SV_PWR_WAKE_CFG = rd s Reg.SV_PWR_WAKE_CFG ∧ (hibEnter who s).clk = s.clk ∧ (hibEnter who s).pending = s.pending
    ∧ (hibEnter who s).mem = []
    ∧ (hibEnter who s).loops = [] ∧ (hibEnter who s).port.owner = none ∧ (hibEnter who s).pwr.hibAt = tb2Val s.clk
    ∧ (hibEnter who s).pwr.waking = false ∧ (hibEnter who s).pwr.latched = 0 ∧ (hibEnter who s).pwr.faults = [] := by
  refine ⟨devState_hibEnter who s, ?_⟩
  obtain ⟨u, hclk, hpending, h⟩ := hibEnter_entered who s
  have hreset : (restartBase 1 u).mem = [] ∧ (restartBase 1 u).loops = [] ∧ (restartBase 1 u).port.owner = none := ⟨rfl, rfl, rfl⟩
  obtain ⟨hbase, hwaiting⟩ := clk_restartBase 1 u
  rw [h, hclk]
  generalize restartBase 1 u = b at *
  obtain ⟨hmem, hloops, howner⟩ := hreset
  refine ⟨(rd_withPwr _ _ _).trans (rd_wr_same _ _ _), (wr_clk ..).trans ((wr_clk ..).trans (hbase.trans hclk)),
    (wr_pending ..).trans ((wr_pending ..).trans (hwaiting.trans hpending)), ?_, (wr_loops ..).trans ((wr_loops ..).trans hloops), ?_,
    rfl, rfl, rfl, rfl⟩
  · have hstat : usesMem (wordBase Reg.SV_BOOT_STAT) = false := by decide
    have hcfg : usesMem (wordBase Reg.SV_PWR_WAKE_CFG) = false := by decide
    unfold withPwr wrF
    rw [wr_register hcfg, wr_register hstat]
    exact hmem
  · unfold withPwr wrF
    rw [wr_port, wr_port]
    exact howner

/-! ### The request (R54) -/

/-- A renewed lease moves nothing that the refusal of a request looks at. -/
theorem hibRefusal_renewLease (p : PortId) (s : State) : hibRefusal (renewLease p s) = hibRefusal s := by
  rw [renewLease_only]
  rfl
theorem rd_renewLease (p : PortId) (s : State) (a : Nat) : rd (renewLease p s) a = rd s a := by
  rw [renewLease_only]
  exact rd_congr rfl rfl a

theorem exec_hibReq_enters {p : PortId} {s : State} (hw : mayWrite p Reg.SV_PWR_CTRL s) (h : hibRefusal s = 0) :
    ∃ t, exec (.hibReq p) s = .next t ∧ devState t = 0 ∧ rd t Reg.SV_PWR_WAKE_CFG = rd s Reg.SV_PWR_WAKE_CFG ∧ t.clk = s.clk
      ∧ t.mem = [] ∧ t.loops = [] ∧ t.port.owner = none ∧ t.pwr.hibAt = tb2Val s.clk ∧ t.pwr.waking = false ∧ t.pwr.latched = 0
      ∧ t.pwr.faults = [] := by
  have heff : ownerWrite p Reg.SV_PWR_CTRL (opHib p) s = hibRequest (portCode p) (renewLease p s) :=
    ownerWrite_accepted (f := hibRequest (portCode p)) hw (if_pos h)
  have henter : hibRequest (portCode p) (renewLease p s) = hibEnter (portCode p) (renewLease p s) := by
    unfold hibRequest
    rw [hibRefusal_renewLease, h]
    rfl
  have hclk : (renewLease p s).clk = s.clk := by rw [renewLease_only]
  have hpending : (renewLease p s).pending = s.pending := by rw [renewLease_only]
  obtain ⟨hstate, hcfg, hclk', hpending', hmem, hloops, howner, hat, hrest⟩ := hibEnter_shows (portCode p) (renewLease p s)
  rw [hclk] at hclk' hat
  exact ⟨_, run_eq_next (heff.trans henter) hclk' (hpending'.trans hpending), hstate, hcfg.trans (rd_renewLease p s _), hclk', hmem,
    hloops, howner, hat, hrest⟩

/-- A refused request leaves what it raised, and the refusal is logged as that of any write (R26, R54). -/
theorem exec_hibReq_refused {p : PortId} {s : State} (hw : mayWrite p Reg.SV_PWR_CTRL s) (h : hibRefusal s ≠ 0) :
    ∃ t, exec (.hibReq p) s = .next t ∧ (∀ e ∈ (hibRequest (portCode p) s).log.raised, e ∈ t.log.raised)
      ∧ rdF t Reg.SV_VIOL_INFO 19 16 = 7 ∧ rd t Reg.SV_VIOL_ADDR = w32 Reg.SV_PWR_CTRL
      ∧ t = { s with regs := t.regs, hwset := t.hwset, log := t.log } := by
  have heff : ownerWrite p Reg.SV_PWR_CTRL (opHib p) s = logViol p 2 .refused Reg.SV_PWR_CTRL (hibRequest (portCode p) s) :=
    ownerWrite_refused (f := hibRequest (portCode p)) hw (if_neg h)
  have hraised : hibRequest (portCode p) s = { s with log := (hibRequest (portCode p) s).log } := by
    unfold hibRequest
    split
    · next hzero => exact absurd hzero h
    · rfl
    · rfl
  generalize hibRequest (portCode p) s = u at *
  obtain ⟨hinfo, haddr, hwithin⟩ := logViol_refused p Reg.SV_PWR_CTRL u
  obtain ⟨t, ht⟩ : ∃ t, t = logViol p 2 .refused Reg.SV_PWR_CTRL u := ⟨_, rfl⟩
  rw [← ht] at heff hinfo haddr hwithin
  have hframe : t = { s with regs := t.regs, hwset := t.hwset, log := t.log } := by rw [hwithin.only, hraised]
  exact ⟨t, run_eq_next heff (by rw [hframe]) (by rw [hframe]), hwithin.raised, hinfo, haddr, hframe⟩

/-! ### A wake (R55 to R57) -/

theorem wakeRails_shows (s : State) : ∃ g, wakeRails s = withPwr { s.pwr with goodAt := g } s := by
  unfold wakeRails
  split
  · exact ⟨_, rfl⟩
  · exact ⟨s.pwr.goodAt, rfl⟩

/-- The alarm fires in HIBERNATE: its enable is cleared and the island remembers it (R56). -/
theorem alarmFire_asleep {s : State} (h : devState s = 0) :
    alarmFire s = withPwr { s.pwr with fired := true } (wrB s Reg.SV_PWR_WAKE_CFG 4 false) := by
  have hstate : devState (wrB s Reg.SV_PWR_WAKE_CFG 4 false) = 0 := by
    unfold devState rdF wrB
    rw [rd_wr_ne _ _ (by decide)]
    exact h
  unfold alarmFire
  dsimp only
  rw [if_pos hstate]
  unfold withPwr wrB
  rw [wr_pwr]

/-- The alarm, with its enable clear, is not due (R56). -/
theorem alarmDue_off {s : State} (h : rdB s Reg.SV_PWR_WAKE_CFG 4 = false) : alarmDue s = false := by
  unfold alarmDue; rw [h]; rfl

/-- The state in which a wake records its sources: a due alarm has fired (R56). -/
def wakeFired (s : State) : State := if alarmDue s then alarmFire s else s

theorem wakeFired_shows {s : State} (h : devState s = 0) : devState (wakeFired s) = 0 ∧ (wakeFired s).clk = s.clk
    ∧ (wakeFired s).pending = s.pending ∧ rdB (wakeFired s) Reg.SV_PWR_WAKE_CFG 4 = (rdB s Reg.SV_PWR_WAKE_CFG 4 && !alarmDue s)
    ∧ (s.pwr.fired = true → (wakeFired s).pwr.fired = true) := by
  unfold wakeFired
  cases hdue : alarmDue s with
  | false => exact ⟨h, rfl, rfl, by rw [Bool.not_false, Bool.and_true]; rfl, id⟩
  | true =>
    rw [if_pos rfl, alarmFire_asleep h, Bool.not_true, Bool.and_false]
    unfold devState rdF rdB
    rw [rd_withPwr, rd_withPwr]
    refine ⟨?_, wr_clk .., wr_pending .., rdB_wrB_same _ _ _ _ (by decide), fun _ => rfl⟩
    unfold wrB
    rw [rd_wr_ne _ _ (by decide)]
    exact h

/-- A wake in HIBERNATE: its sources are recorded, a due alarm among them, and PWR_EN goes high (R56, R57). -/
theorem wakeNow_shows {s : State} (h : devState s = 0) (hlatched : s.pwr.latched < 8) : (wakeNow s).pwr.waking = true
    ∧ (wakeNow s).pwr.latched = 0
    ∧ rdF (wakeNow s) Reg.SV_PWR_WAKE_SRC 2 0 = s.pwr.latched ||| (if alarmDue s then 4 else 0)
    ∧ (wakeNow s).pwr.wakeAt = tb2Val s.clk ∧ devState (wakeNow s) = 0 ∧ (wakeNow s).clk = s.clk ∧ (wakeNow s).pending = s.pending
    ∧ (rdB s Reg.SV_PWR_WAKE_CFG 4 = false → rdB (wakeNow s) Reg.SV_PWR_WAKE_CFG 4 = false)
    ∧ (s.pwr.fired = true → (wakeNow s).pwr.fired = true) := by
  obtain ⟨hstate, hclk, hpending, hcfg, hfired⟩ := wakeFired_shows h
  have hmask : s.pwr.latched ||| (if alarmDue s then 4 else 0) < 2 ^ 3 := Nat.or_lt_two_pow hlatched (by split <;> decide)
  generalize hm : s.pwr.latched ||| (if alarmDue s then 4 else 0) = m at *
  have heq : wakeNow s = wakeRails (withPwr
      { (wrF (wakeFired s) Reg.SV_PWR_WAKE_SRC 2 0 m).pwr with
        waking := true, latched := 0, wakeAt := tb2Val (wrF (wakeFired s) Reg.SV_PWR_WAKE_SRC 2 0 m).clk, goodAt := none }
      (wrF (wakeFired s) Reg.SV_PWR_WAKE_SRC 2 0 m)) := by
    rw [← hm]; rfl
  obtain ⟨u, hu⟩ : ∃ u, u = wrF (wakeFired s) Reg.SV_PWR_WAKE_SRC 2 0 m := ⟨_, rfl⟩
  have hsrc : rdF u Reg.SV_PWR_WAKE_SRC 2 0 = m := by
    rw [hu, rdF_wrF_same _ _ _ _ _ (by decide) (by decide)]; exact Nat.mod_eq_of_lt hmask
  have hother : ∀ a, wordBase Reg.SV_PWR_WAKE_SRC ≠ wordBase a → rd u a = rd (wakeFired s) a := fun a ha => by
    rw [hu]; exact rd_wr_ne _ _ ha
  have huclk : u.clk = s.clk := by rw [hu]; exact (wr_clk ..).trans hclk
  have hupending : u.pending = s.pending := by rw [hu]; exact (wr_pending ..).trans hpending
  have hupwr : u.pwr = (wakeFired s).pwr := by rw [hu]; exact wr_pwr ..
  rw [← hu] at heq
  obtain ⟨g, hg⟩ := wakeRails_shows (withPwr
    { u.pwr with
      waking := true, latched := 0, wakeAt := tb2Val u.clk, goodAt := none } u)
  rw [heq, hg]
  refine ⟨rfl, rfl, ?_, congrArg tb2Val huclk, ?_, huclk, hupending, fun hoff => ?_, fun hf => ?_⟩
  · unfold rdF at *; rw [rd_withPwr, rd_withPwr]; exact hsrc
  · unfold devState rdF at *; rw [rd_withPwr, rd_withPwr, hother _ (by decide)]; exact hstate
  · unfold rdB at *; rw [rd_withPwr, rd_withPwr, hother _ (by decide), hcfg, hoff]; rfl
  · exact (congrArg PwrSt.fired hupwr).trans (hfired hf)

/-- Source `k` latched by the island (R55). -/
def wakeLatched (k : Nat) (s : State) : State := withPwr { s.pwr with latched := s.pwr.latched ||| 2 ^ k } s

theorem wakeAssert_asleep {k : Nat} {s : State} (h : devState s = 0) (hwaking : s.pwr.waking = false) :
    wakeAssert k s = if hibSettled s then wakeNow (wakeLatched k s) else wakeLatched k s := by
  unfold wakeAssert
  rw [if_neg (not_not.mpr h), if_neg (by simp [hwaking])]
  rfl

/-- The wake statement of the obligation, over the state it starts from. -/
def wokenBy (s t : State) (k : Nat) : Prop := t.pwr.waking = true ∧ t.pwr.latched = 0
  ∧ rdF t Reg.SV_PWR_WAKE_SRC 2 0 = s.pwr.latched ||| k ||| (if alarmDue s then 4 else 0) ∧ t.pwr.wakeAt = tb2Val s.clk ∧ devState t = 0
  ∧ t.clk = s.clk

section
variable {k : Nat} {rising : Bool} {s : State} (hk : k < 2)
include hk

/-- An edge of an enabled pin in its direction (R55, R56). -/
theorem exec_wakeEdge_enabled (h : devState s = 0 ∧ s.pwr.waking = false ∧ s.pwr.latched < 8)
    (hen : bit (rd s Reg.SV_PWR_WAKE_CFG) (2 * k) = true) (hdir : bit (rd s Reg.SV_PWR_WAKE_CFG) (2 * k + 1) = rising) :
    (hibSettled s = true → ∃ t, exec (.wakeEdge k rising) s = .next t ∧ wokenBy s t (2 ^ k))
    ∧ (hibSettled s = false → ∃ t, exec (.wakeEdge k rising) s = .next t ∧ t.pwr.waking = false
        ∧ t.pwr.latched = s.pwr.latched ||| 2 ^ k ∧ t = { s with pwr := t.pwr }) := by
  obtain ⟨hstate, hwaking, hlatched⟩ := h
  obtain ⟨p, hp, hpw, hpl, hph⟩ : ∃ p, (if k = 0 then withPwr { s.pwr with pin0 := rising } s else withPwr { s.pwr with pin1 := rising } s)
      = withPwr p s ∧ p.waking = s.pwr.waking ∧ p.latched = s.pwr.latched ∧ p.hibAt = s.pwr.hibAt := by
    split
    · exact ⟨_, rfl, rfl, rfl, rfl⟩
    · exact ⟨_, rfl, rfl, rfl, rfl⟩
  have heff : effWakeEdge k rising s = wakeAssert k (withPwr p s) := by
    unfold effWakeEdge
    dsimp only
    rw [if_pos (by rw [hen, hdir]; simp)]
    exact congrArg (wakeAssert k) hp
  have hsettled : hibSettled (withPwr p s) = hibSettled s := by
    unfold hibSettled withPwr
    dsimp only
    rw [hph]
    rfl
  have hasleep := wakeAssert_asleep (k := k) (s := withPwr p s) hstate (hpw.trans hwaking)
  rw [hsettled] at hasleep
  constructor
  · intro hset
    rw [if_pos hset] at hasleep
    have hlt : (wakeLatched k (withPwr p s)).pwr.latched < 2 ^ 3 := by
      show p.latched ||| 2 ^ k < 2 ^ 3
      rw [hpl]
      exact Nat.or_lt_two_pow hlatched (Nat.pow_lt_pow_right (by decide) (by omega))
    obtain ⟨hw, hl, hsrc, hat, hst, hclk, hpending, -⟩ := wakeNow_shows (s := wakeLatched k (withPwr p s)) hstate hlt
    refine ⟨_, (guardIx_lt hk _).trans (run_eq_next (heff.trans hasleep) hclk hpending), hw, hl, ?_, hat, hst, hclk⟩
    rw [hsrc]
    show (p.latched ||| 2 ^ k) ||| _ = _
    rw [hpl]
    rfl
  · intro hset
    rw [if_neg (by simp [hset])] at hasleep
    exact ⟨_, (guardIx_lt hk _).trans (run_eq_next (heff.trans hasleep) rfl rfl), hpw.trans hwaking, congrArg (· ||| 2 ^ k) hpl, rfl⟩

/-- Any other edge moves only what the island sees of the pin (R56). -/
theorem exec_wakeEdge_other (hno : bit (rd s Reg.SV_PWR_WAKE_CFG) (2 * k) = false ∨ bit (rd s Reg.SV_PWR_WAKE_CFG) (2 * k + 1) ≠ rising) :
    ∃ t, exec (.wakeEdge k rising) s = .next t ∧ t.pwr.waking = s.pwr.waking ∧ t.pwr.latched = s.pwr.latched ∧ t = { s with pwr := t.pwr }
      ∧ (if k = 0 then t.pwr.pin0 = rising ∧ t.pwr.pin1 = s.pwr.pin1 else t.pwr.pin1 = rising ∧ t.pwr.pin0 = s.pwr.pin0) := by
  have heff : effWakeEdge k rising s
      = if k = 0 then withPwr { s.pwr with pin0 := rising } s else withPwr { s.pwr with pin1 := rising } s := by
    unfold effWakeEdge
    dsimp only
    refine if_neg fun hboth => ?_
    rw [Bool.and_eq_true, beq_iff_eq] at hboth
    rcases hno with hoff | hdir
    · exact absurd hboth.1 (by rw [hoff]; decide)
    · exact hdir hboth.2
  have hexec : ∀ t, effWakeEdge k rising s = t → t.clk = s.clk → t.pending = s.pending → exec (.wakeEdge k rising) s = .next t :=
    fun t h hclk hpending => (guardIx_lt hk _).trans (run_eq_next h hclk hpending)
  by_cases hzero : k = 0
  · rw [if_pos hzero] at heff
    simp only [hzero, if_true] at hexec heff ⊢
    exact ⟨_, hexec _ heff rfl rfl, rfl, rfl, rfl, rfl, rfl⟩
  · rw [if_neg hzero] at heff
    simp only [hzero, if_false]
    exact ⟨_, hexec _ heff rfl rfl, rfl, rfl, rfl, rfl, rfl⟩

end

/-- The alarm in HIBERNATE: it clears its enable, is remembered, and wakes the device once 100 ms have passed (R55, R56). -/
theorem exec_rtcAlarm_asleep {s : State} (h : devState s = 0 ∧ s.pwr.waking = false ∧ s.pwr.latched < 8) (hdue : alarmDue s = true) :
    ∃ t, exec .rtcAlarm s = .next t ∧ rdB t Reg.SV_PWR_WAKE_CFG 4 = false ∧ t.pwr.fired = true
      ∧ (hibSettled s = true → wokenBy s t 4) := by
  obtain ⟨hstate, hwaking, hlatched⟩ := h
  obtain ⟨hst, hclk, hpending, hcfg, -⟩ := wakeFired_shows hstate
  have hfire : wakeFired s = withPwr { s.pwr with fired := true } (wrB s Reg.SV_PWR_WAKE_CFG 4 false) :=
    (if_pos hdue).trans (alarmFire_asleep hstate)
  rw [hdue, Bool.not_true, Bool.and_false] at hcfg
  have hpwr : (wakeFired s).pwr = { s.pwr with fired := true } := by rw [hfire]; rfl
  have htime : (wakeFired s).time = s.time := by rw [hfire]; exact wr_time ..
  have hsettled : hibSettled (wakeFired s) = hibSettled s := by
    unfold hibSettled tb2Past tb2Since
    rw [hpwr, htime, hclk]
  have heff : effRtcAlarm s = wakeAssert 2 (wakeFired s) := by
    unfold effRtcAlarm wakeFired
    rw [if_pos hdue, if_pos hdue]
  obtain ⟨u, hu⟩ : ∃ u, u = wakeFired s := ⟨_, rfl⟩
  rw [← hu] at hst hclk hpending hcfg hpwr hsettled heff
  rw [wakeAssert_asleep hst (by rw [hpwr]; exact hwaking), hsettled] at heff
  have hlow : (wakeLatched 2 u).pwr.latched = s.pwr.latched ||| 4 := by
    show u.pwr.latched ||| 2 ^ 2 = _
    rw [hpwr]
    rfl
  have hlow' : rdB (wakeLatched 2 u) Reg.SV_PWR_WAKE_CFG 4 = false := by unfold rdB wakeLatched at *; rw [rd_withPwr]; exact hcfg
  have hon : u.pwr.fired = true := by rw [hpwr]
  cases hset : hibSettled s with
  | false =>
    rw [hset, if_neg (by decide)] at heff
    exact ⟨_, run_eq_next heff hclk hpending, hlow', hon, nofun⟩
  | true =>
    rw [hset, if_pos rfl] at heff
    have hlt : (wakeLatched 2 u).pwr.latched < 2 ^ 3 := by rw [hlow]; exact Nat.or_lt_two_pow hlatched (by decide)
    obtain ⟨hw, hl, hsrc, hat, hst', hclk', hpending', hoff, hfired⟩ := wakeNow_shows (s := wakeLatched 2 u) hst hlt
    refine ⟨_, run_eq_next heff (hclk'.trans hclk) (hpending'.trans hpending), hoff hlow', hfired hon, fun _ =>
      ⟨hw, hl, ?_, hat.trans (congrArg tb2Val hclk), hst', hclk'.trans hclk⟩⟩
    rw [hsrc, hlow, alarmDue_off hlow', if_neg (by decide), hdue, if_pos rfl, Nat.or_zero, Nat.or_assoc, Nat.or_self]

/-- A latched wake, 100 ms after the entry (R55). -/
theorem exec_latchedWake_settled {s : State} (h : devState s = 0 ∧ s.pwr.waking = false ∧ s.pwr.latched < 8) (hany : s.pwr.latched ≠ 0)
    (hset : hibSettled s = true) : ∃ t, exec .latchedWake s = .next t ∧ wokenBy s t 0 := by
  obtain ⟨hstate, hwaking, hlatched⟩ := h
  obtain ⟨hw, hl, hsrc, hat, hst, hclk, hpending, -⟩ := wakeNow_shows hstate hlatched
  have heff : effLatchedWake s = wakeNow s := if_pos ⟨hstate, hwaking, hany, hset⟩
  exact ⟨_, run_eq_next heff hclk hpending, hw, hl, by rw [hsrc, Nat.or_zero], hat, hst, hclk⟩

/-- The rails have not come up within 500 ms of the wake (R57). -/
theorem exec_wakeRailTimeout_late {s : State} (hwaking : s.pwr.waking = true) (hgood : s.pwr.goodAt = none)
    (hpast : tb2Past s s.pwr.wakeAt 32768 = true) :
    ∃ t, exec .wakeRailTimeout s = .next t ∧ t.pwr.waking = false ∧ t.pwr.latched = 0 ∧ rdB t Reg.SV_PWR_WAKE_SRC 3 = true
      ∧ t = { s with regs := t.regs, pwr := t.pwr } ∧ wordsKept [(Reg.SV_PWR_WAKE_SRC, Reg.SV_PWR_WAKE_SRC + 4)] s t := by
  have hwithin : Within [(Reg.SV_PWR_WAKE_SRC, Reg.SV_PWR_WAKE_SRC + 4)] s (wrB s Reg.SV_PWR_WAKE_SRC 3 true) :=
    within_wrB (a := Reg.SV_PWR_WAKE_SRC) List.mem_cons_self (by decide) (by decide) (by decide) 3 true s
  have honly := wrB_only (a := Reg.SV_PWR_WAKE_SRC) (by decide) s 3 true
  have hbit : rdB (wrB s Reg.SV_PWR_WAKE_SRC 3 true) Reg.SV_PWR_WAKE_SRC 3 = true := rdB_wrB_same _ _ _ _ (by decide)
  have heff : effWakeRailTimeout s = withPwr
      { (wrB s Reg.SV_PWR_WAKE_SRC 3 true).pwr with
        waking := false, latched := 0 } (wrB s Reg.SV_PWR_WAKE_SRC 3 true) := by
    unfold effWakeRailTimeout
    rw [if_pos (by rw [hwaking, hgood, hpast]; rfl)]
    rfl
  obtain ⟨u, hu⟩ : ∃ u, u = wrB s Reg.SV_PWR_WAKE_SRC 3 true := ⟨_, rfl⟩
  rw [← hu] at hwithin honly hbit heff
  obtain ⟨t, ht⟩ : ∃ t, t = withPwr
    { u.pwr with
      waking := false, latched := 0 } u := ⟨_, rfl⟩
  rw [← ht] at heff
  have hrd : ∀ a, rd t a = rd u a := fun a => by rw [ht, rd_withPwr]
  have hframe : t = { s with regs := t.regs, pwr := t.pwr } := by rw [ht, honly]; rfl
  refine ⟨t, run_eq_next heff (by rw [hframe]) (by rw [hframe]), by rw [ht]; rfl, by rw [ht]; rfl, ?_, hframe,
    fun a ha => (hrd a).trans (hwithin.words a ha)⟩
  unfold rdB at *
  rw [hrd]
  exact hbit

/-! ### The statement -/

/-- Settles O8: the request by its refusal, the wakes by what asserts them. -/
theorem hibernateAndWake : Obligations.HibernateAndWake := by
  unfold Obligations.HibernateAndWake
  intro s c asleep wakes
  refine ⟨fun p hw => ⟨exec_hibReq_enters hw, fun hr => ?_, fun hrun hsafe => ?_⟩, fun hmoving hstate => ?_,
    fun k rising hk h hen hdir => exec_wakeEdge_enabled hk h hen hdir, fun k rising hk hno => exec_wakeEdge_other hk hno,
    fun h hen hreach => ?_, exec_latchedWake_settled, fun hwaking hno => run_eq_self (if_neg ?_), exec_wakeRailTimeout_late⟩
  · obtain ⟨t, hexec, hraised, hinfo, haddr, hframe⟩ := exec_hibReq_refused hw (by omega)
    have hrequest : hibRequest (portCode p) s = raiseN 0x0015 0 (hibRefusal s) (portCode p) s := by
      unfold hibRequest
      rcases hr with hr | hr <;> rw [hr] <;> rfl
    rw [hrequest] at hraised
    obtain ⟨e, he, hev⟩ := raisedEvent_raise 0x0015 0 (w32 (hibRefusal s)) (w32 (portCode p)) s
    exact ⟨t, hexec, ⟨e, hraised e he, hev⟩, hinfo, haddr, hframe⟩
  · have hthree : hibRefusal s = 3 := if_pos ⟨hrun, hsafe⟩
    obtain ⟨t, hexec, -, hinfo, -, hframe⟩ := exec_hibReq_refused hw (by omega)
    exact ⟨t, hexec, hinfo, hframe⟩
  · unfold hibRefusal
    rw [if_neg (by omega), if_pos hmoving]
  · have hdue : alarmDue s = true := by
      unfold alarmDue rdB
      rw [Bool.and_eq_true, Bool.or_eq_true, decide_eq_true_iff]
      exact ⟨hen, hreach⟩
    obtain ⟨t, hexec, hcfg, hfired, hwoken⟩ := exec_rtcAlarm_asleep h hdue
    exact ⟨⟨t, hexec, hcfg, hfired⟩, fun hset => ⟨t, hexec, hwoken hset⟩⟩
  · rcases hno with hgood | hpast
    · cases hg : s.pwr.goodAt with
      | none => exact absurd hg hgood
      | some g => simp
    · simp [hpast]

end Sys2Proof.Machine.PackageRails
end

section
/-!
PROOFS. What the causes of SAFE, its entry and the drive judged with it leave alone (R94, R95, R97, R275).
-/
namespace Sys2Proof.Machine.PackageRails
open Sys2Proof.Machine.GrainPlant

/-! ### The frame of the causes of SAFE -/

/-- Words of rails, starts and the NOR that no cause of SAFE and no drive channel touches. -/
def calmWords : List Nat :=
  [Reg.SV_PWR_STAT, Reg.SV_PWR_VMON0, Reg.SV_PWR_VMON1, Reg.SV_PWR_VBAT, Reg.SV_PWR_FAULT_CNT, Reg.SV_BOOT_ERR_ADDR,
    Reg.SV_NVM_STAT, Reg.SV_NVM_ID]

/-- Words other than those of `calmWords` and the upper fields of SV_BOOT_STAT, events, drive channels, sequences, the record of SAFE
and the ports: nothing else differs. -/
structure CauseFrame (s t : State) : Prop where
  only : t = { s with
    regs := t.regs, hwset := t.hwset, log := t.log, drv := t.drv, seq := t.seq, boot := t.boot, port := t.port }
  boot : t.boot = { s.boot with
    safeAt := t.boot.safeAt, safeFrom := t.boot.safeFrom, seen := t.boot.seen, clearAt := t.boot.clearAt, exit := t.boot.exit }
  calm : ∀ a ∈ calmWords, rd t a = rd s a
  stat : ∀ hi lo, 3 ≤ lo → lo ≤ hi → rdF t Reg.SV_BOOT_STAT hi lo = rdF s Reg.SV_BOOT_STAT hi lo

theorem CauseFrame.refl (s : State) : CauseFrame s s := ⟨rfl, rfl, fun _ _ => rfl, fun _ _ _ _ => rfl⟩
theorem CauseFrame.trans {s t u : State} (h : CauseFrame s t) (k : CauseFrame t u) : CauseFrame s u where
  only := by rw [k.only, h.only]
  boot := by rw [k.boot, h.boot]
  calm := fun a ha => (k.calm a ha).trans (h.calm a ha)
  stat := fun hi lo h3 hle => (k.stat hi lo h3 hle).trans (h.stat hi lo h3 hle)
theorem causeFrame_ite {s t u : State} (c : Prop) [Decidable c] (h : CauseFrame s t) (k : CauseFrame s u) :
    CauseFrame s (if c then t else u) := by
  split
  · exact h
  · exact k

theorem CauseFrame.clk {s t : State} (h : CauseFrame s t) : t.clk = s.clk := by rw [h.only]
theorem CauseFrame.pwr {s t : State} (h : CauseFrame s t) : t.pwr = s.pwr := by rw [h.only]
theorem CauseFrame.nor {s t : State} (h : CauseFrame s t) : t.nor = s.nor := by rw [h.only]
theorem CauseFrame.loops {s t : State} (h : CauseFrame s t) : t.loops = s.loops := by rw [h.only]
theorem CauseFrame.pending {s t : State} (h : CauseFrame s t) : t.pending = s.pending := by rw [h.only]

/-- A register word that is none of those the frame keeps. -/
abbrev besideCalm (a : Nat) : Prop :=
  usesMem (wordBase a) = false ∧ wordBase a ≠ wordBase Reg.SV_BOOT_STAT ∧ ∀ b ∈ calmWords, wordBase a ≠ wordBase b

theorem causeFrame_wr {a : Nat} (ha : besideCalm a) (w : Word) (s : State) : CauseFrame s (wr s a w) := by
  obtain ⟨hreg, hstat, hcalm⟩ := ha
  refine ⟨by rw [wr_register hreg], by rw [wr_boot], fun b hb => rd_wr_ne s w (hcalm b hb), fun hi lo _ _ => ?_⟩
  unfold rdF
  rw [rd_wr_ne s w hstat]
theorem causeFrame_wrF {a : Nat} (ha : besideCalm a) (hi lo v : Nat) (s : State) : CauseFrame s (wrF s a hi lo v) := causeFrame_wr ha _ s
theorem causeFrame_hwMark (a m : Nat) (s : State) : CauseFrame s (hwMark a m s) := ⟨rfl, rfl, fun _ _ => rfl, fun _ _ _ _ => rfl⟩
theorem causeFrame_log (l : LogSt) (s : State) : CauseFrame s { s with log := l } := ⟨rfl, rfl, fun _ _ => rfl, fun _ _ _ _ => rfl⟩
theorem causeFrame_raise (code unit : Nat) (p0 p1 : Word) (s : State) : CauseFrame s (raise code unit p0 p1 s) := causeFrame_log _ s
theorem causeFrame_seq (l : List (Nat × SeqSt)) (s : State) : CauseFrame s { s with seq := l } :=
  ⟨rfl, rfl, fun _ _ => rfl, fun _ _ _ _ => rfl⟩
theorem causeFrame_port (p : PortSt) (s : State) : CauseFrame s { s with port := p } := ⟨rfl, rfl, fun _ _ => rfl, fun _ _ _ _ => rfl⟩
theorem causeFrame_boot {b : BootSt} {s : State} (h : b = { s.boot with
      safeAt := b.safeAt, safeFrom := b.safeFrom, seen := b.seen, clearAt := b.clearAt, exit := b.exit }) :
    CauseFrame s { s with boot := b } := ⟨rfl, h, fun _ _ => rfl, fun _ _ _ _ => rfl⟩

/-- The device's state set (Table 03-13): the fields above it stand. -/
theorem causeFrame_devState (n : Nat) (s : State) : CauseFrame s (wrF s Reg.SV_BOOT_STAT 2 0 n) where
  only := by unfold wrF; rw [wr_register (by decide)]
  boot := by unfold wrF; rw [wr_boot]
  calm := fun b hb => rd_wr_ne s _ (by revert b; decide)
  stat := fun hi lo h3 hle => rdF_wrF_field s _ 2 0 n hi lo (by decide) (by omega) hle

theorem causeFrame_driveJudge (s : State) : CauseFrame s (driveJudge s) := by
  have hframe := driveFrame_driveJudge s
  have hwords : ∀ a ∈ Reg.SV_BOOT_STAT :: calmWords, rd (driveJudge s) a = rd s a := fun a ha => hframe.words a (by
    have hlow : wordBase a / winSize = 0 := by revert a; decide
    unfold driveStatus; omega)
  refine ⟨?_, ?_, fun a ha => hwords a (List.mem_cons_of_mem _ ha), fun hi lo _ _ => ?_⟩
  · rw [hframe.frame]
  · rw [hframe.frame]
  · unfold rdF; rw [hwords _ List.mem_cons_self]

theorem causeFrame_seqHalt {n : Nat} (hn : n < 8) (s : State) : CauseFrame s (seqHalt n s) := by
  have hstat : ∀ n < 8, besideCalm (Reg.SV_SEQ_STAT n) := by decide
  unfold seqHalt
  dsimp only
  exact causeFrame_ite _ ((causeFrame_seq _ s).trans (causeFrame_wrF (hstat n hn) 31 30 2 _)) (causeFrame_seq _ s)

theorem causeFrame_safeSet (s : State) : CauseFrame s (safeSet s) := (causeFrame_boot rfl).trans (causeFrame_devState 4 _)
theorem causeFrame_safeEnter (s : State) : CauseFrame s (safeEnter s) := by
  rw [safeEnter_eq]
  exact ((causeFrame_safeSet s).trans (forEach_keeps (P := CauseFrame (safeSet s)) _
    (fun n hn u hu => hu.trans (causeFrame_seqHalt (List.mem_range.mp hn) u)) _ (.refl _))).trans (causeFrame_driveJudge _)

theorem causeFrame_causeShown (m : Nat) (s : State) : CauseFrame s (causeShown m s) := by
  unfold causeShown
  dsimp only
  refine .trans ?_ (causeFrame_hwMark _ _ _)
  refine .trans ?_ (causeFrame_wrF (a := Reg.SV_BOOT_SAFE_HIST) (by decide) _ _ _ _)
  exact causeFrame_wrF (a := Reg.SV_BOOT_SAFE_CAUSE) (by decide) _ _ _ s

/-! ### A cause that becomes present (R94, R95) -/

/-- A new cause, by the state it finds. -/
theorem causeAdd_new {m : Nat} {s : State} (hm : m < 512) (hnew : causes s &&& m ≠ m) :
    causeAdd m s = if devState s = 2 ∨ devState s = 3 then raiseN 0x0003 0 m (devState s) (safeEnter (causeShown m s))
      else if devState s = 4
        then raiseN 0x0003 0 m 4 { causeShown m s with boot := { (causeShown m s).boot with seen := (causeShown m s).boot.seen ||| m } }
        else causeShown m s := by
  rw [← (causeShown_shows hm s).1]
  unfold causeAdd
  dsimp only
  rw [if_neg hnew]
  rfl

theorem causeFrame_causeAdd {m : Nat} (hm : m < 512) (s : State) : CauseFrame s (causeAdd m s) := by
  by_cases hnew : causes s &&& m = m
  · rw [show causeAdd m s = s from if_pos hnew]; exact .refl s
  · rw [causeAdd_new hm hnew]
    have hshown := causeFrame_causeShown m s
    refine causeFrame_ite _ ?_ (causeFrame_ite _ ?_ hshown)
    · exact (hshown.trans (causeFrame_safeEnter _)).trans (causeFrame_raise _ _ _ _ _)
    · exact (hshown.trans (causeFrame_boot rfl)).trans (causeFrame_raise _ _ _ _ _)

/-- What a new cause leaves: SAFE where the device was in TRIAL or RUN, the causes, the state in any other. -/
theorem causeAdd_shows {m : Nat} {s : State} (hm : m < 512) (hnew : causes s &&& m ≠ m) : causes (causeAdd m s) = causes s ||| m
    ∧ devState (causeAdd m s) = (if devState s = 2 ∨ devState s = 3 then 4 else devState s) := by
  obtain ⟨hstate, hcauses, -⟩ := causeShown_shows hm s
  obtain ⟨u, hu⟩ : ∃ u, u = causeShown m s := ⟨_, rfl⟩
  rw [causeAdd_new hm hnew, ← hu]
  rw [← hu] at hstate hcauses
  by_cases hruns : devState s = 2 ∨ devState s = 3
  · obtain ⟨hsafe, hkept, -⟩ := safeEnter_shows u
    simp only [if_pos hruns]
    exact ⟨hkept.trans hcauses, hsafe⟩
  · simp only [if_neg hruns]
    split
    · exact ⟨hcauses, hstate⟩
    · exact ⟨hcauses, hstate⟩

theorem and_rest_of_and_eq_zero {c m : Nat} (hc : c < 2 ^ 9) (hm : (0x1FF - m) ||| m = 0x1FF) (h : c &&& m = 0) :
    c &&& (0x1FF - m) = c := by
  have hall : c &&& 0x1FF = c := Nat.and_two_pow_sub_one_of_lt_two_pow hc
  rw [← hm, Nat.and_or_distrib_left, h, Nat.or_zero] at hall
  exact hall

theorem causes_lt (s : State) : causes s < 2 ^ 9 := Nat.mod_lt _ (by decide)

/-- A cause ends: it alone is gone. -/
theorem causeClear_shows {m : Nat} (hm : (0x1FF - m) ||| m = 0x1FF) (s : State) : CauseFrame s (causeClear m s)
    ∧ causes (causeClear m s) = causes s &&& (0x1FF - m) ∧ devState (causeClear m s) = devState s := by
  have hlt := causes_lt s
  unfold causeClear
  dsimp only
  split
  · next hgone => exact ⟨.refl s, (and_rest_of_and_eq_zero hlt hm hgone).symm, rfl⟩
  · have hcauses : causes (wrF s Reg.SV_BOOT_SAFE_CAUSE 8 0 (causes s &&& (0x1FF - m))) = causes s &&& (0x1FF - m) :=
      (rdF_wrF_same s _ 8 0 _ (by decide) (by decide)).trans (Nat.mod_eq_of_lt (Nat.lt_of_le_of_lt Nat.and_le_left hlt))
    have hstate : devState (wrF s Reg.SV_BOOT_SAFE_CAUSE 8 0 (causes s &&& (0x1FF - m))) = devState s := by
      unfold devState rdF; rw [rd_wrF_ne _ _ _ _ (by decide)]
    exact ⟨(causeFrame_wrF (a := Reg.SV_BOOT_SAFE_CAUSE) (by decide) _ _ _ s).trans (causeFrame_boot rfl), hcauses, hstate⟩

/-! ### A resume of the same tick taken back (R97) -/

theorem causeFrame_exitUndo (x : ExitMark) (s : State) : CauseFrame s (exitUndo x s) := by
  unfold exitUndo
  dsimp only
  refine .trans ?_ (causeFrame_driveJudge _)
  refine .trans ?_ (causeFrame_devState 4 _)
  refine .trans ?_ (causeFrame_wrF (a := Reg.SV_BOOT_SAFE_CAUSE) (by decide) _ _ _ _)
  exact ⟨rfl, rfl, fun _ _ => rfl, fun _ _ _ _ => rfl⟩

/-- A refusal logged: no cause, and no state. -/
theorem causeFrame_logViol (p : PortId) (a : Nat) (s : State) : CauseFrame s (logViol p 2 .refused a s)
    ∧ causes (logViol p 2 .refused a s) = causes s ∧ devState (logViol p 2 .refused a s) = devState s := by
  obtain ⟨-, -, hwithin⟩ := logViol_refused p a s
  obtain ⟨t, ht⟩ : ∃ t, t = logViol p 2 .refused a s := ⟨_, rfl⟩
  rw [← ht] at hwithin ⊢
  have hword : ∀ a ∈ Reg.SV_BOOT_STAT :: Reg.SV_BOOT_SAFE_CAUSE :: calmWords, rd t a = rd s a := fun a ha =>
    hwithin.words a fun w hw => by rw [List.mem_singleton.mp hw]; revert a; decide
  have hstat := hword Reg.SV_BOOT_STAT List.mem_cons_self
  have hcause := hword Reg.SV_BOOT_SAFE_CAUSE (List.mem_cons_of_mem _ List.mem_cons_self)
  refine ⟨⟨by rw [hwithin.only], by rw [hwithin.only], fun a ha => hword a (List.mem_cons_of_mem _ (List.mem_cons_of_mem _ ha)),
    fun hi lo _ _ => ?_⟩, ?_, ?_⟩
  · unfold rdF; rw [hstat]
  · unfold causes rdF; rw [hcause]
  · unfold devState rdF; rw [hstat]

theorem exitRefused_shows (x : ExitMark) (s : State) : CauseFrame s (exitRefused x s) ∧ causes (exitRefused x s) = causes s
    ∧ devState (exitRefused x s) = devState s := by
  unfold exitRefused
  split
  · exact ⟨.refl s, rfl, rfl⟩
  · next p hp =>
    extract_lets r u
    obtain ⟨l, hport⟩ : ∃ l, u = { s with port := l } := by
      dsimp only [u]
      split
      · split
        · exact ⟨_, rfl⟩
        · exact ⟨s.port, rfl⟩
      · exact ⟨s.port, rfl⟩
    obtain ⟨hframe, hcauses, hstate⟩ := causeFrame_logViol p Reg.SV_BOOT_CTRL (resumeRefused (portCode p) u)
    refine ⟨.trans (.trans ?_ (causeFrame_raise _ _ _ _ u)) hframe, hcauses.trans ?_, hstate.trans ?_⟩
    · rw [hport]; exact causeFrame_port l s
    · rw [hport]; rfl
    · rw [hport]; rfl

/-- A cause judged, whatever resume it meets (R94, R95, R97). -/
theorem causeFrame_causeSet {m : Nat} (hm : m < 512) (s : State) : CauseFrame s (causeSet m s) := by
  unfold causeSet
  split
  · exact causeFrame_causeAdd hm s
  · next x hx =>
    dsimp only
    refine causeFrame_ite _ ?_ ?_
    · refine .trans ?_ (causeFrame_log _ _)
      refine .trans ?_ (causeFrame_hwMark _ _ _)
      exact causeFrame_wrF (a := Reg.SV_BOOT_SAFE_HIST) (by decide) _ _ _ s
    · exact ((causeFrame_exitUndo x s).trans (causeFrame_causeAdd hm _)).trans (exitRefused_shows x _).1

end Sys2Proof.Machine.PackageRails
end

section
/-!
PROOFS. Rails: what their monitors show, their faults, the power losses and the hand-overs (R46 to R48, R59).
-/
namespace Sys2Proof.Machine.PackageRails
open Sys2Proof.Machine.GrainPlant

/-! ### Monitors (R46) -/

/-- The reading that SV_PWR shows of rail `r`. -/
def railReads (r : Nat) (s : State) : Nat :=
  match r with
  | 0 => rdF s Reg.SV_PWR_VMON0 31 16
  | 1 => rdF s Reg.SV_PWR_VMON0 15 0
  | 2 => rdF s Reg.SV_PWR_VMON1 31 16
  | 3 => rdF s Reg.SV_PWR_VMON1 15 0
  | _ => rdF s Reg.SV_PWR_VBAT 15 0
/-- The word that shows it. -/
def monWord (r : Nat) : Nat :=
  match r with
  | 0 => Reg.SV_PWR_VMON0
  | 1 => Reg.SV_PWR_VMON0
  | 2 => Reg.SV_PWR_VMON1
  | 3 => Reg.SV_PWR_VMON1
  | _ => Reg.SV_PWR_VBAT

theorem monWord_cases (r : Nat) : monWord r = Reg.SV_PWR_VMON0 ∨ monWord r = Reg.SV_PWR_VMON1 ∨ monWord r = Reg.SV_PWR_VBAT := by
  unfold monWord
  split <;> simp

theorem railReads_congr {s t : State} {r : Nat} (h : rd t (monWord r) = rd s (monWord r)) : railReads r t = railReads r s := by
  rcases r with _ | _ | _ | _ | r
  · exact congrArg (bits · 31 16) h
  · exact congrArg (bits · 15 0) h
  · exact congrArg (bits · 31 16) h
  · exact congrArg (bits · 15 0) h
  · exact congrArg (bits · 15 0) h

/-- A half word written, and its word alone. -/
theorem monWrite_shows (a hi lo mv : Nat) (ha : usesMem (wordBase a) = false) (hhi : hi ≤ 31) (hlo : lo + 15 = hi) (hmv : mv < 65536)
    (s : State) : rdF (wrF s a hi lo mv) a hi lo = mv ∧ wrF s a hi lo mv = { s with regs := (wrF s a hi lo mv).regs }
      ∧ ∀ b, wordBase a ≠ wordBase b → rd (wrF s a hi lo mv) b = rd s b := by
  refine ⟨?_, wr_register ha s _, fun b hb => rd_wr_ne s _ hb⟩
  rw [rdF_wrF_same _ _ _ _ _ hhi (by omega), show hi - lo + 1 = 16 by omega]
  exact Nat.mod_eq_of_lt hmv

theorem monShow_shows (r : Nat) (s : State) : railReads r (monShow r s) = min 0xFFFF (monOf s r)
    ∧ monShow r s = { s with regs := (monShow r s).regs } ∧ ∀ b, wordBase (monWord r) ≠ wordBase b → rd (monShow r s) b = rd s b := by
  have hlt : min 0xFFFF (monOf s r) < 65536 := by omega
  unfold monShow monWord railReads
  dsimp only
  generalize min 0xFFFF (monOf s r) = mv at *
  rcases r with _ | _ | _ | _ | r
  · exact monWrite_shows Reg.SV_PWR_VMON0 31 16 mv (by decide) (by decide) (by decide) hlt s
  · exact monWrite_shows Reg.SV_PWR_VMON0 15 0 mv (by decide) (by decide) (by decide) hlt s
  · exact monWrite_shows Reg.SV_PWR_VMON1 31 16 mv (by decide) (by decide) (by decide) hlt s
  · exact monWrite_shows Reg.SV_PWR_VMON1 15 0 mv (by decide) (by decide) (by decide) hlt s
  · exact monWrite_shows Reg.SV_PWR_VBAT 15 0 mv (by decide) (by decide) (by decide) hlt s

/-- The monitors with a reading of rail `r`. -/
def monRead (r mv : Nat) (p : PwrSt) : PwrSt := { p with mon := tput (fun _ => 0) p.mon r mv }

theorem railShow_shows {mv : Nat} (hmv : mv < 65536) (r : Nat) (s : State) : (railShow r mv s).pwr = monRead r mv s.pwr
    ∧ railShow r mv s = { s with regs := (railShow r mv s).regs, pwr := (railShow r mv s).pwr }
    ∧ (diesUp s = true → railReads r (railShow r mv s) = mv)
    ∧ ∀ b, wordBase (monWord r) ≠ wordBase b → rd (railShow r mv s) b = rd s b := by
  have hup : diesUp (withPwr (monRead r mv s.pwr) s) = diesUp s := rfl
  have hrd : ∀ b, rd (withPwr (monRead r mv s.pwr) s) b = rd s b := rd_withPwr _ s
  have heq : railShow r mv s = if diesUp (withPwr (monRead r mv s.pwr) s) then monShow r (withPwr (monRead r mv s.pwr) s)
      else withPwr (monRead r mv s.pwr) s := rfl
  obtain ⟨hshow, honly, hkept⟩ := monShow_shows r (withPwr (monRead r mv s.pwr) s)
  have hmon : monOf (withPwr (monRead r mv s.pwr) s) r = mv := tget_tput_same ..
  rw [heq, hup]
  cases diesUp s with
  | false => exact ⟨rfl, rfl, nofun, fun b _ => hrd b⟩
  | true =>
    rw [if_pos rfl]
    refine ⟨?_, ?_, fun _ => hshow.trans (by rw [hmon]; omega), fun b hb => (hkept b hb).trans (hrd b)⟩
    · rw [honly]; rfl
    · rw [honly]; rfl

theorem exec_railBad {r mv : Nat} {s t : State} (hr : r < 5) (heff : effRailBad r mv s = t) (hpending : t.pending = s.pending) :
    exec (.railBad r mv) s = .next t := by
  have hrun : runClk (effRailBad r mv) s = .next t := by rw [runClk_next, heff, ← hpending]
  exact (guardIx_lt hr _).trans hrun

/-- The lowest reading of an open fault (R48). -/
theorem railLow_faults (r mv : Nat) (l : List RailFault) :
    l.map (fun f => if railOpen r f then { f with low := min f.low mv, held := false } else f)
      = l.map fun f => if railOpen r f then { f with low := min f.low mv } else f := by
  refine List.map_congr_left fun f _ => ?_
  split
  · next hopen =>
    have hheld : f.held = false := by unfold railOpen at hopen; simp_all
    rw [← hheld]
  · rfl

/-- A further reading of a rail that is bad (R46, R48). -/
theorem exec_railBad_again {r mv : Nat} {s : State} (hr : r < 5) (hmv : mv < 65536) (hbad : railOk s r = false) :
    ∃ t, exec (.railBad r mv) s = .next t ∧ (diesUp s = true → railReads r t = mv)
      ∧ t.pwr = { monRead r mv s.pwr with
          faults := s.pwr.faults.map fun f => if railOpen r f then { f with low := min f.low mv } else f }
      ∧ t = { s with regs := t.regs, pwr := t.pwr } ∧ wordsKept [(Reg.SV_PWR_VMON0, Reg.SV_PWR_VMON0 + 4),
          (Reg.SV_PWR_VMON1, Reg.SV_PWR_VMON1 + 4), (Reg.SV_PWR_VBAT, Reg.SV_PWR_VBAT + 4)] s t := by
  obtain ⟨hpwr, honly, hshow, hkept⟩ := railShow_shows hmv r s
  have heff : effRailBad r mv s = keepClk (fun u => railLow r mv false (railShow r mv u)) s := if_pos (by rw [hbad]; rfl)
  obtain ⟨u, hu⟩ : ∃ u, u = railShow r mv s := ⟨_, rfl⟩
  rw [← hu] at hpwr honly hshow hkept
  have hlow : railLow r mv false (railShow r mv s)
      = withPwr { monRead r mv s.pwr with
          faults := s.pwr.faults.map fun f => if railOpen r f then { f with low := min f.low mv } else f } u := by
    rw [← hu, ← railLow_faults]
    unfold railLow
    rw [hpwr]
    rfl
  rw [keepClk_eq_self (by rw [hlow, honly]; rfl) (by rw [hlow, honly]; rfl), hlow] at heff
  refine ⟨_, exec_railBad hr heff (by rw [honly]; rfl), fun hup => (railReads_congr (rd_withPwr _ u _)).trans (hshow hup), rfl,
    by rw [honly]; rfl, fun a ha => (rd_withPwr _ u a).trans (hkept a ?_)⟩
  have h0 := ha (Reg.SV_PWR_VMON0, Reg.SV_PWR_VMON0 + 4) (by simp)
  have h1 := ha (Reg.SV_PWR_VMON1, Reg.SV_PWR_VMON1 + 4) (by simp)
  have h2 := ha (Reg.SV_PWR_VBAT, Reg.SV_PWR_VBAT + 4) (by simp)
  simp only [Reg.SV_PWR_VMON0, Reg.SV_PWR_VMON1, Reg.SV_PWR_VBAT] at h0 h1 h2
  rcases monWord_cases r with h | h | h <;> rw [h] <;> simp only [wordBase, Reg.SV_PWR_VMON0, Reg.SV_PWR_VMON1, Reg.SV_PWR_VBAT] <;> omega

/-- A further reading of a rail that is good (R46). -/
theorem exec_railGood_again {r mv low : Nat} {s : State} (hr : r < 5) (hmv : mv < 65536) (hgood : railOk s r = true) :
    ∃ t, exec (.railGood r mv low) s = .next t ∧ (diesUp s = true → railReads r t = mv) ∧ t.pwr = monRead r mv s.pwr
      ∧ t = { s with regs := t.regs, pwr := t.pwr } := by
  obtain ⟨hpwr, honly, hshow, -⟩ := railShow_shows hmv r s
  have heff : effRailGood r mv low s = railShow r mv s := if_pos hgood
  exact ⟨_, (guardIx_lt hr _).trans (run_eq_next heff (by rw [honly]) (by rw [honly])), hshow, hpwr, honly⟩

/-! ### A rail's bit and its monitor (R46) -/

section
variable (p : PwrSt) (s : State)
theorem railOk_withPwr (r : Nat) : railOk (withPwr p s) r = railOk s r := by unfold railOk rdB; rw [rd_withPwr]
theorem devState_withPwr : devState (withPwr p s) = devState s := by unfold devState rdF; rw [rd_withPwr]
theorem causes_withPwr : causes (withPwr p s) = causes s := by unfold causes rdF; rw [rd_withPwr]
end

/-- Rail `r` becomes good or bad, with a reading. -/
def railSet (r mv : Nat) (b : Bool) (s : State) : State := wrB (railShow r mv s) Reg.SV_PWR_STAT r b

/-- What a change of a rail leaves of the state, but for what it brings about. -/
structure RailMoved (r mv : Nat) (b : Bool) (s t : State) : Prop where
  pwr : t.pwr = monRead r mv s.pwr
  only : t = { s with regs := t.regs, pwr := t.pwr }
  ok : railOk t r = b
  others : ∀ k, k ≠ r → railOk t k = railOk s k
  reads : diesUp s = true → railReads r t = mv
  kept : ∀ a, wordBase (monWord r) ≠ wordBase a → wordBase Reg.SV_PWR_STAT ≠ wordBase a → rd t a = rd s a

theorem railMoved_railSet {r mv : Nat} (hr : r < 5) (hmv : mv < 65536) (b : Bool) (s : State) : RailMoved r mv b s (railSet r mv b s) := by
  obtain ⟨hpwr, honly, hshow, hkept⟩ := railShow_shows hmv r s
  have hmon : wordBase Reg.SV_PWR_STAT ≠ wordBase (monWord r) := by
    rcases monWord_cases r with h | h | h <;> rw [h] <;> decide
  obtain ⟨u, hu⟩ : ∃ u, u = railShow r mv s := ⟨_, rfl⟩
  unfold railSet
  rw [← hu] at hpwr honly hshow hkept ⊢
  have hwrB := wrB_only (a := Reg.SV_PWR_STAT) (by decide) u r b
  have hother : ∀ a, wordBase Reg.SV_PWR_STAT ≠ wordBase a → rd (wrB u Reg.SV_PWR_STAT r b) a = rd u a := fun a ha => rd_wr_ne u _ ha
  have hsame : rdB (wrB u Reg.SV_PWR_STAT r b) Reg.SV_PWR_STAT r = b := rdB_wrB_same _ _ _ _ (by omega)
  have hbits : ∀ k, k ≠ r → rdB (wrB u Reg.SV_PWR_STAT r b) Reg.SV_PWR_STAT k = rdB u Reg.SV_PWR_STAT k := fun k hk =>
    rdB_wrB_bit u _ r k b (Ne.symm hk)
  have hstat : rd u Reg.SV_PWR_STAT = rd s Reg.SV_PWR_STAT := hkept _ (Ne.symm hmon)
  obtain ⟨t, ht⟩ : ∃ t, t = wrB u Reg.SV_PWR_STAT r b := ⟨_, rfl⟩
  rw [← ht] at hwrB hother hsame hbits ⊢
  refine ⟨?_, ?_, hsame, fun k hk => ?_, fun hup => (railReads_congr (hother _ hmon)).trans (hshow hup),
    fun a hm hs => (hother a hs).trans (hkept a hm)⟩
  · rw [hwrB]; exact hpwr
  · rw [hwrB, honly]
  · exact (hbits k hk).trans (by unfold rdB; rw [hstat]; rfl)

section
variable {r mv : Nat} {b : Bool} {s t : State} (h : RailMoved r mv b s t)
include h

theorem RailMoved.stands {a : Nat} (ha : 0x10024 ≤ a) : rd t a = rd s a := by
  refine h.kept a ?_ (by simp only [wordBase, Reg.SV_PWR_STAT]; omega)
  rcases monWord_cases r with h | h | h <;> rw [h] <;> simp only [wordBase, Reg.SV_PWR_VMON0, Reg.SV_PWR_VMON1, Reg.SV_PWR_VBAT] <;> omega
theorem RailMoved.devState : devState t = devState s := by
  unfold Machine.devState rdF; rw [h.stands (by decide)]
theorem RailMoved.causes : causes t = causes s := by
  unfold Machine.causes rdF; rw [h.stands (by decide)]
theorem RailMoved.diesUp : diesUp t = diesUp s := by
  unfold Machine.diesUp; rw [h.devState, h.pwr]; rfl
theorem RailMoved.clk : t.clk = s.clk := by rw [h.only]
theorem RailMoved.pending : t.pending = s.pending := by rw [h.only]

end

/-! ### VBAT (Table 02-2) -/

/-- A rail that was good becomes bad, the island still held by VIO or VBAT (R46). -/
theorem effRailBad_fallen {r mv : Nat} {s : State} (hgood : railOk s r = true) (hclk : (railBadOn r mv s).clk = s.clk)
    (hpending : (railBadOn r mv s).pending = s.pending) (hheld : 2 ≤ r → railOk (railBadOn r mv s) 2 = true ∨ railOk (railBadOn r mv s) 4 = true) :
    effRailBad r mv s = railBadOn r mv s := by
  unfold effRailBad
  rw [hgood, keepClk_eq_self hclk hpending, if_neg (by decide)]
  dsimp only
  split
  · next hr =>
    unfold islandLost
    rcases hheld hr with h | h <;> simp [h]
  · rfl

theorem exec_railBad_vbat {mv : Nat} {s : State} (hmv : mv < 65536) (hup : diesUp s = true) (hgood : railOk s 4 = true)
    (hvio : railOk s 2 = true) :
    ∃ t, exec (.railBad 4 mv) s = .next t ∧ railOk t 4 = false ∧ railReads 4 t = mv ∧ raisedEvent 0x0014 0 (w32 mv) 0 t
      ∧ t.pwr = monRead 4 mv s.pwr ∧ t = { s with regs := t.regs, log := t.log, pwr := t.pwr }
      ∧ wordsKept [(Reg.SV_PWR_STAT, Reg.SV_PWR_STAT + 4), (Reg.SV_PWR_VBAT, Reg.SV_PWR_VBAT + 4)] s t := by
  have hmoved := railMoved_railSet (r := 4) (by decide) hmv false s
  have heq : railBadOn 4 mv s = vbatBad mv (railSet 4 mv false s) := rfl
  obtain ⟨u, hu⟩ : ∃ u, u = railSet 4 mv false s := ⟨_, rfl⟩
  rw [← hu] at hmoved heq
  have hraise : railBadOn 4 mv s = raiseN 0x0014 0 mv 0 u := heq.trans (if_pos (hmoved.diesUp.trans hup))
  have hrd : ∀ a, rd (raiseN 0x0014 0 mv 0 u) a = rd u a := fun _ => rfl
  have heff := effRailBad_fallen (mv := mv) hgood (by rw [hraise]; exact hmoved.clk) (by rw [hraise]; exact hmoved.pending)
    (fun _ => .inl (by rw [hraise]; exact (hmoved.others 2 (by decide)).trans hvio))
  refine ⟨_, exec_railBad (by decide) (heff.trans hraise) hmoved.pending, hmoved.ok, hmoved.reads hup,
    raisedEvent_raise _ _ _ _ u, hmoved.pwr, by rw [hmoved.only]; rfl, fun a ha => (hrd a).trans (hmoved.kept a ?_ ?_)⟩
  · have h1 := ha (Reg.SV_PWR_VBAT, Reg.SV_PWR_VBAT + 4) (by simp)
    simp only [monWord, wordBase, Reg.SV_PWR_VBAT] at h1 ⊢; omega
  · have h1 := ha (Reg.SV_PWR_STAT, Reg.SV_PWR_STAT + 4) (by simp)
    simp only [wordBase, Reg.SV_PWR_STAT] at h1 ⊢; omega

/-! ### Hand-overs (R48) -/

/-- An open fault handed to the recorder: counted, and no longer in hand. -/
structure Handed (r : Nat) (s t : State) : Prop where
  only : t = { s with regs := t.regs, hwset := t.hwset, log := t.log, pwr := t.pwr }
  pwr : t.pwr = { s.pwr with faults := s.pwr.faults.filter fun f => !railOpen r f, handed := t.pwr.handed }
  count : rdF t Reg.SV_PWR_FAULT_CNT 15 0 = min 65535 (rdF s Reg.SV_PWR_FAULT_CNT 15 0 + (if s.pwr.faults.any (railOpen r) then 1 else 0))
  kept : ∀ a, wordBase Reg.SV_PWR_FAULT_CNT ≠ wordBase a → rd t a = rd s a

theorem railOrder_eq (f : RailFault) (s : State) : ∃ l h, railOrder f s = withPwr { s.pwr with handed := h } { s with log := l } :=
  ⟨(railOrder f s).log, (railOrder f s).pwr.handed, rfl⟩

theorem handed_railHand (r low : Nat) (s : State) : Handed r s (railHand r low s) := by
  unfold railHand
  split
  · next hnone =>
    have hclosed : ∀ f ∈ s.pwr.faults, railOpen r f = false := by simpa using hnone
    have hany : s.pwr.faults.any (railOpen r) = false := by simpa using hnone
    have hfilter : s.pwr.faults.filter (fun f => !railOpen r f) = s.pwr.faults :=
      List.filter_eq_self.mpr fun f hf => by rw [hclosed f hf]; rfl
    have hlt : rdF s Reg.SV_PWR_FAULT_CNT 15 0 < 65536 := Nat.mod_lt _ (by decide)
    exact ⟨rfl, by rw [hfilter], by rw [hany, if_neg (by decide)]; omega, fun _ _ => rfl⟩
  · next f hsome =>
    have hany : s.pwr.faults.any (railOpen r) = true :=
      List.any_eq_true.mpr ⟨f, List.mem_of_find?_eq_some hsome, List.find?_some hsome⟩
    obtain ⟨p, hp⟩ : ∃ p, p = { s.pwr with faults := s.pwr.faults.filter fun f => !railOpen r f } := ⟨_, rfl⟩
    obtain ⟨l, h, horder⟩ := railOrder_eq { f with low := min f.low low } (count16 Reg.SV_PWR_FAULT_CNT (withPwr p s))
    have hcount := rdF_count16 Reg.SV_PWR_FAULT_CNT (withPwr p s)
    have hwithin : Within [(Reg.SV_PWR_FAULT_CNT, Reg.SV_PWR_FAULT_CNT + 4)] (withPwr p s) (count16 Reg.SV_PWR_FAULT_CNT (withPwr p s)) :=
      within_countS (a := Reg.SV_PWR_FAULT_CNT) List.mem_cons_self (by decide) (by decide) (by decide) 15 0 31 _
    show Handed r s (railOrder { f with low := min f.low low } (count16 Reg.SV_PWR_FAULT_CNT
      (withPwr { s.pwr with faults := s.pwr.faults.filter fun f => !railOpen r f } s)))
    rw [← hp, horder]
    obtain ⟨u, hu⟩ : ∃ u, u = count16 Reg.SV_PWR_FAULT_CNT (withPwr p s) := ⟨_, rfl⟩
    rw [← hu] at hcount hwithin ⊢
    have hrd : ∀ a, rd (withPwr { u.pwr with handed := h } { u with log := l }) a = rd u a := rd_withPwr _ _
    refine ⟨?_, ?_, ?_, fun a ha => (hrd a).trans ((hwithin.words a fun w hw => ?_).trans (rd_withPwr p s a))⟩
    · rw [hwithin.only]; rfl
    · rw [hwithin.only, hp]; rfl
    · rw [hany, if_pos rfl]
      unfold rdF at *
      rw [hrd, hcount, rd_withPwr]
    · rw [List.mem_singleton.mp hw]
      simp only [wordBase, Reg.SV_PWR_FAULT_CNT] at ha ⊢
      omega

section
variable {r : Nat} {s t : State} (h : Handed r s t)
include h

theorem Handed.stat : rd t Reg.SV_PWR_STAT = rd s Reg.SV_PWR_STAT := h.kept _ (by decide)
theorem Handed.railOk (k : Nat) : railOk t k = railOk s k := by unfold Machine.railOk rdB; rw [h.stat]
theorem Handed.devState : devState t = devState s := by unfold Machine.devState rdF; rw [h.kept _ (by decide)]
theorem Handed.causes : causes t = causes s := by unfold Machine.causes rdF; rw [h.kept _ (by decide)]
theorem Handed.diesUp : diesUp t = diesUp s := by unfold Machine.diesUp; rw [h.devState, h.pwr]
theorem Handed.clk : t.clk = s.clk := by rw [h.only]
theorem Handed.pending : t.pending = s.pending := by rw [h.only]
theorem Handed.closed : ∀ f ∈ t.pwr.faults, railOpen r f = false := by
  rw [h.pwr]
  intro f hf
  have := (List.mem_filter.mp hf).2
  simpa using this

end

/-- An open fault of one rail is none of another. -/
theorem railOpen_other {q r : Nat} (hqr : q ≠ r) {f : RailFault} (hf : railOpen r f = true) : railOpen q f = false := by
  unfold railOpen at *
  rw [Bool.and_eq_true, decide_eq_true_iff] at hf
  rw [decide_eq_false (by omega), Bool.false_and]

/-- A hand-over of one rail's fault leaves that of another as it is. -/
theorem find_filter_railOpen {q r : Nat} (hqr : q ≠ r) (l : List RailFault) :
    (l.filter fun f => !railOpen q f).find? (railOpen r) = l.find? (railOpen r) := by
  induction l with
  | nil => rfl
  | cons f l ih =>
    rw [List.filter_cons, List.find?_cons]
    cases hf : railOpen r f with
    | true =>
      rw [railOpen_other hqr hf, Bool.not_false, if_pos rfl, List.find?_cons, hf]
    | false =>
      split
      · rw [List.find?_cons, hf]; exact ih
      · exact ih

theorem Handed.railDue {q r : Nat} (hqr : q ≠ r) {s t : State} (h : Handed q s t) : railDue r t = railDue r s := by
  have hfind : t.pwr.faults.find? (railOpen r) = s.pwr.faults.find? (railOpen r) := by
    rw [h.pwr]; exact find_filter_railOpen hqr _
  unfold Machine.railDue
  rw [hfind, h.diesUp, h.clk]

theorem railDue_of_find {r : Nat} {s : State} {f : RailFault} (hup : diesUp s = true) (hf : s.pwr.faults.find? (railOpen r) = some f) :
    railDue r s = decide (secTicks ≤ (s.clk.tb0 - f.ev.tick).toNat) := by
  unfold railDue
  rw [hf, hup]
  rfl
theorem any_of_railDue {r : Nat} {s : State} (h : railDue r s = true) : s.pwr.faults.any (railOpen r) = true := by
  unfold railDue at h
  split at h
  · exact absurd h nofun
  · next f hsome => exact List.any_eq_true.mpr ⟨f, List.mem_of_find?_eq_some hsome, List.find?_some hsome⟩

/-- A fault that has waited for 1 s is handed over, that of VIN first (R48). -/
theorem exec_railFaultHandover_due {r low : Nat} {s : State} (hr : r < 2) (hdue : railDue r s = true) :
    ∃ t, exec (.railFaultHandover r low) s = .next t ∧ (∀ g ∈ t.pwr.faults, railOpen r g = false) ∧ causes t = causes s
      ∧ devState t = devState s ∧ railOk t r = railOk s r ∧ t.clk = s.clk
      ∧ rdF t Reg.SV_PWR_FAULT_CNT 15 0 = min 65535 (rdF s Reg.SV_PWR_FAULT_CNT 15 0 + 1 + (if r = 1 ∧ railDue 0 s then 1 else 0)) := by
  by_cases hvin : r = 1 ∧ railDue 0 s = true
  · have h0 := handed_railHand 0 0xFFFFFFFF s
    have heq : effRailFaultHandover r low s
        = if railDue r (railHand 0 0xFFFFFFFF s) then railHand r low (railHand 0 0xFFFFFFFF s) else railHand 0 0xFFFFFFFF s := by
      unfold effRailFaultHandover
      rw [if_pos hvin]
    obtain ⟨u, hu⟩ : ∃ u, u = railHand 0 0xFFFFFFFF s := ⟨_, rfl⟩
    rw [← hu] at h0 heq
    have hstill : railDue r u = true := (h0.railDue (by omega)).trans hdue
    have h1 := handed_railHand r low u
    have hc0 := h0.count
    have hc1 := h1.count
    rw [any_of_railDue hvin.2, if_pos rfl] at hc0
    rw [any_of_railDue hstill, if_pos rfl, hc0] at hc1
    refine ⟨_, (guardIx_lt hr _).trans (run_eq_next (heq.trans (if_pos hstill)) (h1.clk.trans h0.clk) (h1.pending.trans h0.pending)),
      h1.closed, h1.causes.trans h0.causes, h1.devState.trans h0.devState, (h1.railOk r).trans (h0.railOk r), h1.clk.trans h0.clk, ?_⟩
    rw [hc1, if_pos hvin]
    omega
  · have h1 := handed_railHand r low s
    have heq : effRailFaultHandover r low s = railHand r low s := by
      unfold effRailFaultHandover
      rw [if_neg hvin, if_pos hdue]
    have hc1 := h1.count
    rw [any_of_railDue hdue, if_pos rfl] at hc1
    refine ⟨_, (guardIx_lt hr _).trans (run_eq_next heq h1.clk h1.pending), h1.closed, h1.causes, h1.devState, h1.railOk r, h1.clk, ?_⟩
    rw [hc1, if_neg hvin, Nat.add_zero]

theorem exec_railFaultHandover_early {r low : Nat} {s : State} (hr : r < 2) (hearly : railDue r s = false)
    (hvin : r = 0 ∨ railDue 0 s = false) : exec (.railFaultHandover r low) s = .next s := by
  have heq : effRailFaultHandover r low s = s := by
    unfold effRailFaultHandover
    have hnot : ¬(r = 1 ∧ railDue 0 s = true) := by
      rintro ⟨rfl, hdue⟩
      rcases hvin with h | h
      · exact absurd h (by decide)
      · rw [h] at hdue; exact absurd hdue (by decide)
    rw [if_neg hnot]
    exact if_neg (by rw [hearly]; decide)
  exact (guardIx_lt hr _).trans (run_eq_self heq)

/-! ### A rail that becomes good (R46, R48) -/

theorem driveJudge_states (s : State) : devState (driveJudge s) = devState s ∧ causes (driveJudge s) = causes s := by
  have h := haltStep_driveJudge s
  unfold devState causes rdF
  rw [h.state, h.cause]
  exact ⟨rfl, rfl⟩

theorem CauseFrame.rail {s t : State} (h : CauseFrame s t) (r : Nat) : railReads r t = railReads r s ∧ railOk t r = railOk s r
    ∧ rdF t Reg.SV_PWR_FAULT_CNT 15 0 = rdF s Reg.SV_PWR_FAULT_CNT 15 0 := by
  have hmon : monWord r ∈ calmWords := by rcases monWord_cases r with e | e | e <;> rw [e] <;> decide
  refine ⟨railReads_congr (h.calm _ hmon), ?_, ?_⟩
  · unfold railOk rdB; rw [h.calm _ (by decide)]
  · unfold rdF; rw [h.calm _ (by decide)]

/-- A drive rail good again, before its fault is handed over: its bit, its reading, and for V5 the instant. -/
theorem railGood_moved {r mv : Nat} (hr : r < 2) (hmv : mv < 65536) (s : State) :
    ∃ u p, RailMoved r mv true s u ∧ p.faults = s.pwr.faults ∧ (r = 1 → p.v5At = s.clk.tb0) ∧ diesUp (withPwr p u) = diesUp s
      ∧ ∀ low, railOk s r = false → effRailGood r mv low s = if diesUp (withPwr p u)
          then driveJudge (causeClear (2 ^ r) (railHand r low (withPwr p u))) else railLow r low true (withPwr p u) := by
  have hmoved := railMoved_railSet (by omega : r < 5) hmv true s
  have heff : ∀ low, railOk s r = false → effRailGood r mv low s = (fun v => if diesUp v
      then driveJudge (causeClear (2 ^ r) (railHand r low v)) else railLow r low true v)
      (if r = 1 then withPwr { (wakeRails (railSet r mv true s)).pwr with v5At := (wakeRails (railSet r mv true s)).clk.tb0 }
          (wakeRails (railSet r mv true s)) else wakeRails (railSet r mv true s)) := fun low hbad => by
    unfold effRailGood
    rw [if_neg (by rw [hbad]; decide)]
    exact if_neg (by omega)
  obtain ⟨u, hu⟩ : ∃ u, u = railSet r mv true s := ⟨_, rfl⟩
  rw [← hu] at hmoved heff
  obtain ⟨g, hg⟩ := wakeRails_shows u
  rw [hg] at heff
  have hfaults : u.pwr.faults = s.pwr.faults := by rw [hmoved.pwr]; rfl
  have hup := hmoved.diesUp
  by_cases hv5 : r = 1
  · rw [if_pos hv5] at heff
    exact ⟨u, { u.pwr with goodAt := g, v5At := u.clk.tb0 }, hmoved, hfaults, fun _ => by rw [← hmoved.clk], hup, heff⟩
  · rw [if_neg hv5] at heff
    exact ⟨u, { u.pwr with goodAt := g }, hmoved, hfaults, fun h => absurd h hv5, hup, heff⟩

theorem exec_railGood_recovered {r mv low : Nat} {s : State} (hr : r < 2) (hmv : mv < 65536) (hup : diesUp s = true) (hbad : railOk s r = false) :
    ∃ t, exec (.railGood r mv low) s = .next t ∧ railOk t r = true ∧ railReads r t = mv ∧ causes t = causes s &&& (0x1FF - 2 ^ r)
      ∧ (∀ f ∈ t.pwr.faults, railOpen r f = false) ∧ devState t = devState s ∧ (r = 1 → t.pwr.v5At = s.clk.tb0) ∧ t.clk = s.clk
      ∧ rdF t Reg.SV_PWR_FAULT_CNT 15 0 = min 65535 (rdF s Reg.SV_PWR_FAULT_CNT 15 0
          + (if s.pwr.faults.any (railOpen r) then 1 else 0)) := by
  have hmask : (0x1FF - 2 ^ r) ||| 2 ^ r = 0x1FF := by
    rcases (by omega : r = 0 ∨ r = 1) with rfl | rfl <;> rfl
  obtain ⟨u, p, hmoved, hfaults, hv5, hupv, heff⟩ := railGood_moved hr hmv s
  have heff := (heff low hbad).trans (if_pos (hupv.trans hup))
  have hhand := handed_railHand r low (withPwr p u)
  obtain ⟨v, hv⟩ : ∃ v, v = railHand r low (withPwr p u) := ⟨_, rfl⟩
  rw [← hv] at heff hhand
  obtain ⟨hclear, hcauses, hstate⟩ := causeClear_shows hmask v
  have hjudge := causeFrame_driveJudge (causeClear (2 ^ r) v)
  obtain ⟨hstate', hcauses'⟩ := driveJudge_states (causeClear (2 ^ r) v)
  have hframe := hclear.trans hjudge
  obtain ⟨t, ht⟩ : ∃ t, t = driveJudge (causeClear (2 ^ r) v) := ⟨_, rfl⟩
  rw [← ht] at heff hframe hstate' hcauses'
  obtain ⟨hreads, hok, hcnt⟩ := hframe.rail r
  have hrd : ∀ a, rd (withPwr p u) a = rd u a := rd_withPwr p u
  have hmon : wordBase Reg.SV_PWR_FAULT_CNT ≠ wordBase (monWord r) := by
    rcases monWord_cases r with e | e | e <;> rw [e] <;> decide
  refine ⟨t, (guardIx_lt (by omega) _).trans (run_eq_next heff ?_ ?_), ?_, ?_, ?_, ?_, ?_, fun h => ?_, ?_, ?_⟩
  · exact hframe.clk.trans (hhand.clk.trans hmoved.clk)
  · exact hframe.pending.trans (hhand.pending.trans hmoved.pending)
  · exact hok.trans ((hhand.railOk r).trans ((railOk_withPwr p u r).trans hmoved.ok))
  · exact hreads.trans ((railReads_congr ((hhand.kept _ hmon).trans (hrd _))).trans (hmoved.reads hup))
  · rw [hcauses', hcauses, hhand.causes, causes_withPwr, hmoved.causes]
  · rw [hframe.pwr]; exact hhand.closed
  · rw [hstate', hstate, hhand.devState, devState_withPwr, hmoved.devState]
  · rw [hframe.pwr, hhand.pwr]; exact hv5 h
  · exact hframe.clk.trans (hhand.clk.trans hmoved.clk)
  · rw [hcnt, hhand.count]
    unfold rdF
    rw [hrd, hmoved.stands (by decide)]
    exact congrArg (fun l : List RailFault => min 65535 (_ + (if l.any (railOpen r) then 1 else 0))) hfaults

/-! ### VIN or V5 becomes bad (R47, R48) -/

/-- String ports and their words: nothing else differs, and no word of the SV die. -/
structure StrFrame (s t : State) : Prop where
  only : t = { s with regs := t.regs, str := t.str }
  sv : ∀ a, a < 0x01000000 → rd t a = rd s a

theorem StrFrame.trans {s t u : State} (h : StrFrame s t) (k : StrFrame t u) : StrFrame s u :=
  ⟨by rw [k.only, h.only], fun a ha => (k.sv a ha).trans (h.sv a ha)⟩
theorem strFrame_strSet (x : Nat) (v : StrSt) (s : State) : StrFrame s (strSet s x v) := ⟨rfl, fun a _ => rd_congr rfl rfl a⟩
theorem strFrame_wrB {b : Nat} (hmem : usesMem (wordBase b) = false) (haddr : 0x01000000 ≤ b) (i : Nat) (v : Bool) (s : State) :
    StrFrame s (wrB s b i v) :=
  ⟨by rw [wrB_only hmem], fun a ha => rd_wr_ne s _ (by unfold wordBase; omega)⟩
theorem strFrame_strOff {x : Nat} (hx : x < 8) (s : State) : StrFrame s (strOff x s) := by
  have hreg : ∀ x < 8, usesMem (wordBase (Reg.LP_STR_STAT x)) = false ∧ 0x01000000 ≤ Reg.LP_STR_STAT x := by decide
  obtain ⟨hmem, haddr⟩ := hreg x hx
  unfold strOff
  exact (strFrame_strSet x _ s).trans (strFrame_wrB hmem haddr 7 false _)
theorem strFrame_strOffs (s : State) : StrFrame s (forEach (List.range 8) strOff s) :=
  forEach_keeps (P := StrFrame s) _ (fun _ hx u hu => hu.trans (strFrame_strOff (List.mem_range.mp hx) u)) s ⟨rfl, fun _ _ => rfl⟩

theorem exitNow_congr {s t : State} (hboot : t.boot = s.boot) (hclk : t.clk = s.clk) (hstate : devState t = devState s) :
    exitNow t = exitNow s := by
  unfold exitNow; rw [hboot, hclk, hstate]

/-- The state in which the cause of a bad drive rail is judged: its bit and reading, its fault in hand, the strings of V5 off. -/
structure DriveFell (r mv : Nat) (s v : State) : Prop where
  kept : v.clk = s.clk ∧ v.nor = s.nor ∧ v.loops = s.loops ∧ v.pending = s.pending ∧ v.boot = s.boot
  ok : railOk v r = false
  reads : railReads r v = mv
  fault : ∃ f ∈ v.pwr.faults, f.rail = r ∧ f.low = mv ∧ f.ev.code = 0x0010 ∧ f.ev.tick = s.clk.tb0 ∧ f.ev.p0 = w32 r
  causes : causes v = causes s
  state : devState v = devState s

theorem DriveFell.strOffs {r mv : Nat} {s v : State} (h : DriveFell r mv s v) : DriveFell r mv s (forEach (List.range 8) strOff v) := by
  have hframe := strFrame_strOffs v
  obtain ⟨t, ht⟩ : ∃ t, t = forEach (List.range 8) strOff v := ⟨_, rfl⟩
  rw [← ht] at hframe ⊢
  have hmon : monWord r < 0x01000000 := by rcases monWord_cases r with e | e | e <;> rw [e] <;> decide
  refine ⟨?_, ?_, (railReads_congr (hframe.sv _ hmon)).trans h.reads, ?_, ?_, ?_⟩
  · rw [hframe.only]; exact h.kept
  · unfold railOk rdB; rw [hframe.sv _ (by decide)]; exact h.ok
  · rw [hframe.only]; exact h.fault
  · unfold Machine.causes rdF; rw [hframe.sv _ (by decide)]; exact h.causes
  · unfold devState rdF; rw [hframe.sv _ (by decide)]; exact h.state

/-- A drive rail bad: what its fall leaves is judged as a cause of SAFE (Table 02-2). -/
theorem railBadOn_drive {r mv : Nat} {s : State} (hr : r < 2) (hmv : mv < 65536) (hup : diesUp s = true) :
    ∃ v, DriveFell r mv s v ∧ railBadOn r mv s = driveJudge (causeSet (2 ^ r) v) := by
  have hmoved := railMoved_railSet (by omega : r < 5) hmv false s
  have heq : railBadOn r mv s = driveBad r mv (if r < 4 then withPwr { (railSet r mv false s).pwr with goodAt := none } (railSet r mv false s)
      else railSet r mv false s) := by
    unfold railBadOn
    dsimp only
    rw [if_neg (by omega), if_neg (by omega)]
    rfl
  rw [if_pos (by omega)] at heq
  obtain ⟨u, hu⟩ : ∃ u, u = railSet r mv false s := ⟨_, rfl⟩
  rw [← hu] at hmoved heq
  obtain ⟨q, hq⟩ : ∃ q, q = withPwr { u.pwr with goodAt := none } u := ⟨_, rfl⟩
  rw [← hq] at heq
  have hrd : ∀ a, rd q a = rd u a := by rw [hq]; exact rd_withPwr _ u
  have hupq : diesUp q = true := by rw [hq]; exact hmoved.diesUp.trans hup
  have hkept : q.clk = s.clk ∧ q.nor = s.nor ∧ q.loops = s.loops ∧ q.pending = s.pending ∧ q.boot = s.boot := by
    rw [hq, hmoved.only]; exact ⟨rfl, rfl, rfl, rfl, rfl⟩
  obtain ⟨v, hv⟩ : ∃ v, v = withPwr { q.pwr with faults := q.pwr.faults ++ [railFault r mv q] } q := ⟨_, rfl⟩
  have hfell : DriveFell r mv s v := by
    rw [hv]
    refine ⟨hkept, (railOk_withPwr _ q r).trans ?_, (railReads_congr (rd_withPwr _ q _)).trans ((railReads_congr (hrd _)).trans
      (hmoved.reads hup)), ⟨railFault r mv q, List.mem_append_right _ List.mem_cons_self, rfl, rfl, rfl, congrArg Clock.tb0 hkept.1, rfl⟩,
      (causes_withPwr _ q).trans ?_, (devState_withPwr _ q).trans ?_⟩
    · unfold railOk rdB; rw [hrd]; exact hmoved.ok
    · unfold causes rdF; rw [hrd]; exact hmoved.causes
    · unfold devState rdF; rw [hrd]; exact hmoved.devState
  have hbad : driveBad r mv q = driveJudge (causeSet (2 ^ r) (if r = 1 then forEach (List.range 8) strOff v else v)) := by
    have hupv : diesUp v = true := by rw [hv]; exact hupq
    unfold driveBad
    rw [hupq, Bool.true_or, if_pos rfl]
    dsimp only
    rw [show ({ q with pwr := { q.pwr with faults := q.pwr.faults ++ [railFault r mv q] } } : State) = v from hv.symm, hupv, if_pos rfl]
  rw [hbad] at heq
  by_cases hv5 : r = 1
  · rw [if_pos hv5] at heq; exact ⟨_, hfell.strOffs, heq⟩
  · rw [if_neg hv5] at heq; exact ⟨_, hfell, heq⟩

theorem exec_railBad_drive {r mv : Nat} {s : State} (hr : r < 2) (hmv : mv < 65536) (hup : diesUp s = true) (hgood : railOk s r = true)
    (hnew : causes s &&& 2 ^ r = 0) (hexit : exitNow s = none) :
    ∃ t, exec (.railBad r mv) s = .next t ∧ railOk t r = false ∧ railReads r t = mv ∧ causes t = causes s ||| 2 ^ r
      ∧ (∃ f ∈ t.pwr.faults, f.rail = r ∧ f.low = mv ∧ f.ev.code = 0x0010 ∧ f.ev.tick = s.clk.tb0 ∧ f.ev.p0 = w32 r)
      ∧ (devState s = 2 ∨ devState s = 3 → devState t = 4 ∧ raisedEvent 0x0003 0 (w32 (2 ^ r)) (w32 (devState s)) t)
      ∧ (devState s ≠ 2 → devState s ≠ 3 → devState t = devState s) ∧ t.clk = s.clk ∧ t.nor = s.nor ∧ t.loops = s.loops := by
  have hm : 2 ^ r < 512 := (Nat.pow_lt_pow_right (by decide) hr).trans (by decide)
  obtain ⟨v, hfell, heq⟩ := railBadOn_drive hr hmv hup
  obtain ⟨⟨hclk, hnor, hloops, hpending, hboot⟩, hok, hreads, hfault, hcauses, hstate⟩ := hfell
  have hexitv : exitNow v = none := (exitNow_congr hboot hclk hstate).trans hexit
  have hnewv : causes v &&& 2 ^ r ≠ 2 ^ r := by
    rw [hcauses, hnew]; exact (Nat.two_pow_pos r).ne
  have hset : causeSet (2 ^ r) v = causeAdd (2 ^ r) v := by unfold causeSet; rw [hexitv]
  obtain ⟨hcauses1, hstate1⟩ := causeAdd_shows hm hnewv
  obtain ⟨hstate2, hcauses2⟩ := driveJudge_states (causeSet (2 ^ r) v)
  have hframe := (causeFrame_causeSet hm v).trans (causeFrame_driveJudge _)
  have hraised : devState v = 2 ∨ devState v = 3 →
      raisedEvent 0x0003 0 (w32 (2 ^ r)) (w32 (devState v)) (driveJudge (causeSet (2 ^ r) v)) := fun hruns =>
    raisedEvent_driveJudge (by decide) (causeSet_shows hm hexitv hnewv hruns).2.2.2.2.2
  rw [hset] at hstate2 hcauses2
  rw [← hset] at hstate1 hcauses1 hstate2 hcauses2
  obtain ⟨t, ht⟩ : ∃ t, t = driveJudge (causeSet (2 ^ r) v) := ⟨_, rfl⟩
  rw [← ht] at heq hstate2 hcauses2 hframe hraised
  obtain ⟨hreads', hok', -⟩ := hframe.rail r
  have heff := effRailBad_fallen (mv := mv) hgood (by rw [heq]; exact hframe.clk.trans hclk)
    (by rw [heq]; exact hframe.pending.trans hpending) (fun h => absurd h (by omega))
  rw [hstate1, hstate] at hstate2
  rw [hstate] at hraised
  refine ⟨t, exec_railBad (by omega) (heff.trans heq) (hframe.pending.trans hpending), hok'.trans hok, hreads'.trans hreads,
    by rw [hcauses2, hcauses1, hcauses], by rw [hframe.pwr]; exact hfault, fun hruns => ⟨by rw [hstate2, if_pos hruns], hraised hruns⟩,
    fun h2 h3 => by rw [hstate2, if_neg (by omega)], hframe.clk.trans hclk, hframe.nor.trans hnor, hframe.loops.trans hloops⟩

/-! ### What a restart keeps of a word (R17, Table 00-6) -/

section
variable {α : Type} [DecidableEq α] (d : Nat → α)

omit [DecidableEq α] in
theorem mem_tdel {l : List (Nat × α)} {i : Nat} {x : Nat × α} (h : x ∈ tdel l i) : x ∈ l ∧ x.1 ≠ i := by
  induction l with
  | nil => exact absurd h List.not_mem_nil
  | cons y l ih =>
    obtain ⟨k, v⟩ := y
    unfold tdel at h
    split at h
    · exact ⟨List.mem_cons_of_mem _ (ih h).1, (ih h).2⟩
    · next hk =>
      rcases List.mem_cons.mp h with rfl | h
      · exact ⟨List.mem_cons_self, hk⟩
      · exact ⟨List.mem_cons_of_mem _ (ih h).1, (ih h).2⟩

/-- Entries of a table after a put: those it had, and that of the key where the value is no default. -/
theorem mem_tput {l : List (Nat × α)} {i : Nat} {v : α} {x : Nat × α} (h : x ∈ tput d l i v) : x ∈ l ∨ x.1 = i := by
  induction l with
  | nil =>
    unfold tput at h
    split at h
    · exact absurd h List.not_mem_nil
    · rw [List.mem_singleton.mp h]; exact .inr rfl
  | cons y l ih =>
    obtain ⟨k, w⟩ := y
    unfold tput at h
    split at h
    · rcases List.mem_cons.mp h with rfl | h
      · exact .inl List.mem_cons_self
      · exact (ih h).imp_left (List.mem_cons_of_mem _)
    · split at h
      · exact .inl (mem_tdel h).1
      · split at h
        · rcases List.mem_cons.mp h with rfl | h
          · exact .inr rfl
          · exact .inl (List.mem_cons_of_mem _ h)
        · rcases List.mem_cons.mp h with rfl | h
          · exact .inr rfl
          · exact .inl h

/-- A default put leaves no entry of its key. -/
theorem ne_of_mem_tput_default {l : List (Nat × α)} {i : Nat} {x : Nat × α} (h : x ∈ tput d l i (d i)) : x.1 ≠ i := by
  induction l with
  | nil => exact absurd h (by simp [tput])
  | cons y l ih =>
    obtain ⟨k, w⟩ := y
    unfold tput at h
    split at h
    · next hk =>
      rcases List.mem_cons.mp h with rfl | h
      · exact Nat.ne_of_lt hk
      · exact ih h
    · rw [if_pos rfl] at h
      exact (mem_tdel h).2

omit [DecidableEq α] in
theorem tget_absent {l : List (Nat × α)} {i : Nat} (h : ∀ x ∈ l, x.1 ≠ i) : tget d l i = d i := by
  induction l with
  | nil => rfl
  | cons y l ih =>
    obtain ⟨k, v⟩ := y
    rw [tget_cons, if_neg (h (k, v) List.mem_cons_self)]
    exact ih fun x hx => h x (List.mem_cons_of_mem _ hx)

end

/-- A word after a restart: the bits of its class kept, the rest as reset leaves them. -/
def keptWord (kind a : Nat) (w : Word) : Word := (w &&& keepMask kind a) ||| (resetWord a &&& ~~~keepMask kind a)

theorem tget_resetRegs {kind a : Nat} {l : List (Nat × Word)} (h : keptWord kind a (tget resetWord l a) ≠ resetWord a) :
    tget resetWord (resetRegs kind l) a = keptWord kind a (tget resetWord l a) := by
  induction l with
  | nil =>
    refine absurd ?_ h
    unfold keptWord
    rw [tget_nil]
    ext i hi
    simp only [BitVec.getElem_or, BitVec.getElem_and, BitVec.getElem_not]
    cases (resetWord a)[i] <;> simp
  | cons x l ih =>
    obtain ⟨k, w⟩ := x
    have hcons : resetRegs kind ((k, w) :: l) = if keptWord kind k w = resetWord k then resetRegs kind l
        else (k, keptWord kind k w) :: resetRegs kind l := by
      unfold resetRegs keptWord
      rw [List.filterMap_cons]
      dsimp only
      split <;> simp_all
    rw [hcons]
    rw [tget_cons] at h ⊢
    by_cases hk : k = a
    · subst hk
      rw [if_pos rfl] at h ⊢
      rw [if_neg h, tget_cons, if_pos rfl]
    · rw [if_neg hk] at h ⊢
      split
      · exact ih h
      · rw [tget_cons, if_neg hk]; exact ih h

theorem resetRegs_absent {kind a : Nat} {l : List (Nat × Word)} (h : ∀ x ∈ l, x.1 ≠ a) : tget resetWord (resetRegs kind l) a = resetWord a := by
  refine tget_absent resetWord fun x hx => ?_
  unfold resetRegs at hx
  obtain ⟨y, hy, hyx⟩ := List.mem_filterMap.mp hx
  dsimp only at hyx
  split at hyx
  · exact absurd hyx nofun
  · rw [← Option.some.inj hyx]; exact h y hy

theorem rd_resetDies {kind a : Nat} {s : State} (hreg : usesMem (wordBase a) = false)
    (h : keptWord kind (wordBase a) (rd s a) ≠ resetWord (wordBase a)) :
    rd (resetDies kind s) a = keptWord kind (wordBase a) (rd s a) := by
  have hword : ∀ u : State, rd u a = tget resetWord u.regs (wordBase a) := fun u => by
    unfold rd; dsimp only; rw [hreg]; rfl
  rw [hword] at h ⊢
  rw [hword]
  exact tget_resetRegs h

theorem rd_resetDies_absent {kind a : Nat} {s : State} (hreg : usesMem (wordBase a) = false) (h : ∀ x ∈ s.regs, x.1 ≠ wordBase a) :
    rd (resetDies kind s) a = resetWord (wordBase a) := by
  unfold rd
  dsimp only
  rw [hreg]
  exact resetRegs_absent h

/-! ### A power loss (R46, R59) -/

/-- The rails' bits follow the rails through a restart, VBAT good (Table 00-6). -/
theorem railOk_resetDies {s : State} (hvbat : railOk s 4 = true) {k : Nat} (hk : k < 5) : railOk (resetDies 1 s) k = railOk s k := by
  have hmask : keepMask 1 (wordBase Reg.SV_PWR_STAT) = 0x3001F#32 := by decide
  have hreset : resetWord (wordBase Reg.SV_PWR_STAT) = 0x20000#32 := by decide
  have hbit : ∀ i < 5, bit (keptWord 1 (wordBase Reg.SV_PWR_STAT) (rd s Reg.SV_PWR_STAT)) i = bit (rd s Reg.SV_PWR_STAT) i := fun i hi => by
    have hlow : ∀ j < 5, (0x3001F#32).getLsbD j = true ∧ (0x20000#32).getLsbD j = false := by decide
    unfold keptWord bit
    rw [hmask, hreset]
    simp only [BitVec.getLsbD_or, BitVec.getLsbD_and, hlow i hi, Bool.and_true, Bool.false_and, Bool.or_false]
  have hne : keptWord 1 (wordBase Reg.SV_PWR_STAT) (rd s Reg.SV_PWR_STAT) ≠ resetWord (wordBase Reg.SV_PWR_STAT) := fun h => by
    have h4 := hbit 4 (by decide)
    rw [h, hreset] at h4
    exact absurd (h4.trans hvbat) (by decide)
  unfold railOk rdB
  rw [rd_resetDies (by decide) hne]
  exact hbit k hk

/-- The seconds of TB2 written at the loss (R59). -/
def lossWritten (s : State) : State := wrN s Reg.SV_PWR_LOSS_TIME s.clk.sec.toNat

theorem wr_tput {a : Nat} (h : usesMem (wordBase a) = false) (s : State) (w : Word) :
    wr s a w = { s with regs := tput resetWord s.regs (wordBase a) w } := by
  unfold wr
  dsimp only
  rw [h]
  rfl

theorem seqLast_regs {n : Nat} (hn : n < 8) (s : State) :
    ∃ w, seqLast n s = { s with regs := tput resetWord s.regs (wordBase (Reg.SV_SEQ_LAST n)) w } := by
  have hreg : ∀ n < 8, usesMem (wordBase (Reg.SV_SEQ_LAST n)) = false := by decide
  exact ⟨_, wr_tput (hreg n hn) s _⟩

/-- Before the dies are reset at a loss: SV_SEQ_LAST is written, and nothing else. -/
structure RunEnded (s t : State) : Prop where
  only : t = { s with regs := t.regs }
  kept : ∀ a, (∀ n < 8, wordBase (Reg.SV_SEQ_LAST n) ≠ wordBase a) → rd t a = rd s a
  absent : ∀ a, (∀ n < 8, wordBase (Reg.SV_SEQ_LAST n) ≠ a) → (∀ x ∈ s.regs, x.1 ≠ a) → ∀ x ∈ t.regs, x.1 ≠ a

theorem runEnded_seqLasts (s : State) : RunEnded s (forEach (List.range 8) seqLast s) := by
  refine forEach_keeps (P := RunEnded s) _ (fun n hn u hu => ?_) s ⟨rfl, fun _ _ => rfl, fun _ _ h => h⟩
  have hn8 := List.mem_range.mp hn
  obtain ⟨w, hw⟩ := seqLast_regs hn8 u
  have hrd : ∀ a, wordBase (Reg.SV_SEQ_LAST n) ≠ wordBase a → rd (seqLast n u) a = rd u a := fun a ha => rd_wr_ne u _ ha
  refine ⟨by rw [hw, hu.only], fun a ha => (hrd a (ha n hn8)).trans (hu.kept a ha), fun a ha habs x hx => ?_⟩
  rw [hw] at hx
  rcases mem_tput resetWord hx with h | h
  · exact hu.absent a ha habs x h
  · rw [h]; exact ha n hn8

/-- SV_PWR_LOSS_TIME holds the seconds of TB2 through the reset that follows (R59). -/
theorem rd_lossTime (s : State) : rd (restartBase 1 (lossWritten s)) Reg.SV_PWR_LOSS_TIME = s.clk.sec := by
  have hseq : ∀ n < 8, wordBase (Reg.SV_SEQ_LAST n) ≠ wordBase Reg.SV_PWR_LOSS_TIME := by decide
  have hzero : resetWord (wordBase Reg.SV_PWR_LOSS_TIME) = 0#32 := by decide
  have hmask : keepMask 1 (wordBase Reg.SV_PWR_LOSS_TIME) = BitVec.allOnes 32 := by decide
  have hreg : usesMem (wordBase Reg.SV_PWR_LOSS_TIME) = false := by decide
  have hwritten : rd (lossWritten s) Reg.SV_PWR_LOSS_TIME = s.clk.sec :=
    (rd_wr_same _ _ _).trans (by unfold w32; rw [BitVec.ofNat_toNat, BitVec.setWidth_eq])
  have hregs : (lossWritten s).regs = tput resetWord s.regs (wordBase Reg.SV_PWR_LOSS_TIME) (w32 s.clk.sec.toNat) := by
    unfold lossWritten wrN
    rw [wr_tput hreg]
  obtain ⟨u, hu⟩ : ∃ u, u = lossWritten s := ⟨_, rfl⟩
  rw [← hu] at hwritten hregs ⊢
  have hended := runEnded_seqLasts u
  have hword := (hended.kept Reg.SV_PWR_LOSS_TIME hseq).trans hwritten
  unfold restartBase
  obtain ⟨v, hv⟩ : ∃ v, v = forEach (List.range 8) seqLast u := ⟨_, rfl⟩
  rw [← hv] at hended hword ⊢
  have hkept : keptWord 1 (wordBase Reg.SV_PWR_LOSS_TIME) (rd v Reg.SV_PWR_LOSS_TIME) = s.clk.sec := by
    unfold keptWord
    rw [hword, hmask, hzero, BitVec.and_allOnes, BitVec.zero_and, BitVec.or_zero]
  by_cases hsec : s.clk.sec = 0#32
  · have habs : ∀ x ∈ u.regs, x.1 ≠ wordBase Reg.SV_PWR_LOSS_TIME := fun x hx => by
      rw [hregs, hsec] at hx
      exact ne_of_mem_tput_default resetWord (hzero ▸ hx)
    rw [rd_resetDies_absent hreg (hended.absent _ hseq habs), hzero, hsec]
  · rw [rd_resetDies hreg (by rw [hkept, hzero]; exact hsec), hkept]

/-- With the power off no drive output is on (R49). -/
theorem ballState_off {s : State} (hoff : s.pwr.off = true) (x : Nat) :
    ballState s (.valveGate x) = .off ∧ ballState s (.valveDrain x) = .opened := by
  have hphase : ballPhase s = .absent ∨ ballPhase s = .hibernate := by
    unfold ballPhase
    rw [hoff]
    split
    · exact .inl rfl
    · split
      · exact .inr rfl
      · exact .inl rfl
  unfold ballState
  rcases hphase with h | h <;> rw [h] <;> exact ⟨rfl, rfl⟩

/-- A power loss while the dies run: they are reset, and the island keeps the instant and the fault for the next start (R59). -/
theorem powerLoss_shows {r mv : Nat} {s : State} (hr : r = 2 ∨ r = 3) (hup : diesUp s = true) (hvbat : railOk s 4 = true) :
    railOk (powerLoss r mv s) r = railOk s r ∧ railOk (powerLoss r mv s) 4 = true ∧ monOf (powerLoss r mv s) r = monOf s r
      ∧ (powerLoss r mv s).pwr.off = true ∧ (powerLoss r mv s).pwr.loss = some (s.clk.sec, s.clk.era)
      ∧ rd (powerLoss r mv s) Reg.SV_PWR_LOSS_TIME = s.clk.sec ∧ (powerLoss r mv s).pwr.faults = []
      ∧ (∃ f ∈ (powerLoss r mv s).pwr.lost, f.rail = r ∧ f.low = mv ∧ f.ev.code = 0x0010 ∧ f.ev.tick = s.clk.tb0)
      ∧ (powerLoss r mv s).mem = [] ∧ (powerLoss r mv s).loops = [] ∧ (powerLoss r mv s).port.owner = none
      ∧ (powerLoss r mv s).boot.loaded = false ∧ (powerLoss r mv s).clk = s.clk ∧ (powerLoss r mv s).pending = s.pending := by
  have hrec := recorded_drainAll s
  have heq : powerLoss r mv s = (fun u t : State => withPwr { t.pwr with
      faults := [], lost := u.pwr.faults ++ [railFault r mv u], loss := some (t.clk.sec, t.clk.era), off := true, cold := true, woke := false } t)
      (drainAll s) (if (lossWritten (drainAll s)).pwr.rst then resetDies 1 (lossWritten (drainAll s))
        else restartBase 1 (lossWritten (drainAll s))) := rfl
  obtain ⟨u, hu⟩ : ∃ u, u = drainAll s := ⟨_, rfl⟩
  rw [← hu] at hrec heq
  have hpwr : u.pwr = s.pwr := by rw [hrec.only]
  have hclk := hrec.clk
  have hstat : ∀ k, railOk u k = railOk s k := fun k => by unfold railOk rdB; rw [hrec.shown _ (by decide)]
  have hwpwr : (lossWritten u).pwr = u.pwr := wr_pwr ..
  have hrst : (lossWritten u).pwr.rst = false := by
    rw [hwpwr, hpwr]
    unfold diesUp at hup
    cases h : s.pwr.rst with
    | false => rfl
    | true => rw [h] at hup; simp at hup
  have hloss := rd_lossTime u
  have hended := runEnded_seqLasts (lossWritten u)
  have hword : rd (lossWritten u) Reg.SV_PWR_STAT = rd u Reg.SV_PWR_STAT := rd_wr_ne _ _ (by decide)
  have hclkw : (lossWritten u).clk = u.clk ∧ (lossWritten u).pending = u.pending := ⟨wr_clk .., wr_pending ..⟩
  rw [hrst, if_neg (by decide)] at heq
  obtain ⟨w, hw⟩ : ∃ w, w = lossWritten u := ⟨_, rfl⟩
  rw [← hw] at hwpwr hloss hended hword hclkw heq
  unfold restartBase at heq hloss
  obtain ⟨v, hv⟩ : ∃ v, v = forEach (List.range 8) seqLast w := ⟨_, rfl⟩
  rw [← hv] at hended heq hloss
  have hok : ∀ k, railOk v k = railOk s k := fun k => by
    rw [← hstat]
    unfold railOk rdB
    rw [hended.kept _ (by decide), hword]
  have hbits : ∀ k < 5, railOk (resetDies 1 v) k = railOk s k := fun k hk =>
    (railOk_resetDies ((hok 4).trans hvbat) hk).trans (hok k)
  have hvpwr : v.pwr = s.pwr := by rw [hended.only]; exact hwpwr.trans hpwr
  have hvclk : v.clk = s.clk := by rw [hended.only]; exact hclkw.1.trans hclk
  have hvpending : v.pending = s.pending := by rw [hended.only]; exact hclkw.2.trans hrec.pending
  have hreset : (resetDies 1 v).clk = v.clk ∧ (resetDies 1 v).pwr = v.pwr ∧ (resetDies 1 v).pending = v.pending ∧ (resetDies 1 v).mem = []
      ∧ (resetDies 1 v).loops = [] ∧ (resetDies 1 v).port.owner = none ∧ (resetDies 1 v).boot.loaded = false :=
    ⟨rfl, rfl, rfl, rfl, rfl, rfl, rfl⟩
  obtain ⟨t, ht⟩ : ∃ t, t = resetDies 1 v := ⟨_, rfl⟩
  rw [← ht] at hloss heq hbits hreset
  obtain ⟨htclk, htpwr, htpending, hmem, hloops, howner, hloaded⟩ := hreset
  rw [heq]
  refine ⟨(railOk_withPwr _ t r).trans (hbits r (by omega)), (railOk_withPwr _ t 4).trans ((hbits 4 (by decide)).trans hvbat), ?_, rfl, ?_,
    (rd_withPwr _ t _).trans (hloss.trans (congrArg Clock.sec hclk)), rfl,
    ⟨railFault r mv u, List.mem_append_right _ List.mem_cons_self, rfl, rfl, rfl, congrArg Clock.tb0 hclk⟩, hmem, hloops, howner, hloaded,
    htclk.trans hvclk, htpending.trans hvpending⟩
  · show tget _ t.pwr.mon r = tget _ s.pwr.mon r
    rw [htpwr, hvpwr]
  · show some (t.clk.sec, t.clk.era) = _
    rw [htclk, hvclk]

/-- VIO or VCORE becomes bad with VBAT good: a power loss (R46). -/
theorem exec_railBad_core {r mv : Nat} {s : State} (hr : r = 2 ∨ r = 3) (hmv : mv < 65536) (hup : diesUp s = true)
    (hgood : railOk s r = true) (hvbat : railOk s 4 = true) :
    ∃ t, exec (.railBad r mv) s = .next t ∧ railOk t r = false ∧ monOf t r = mv ∧ diesUp t = false ∧ t.pwr.off = true
      ∧ (∀ x, ballState t (.valveGate x) = .off ∧ ballState t (.valveDrain x) = .opened)
      ∧ t.pwr.loss = some (s.clk.sec, s.clk.era) ∧ rd t Reg.SV_PWR_LOSS_TIME = s.clk.sec ∧ t.pwr.faults = []
      ∧ (∃ f ∈ t.pwr.lost, f.rail = r ∧ f.low = mv ∧ f.ev.code = 0x0010 ∧ f.ev.tick = s.clk.tb0)
      ∧ t.mem = [] ∧ t.loops = [] ∧ t.port.owner = none ∧ t.boot.loaded = false ∧ t.clk = s.clk := by
  have hmoved := railMoved_railSet (by omega : r < 5) hmv false s
  have heq : railBadOn r mv s = coreBad r mv (monOf s r) (if r < 4 then withPwr { (railSet r mv false s).pwr with goodAt := none }
      (railSet r mv false s) else railSet r mv false s) := by
    unfold railBadOn
    dsimp only
    rw [if_neg (by omega), if_pos hr]
    rfl
  rw [if_pos (by omega)] at heq
  obtain ⟨u, hu⟩ : ∃ u, u = railSet r mv false s := ⟨_, rfl⟩
  rw [← hu] at hmoved heq
  have hupq : diesUp (withPwr { u.pwr with goodAt := none } u) = true := hmoved.diesUp.trans hup
  have hokq : ∀ k, railOk (withPwr { u.pwr with goodAt := none } u) k = railOk u k := railOk_withPwr _ u
  have hmon : monOf (withPwr { u.pwr with goodAt := none } u) r = mv := by
    show tget _ u.pwr.mon r = mv
    rw [hmoved.pwr]
    exact tget_tput_same ..
  have hkept : (withPwr { u.pwr with goodAt := none } u).clk = s.clk ∧ (withPwr { u.pwr with goodAt := none } u).pending = s.pending :=
    ⟨hmoved.clk, hmoved.pending⟩
  obtain ⟨q, hq⟩ : ∃ q, q = withPwr { u.pwr with goodAt := none } u := ⟨_, rfl⟩
  rw [← hq] at heq hupq hokq hmon hkept
  obtain ⟨hclk, hpending⟩ := hkept
  have hloss : coreBad r mv (monOf s r) q = powerLoss r mv q := if_pos (by rw [hupq]; rfl)
  obtain ⟨hok, hok4, hmon', hoff, hat, htime, hfaults, hlost, hmem, hloops, howner, hloaded, hclk', hpending'⟩ :=
    powerLoss_shows (mv := mv) hr hupq ((hokq 4).trans ((hmoved.others 4 (by omega)).trans hvbat))
  rw [← hloss, ← heq] at hok hok4 hmon' hoff hat htime hfaults hlost hmem hloops howner hloaded hclk' hpending'
  rw [hclk] at hat htime hlost hclk'
  refine ⟨_, exec_railBad (by omega) (effRailBad_fallen hgood hclk' (hpending'.trans hpending) (fun _ => .inr hok4))
    (hpending'.trans hpending), hok.trans ((hokq r).trans hmoved.ok), hmon'.trans hmon, ?_, hoff, ballState_off hoff, hat, htime, hfaults,
    hlost, hmem, hloops, howner, hloaded, hclk'⟩
  unfold diesUp
  rw [hoff]
  rfl

/-! ### The statement -/

/-- Settles O7: each rail by what its fall and its return bring about. -/
theorem railsFallAndRecover : Obligations.RailsFallAndRecover := by
  unfold Obligations.RailsFallAndRecover
  intro r mv low s hmv shows st mons isOpen
  refine ⟨fun hr hbad => exec_railBad_again hr hmv hbad, fun hr hgood => exec_railGood_again hr hmv hgood,
    fun hr hup hgood hnew hexit => exec_railBad_drive hr hmv hup hgood hnew hexit, fun hr hup hgood hvio => ?_,
    fun hr hup hgood hvbat => exec_railBad_core hr hmv hup hgood hvbat,
    fun hr hup hbad => exec_railGood_recovered hr hmv hup hbad, fun f hr hup hf => ⟨fun hlate => ?_, fun hearly hvin => ?_⟩⟩
  · subst hr
    exact exec_railBad_vbat hmv hup hgood hvio
  · exact exec_railFaultHandover_due hr ((railDue_of_find hup hf).trans (decide_eq_true hlate))
  · exact exec_railFaultHandover_early hr ((railDue_of_find hup hf).trans (decide_eq_false (by omega))) hvin

end Sys2Proof.Machine.PackageRails
end

section
/-!
PROOFS. Starts: step 1 up to the check of REF_CLK (R49, R60, R488).
-/
namespace Sys2Proof.Machine.PackageRails
open Sys2Proof.Machine.GrainPlant

/-! ### Step 1 (Table 03-12) -/

/-- The dies are released and in BOOT, with what the start found of its pins. -/
structure InBoot (r : StartPins) (s : State) : Prop where
  off : s.pwr.off = false
  rst : s.pwr.rst = false
  pins : s.boot.pins = r
  state : devState s = 1

section
variable {r : StartPins} {s : State} (h : InBoot r s)
include h

/-- What leaves the release, the pins and the state's word leaves BOOT. -/
theorem InBoot.of_same {t : State} (hoff : t.pwr.off = s.pwr.off) (hrst : t.pwr.rst = s.pwr.rst) (hpins : t.boot.pins = s.boot.pins)
    (hword : rd t Reg.SV_BOOT_STAT = rd s Reg.SV_BOOT_STAT) : InBoot r t := by
  refine ⟨hoff.trans h.off, hrst.trans h.rst, hpins.trans h.pins, ?_⟩
  unfold devState rdF
  rw [hword]
  exact h.state
theorem InBoot.recorded {t : State} (k : Recorded s t) : InBoot r t :=
  h.of_same (by rw [k.only]) (by rw [k.only]) (by rw [k.only]) (k.shown _ (by decide))
theorem InBoot.wr {a : Nat} (ha : wordBase a ≠ wordBase Reg.SV_BOOT_STAT) (w : Word) : InBoot r (wr s a w) :=
  h.of_same (by rw [wr_pwr]) (by rw [wr_pwr]) (by rw [wr_boot]) (rd_wr_ne s w ha)
theorem InBoot.wrF {a : Nat} (ha : wordBase a ≠ wordBase Reg.SV_BOOT_STAT) (hi lo v : Nat) : InBoot r (wrF s a hi lo v) := h.wr ha _
theorem InBoot.wrB {a : Nat} (ha : wordBase a ≠ wordBase Reg.SV_BOOT_STAT) (i : Nat) (b : Bool) : InBoot r (wrB s a i b) := h.wr ha _
theorem InBoot.hwSet {a : Nat} (ha : wordBase a ≠ wordBase Reg.SV_BOOT_STAT) (i : Nat) : InBoot r (hwSet s a i) :=
  (h.wrB ha i true).of_same rfl rfl rfl rfl
omit h in
theorem InBoot.keepClk {f : State → State} (hf : InBoot r (f s)) : InBoot r (keepClk f s) := hf.of_same rfl rfl rfl rfl

/-- In BOOT a cause waits for step 11 (R94). -/
theorem InBoot.causeSet {m : Nat} (hm : m < 512) : InBoot r (causeSet m s) := by
  have hstate := h.state
  have hexit : exitNow s = none := by
    unfold exitNow
    rw [hstate]
    split <;> simp
  have hset : Machine.causeSet m s = causeAdd m s := by unfold Machine.causeSet; rw [hexit]
  have hframe := causeFrame_causeAdd hm s
  have hkept : devState (causeAdd m s) = 1 := by
    by_cases hnew : causes s &&& m = m
    · rw [show causeAdd m s = s from if_pos hnew]; exact hstate
    · rw [(causeAdd_shows hm hnew).2, hstate]; rfl
  rw [hset]
  exact ⟨by rw [hframe.pwr]; exact h.off, by rw [hframe.pwr]; exact h.rst, by rw [hframe.boot]; exact h.pins, hkept⟩

theorem InBoot.railRecord (f : RailFault) : InBoot r (railRecord f s) := by
  obtain ⟨l, hd, horder⟩ := railOrder_eq f (count16 Reg.SV_PWR_FAULT_CNT s)
  have hcount : InBoot r (count16 Reg.SV_PWR_FAULT_CNT s) := by
    have hwithin : Within [(Reg.SV_PWR_FAULT_CNT, Reg.SV_PWR_FAULT_CNT + 4)] s (count16 Reg.SV_PWR_FAULT_CNT s) :=
      within_countS (a := Reg.SV_PWR_FAULT_CNT) List.mem_cons_self (by decide) (by decide) (by decide) 15 0 31 s
    exact h.of_same (by rw [hwithin.only]) (by rw [hwithin.only]) (by rw [hwithin.only])
      (hwithin.words _ fun w hw => by rw [List.mem_singleton.mp hw]; decide)
  unfold Machine.railRecord
  rw [horder]
  exact hcount.of_same rfl rfl rfl (rd_withPwr _ _ _)

end

theorem inBoot_ite {r : StartPins} {s t : State} (c : Prop) [Decidable c] (h : InBoot r s) (k : InBoot r t) :
    InBoot r (if c then s else t) := by
  split
  · exact h
  · exact k
theorem inBoot_forEach {α : Type} {r : StartPins} (l : List α) {f : α → State → State} (hf : ∀ y ∈ l, ∀ s, InBoot r s → InBoot r (f y s))
    {s : State} (h : InBoot r s) : InBoot r (forEach l f s) := forEach_keeps (P := InBoot r) l hf s h

section
variable {r : StartPins} {s : State} (h : InBoot r s)
include h

theorem InBoot.pcycCount : InBoot r (pcycCount s) := by
  have hcount : ∀ v, InBoot r (Machine.wrF s Reg.SV_LOG_PCYC 31 8 v) := h.wrF (by decide) 31 8
  unfold Machine.pcycCount
  exact inBoot_ite _ h (inBoot_ite _ (((hcount _).wrB (a := Reg.SV_LOG_STAT) (by decide) 5 true).of_same rfl rfl rfl rfl) (hcount _))

theorem InBoot.islandRecords (p : PwrSt) : InBoot r (islandRecords p s) := by
  have hrec : ∀ e u, InBoot r u → InBoot r (record e u) := fun e u hu => hu.recorded (recorded_record e u)
  unfold Machine.islandRecords
  extract_lets s1 s2 s3 s4
  have h1 : InBoot r s1 := inBoot_forEach _ (fun e _ u hu => hrec _ u hu) h
  have h2 : InBoot r s2 := inBoot_forEach _ (fun f _ u hu => (hu.railRecord _).recorded (recorded_drainAll _)) h1
  have h3 : InBoot r s3 := by
    dsimp only [s3]
    split
    · exact hrec _ _ h2
    · exact h2
  have h4 : InBoot r s4 := inBoot_ite _ (hrec _ _ h3) h3
  exact inBoot_ite _ (hrec _ _ (h4.of_same rfl rfl rfl rfl)) h4

theorem InBoot.startRecords (p : PwrSt) : InBoot r (startRecords p s) := by
  unfold Machine.startRecords
  dsimp only [takeFree]
  refine inBoot_forEach [0, 1] (fun k hk u hu => inBoot_ite _ hu (hu.causeSet ?_)) ?_
  · revert k; decide
  · refine .wrF ?_ (a := Reg.SV_LOG_STAT) (by decide) _ _ _
    refine .wr ?_ (a := Reg.SV_LOG_NONCE) (by decide) _
    refine .of_same (.recorded ?_ (recorded_drainAll _)) rfl rfl rfl rfl
    refine inBoot_forEach _ (fun f _ u hu => hu.railRecord _) ?_
    refine .of_same (.recorded ?_ (recorded_drainAll _)) rfl rfl rfl rfl
    exact (inBoot_ite _ h.pcycCount h).islandRecords p

end

/-- The island's clock and its first record in BOOT (R411, R413). -/
theorem inBoot_aoRecord {r : StartPins} {s : State} (h : InBoot r s) : InBoot r (aoRecord s) := by
  unfold aoRecord
  extract_lets q w3 era s1 s2 l s3
  have h1 : InBoot r s1 := (h.wrB (by decide) 5 false).wrB (by decide) 6 _
  have h2 : InBoot r s2 := (h1.wrF (by decide) 31 8 _).wrB (by decide) 5 _
  have h3 : InBoot r s3 := h2.of_same rfl rfl rfl rfl
  exact h3.recorded (recorded_writeRec _ _ _ _ s3)

/-- Step 1 ends in BOOT with the dies released (Table 03-12). -/
theorem inBoot_startStep1 {r : StartPins} (s : State) (hpins : s.boot.pins = r) : InBoot r (startStep1 s) := by
  subst hpins
  unfold startStep1
  extract_lets p s1 s2 s3 s4 s5 s6
  have h2 : InBoot s.boot.pins s2 := by
    refine ⟨?_, ?_, ?_, (rdF_wrF_same s1 _ 2 0 1 (by decide) (by decide)).trans rfl⟩
    · dsimp only [s2, wrF]; rw [wr_pwr]
    · dsimp only [s2, wrF]; rw [wr_pwr]
    · dsimp only [s2, wrF]; rw [wr_boot]
  have h3 : InBoot s.boot.pins s3 := inBoot_ite _ (h2.hwSet (by decide) 17) (h2.wrB (by decide) 17 false)
  have h4 : InBoot s.boot.pins s4 := inBoot_ite _ (h3.hwSet (by decide) 16) (h3.wrB (by decide) 16 false)
  have h5 : InBoot s.boot.pins s5 := inBoot_ite _ (h4.wr (by decide) _) h4
  have hao : InBoot s.boot.pins (aoClock s5) := h5.of_same rfl rfl rfl rfl
  have h6 : InBoot s.boot.pins s6 := inBoot_ite _ (inBoot_aoRecord hao).keepClk h5
  exact (h6.startRecords p).keepClk

/-! ### The check of REF_CLK (R488) -/

/-- The start as it comes to the check of REF_CLK (Table 03-12 step 1). -/
def startChecked (r : StartPins) (s : State) : State :=
  let s := startStep1 { s with boot := { BootSt.init with pins := r, refAt := s.clk.tb0 } }
  wrB (wrF s Reg.SV_BOOT_STAT 13 12 r.mode) Reg.SV_BOOT_STAT 14 (decide (r.mode % 2 = 1))

theorem startChecked_shows (r : StartPins) (s : State) : InBoot r (startChecked r s)
    ∧ rdF (startChecked r s) Reg.SV_BOOT_STAT 13 12 = r.mode % 4 := by
  have hboot : InBoot r (startStep1 { s with boot := { BootSt.init with pins := r, refAt := s.clk.tb0 } }) := inBoot_startStep1 _ rfl
  unfold startChecked
  dsimp only
  obtain ⟨u, hu⟩ : ∃ u, u = startStep1 { s with boot := { BootSt.init with pins := r, refAt := s.clk.tb0 } } := ⟨_, rfl⟩
  rw [← hu] at hboot ⊢
  refine ⟨⟨?_, ?_, ?_, ?_⟩, ?_⟩
  · unfold wrB wrF; rw [wr_pwr, wr_pwr]; exact hboot.off
  · unfold wrB wrF; rw [wr_pwr, wr_pwr]; exact hboot.rst
  · unfold wrB wrF; rw [wr_boot, wr_boot]; exact hboot.pins
  · unfold devState
    rw [rdF_wrB_field _ _ _ _ _ _ (by decide) (by decide), rdF_wrF_field _ _ _ _ _ _ _ (by decide) (by decide) (by decide)]
    exact hboot.state
  · rw [rdF_wrB_field _ _ _ _ _ _ (by decide) (by decide), rdF_wrF_same _ _ _ _ _ (by decide) (by decide)]
    rfl

theorem start_eq (r : StartPins) (s : State) : start r s = if r.refOk then startStep2 (startChecked r s)
    else keepClk (fun u => (fun v : State => { v with boot := { v.boot with wait := true } }) (rejectShow none 0x0E 0 u)) (startChecked r s) := rfl

/-- What a rejection shows, and that it leaves the rest of SV_BOOT_STAT (R77, Table 03-16). -/
theorem rejectShow_shows (slot : Option Nat) {k : Nat} (hk : k < 256) (a : Nat) (s : State) :
    rdF (rejectShow slot k a s) Reg.SV_BOOT_STAT 23 16 = k ∧ rd (rejectShow slot k a s) Reg.SV_BOOT_ERR_ADDR = w32 a
    ∧ (∀ hi lo, lo ≤ hi → hi < 16 → rdF (rejectShow slot k a s) Reg.SV_BOOT_STAT hi lo = rdF s Reg.SV_BOOT_STAT hi lo)
    ∧ (∀ b, wordBase Reg.SV_BOOT_STAT ≠ wordBase b → wordBase Reg.SV_BOOT_ERR_ADDR ≠ wordBase b → rd (rejectShow slot k a s) b = rd s b)
    ∧ (rejectShow slot k a s).pwr = s.pwr ∧ (rejectShow slot k a s).boot = s.boot ∧ (rejectShow slot k a s).clk = s.clk := by
  have hrd : ∀ u : State, ∀ code p0 p1 b, rd (raiseN code 0 p0 p1 u) b = rd u b := fun _ _ _ _ _ => rfl
  unfold rejectShow
  dsimp only
  obtain ⟨u, hu⟩ : ∃ u, u = wrF s Reg.SV_BOOT_STAT 23 16 k := ⟨_, rfl⟩
  have hsame : rdF u Reg.SV_BOOT_STAT 23 16 = k := by
    rw [hu, rdF_wrF_same _ _ _ _ _ (by decide) (by decide)]; exact Nat.mod_eq_of_lt hk
  have hfield : ∀ hi lo, lo ≤ hi → hi < 16 → rdF u Reg.SV_BOOT_STAT hi lo = rdF s Reg.SV_BOOT_STAT hi lo := fun hi lo hle hlt => by
    rw [hu]; exact rdF_wrF_field s _ 23 16 k hi lo (by decide) (by omega) hle
  have hother : ∀ b, wordBase Reg.SV_BOOT_STAT ≠ wordBase b → rd u b = rd s b := fun b hb => by rw [hu]; exact rd_wr_ne s _ hb
  have hpwr : u.pwr = s.pwr ∧ u.boot = s.boot ∧ u.clk = s.clk := by rw [hu]; exact ⟨wr_pwr .., wr_boot .., wr_clk ..⟩
  rw [← hu]
  have hstat : rd (wrN u Reg.SV_BOOT_ERR_ADDR a) Reg.SV_BOOT_STAT = rd u Reg.SV_BOOT_STAT := rd_wr_ne u _ (by decide)
  have haddr : rd (wrN u Reg.SV_BOOT_ERR_ADDR a) Reg.SV_BOOT_ERR_ADDR = w32 a := rd_wr_same _ _ _
  have hrest : ∀ b, wordBase Reg.SV_BOOT_ERR_ADDR ≠ wordBase b → rd (wrN u Reg.SV_BOOT_ERR_ADDR a) b = rd u b := fun b hb => rd_wr_ne u _ hb
  have hpwr' : (wrN u Reg.SV_BOOT_ERR_ADDR a).pwr = u.pwr ∧ (wrN u Reg.SV_BOOT_ERR_ADDR a).boot = u.boot
      ∧ (wrN u Reg.SV_BOOT_ERR_ADDR a).clk = u.clk := ⟨wr_pwr .., wr_boot .., wr_clk ..⟩
  obtain ⟨v, hv⟩ : ∃ v, v = wrN u Reg.SV_BOOT_ERR_ADDR a := ⟨_, rfl⟩
  rw [← hv] at hstat haddr hrest hpwr' ⊢
  unfold rdF at *
  simp only [hrd]
  refine ⟨by rw [hstat]; exact hsame, haddr, fun hi lo hle hlt => by rw [hstat]; exact hfield hi lo hle hlt,
    fun b h1 h2 => (hrest b h2).trans (hother b h1), hpwr'.1.trans hpwr.1, hpwr'.2.1.trans hpwr.2.1, hpwr'.2.2.trans hpwr.2.2⟩

/-- A start whose REF_CLK check fails waits in BOOT, the ports closed (R488). -/
theorem start_waits {r : StartPins} (hclk : r.refOk = false) (s : State) : devState (start r s) = 1 ∧ (start r s).boot.wait = true
    ∧ portsUp (start r s) = false ∧ diesUp (start r s) = true ∧ rdF (start r s) Reg.SV_BOOT_STAT 23 16 = 0x0E
    ∧ rdF (start r s) Reg.SV_BOOT_STAT 13 12 = r.mode % 4 ∧ (start r s).pwr.rst = false ∧ (start r s).pwr.off = false := by
  obtain ⟨hboot, hmode⟩ := startChecked_shows r s
  have heq := start_eq r s
  rw [hclk, if_neg (by decide)] at heq
  obtain ⟨u, hu⟩ : ∃ u, u = startChecked r s := ⟨_, rfl⟩
  rw [← hu] at hboot hmode heq
  obtain ⟨hreason, -, hfield, -, hpwr, -, -⟩ := rejectShow_shows none (k := 0x0E) (by decide) 0 u
  obtain ⟨v, hv⟩ : ∃ v, v = rejectShow none 0x0E 0 u := ⟨_, rfl⟩
  have hrd : ∀ a, rd (start r s) a = rd v a := fun a => by rw [heq, hv]; exact rd_congr rfl rfl a
  have htpwr : (start r s).pwr = v.pwr := by rw [heq, hv]; rfl
  have hwait : (start r s).boot.wait = true := by rw [heq]; rfl
  rw [← hv] at hreason hfield hpwr
  have hoff : (start r s).pwr.off = false := by rw [htpwr, hpwr]; exact hboot.off
  have hrst : (start r s).pwr.rst = false := by rw [htpwr, hpwr]; exact hboot.rst
  have hstate : devState (start r s) = 1 := by
    have h := hfield 2 0 (by decide) (by decide)
    unfold devState rdF at *
    rw [hrd, h]; exact hboot.state
  have hup : diesUp (start r s) = true := by
    unfold diesUp; rw [hoff, hrst, hstate]; rfl
  refine ⟨hstate, hwait, ?_, hup, ?_, ?_, hrst, hoff⟩
  · unfold portsUp; rw [hwait, hup]; rfl
  · unfold rdF at *; rw [hrd]; exact hreason
  · have h := hfield 13 12 (by decide) (by decide)
    unfold rdF at *; rw [hrd, h]; exact hmode

/-! ### What the start reports of its NOR stands to its end (R69, R77) -/

/-- The release of the dies, the wait, the slot loaded, and the words that report the NOR stand. -/
structure ReportKept (s t : State) : Prop where
  off : t.pwr.off = s.pwr.off
  rst : t.pwr.rst = s.pwr.rst
  wait : t.boot.wait = s.boot.wait
  loaded : t.boot.loaded = s.boot.loaded
  reason : rdF t Reg.SV_BOOT_STAT 23 16 = rdF s Reg.SV_BOOT_STAT 23 16
  addr : rd t Reg.SV_BOOT_ERR_ADDR = rd s Reg.SV_BOOT_ERR_ADDR
  jedec : rd t Reg.SV_NVM_ID = rd s Reg.SV_NVM_ID
  nor : rdB t Reg.SV_NVM_STAT 2 = rdB s Reg.SV_NVM_STAT 2

theorem ReportKept.refl (s : State) : ReportKept s s := ⟨rfl, rfl, rfl, rfl, rfl, rfl, rfl, rfl⟩
theorem ReportKept.trans {s t u : State} (h : ReportKept s t) (k : ReportKept t u) : ReportKept s u :=
  ⟨k.off.trans h.off, k.rst.trans h.rst, k.wait.trans h.wait, k.loaded.trans h.loaded, k.reason.trans h.reason, k.addr.trans h.addr,
    k.jedec.trans h.jedec, k.nor.trans h.nor⟩
theorem CauseFrame.report {s t : State} (h : CauseFrame s t) : ReportKept s t where
  off := by rw [h.pwr]
  rst := by rw [h.pwr]
  wait := by rw [h.boot]
  loaded := by rw [h.boot]
  reason := h.stat 23 16 (by decide) (by decide)
  addr := h.calm _ (by decide)
  jedec := h.calm _ (by decide)
  nor := by unfold rdB; rw [h.calm _ (by decide)]

/-- The report stands, and with it the state and the causes. -/
structure StartKept (s t : State) : Prop extends ReportKept s t where
  state : devState t = devState s
  causes : causes t = causes s

theorem StartKept.refl (s : State) : StartKept s s := ⟨.refl s, rfl, rfl⟩
theorem StartKept.trans {s t u : State} (h : StartKept s t) (k : StartKept t u) : StartKept s u :=
  ⟨h.toReportKept.trans k.toReportKept, k.state.trans h.state, k.causes.trans h.causes⟩
theorem startKept_ite {s t u : State} (c : Prop) [Decidable c] (h : StartKept s t) (k : StartKept s u) :
    StartKept s (if c then t else u) := by
  split
  · exact h
  · exact k

/-- The words of `startShown`, the release, the wait and the slot loaded are all that the report, the state and the causes look at. -/
theorem startKept_of_shown {s t : State} (hoff : t.pwr.off = s.pwr.off) (hrst : t.pwr.rst = s.pwr.rst) (hwait : t.boot.wait = s.boot.wait)
    (hloaded : t.boot.loaded = s.boot.loaded) (hshown : ∀ a ∈ startShown, rd t a = rd s a) : StartKept s t where
  off := hoff
  rst := hrst
  wait := hwait
  loaded := hloaded
  reason := by unfold rdF; rw [hshown _ (by decide)]
  addr := hshown _ (by decide)
  jedec := hshown _ (by decide)
  nor := by unfold rdB; rw [hshown _ (by decide)]
  state := by unfold devState rdF; rw [hshown _ (by decide)]
  causes := by unfold Machine.causes rdF; rw [hshown _ (by decide)]
theorem Recorded.start {s t : State} (h : Recorded s t) : StartKept s t :=
  startKept_of_shown (by rw [h.only]) (by rw [h.only]) (by rw [h.only]) (by rw [h.only]) h.shown

/-! ### A header write of the start (R74, R75) -/

/-- The header region not in use is one of the NOR's (R75). -/
theorem otherRegion_lt (o : Option Nat) : (match o with | some r => 1 - r | none => 0) < 8 := by
  split
  · exact Nat.lt_of_le_of_lt (Nat.sub_le 1 _) (by decide)
  · decide

theorem startKept_hdrWrite (f : List Byte → List Byte) (s : State) : StartKept s (hdrWrite f s) := by
  unfold hdrWrite
  extract_lets r g h1 h2 s1 s2
  have hs2 : Recorded s s2 := ((recorded_nor _ s).trans (recorded_noteErase (otherRegion_lt (hdrUse s)) 0 _)).trans (recorded_norPutBytes _ _ _)
  have hdone : StartKept s2 { s2 with boot := { s2.boot with hdrDone := true } } := startKept_of_shown rfl rfl rfl rfl fun _ _ => rfl
  exact (hs2.start.trans hdone).trans (recorded_wrN (a := Reg.SV_BOOT_HDR_GEN) (by decide) _ _).start

theorem startKept_headerRepair (s : State) : StartKept s (headerRepair s) := by
  have hwrite : StartKept s (hdrWriteStart id s) := by
    unfold hdrWriteStart
    exact startKept_ite _ (((recorded_nor _ s).trans (recorded_noteErase (otherRegion_lt (hdrUse s)) 0 _)).trans (recorded_countNvmErr _)).start
      (startKept_hdrWrite id s)
  unfold headerRepair
  split
  · exact hwrite
  · exact .refl s

/-! ### A start that loads nothing (R69, R418) -/

theorem recorded_logOpen (s : State) : Recorded s (logOpen s) := by
  unfold logOpen
  extract_lets u l0 l1 v
  have hu : Recorded s u := recorded_drainAll s
  have hv : Recorded s v := hu.trans (recorded_wrF (a := Reg.SV_LOG_STAT) (by decide) _ _ _ u)
  refine recorded_ite _ hu (recorded_ite _ ?_ (recorded_ite _ (hv.trans (recorded_flushPending 65 v)) (hv.trans (recorded_effRecordProgramDone v))))
  exact (hu.trans (recorded_wrF (a := Reg.SV_LOG_STAT) (by decide) _ _ _ u)).trans (recorded_log _ _)

theorem recorded_restoreAll (vals : List (Nat × Word)) (s : State) : Recorded s (restoreAll vals s) :=
  ((recorded_forEach _ recorded_restoreWord s).trans (recorded_upd _ _)).trans (recorded_rebase _)

theorem startKept_alarmStays (s : State) : StartKept s (alarmStays s) := by
  unfold alarmStays
  extract_lets p u
  have hu : StartKept s u := startKept_of_shown rfl rfl rfl rfl fun _ _ => rfl
  refine startKept_ite _ (startKept_ite _ ?_ hu) (.refl s)
  exact hu.trans ((recorded_wrB (a := Reg.SV_PWR_WAKE_CFG) (by decide) 4 false u).trans (recorded_noteStored _)).start

/-- A cause judged is present, whatever resume it meets (R94, R97). -/
theorem causes_causeAdd {m : Nat} (hm : m < 512) (s : State) : causes (causeAdd m s) &&& m = m := by
  by_cases hnew : causes s &&& m = m
  · rw [show causeAdd m s = s from if_pos hnew]; exact hnew
  · rw [(causeAdd_shows hm hnew).1, Nat.and_or_distrib_right, Nat.and_self]
    refine Nat.eq_of_testBit_eq fun i => ?_
    rw [Nat.testBit_or, Nat.testBit_and]
    cases (causes s).testBit i <;> cases m.testBit i <;> rfl

theorem causes_causeSet {m : Nat} (hm : m < 512) (hhard : m &&& resumable ≠ m) (s : State) : causes (causeSet m s) &&& m = m := by
  unfold causeSet
  split
  · exact causes_causeAdd hm s
  · next x hx =>
    rw [if_neg hhard, (exitRefused_shows x _).2.1]
    exact causes_causeAdd hm _

/-! ### The start ends (R89, R95) -/

/-- The progress of the start: a field of SV_BOOT_STAT beside those the report and the state stand in. -/
theorem startKept_progress (v : Nat) (s : State) : StartKept s (wrF s Reg.SV_BOOT_STAT 7 4 v) := by
  have hother : ∀ b, wordBase Reg.SV_BOOT_STAT ≠ wordBase b → rd (wrF s Reg.SV_BOOT_STAT 7 4 v) b = rd s b := fun b hb => rd_wr_ne s _ hb
  refine ⟨⟨by unfold wrF; rw [wr_pwr], by unfold wrF; rw [wr_pwr], by unfold wrF; rw [wr_boot], by unfold wrF; rw [wr_boot], ?_,
    hother _ (by decide), hother _ (by decide), by unfold rdB; rw [hother _ (by decide)]⟩, ?_, ?_⟩
  · exact rdF_wrF_field s _ 7 4 v 23 16 (by decide) (by decide) (by decide)
  · exact rdF_wrF_field s _ 7 4 v 2 0 (by decide) (by decide) (by decide)
  · unfold causes rdF; rw [hother _ (by decide)]

/-- A word of SV_NVM_STAT written with its bit 2 standing. -/
theorem startKept_nvmStat {s t : State} (hword : ∃ w, t = wr s Reg.SV_NVM_STAT w) (hbit : rdB t Reg.SV_NVM_STAT 2 = rdB s Reg.SV_NVM_STAT 2) :
    StartKept s t := by
  obtain ⟨w, rfl⟩ := hword
  have hother : ∀ b, wordBase Reg.SV_NVM_STAT ≠ wordBase b → rd (wr s Reg.SV_NVM_STAT w) b = rd s b := fun b hb => rd_wr_ne s _ hb
  refine ⟨⟨by rw [wr_pwr], by rw [wr_pwr], by rw [wr_boot], by rw [wr_boot], ?_, hother _ (by decide), hother _ (by decide), hbit⟩, ?_, ?_⟩
  · unfold rdF; rw [hother _ (by decide)]
  · unfold devState rdF; rw [hother _ (by decide)]
  · unfold causes rdF; rw [hother _ (by decide)]

theorem startKept_norClock (s : State) : StartKept s (norClock s) := by
  have hmhz : ∀ v, StartKept s (wrF s Reg.SV_NVM_STAT 15 8 v) := fun v =>
    startKept_nvmStat ⟨_, rfl⟩ (rdB_wrF_bit s _ 15 8 v 2 (by decide) (by decide))
  unfold norClock
  exact (hmhz _).trans (startKept_nvmStat ⟨_, rfl⟩ (rdB_wrB_bit _ _ 4 2 _ (by decide)))

/-- A start with a cause present and no slot loaded ends in SAFE (R95). -/
theorem bootDone_safe {s : State} (hloaded : s.boot.loaded = false) (hcause : causes s ≠ 0) :
    ReportKept s (bootDone s) ∧ devState (bootDone s) = 4 ∧ causes (bootDone s) = causes s := by
  unfold bootDone
  extract_lets s1 s2 c trial st us s3 s4 s5 s6 s7 v s8
  have h1 : StartKept s s1 := startKept_headerRepair s
  have h2 : s2 = s1 := by
    dsimp only [s2]
    rw [h1.loaded, hloaded]
    rfl
  have hc : c = causes s := by dsimp only [c]; rw [h2]; exact h1.causes
  have h3 : s3 = safeEnter (raiseN 0x0003 0 c 1 s1) := by
    dsimp only [s3]
    rw [if_pos (by rw [hc]; exact hcause), h2]
  obtain ⟨hsafe, hkept, -⟩ := safeEnter_shows (raiseN 0x0003 0 c 1 s1)
  have hframe : CauseFrame s1 (safeEnter (raiseN 0x0003 0 c 1 s1)) :=
    (causeFrame_raise 0x0003 0 _ _ s1).trans (causeFrame_safeEnter _)
  rw [← h3] at hsafe hkept hframe
  have hkept3 : causes s3 = causes s := hkept.trans h1.causes
  have h6 : StartKept s3 s6 := by
    refine .trans (startKept_progress 5 s3) (Recorded.start ?_)
    refine .trans ?_ (recorded_hwSet (a := Reg.SV_OWN_ATTN) (by decide) 0 _)
    exact (recorded_wrN (a := Reg.SV_BOOT_TIME) (by decide) us _).trans (recorded_raise _ _ _ _ _)
  have h8 : StartKept s6 s8 := by
    have hupd : Recorded s6 s7 :=
      (recorded_wrF (a := Reg.SV_UPD_STAT) (by decide) 3 0 5 s6).trans (recorded_hwSet (a := Reg.SV_OWN_ATTN) (by decide) 6 _)
    exact startKept_ite _ (hupd.trans (recorded_upd _ s7)).start (.refl s6)
  have htail : StartKept s3 (norClock s8) := (h6.trans h8).trans (startKept_norClock s8)
  exact ⟨(h1.toReportKept.trans hframe.report).trans htail.toReportKept, htail.state.trans hsafe, htail.causes.trans hkept3⟩

/-- The settings of a start that loads no slot, the alarm that fired left disabled (R56, R69). -/
def slotlessSettings (s : State) : State :=
  alarmStays (match curJournal s with
    | some j => restoreAll (jValues s j) (jShow j s)
    | none => rebase s)
/-- Its end: a restart is the owner's no more. -/
def slotlessEnd (s : State) : State := withPwr { s.pwr with ownerRestart := false } (bootDone s)

theorem noSlot_eq (m : Nat) (s : State) : noSlot m s = slotlessEnd (slotlessSettings (causeSet m (logOpen s))) := rfl

theorem startKept_slotlessSettings (s : State) : StartKept s (slotlessSettings s) := by
  unfold slotlessSettings
  refine .trans (Recorded.start ?_) (startKept_alarmStays _)
  split
  · next j hj => exact (recorded_jShow j s).trans (recorded_restoreAll _ _)
  · exact recorded_rebase s

theorem slotlessEnd_safe {s : State} (hloaded : s.boot.loaded = false) (hcause : causes s ≠ 0) :
    ReportKept s (slotlessEnd s) ∧ devState (slotlessEnd s) = 4 ∧ causes (slotlessEnd s) = causes s := by
  obtain ⟨hdone, hstate, hcauses⟩ := bootDone_safe hloaded hcause
  unfold slotlessEnd
  obtain ⟨u, hu⟩ : ∃ u, u = bootDone s := ⟨_, rfl⟩
  rw [← hu] at hdone hstate hcauses ⊢
  have hend : StartKept u (withPwr { s.pwr with ownerRestart := false } u) :=
    startKept_of_shown hdone.off.symm hdone.rst.symm rfl rfl fun a _ => rd_withPwr _ u a
  exact ⟨hdone.trans hend.toReportKept, hend.state.trans hstate, hend.causes.trans hcauses⟩

/-- A start that loads no slot ends in SAFE under the recovery runtime, its cause present (R69). -/
theorem noSlot_safe {m : Nat} (hm : m < 512) (hpos : m ≠ 0) (hhard : m &&& resumable ≠ m) {s : State} (hloaded : s.boot.loaded = false) :
    ReportKept s (noSlot m s) ∧ devState (noSlot m s) = 4 ∧ causes (noSlot m s) &&& m = m := by
  have h1 : ReportKept s (causeSet m (logOpen s)) :=
    (recorded_logOpen s).start.toReportKept.trans (causeFrame_causeSet hm _).report
  have hcause1 : causes (causeSet m (logOpen s)) &&& m = m := causes_causeSet hm hhard _
  rw [noSlot_eq]
  obtain ⟨u, hu⟩ : ∃ u, u = causeSet m (logOpen s) := ⟨_, rfl⟩
  rw [← hu] at h1 hcause1 ⊢
  have h2 := startKept_slotlessSettings u
  obtain ⟨v, hv⟩ : ∃ v, v = slotlessSettings u := ⟨_, rfl⟩
  rw [← hv] at h2 ⊢
  have hreport := h1.trans h2.toReportKept
  rw [← h2.causes] at hcause1
  obtain ⟨hend, hstate, hcauses⟩ := slotlessEnd_safe (hreport.loaded.trans hloaded) (fun h => hpos (by rw [← hcause1, h, Nat.zero_and]))
  exact ⟨hreport.trans hend, hstate, by rw [hcauses]; exact hcause1⟩

/-! ### Step 4 with no NOR (R71, R89) -/

theorem noneCause_hard (s : State) : noneCause s < 512 ∧ noneCause s ≠ 0 ∧ noneCause s &&& resumable ≠ noneCause s := by
  unfold noneCause
  split <;> decide

/-- What step 4 shows of a NOR that it cannot read (R71). -/
def norMissed (s : State) : State :=
  let p := s.boot.pins
  let s := { s with boot := { s.boot with mhz := p.mhz } }
  let s := wr s Reg.SV_NVM_ID p.jedec
  let s := wrF (wrF s Reg.SV_NVM_STAT 31 24 p.size) Reg.SV_NVM_STAT 15 8 p.mhz
  wrB (wrB s Reg.SV_NVM_STAT 0 (decide (p.mode % 2 = 1))) Reg.SV_NVM_STAT 2 false

theorem norMissed_shows (s : State) : (norMissed s).pwr = s.pwr ∧ (norMissed s).boot = { s.boot with mhz := s.boot.pins.mhz }
    ∧ rd (norMissed s) Reg.SV_NVM_ID = s.boot.pins.jedec ∧ rdB (norMissed s) Reg.SV_NVM_STAT 2 = false := by
  unfold norMissed
  dsimp only
  refine ⟨?_, ?_, ?_, rdB_wrB_same _ _ _ _ (by decide)⟩
  · unfold wrB wrF; rw [wr_pwr, wr_pwr, wr_pwr, wr_pwr, wr_pwr]
  · unfold wrB wrF; rw [wr_boot, wr_boot, wr_boot, wr_boot, wr_boot]
  · unfold wrB wrF
    rw [rd_wr_ne _ _ (by decide), rd_wr_ne _ _ (by decide), rd_wr_ne _ _ (by decide), rd_wr_ne _ _ (by decide), rd_wr_same]

theorem startNor_eq {s : State} {a : Nat} (hfail : s.boot.pins.norFail = some a) (ha : a < 0x100000) :
    startNor s = noSlot (noneCause (norMissed s)) (rejectShow none 0x0D a (norMissed s)) := by
  unfold startNor
  extract_lets p b s1 s2 s3 early s4 s5
  have hearly : early = some a := by
    have hlow : early = match s.boot.pins.norFail with | some a => if a < 0x100000 then some a else none | none => none := rfl
    rw [hlow, hfail]
    exact if_pos ha
  have hmissed : s4 = norMissed s := by
    have h4 : s4 = wrB (wrB s3 Reg.SV_NVM_STAT 0 (decide (p.mode % 2 = 1))) Reg.SV_NVM_STAT 2 early.isNone := rfl
    rw [h4, hearly]
    rfl
  rw [hearly, ← hmissed]

/-- The start with no NOR to read, once its clocks run (R71). -/
theorem startNor_none {s : State} {a : Nat} (hfail : s.boot.pins.norFail = some a) (ha : a < 0x100000) (hoff : s.pwr.off = false)
    (hrst : s.pwr.rst = false) (hwait : s.boot.wait = false) (hloaded : s.boot.loaded = false) :
    devState (startNor s) = 4 ∧ (startNor s).boot.wait = false ∧ (startNor s).boot.loaded = false
      ∧ causes (startNor s) &&& (if 2 ≤ s.boot.pins.mode % 4 then 8 else 4) ≠ 0 ∧ rdF (startNor s) Reg.SV_BOOT_STAT 23 16 = 0x0D
      ∧ rd (startNor s) Reg.SV_BOOT_ERR_ADDR = w32 a ∧ rd (startNor s) Reg.SV_NVM_ID = s.boot.pins.jedec
      ∧ rdB (startNor s) Reg.SV_NVM_STAT 2 = false ∧ diesUp (startNor s) = true := by
  obtain ⟨hpwr, hboot, hjedec, hnor⟩ := norMissed_shows s
  rw [startNor_eq hfail ha]
  obtain ⟨u, hu⟩ : ∃ u, u = norMissed s := ⟨_, rfl⟩
  rw [← hu] at hpwr hboot hjedec hnor ⊢
  have hcause : noneCause u = if 2 ≤ s.boot.pins.mode % 4 then 8 else 4 := by unfold noneCause; rw [hboot]
  obtain ⟨hm, hpos, hhard⟩ := noneCause_hard u
  obtain ⟨hreason, haddr, -, hkept, hpwr', hboot', -⟩ := rejectShow_shows none (k := 0x0D) (by decide) a u
  obtain ⟨v, hv⟩ : ∃ v, v = rejectShow none 0x0D a u := ⟨_, rfl⟩
  rw [← hv] at hreason haddr hkept hpwr' hboot' ⊢
  obtain ⟨hreport, hstate, hcauses⟩ := noSlot_safe hm hpos hhard (s := v) (by rw [hboot', hboot]; exact hloaded)
  obtain ⟨t, ht⟩ : ∃ t, t = noSlot (noneCause u) v := ⟨_, rfl⟩
  rw [← ht] at hreport hstate hcauses ⊢
  have htoff : t.pwr.off = false := by rw [hreport.off, hpwr', hpwr]; exact hoff
  have htrst : t.pwr.rst = false := by rw [hreport.rst, hpwr', hpwr]; exact hrst
  refine ⟨hstate, ?_, ?_, ?_, hreport.reason.trans hreason, hreport.addr.trans haddr, ?_, ?_, ?_⟩
  · rw [hreport.wait, hboot', hboot]; exact hwait
  · rw [hreport.loaded, hboot', hboot]; exact hloaded
  · rw [← hcause, hcauses]; exact hpos
  · rw [hreport.jedec, hkept _ (by decide) (by decide)]; exact hjedec
  · rw [hreport.nor]
    unfold rdB at *
    rw [hkept _ (by decide) (by decide)]
    exact hnor
  · unfold diesUp; rw [htoff, htrst, hstate]; rfl

/-! ### Starts from their commands (R49, R57, R89, R488) -/

/-- What a start that waits for REF_CLK shows (R488). -/
def startWaits (r : StartPins) (t : State) : Prop := devState t = 1 ∧ t.boot.wait = true ∧ portsUp t = false ∧ diesUp t = true
  ∧ rdF t Reg.SV_BOOT_STAT 23 16 = 0x0E ∧ rdF t Reg.SV_BOOT_STAT 13 12 = r.mode % 4 ∧ t.pwr.rst = false ∧ t.pwr.off = false

/-- What a start shows that cannot read its NOR at address `a` (R71, R89). -/
def startMissed (q : StartPins) (a : Nat) (t : State) : Prop := devState t = 4 ∧ t.boot.wait = false ∧ t.boot.loaded = false ∧ t.clk.tb0 = 0
  ∧ causes t &&& (if 2 ≤ q.mode % 4 then 8 else 4) ≠ 0 ∧ rdF t Reg.SV_BOOT_STAT 23 16 = 0x0D ∧ rd t Reg.SV_BOOT_ERR_ADDR = w32 a
  ∧ rd t Reg.SV_NVM_ID = q.jedec ∧ rdB t Reg.SV_NVM_STAT 2 = false ∧ diesUp t = true

theorem startStep2_missed {s : State} {a : Nat} (hoff : s.pwr.off = false) (hrst : s.pwr.rst = false)
    (hfail : s.boot.pins.norFail = some a) (ha : a < 0x100000) : startMissed s.boot.pins a (startStep2 s) := by
  have heq : startStep2 s = keepClk startNor (startClocks { s with boot := { s.boot with wait := false, loaded := false } }) := rfl
  have hset : ∀ b, (startClocks { s with boot := b }).boot = { b with lead := (s.clk.tb0 - b.refAt).toNat }
      ∧ (startClocks { s with boot := b }).pwr.off = s.pwr.off ∧ (startClocks { s with boot := b }).pwr.rst = s.pwr.rst
      ∧ (startClocks { s with boot := b }).clk.tb0 = 0 := fun _ => ⟨rfl, rfl, rfl, rfl⟩
  obtain ⟨hboot, hoff', hrst', htb0⟩ := hset { s.boot with wait := false, loaded := false }
  obtain ⟨w, hw⟩ : ∃ w, w = startClocks { s with boot := { s.boot with wait := false, loaded := false } } := ⟨_, rfl⟩
  rw [← hw] at heq hboot hoff' hrst' htb0
  have hpins : w.boot.pins = s.boot.pins := by rw [hboot]
  obtain ⟨hstate, hwait, hloaded, hcauses, hreason, haddr, hjedec, hnor, hup⟩ := startNor_none (s := w) (a := a) (by rw [hpins]; exact hfail) ha
    (hoff'.trans hoff) (hrst'.trans hrst) (by rw [hboot]) (by rw [hboot])
  rw [hpins] at hcauses hjedec
  rw [heq]
  unfold keepClk
  obtain ⟨t, ht⟩ : ∃ t, t = startNor w := ⟨_, rfl⟩
  rw [← ht] at hstate hwait hloaded hcauses hreason haddr hjedec hnor hup ⊢
  exact ⟨hstate, hwait, hloaded, htb0, hcauses, hreason, haddr, hjedec, hnor, hup⟩

theorem start_missed {r : StartPins} {a : Nat} (hclk : r.refOk = true) (hfail : r.norFail = some a) (ha : a < 0x100000) (s : State) :
    startMissed r a (start r s) := by
  obtain ⟨⟨hoff, hrst, hpins, -⟩, -⟩ := startChecked_shows r s
  have heq := start_eq r s
  rw [hclk, if_pos rfl] at heq
  rw [heq]
  have h := startStep2_missed hoff hrst (by rw [hpins]; exact hfail) ha
  rwa [hpins] at h

theorem runClk_of_eff {f : State → State} {s t : State} (h : f s = t) : runClk f s = .next { t with pending := s.pending } := by
  rw [runClk_next, h]

/-- The three commands that begin a start, each in its state (R49, R57, R89). -/
theorem exec_begins {i : Instr} {r : StartPins} {s : State}
    (h : (i = .powerOn r ∧ s.pwr.off = true ∧ devState s ≠ 0)
      ∨ (i = .wakeRelease r ∧ devState s = 0 ∧ s.pwr.waking = true ∧ (∀ k, k < 4 → railOk s k = true)
          ∧ ∃ g, s.pwr.goodAt = some g ∧ tb2Past s g 656 = true)
      ∨ (i = .resetRelease r ∧ s.pwr.rst = true ∧ s.pwr.off = false)) :
    ∃ u, exec i s = .next { start r u with pending := s.pending } := by
  rcases h with ⟨rfl, hoff, hstate⟩ | ⟨rfl, hstate, hwaking, hrails, g, hgood, hpast⟩ | ⟨rfl, hrst, hoff⟩
  · have heff : effPowerOn r s = start r (wrF s Reg.SV_PWR_STAT 3 1 7) := if_pos ⟨hoff, hstate⟩
    exact ⟨_, runClk_of_eff heff⟩
  · have hall : railsAll s = true := by
      unfold railsAll
      rw [hrails 0 (by decide), hrails 1 (by decide), hrails 2 (by decide), hrails 3 (by decide)]
      rfl
    have heff : effWakeRelease r s = start r s := by
      unfold effWakeRelease
      rw [hgood]
      exact if_pos ⟨hstate, hwaking, hall, hpast⟩
    exact ⟨_, runClk_of_eff heff⟩
  · have heff : effResetRelease r s = start r s := if_pos ⟨hrst, hoff⟩
    exact ⟨_, runClk_of_eff heff⟩

theorem startWaits.withPending {r : StartPins} {t : State} (h : startWaits r t) (l : List Instr) : startWaits r { t with pending := l } := h
theorem startMissed.withPending {q : StartPins} {a : Nat} {t : State} (h : startMissed q a t) (l : List Instr) :
    startMissed q a { t with pending := l } := h

/-- A start that waits, its check passing (R488). -/
theorem exec_refclkCheck_missed {s : State} (hup : diesUp s = true) (hwait : s.boot.wait = true) {a : Nat}
    (hfail : s.boot.pins.norFail = some a) (ha : a < 0x100000) :
    ∃ t, exec (.refclkCheck true) s = .next t ∧ startMissed s.boot.pins a t := by
  obtain ⟨hoff, hrst⟩ : s.pwr.off = false ∧ s.pwr.rst = false := by
    unfold diesUp at hup
    simp only [Bool.and_eq_true, Bool.not_eq_true'] at hup
    exact hup.1
  have heff : effRefclkCheck true s = startStep2 s := if_pos (by rw [hwait]; rfl)
  exact ⟨_, runClk_of_eff heff,
    (startStep2_missed hoff hrst hfail ha).withPending s.pending⟩

/-- Settles O11: each start by what REF_CLK and the NOR show it. -/
theorem startsCheckTheClockAndTheNor : Obligations.StartsCheckTheClockAndTheNor := by
  unfold Obligations.StartsCheckTheClockAndTheNor
  intro r s begins noNor
  refine ⟨fun i hi => ⟨fun hclk => ?_, fun hclk a hfail ha => ?_⟩, fun hup hwait a hfail ha => exec_refclkCheck_missed hup hwait hfail ha,
    fun _ => ?_⟩
  · obtain ⟨u, hexec⟩ := exec_begins hi
    have hwaits : startWaits r (start r u) := start_waits hclk u
    exact ⟨_, hexec, hwaits.withPending s.pending⟩
  · obtain ⟨u, hexec⟩ := exec_begins hi
    exact ⟨_, hexec, (start_missed hclk hfail ha u).withPending s.pending⟩
  · have heff : effRefclkCheck false s = s := if_neg (by simp)
    exact runClk_of_eff heff

end Sys2Proof.Machine.PackageRails
end

section
/-!
PROOFS. SAFE: what a cause of it halts, the resumes that leave it, and a resume that a cause of its tick takes back (R93 to R97, R275,
R451).
-/
namespace Sys2Proof.Machine.StartStates
open Sys2Proof.Machine.GrainPlant Sys2Proof.Machine.PackageRails

/-! ### No SAFE_EXIT is raised by the drive (R97) -/

/-- Every SAFE_EXIT on its way afterwards was on its way before. -/
def NoExit (s t : State) : Prop := ∀ e ∈ t.log.raised, e.code = 0x0004 → e ∈ s.log.raised

theorem NoExit.refl (s : State) : NoExit s s := fun _ h _ => h
theorem NoExit.trans {s t u : State} (h : NoExit s t) (k : NoExit t u) : NoExit s u := fun e he hc => h e (k e he hc) hc
theorem noExit_of_log {s t : State} (h : t.log = s.log) : NoExit s t := fun _ he _ => h ▸ he
theorem noExit_wr (s : State) (a : Nat) (w : Word) : NoExit s (wr s a w) := noExit_of_log (wr_log ..)
theorem noExit_wrB (s : State) (a i : Nat) (b : Bool) : NoExit s (wrB s a i b) := noExit_wr s a _
theorem noExit_wrF (s : State) (a hi lo v : Nat) : NoExit s (wrF s a hi lo v) := noExit_wr s a _
theorem noExit_raise {code : Nat} (hcode : code ≠ 0x0004) (unit : Nat) (p0 p1 : Word) (s : State) :
    NoExit s (raise code unit p0 p1 s) := fun e he hc =>
  ((mem_evInsert _ e _).mp he).elim (fun h => absurd hc (by rw [h]; exact hcode)) id
theorem noExit_ite {s t u : State} (c : Prop) [Decidable c] (h : NoExit s t) (k : NoExit s u) : NoExit s (if c then t else u) := by
  split
  · exact h
  · exact k
theorem noExit_forEach {α : Type} (l : List α) {f : α → State → State} (h : ∀ y s, NoExit s (f y s)) (s : State) :
    NoExit s (forEach l f s) := forEach_keeps (P := NoExit s) l (fun y _ u hu => hu.trans (h y u)) s (.refl s)

section
variable (x : Nat) (s : State)

theorem vFollow_log : (vFollow x s).log = s.log := by
  obtain ⟨fb, good, h⟩ := vFollow_eq x s
  rw [h]
  unfold vFollowed
  rw [vSet_log, wrB_log]
theorem bankRefresh_log : (bankRefresh x s).log = s.log := by
  simp only [bankRefresh, wrB_log, wrN_log, vFollow_log]
theorem mRefresh_log : (mRefresh x s).log = s.log := by
  simp only [mRefresh, wrB_log, wrF_log]

theorem noExit_vStop : NoExit s (vStop x s) := by
  have hwait : NoExit s (vIset x 0 (vUnwait x s)) := noExit_wrF (vUnwait x s) _ _ _ _
  have hunderate : ∀ u, NoExit u (vUnderate x u) := fun u =>
    noExit_ite _ ((noExit_wrB u _ _ _).trans (noExit_raise (by decide) _ _ _ _)) (.refl u)
  unfold vStop
  exact (hwait.trans (hunderate _)).trans (noExit_of_log (vSet_log ..))
theorem noExit_vForce : NoExit s (vForce x s) := by
  unfold vForce
  refine noExit_ite _ (noExit_ite _ (noExit_ite _ (.refl s) ?_) (noExit_ite _ ?_ (.refl s))) (.refl s)
  · refine .trans ?_ (noExit_of_log (bankRefresh_log _ _))
    exact ((noExit_vStop x s).trans (noExit_wrF _ _ _ _ _)).trans (noExit_wrB _ _ _ _)
  · exact (noExit_wrF _ _ _ _ _).trans (noExit_of_log (bankRefresh_log _ _))

theorem noExit_mLeave : NoExit s (mLeave x s) := noExit_ite _ (noExit_raise (by decide) _ _ _ s) (.refl s)
theorem noExit_mUnmark : NoExit s (mUnmark x s) := by
  unfold mUnmark
  split
  · exact .refl s
  · refine noExit_ite _ (.refl s) ?_
    dsimp only
    intro e he _
    rw [mSet_log] at he
    have hbefore := (List.mem_filter.mp he).1
    rwa [wr_log, wr_log, wr_log] at hbefore
theorem noExit_mRefresh : NoExit s (mRefresh x s) := noExit_of_log (mRefresh_log x s)
theorem noExit_mIdle : NoExit s (mIdle x s) := by
  unfold mIdle
  refine .trans (noExit_mLeave x s) (.trans (noExit_of_log ?_) (noExit_mRefresh x _))
  simp only [mFault, mPutD, wrF_log, mSet_log]
theorem noExit_mKick : NoExit s (mKick x s) := by
  unfold mKick
  refine .trans (noExit_of_log ?_) (noExit_mRefresh x _)
  simp only [mPutD, wrF_log, mSet_log]
theorem noExit_mDutyTo (n : Nat) : NoExit s (mDutyTo x n s) :=
  noExit_ite _ (noExit_mKick x s) ((noExit_wrF s _ _ _ n).trans (noExit_mRefresh x _))
theorem noExit_mSafeEnter : NoExit s (mSafeEnter x s) := by
  refine noExit_ite _ (.refl s) <| noExit_ite _ (noExit_mIdle x s) <| noExit_ite _ (noExit_mKick x s) <|
    noExit_ite _ (noExit_mDutyTo x s _) <| noExit_ite _ ?_ (noExit_mRefresh x s)
  exact (noExit_mLeave x s).trans (.trans (noExit_of_log (mSet_log ..)) (noExit_mDutyTo x _ _))
theorem noExit_mSafeSync : NoExit s (mSafeSync x s) :=
  noExit_ite _ (.trans (noExit_of_log (mSet_log ..)) <|
    noExit_ite _ (noExit_mSafeEnter x _) <| noExit_ite _ (noExit_mIdle x _) (noExit_mRefresh x _)) (.refl s)
theorem noExit_mForce : NoExit s (mForce x s) := by
  have harm : ∀ u, NoExit u (if mCfg u x 24 then u else mArm x false u) := fun u => noExit_ite _ (.refl u) (noExit_wrB u _ _ _)
  have hsafe : ∀ u, NoExit u (if mSafe u x then mSafeEnter x u else u) := fun u => noExit_ite _ (noExit_mSafeEnter x u) (.refl u)
  have hidle : ∀ u, NoExit u (if (mOf s x).ph = 5 then mRefresh x u else mIdle x u) := fun u =>
    noExit_ite _ (noExit_mRefresh x u) (noExit_mIdle x u)
  refine noExit_ite _ (noExit_ite _ (.refl s) (noExit_ite _ ?_ ?_)) (.refl s)
  · refine .trans (.trans (.trans (noExit_mUnmark x s) (noExit_mLeave x _)) ?_) (noExit_mRefresh x _)
    refine noExit_of_log ?_
    simp only [mPutD, wrF_log, mSet_log]
  · exact .trans (noExit_of_log (mSet_log ..)) (.trans (hidle _) (.trans (harm _) (hsafe _)))

end

theorem noExit_bstStop (k : Nat) (s : State) : NoExit s (bstStop k s) := by
  unfold bstStop
  exact (noExit_wrB s _ _ _).trans (noExit_of_log (bstSet_log ..))

/-- Judging the drive raises no SAFE_EXIT. -/
theorem noExit_driveJudge (s : State) : NoExit s (driveJudge s) := by
  have hvalves : NoExit s (vForceAll s) := noExit_forEach (List.range 24) noExit_vForce s
  have hmotors : ∀ u, NoExit u (motJudge u) := fun u =>
    noExit_forEach (List.range 16) (fun x v => (noExit_mForce x v).trans (noExit_mSafeSync x _)) u
  have hboost : ∀ u, NoExit u (bstJudge u) := fun u =>
    noExit_forEach (List.range 4) (fun k v => noExit_ite _ (.refl v) (noExit_bstStop k v)) u
  rw [driveJudge_eq]
  exact (hvalves.trans (hmotors _)).trans (hboost _)

/-! ### Sequences in SAFE (R275) -/

/-- RSTATE of a sequence once SAFE is entered: RUNNING becomes HALTED. -/
def haltedR (r : Nat) : Nat := if r = 1 then 2 else r

theorem seqR_congr {s t : State} {n : Nat} (h : rd t (Reg.SV_SEQ_STAT n) = rd s (Reg.SV_SEQ_STAT n)) : seqR t n = seqR s n := by
  unfold seqR rdF; rw [h]

/-- The RSTATE word of a sequence is no word of the drive, nor one of the start or of the causes. -/
theorem seqStat_apart {n : Nat} (hn : n < 8) : ¬driveStatus (wordBase (Reg.SV_SEQ_STAT n))
    ∧ ∀ a ∈ [Reg.SV_BOOT_STAT, Reg.SV_BOOT_SAFE_CAUSE, Reg.SV_BOOT_SAFE_HIST], wordBase a ≠ wordBase (Reg.SV_SEQ_STAT n) := by
  have hall : ∀ n < 8, wordBase (Reg.SV_SEQ_STAT n) / winSize = 0
      ∧ ∀ a ∈ [Reg.SV_BOOT_STAT, Reg.SV_BOOT_SAFE_CAUSE, Reg.SV_BOOT_SAFE_HIST], wordBase a ≠ wordBase (Reg.SV_SEQ_STAT n) := by decide
  obtain ⟨hdie, hne⟩ := hall n hn
  exact ⟨by unfold driveStatus; omega, hne⟩

theorem seqR_driveJudge {n : Nat} (hn : n < 8) (s : State) : seqR (driveJudge s) n = seqR s n :=
  seqR_congr ((driveFrame_driveJudge s).words _ (seqStat_apart hn).1)

theorem seqR_seqHalt_same (n : Nat) (s : State) : seqR (seqHalt n s) n = haltedR (seqR s n) := by
  unfold seqHalt haltedR
  dsimp only
  split
  · exact rdF_wrF_same _ _ 31 30 2 (by decide) (by decide)
  · exact rfl
theorem seqR_seqHalt_ne {m n : Nat} (h : m ≠ n) (s : State) : seqR (seqHalt m s) n = seqR s n := by
  have hne : wordBase (Reg.SV_SEQ_STAT m) ≠ wordBase (Reg.SV_SEQ_STAT n) := by simp only [wordBase, Reg.SV_SEQ_STAT]; omega
  unfold seqHalt
  dsimp only
  split
  · exact seqR_congr (rd_wr_ne _ _ hne)
  · exact rfl

/-- Entering SAFE halts every sequence that runs. -/
theorem seqR_safeEnter {n : Nat} (hn : n < 8) (s : State) : seqR (safeEnter s) n = haltedR (seqR s n) := by
  have hset : seqR (safeSet s) n = seqR s n := seqR_congr (rd_wr_ne _ _ ((seqStat_apart hn).2 _ (by decide)))
  rw [safeEnter_eq, seqR_driveJudge hn]
  exact forEach_establishes (Pre := fun u => seqR u n = seqR s n) (Post := fun u => seqR u n = haltedR (seqR s n)) (List.range 8)
    (List.mem_range.mpr hn) List.nodup_range (fun m _ hm u hu => (seqR_seqHalt_ne hm u).trans hu)
    (fun u hu => by rw [seqR_seqHalt_same, hu]) (fun m _ hm u hu => (seqR_seqHalt_ne hm u).trans hu) _ hset

theorem seqHalt_only {n : Nat} (hn : n < 8) (s : State) : seqHalt n s = { s with regs := (seqHalt n s).regs, seq := (seqHalt n s).seq }
    ∧ rd (seqHalt n s) Reg.SV_BOOT_SAFE_HIST = rd s Reg.SV_BOOT_SAFE_HIST := by
  have hreg : ∀ n < 8, usesMem (wordBase (Reg.SV_SEQ_STAT n)) = false := by decide
  unfold seqHalt
  dsimp only
  split
  · unfold seqRPut wrF
    exact ⟨by rw [wr_register (hreg n hn)]; rfl, rd_wr_ne _ _ (Ne.symm ((seqStat_apart hn).2 _ (by decide)))⟩
  · exact ⟨rfl, rfl⟩

/-- Entering SAFE notes its instant, raises nothing itself but what the drive does, and leaves the history of causes. -/
theorem safeEnter_notes (s : State) : (safeEnter s).boot.safeAt = s.clk.tb0
    ∧ rd (safeEnter s) Reg.SV_BOOT_SAFE_HIST = rd s Reg.SV_BOOT_SAFE_HIST
    ∧ ∀ e ∈ s.log.raised, ¬(0x0601 ≤ e.code ∧ e.code ≤ 0x0603) → e ∈ (safeEnter s).log.raised := by
  have hset : (safeSet s).boot.safeAt = s.clk.tb0 ∧ rd (safeSet s) Reg.SV_BOOT_SAFE_HIST = rd s Reg.SV_BOOT_SAFE_HIST
      ∧ (safeSet s).log = s.log := by
    unfold safeSet wrF
    exact ⟨by rw [wr_boot], rd_wr_ne _ _ (by decide), by rw [wr_log]⟩
  have hhalt : ∀ u : State, (u.boot.safeAt = s.clk.tb0 ∧ rd u Reg.SV_BOOT_SAFE_HIST = rd s Reg.SV_BOOT_SAFE_HIST ∧ u.log = s.log) →
      ∀ n < 8, (seqHalt n u).boot.safeAt = s.clk.tb0 ∧ rd (seqHalt n u) Reg.SV_BOOT_SAFE_HIST = rd s Reg.SV_BOOT_SAFE_HIST
        ∧ (seqHalt n u).log = s.log := fun u ⟨hat, hhist, hlog⟩ n hn => by
    obtain ⟨honly, hword⟩ := seqHalt_only hn u
    exact ⟨by rw [honly]; exact hat, hword.trans hhist, by rw [honly]; exact hlog⟩
  obtain ⟨hat, hhist, hlog⟩ := forEach_keeps
    (P := fun u : State => u.boot.safeAt = s.clk.tb0 ∧ rd u Reg.SV_BOOT_SAFE_HIST = rd s Reg.SV_BOOT_SAFE_HIST ∧ u.log = s.log)
    (List.range 8) (fun n hn u hu => hhalt u hu n (List.mem_range.mp hn)) _ hset
  have hframe := driveFrame_driveJudge (forEach (List.range 8) seqHalt (safeSet s))
  rw [safeEnter_eq]
  refine ⟨by rw [hframe.frame]; exact hat, (hframe.words _ ?_).trans hhist, fun e he hc => hframe.raised e (by rw [hlog]; exact he) hc⟩
  have hdie : wordBase Reg.SV_BOOT_SAFE_HIST / winSize = 0 := by decide
  unfold driveStatus; omega

/-- A cause shown changes register words alone: its history rises by it, and no sequence moves. -/
theorem causeShown_words {m : Nat} (hm : m < 512) (s : State) : registersOnly s (causeShown m s)
    ∧ rdF (causeShown m s) Reg.SV_BOOT_SAFE_HIST 8 0 = rdF s Reg.SV_BOOT_SAFE_HIST 8 0 ||| m
    ∧ ∀ n < 8, seqR (causeShown m s) n = seqR s n := by
  unfold causeShown
  extract_lets t
  have honly : registersOnly s t := registersOnly_wr (a := Reg.SV_BOOT_SAFE_CAUSE) (by decide) s _
  have hhist : rd t Reg.SV_BOOT_SAFE_HIST = rd s Reg.SV_BOOT_SAFE_HIST := rd_wr_ne s _ (by decide)
  have hseq : ∀ n < 8, rd t (Reg.SV_SEQ_STAT n) = rd s (Reg.SV_SEQ_STAT n) := fun n hn =>
    rd_wr_ne s _ ((seqStat_apart hn).2 _ (by decide))
  have hlt : rdF t Reg.SV_BOOT_SAFE_HIST 8 0 ||| m < 2 ^ 9 := Nat.or_lt_two_pow (Nat.mod_lt _ (by decide)) hm
  clear_value t
  have honly' : registersOnly t (wrF t Reg.SV_BOOT_SAFE_HIST 8 0 (rdF t Reg.SV_BOOT_SAFE_HIST 8 0 ||| m)) :=
    registersOnly_wr (a := Reg.SV_BOOT_SAFE_HIST) (by decide) t _
  have hput : rdF (wrF t Reg.SV_BOOT_SAFE_HIST 8 0 (rdF t Reg.SV_BOOT_SAFE_HIST 8 0 ||| m)) Reg.SV_BOOT_SAFE_HIST 8 0
      = rdF s Reg.SV_BOOT_SAFE_HIST 8 0 ||| m := by
    rw [rdF_wrF_same t _ 8 0 _ (by decide) (by decide), Nat.mod_eq_of_lt hlt]
    unfold rdF
    rw [hhist]
  have hseq' : ∀ n < 8, rd (wrF t Reg.SV_BOOT_SAFE_HIST 8 0 (rdF t Reg.SV_BOOT_SAFE_HIST 8 0 ||| m)) (Reg.SV_SEQ_STAT n)
      = rd t (Reg.SV_SEQ_STAT n) := fun n hn => rd_wr_ne t _ ((seqStat_apart hn).2 _ (by decide))
  generalize wrF t Reg.SV_BOOT_SAFE_HIST 8 0 (rdF t Reg.SV_BOOT_SAFE_HIST 8 0 ||| m) = u at *
  exact ⟨registersOnly_trans (registersOnly_trans honly honly') rfl, hput, fun n hn => seqR_congr ((hseq' n hn).trans (hseq n hn))⟩

/-! ### SAFE entered, and a further cause in SAFE (R94, R275) -/

/-- SAFE entered by the cause of mask `m`. -/
def safeEntered (m : Nat) (s t : State) : Prop := devState t = 4 ∧ causes t = causes s ||| m
  ∧ rdF t Reg.SV_BOOT_SAFE_HIST 8 0 = rdF s Reg.SV_BOOT_SAFE_HIST 8 0 ||| m ∧ raisedEvent 0x0003 0 (w32 m) (w32 (devState s)) t
  ∧ (∀ n, n < 8 → seqR s n = 1 → seqR t n = 2) ∧ (∀ n, n < 8 → seqR s n ≠ 1 → seqR t n = seqR s n)
  ∧ t.boot.safeAt = s.clk.tb0 ∧ t.clk = s.clk ∧ t.loops = s.loops ∧ t.trk = s.trk ∧ t.nor = s.nor

/-- A cause logged in SAFE. -/
def safeStays (m : Nat) (s t : State) : Prop := devState t = 4 ∧ causes t = causes s ||| m ∧ raisedEvent 0x0003 0 (w32 m) 4 t
  ∧ t.clk = s.clk ∧ t.drv = s.drv ∧ t.seq = s.seq ∧ t.loops = s.loops

theorem safeEntered_causeSet {m : Nat} {s : State} (hm : m < 512) (hexit : exitNow s = none) (hnew : causes s &&& m ≠ m)
    (hruns : devState s = 2 ∨ devState s = 3) : safeEntered m s (causeSet m s) := by
  obtain ⟨hstate, hcauses, -, -, -, hevent⟩ := causeSet_shows hm hexit hnew hruns
  have hframe := causeFrame_causeSet hm s
  obtain ⟨honly, hhist, hseq⟩ := causeShown_words hm s
  obtain ⟨hat, hword, -⟩ := safeEnter_notes (causeShown m s)
  have hhalt : ∀ n < 8, seqR (causeSet m s) n = haltedR (seqR s n) := fun n hn => by
    rw [causeSet_enters hm hexit hnew hruns]
    exact (seqR_safeEnter hn (causeShown m s)).trans (congrArg haltedR (hseq n hn))
  refine ⟨hstate, hcauses, ?_, hevent, fun n hn h1 => by rw [hhalt n hn, h1]; rfl, fun n hn h1 => by rw [hhalt n hn]; exact if_neg h1, ?_,
    hframe.clk, hframe.loops, by rw [hframe.only], hframe.nor⟩
  · rw [causeSet_enters hm hexit hnew hruns, ← hhist]
    unfold rdF
    rw [rd_raiseN, hword]
  · rw [causeSet_enters hm hexit hnew hruns]
    exact hat.trans (by rw [honly])

theorem exitNow_inSafe {s : State} (h : devState s = 4) : exitNow s = none := by
  unfold exitNow
  split
  · exact if_neg (by omega)
  · rfl

/-- A new cause in SAFE is shown, noted and logged. -/
theorem causeAdd_inSafe {m : Nat} {s : State} (hm : m < 512) (hnew : causes s &&& m ≠ m) (hsafe : devState s = 4) :
    safeStays m s (causeAdd m s) ∧ NoExit s (causeAdd m s) ∧ ∀ e ∈ s.log.raised, e ∈ (causeAdd m s).log.raised := by
  obtain ⟨hstate, hcauses, -⟩ := causeShown_shows hm s
  obtain ⟨honly, -⟩ := causeShown_words hm s
  rw [causeAdd_new hm hnew, if_neg (by omega), if_pos hsafe]
  generalize causeShown m s = u at *
  have hlog := registersOnly_log honly
  refine ⟨⟨hstate.trans hsafe, hcauses, raisedEvent_raise _ _ _ _ _, ?_, ?_, ?_, ?_⟩,
    fun e he hc => hlog ▸ noExit_raise (by decide) _ _ _ _ e he hc, fun e he => mem_raise (hlog ▸ he)⟩
  · rw [honly]; rfl
  · rw [honly]; rfl
  · rw [honly]; rfl
  · rw [honly]; rfl

theorem safeStays_causeSet {m : Nat} {s : State} (hm : m < 512) (hnew : causes s &&& m ≠ m) (hsafe : devState s = 4) :
    safeStays m s (causeSet m s) := by
  unfold causeSet
  rw [exitNow_inSafe hsafe]
  exact (causeAdd_inSafe hm hnew hsafe).1

/-- A command whose effect is a new cause, once what it has logged and renewed is there. -/
theorem cause_enters {i : Instr} {f : State → State} {m : Nat} {s : State} {l : LogSt} {p : PortSt} (hm : m < 512) (hpos : m ≠ 0)
    (hnew : causes s &&& m = 0) (hexec : exec i s = run f s) (heff : f s = causeSet m { s with log := l, port := p }) :
    (devState s = 2 ∨ devState s = 3 → exitNow s = none → ∃ t, exec i s = .next t ∧ safeEntered m s t)
    ∧ (devState s = 4 → ∃ t, exec i s = .next t ∧ safeStays m s t) := by
  obtain ⟨v, hv⟩ : ∃ v : State, v = { s with log := l, port := p } := ⟨_, rfl⟩
  have hsame : devState v = devState s ∧ causes v = causes s ∧ exitNow v = exitNow s := by rw [hv]; exact ⟨rfl, rfl, rfl⟩
  obtain ⟨hstate, hcauses, hexit⟩ := hsame
  have hclk : v.clk = s.clk := by rw [hv]
  have hpending : v.pending = s.pending := by rw [hv]
  have hnew' : causes v &&& m ≠ m := by rw [hcauses, hnew]; exact hpos.symm
  have hframe := causeFrame_causeSet hm v
  have hnext : exec i s = .next (causeSet m v) :=
    hexec.trans (run_eq_next (by rw [heff, hv]) (hframe.clk.trans hclk) (hframe.pending.trans hpending))
  refine ⟨fun hruns hnone => ⟨_, hnext, ?_⟩, fun hsafe => ⟨_, hnext, ?_⟩⟩
  · have h := safeEntered_causeSet hm (hexit.trans hnone) hnew' (hstate.symm ▸ hruns)
    generalize causeSet m v = t at *
    subst hv
    exact h
  · have h := safeStays_causeSet hm hnew' (hstate.trans hsafe)
    generalize causeSet m v = t at *
    subst hv
    exact h

/-! ### The owner's request (R94) -/

theorem exec_safeReq {p : PortId} {s : State} (hw : mayWrite p Reg.SV_BOOT_CTRL s) (hnew : causes s &&& 0x10 = 0) :
    (devState s = 2 ∨ devState s = 3 → exitNow s = none → ∃ t, exec (.safeReq p) s = .next t ∧ safeEntered 0x10 s t)
    ∧ (devState s = 4 → ∃ t, exec (.safeReq p) s = .next t ∧ safeStays 0x10 s t) := by
  have hport : renewLease p s = { s with log := s.log, port := (renewLease p s).port } := renewLease_only p s
  have heff : ownerWrite p Reg.SV_BOOT_CTRL opSafeReq s
      = causeSet 0x10 { s with log := s.log, port := (renewLease p s).port } := by
    rw [← hport]
    exact ownerWrite_taken hw (causeSet 0x10)
  exact cause_enters (by decide) (by decide) hnew rfl heff

/-! ### A lockstep fault outside TRIAL (Table 03-15, R97, R451) -/

/-- What a lockstep fault raises before its cause is judged. -/
def lockstepRaised (pc : Nat) (s : State) : State := raise 0x000B 0 (w32 pc) (s.clk.tb0.extractLsb' 0 32) s

theorem rdB_of_rdF {s t : State} {a i : Nat} (h : rdF t a i i = rdF s a i i) : rdB t a i = rdB s a i := by
  have hbit : ∀ w : Word, bit w i = (bits w i i).testBit 0 := fun w => by rw [testBit_bits]; simp [bit]
  unfold rdB
  rw [hbit, hbit]
  exact congrArg (Nat.testBit · 0) h

theorem effLockstepFault_eq {s : State} (pc : Nat) (hup : diesUp s = true) (htrial : rdB s Reg.SV_BOOT_STAT 10 = false)
    (hconfirm : confirmedNow s = false) : effLockstepFault pc s = causeSet 0x40 (lockstepRaised pc s) := by
  have hframe := causeFrame_causeSet (m := 0x40) (by decide) (lockstepRaised pc s)
  have htrial' : inTrial (causeSet 0x40 (lockstepRaised pc s)) = false :=
    (rdB_of_rdF (hframe.stat 10 10 (by decide) (by decide))).trans htrial
  have hconfirm' : confirmedNow (causeSet 0x40 (lockstepRaised pc s)) = false := by
    unfold confirmedNow
    rw [hframe.only]
    exact hconfirm
  have heq : effLockstepFault pc s = if inTrial (causeSet 0x40 (lockstepRaised pc s)) || confirmedNow (causeSet 0x40 (lockstepRaised pc s))
      then trialFail 5 none (causeSet 0x40 (lockstepRaised pc s)) else causeSet 0x40 (lockstepRaised pc s) := if_pos hup
  rw [heq, htrial', hconfirm']
  rfl

theorem exec_lockstepFault {s : State} (pc : Nat) (hup : diesUp s = true) (htrial : rdB s Reg.SV_BOOT_STAT 10 = false)
    (hconfirm : confirmedNow s = false) : exec (.lockstepFault pc) s = .next (causeSet 0x40 (lockstepRaised pc s)) := by
  have hframe := causeFrame_causeSet (m := 0x40) (by decide) (lockstepRaised pc s)
  exact run_eq_next (effLockstepFault_eq pc hup htrial hconfirm) hframe.clk hframe.pending

/-! #### A resume of the same tick (R97) -/

/-- SAFE with the resume's mark taken back, before its causes and its state are shown. -/
def exitBack (x : ExitMark) (s : State) : State :=
  { s with
    log := { s.log with raised := s.log.raised.filter fun e => !decide (e.tick = x.at0 ∧ e.code = 0x0004) }
    seq := x.seq
    boot := { s.boot with safeAt := x.safeAt, safeFrom := x.safeFrom, seen := x.seen, clearAt := x.clearAt, exit := none } }

theorem exitUndo_eq (x : ExitMark) (s : State) : exitUndo x s
    = driveJudge (wrF (wrF (exitBack x s) Reg.SV_BOOT_SAFE_CAUSE 8 0 (causes s ||| x.causes)) Reg.SV_BOOT_STAT 2 0 4) := rfl

/-- SAFE stands as before the resume: its SAFE_EXIT is gone, and every other event is there. -/
theorem exitUndo_shows (x : ExitMark) (s : State) : devState (exitUndo x s) = 4
    ∧ (x.causes < 512 → causes (exitUndo x s) = causes s ||| x.causes) ∧ (exitUndo x s).seq = x.seq
    ∧ (∀ e ∈ (exitUndo x s).log.raised, ¬(e.tick = x.at0 ∧ e.code = 0x0004))
    ∧ ∀ e ∈ s.log.raised, e.code = 0x000B → e ∈ (exitUndo x s).log.raised := by
  have hcauses : x.causes < 512 → causes (wrF (exitBack x s) Reg.SV_BOOT_SAFE_CAUSE 8 0 (causes s ||| x.causes)) = causes s ||| x.causes :=
    fun hx => (rdF_wrF_same _ _ 8 0 _ (by decide) (by decide)).trans (Nat.mod_eq_of_lt (Nat.or_lt_two_pow (causes_lt s) hx))
  have hlog : (wrF (exitBack x s) Reg.SV_BOOT_SAFE_CAUSE 8 0 (causes s ||| x.causes)).log = (exitBack x s).log := wrF_log ..
  have hseq : (wrF (exitBack x s) Reg.SV_BOOT_SAFE_CAUSE 8 0 (causes s ||| x.causes)).seq = x.seq := wrF_seq ..
  have hraised : (exitBack x s).log.raised = s.log.raised.filter fun e => !decide (e.tick = x.at0 ∧ e.code = 0x0004) := rfl
  rw [exitUndo_eq]
  generalize wrF (exitBack x s) Reg.SV_BOOT_SAFE_CAUSE 8 0 (causes s ||| x.causes) = u at *
  have hstate : devState (wrF u Reg.SV_BOOT_STAT 2 0 4) = 4 := rdF_wrF_same u _ 2 0 4 (by decide) (by decide)
  have hkept : causes (wrF u Reg.SV_BOOT_STAT 2 0 4) = causes u := by unfold causes rdF; rw [rd_wrF_ne _ _ _ _ (by decide)]
  have hlog' : (wrF u Reg.SV_BOOT_STAT 2 0 4).log = u.log := wrF_log ..
  have hseq' : (wrF u Reg.SV_BOOT_STAT 2 0 4).seq = u.seq := wrF_seq ..
  generalize wrF u Reg.SV_BOOT_STAT 2 0 4 = v at *
  obtain ⟨hstate', hcauses'⟩ := driveJudge_states v
  obtain ⟨-, -, -, hseq'', -⟩ := driveJudge_only v
  have hv : v.log.raised = s.log.raised.filter fun e => !decide (e.tick = x.at0 ∧ e.code = 0x0004) := by rw [hlog', hlog, hraised]
  refine ⟨hstate'.trans hstate, fun hx => hcauses'.trans (hkept.trans (hcauses hx)), hseq''.trans (hseq'.trans hseq),
    fun e he hexit => ?_, fun e he hc => ?_⟩
  · have hbefore := noExit_driveJudge v e he hexit.2
    rw [hv] at hbefore
    have hpassed := (List.mem_filter.mp hbefore).2
    simp only [hexit, and_self, decide_true, Bool.not_true, Bool.false_eq_true] at hpassed
  · refine (driveFrame_driveJudge v).raised e ?_ (by omega)
    rw [hv]
    exact List.mem_filter.mpr ⟨he, by simp [hc]⟩

theorem noExit_countS (a hi lo ovf : Nat) (s : State) : NoExit s (countS a hi lo ovf s) := by
  have hset : ∀ u, NoExit u (hwSet u a ovf) := fun u => noExit_of_log (hwSet_log ..)
  unfold countS
  exact noExit_ite _ (.refl s) (noExit_ite _ (((noExit_wrF s _ _ _ _).trans (hset _)).trans (noExit_raise (by decide) _ _ _ _))
    (noExit_wrF s _ _ _ _))
theorem noExit_logViol (p : PortId) (cmd : Nat) (st : Status) (a : Nat) (s : State) : NoExit s (logViol p cmd st a s) := by
  have hset : ∀ u, NoExit u (hwSet u Reg.SV_OWN_ATTN 7) := fun u => noExit_of_log (hwSet_log ..)
  unfold logViol
  exact ((((noExit_wr s _ _).trans (noExit_wr _ _ _)).trans (noExit_countS _ _ _ _ _)).trans (hset _)).trans
    (noExit_raise (by decide) _ _ _ _)

/-- The resume judged after the cause: nothing where no port wrote it, else its refusal, logged. -/
theorem exitRefused_cases (x : ExitMark) (s : State) : exitRefused x s = s
    ∨ ∃ p l, exitRefused x s = logViol p 2 .refused Reg.SV_BOOT_CTRL (resumeRefused (portCode p) { s with port := l }) := by
  unfold exitRefused
  split
  · exact .inl rfl
  · next p hp =>
    right
    dsimp only
    split
    · split
      · exact ⟨p, _, rfl⟩
      · exact ⟨p, s.port, rfl⟩
    · exact ⟨p, s.port, rfl⟩

/-- It moves no sequence, and takes no event back. -/
theorem exitRefused_keeps (x : ExitMark) (s : State) : (exitRefused x s).seq = s.seq ∧ NoExit s (exitRefused x s)
    ∧ ∀ e ∈ s.log.raised, e ∈ (exitRefused x s).log.raised := by
  rcases exitRefused_cases x s with heq | ⟨p, l, heq⟩
  · rw [heq]
    exact ⟨rfl, .refl s, fun _ h => h⟩
  · have hraise : (resumeRefused (portCode p) { s with port := l }).seq = s.seq
        ∧ NoExit s (resumeRefused (portCode p) { s with port := l })
        ∧ ∀ e ∈ s.log.raised, e ∈ (resumeRefused (portCode p) { s with port := l }).log.raised :=
      ⟨rfl, noExit_raise (by decide) _ _ _ { s with port := l }, fun _ h => mem_raise h⟩
    obtain ⟨hseq, hnone, hkept⟩ := hraise
    rw [heq]
    generalize resumeRefused (portCode p) { s with port := l } = u at *
    obtain ⟨-, -, hwithin⟩ := logViol_refused p Reg.SV_BOOT_CTRL u
    exact ⟨by rw [hwithin.only]; exact hseq, hnone.trans (noExit_logViol _ _ _ _ u), fun e he => hwithin.raised e (hkept e he)⟩

theorem or_eq_left_of_and_eq {c m : Nat} (h : c &&& m = m) : c ||| m = c := by
  refine Nat.eq_of_testBit_eq fun i => ?_
  have hbit := congrArg (Nat.testBit · i) h
  simpa using hbit

/-- A cause present or new in SAFE. -/
theorem causeAdd_safe {m : Nat} {s : State} (hm : m < 512) (hsafe : devState s = 4) : devState (causeAdd m s) = 4
    ∧ causes (causeAdd m s) = causes s ||| m ∧ (causeAdd m s).seq = s.seq ∧ NoExit s (causeAdd m s)
    ∧ ∀ e ∈ s.log.raised, e ∈ (causeAdd m s).log.raised := by
  by_cases hnew : causes s &&& m = m
  · rw [show causeAdd m s = s from if_pos hnew]
    exact ⟨hsafe, (or_eq_left_of_and_eq hnew).symm, rfl, .refl s, fun _ h => h⟩
  · obtain ⟨⟨hstate, hcauses, -, -, -, hseq, -⟩, hnone, hkept⟩ := causeAdd_inSafe hm hnew hsafe
    exact ⟨hstate, hcauses, hseq, hnone, hkept⟩

/-- A cause that no resume clears takes back the resume of its tick: SAFE has not been left (R97). -/
theorem causeSet_takesBack {m : Nat} {x : ExitMark} {s : State} (hm : m < 512) (hhard : m &&& resumable ≠ m) (hexit : exitNow s = some x) :
    devState (causeSet m s) = 4 ∧ (x.causes < 512 → causes (causeSet m s) = causes s ||| x.causes ||| m) ∧ (causeSet m s).seq = x.seq
      ∧ (∀ e ∈ (causeSet m s).log.raised, ¬(e.tick = x.at0 ∧ e.code = 0x0004))
      ∧ ∀ e ∈ s.log.raised, e.code = 0x000B → e ∈ (causeSet m s).log.raised := by
  have heq : causeSet m s = exitRefused x (causeAdd m (exitUndo x s)) := by
    unfold causeSet
    rw [hexit]
    exact if_neg hhard
  obtain ⟨hstate, hcauses, hseq, hgone, hkept⟩ := exitUndo_shows x s
  obtain ⟨hstate', hcauses', hseq', hnone, hkept'⟩ := causeAdd_safe hm hstate
  obtain ⟨-, hcr, hsr⟩ := exitRefused_shows x (causeAdd m (exitUndo x s))
  obtain ⟨hseqr, hnoner, hkeptr⟩ := exitRefused_keeps x (causeAdd m (exitUndo x s))
  rw [heq]
  refine ⟨hsr.trans hstate', fun hx => hcr.trans (hcauses'.trans (by rw [hcauses hx])), hseqr.trans (hseq'.trans hseq), fun e he hex => ?_,
    fun e he hc => hkeptr e (hkept' e (hkept e he hc))⟩
  exact hgone e ((hnone.trans hnoner) e he hex.2) hex

theorem exitNow_at0 {x : ExitMark} {s : State} (h : exitNow s = some x) : x.at0 = s.clk.tb0 := by
  unfold exitNow at h
  split at h
  · split at h
    · next y hy hnow => exact Option.some.inj h ▸ hnow.1
    · exact absurd h nofun
  · exact absurd h nofun

/-- A cause judged takes back no event but those of a motion channel. -/
theorem raised_causeAdd {m : Nat} {s : State} (hm : m < 512) {e : Ev} (he : e ∈ s.log.raised) (hc : ¬(0x0601 ≤ e.code ∧ e.code ≤ 0x0603)) :
    e ∈ (causeAdd m s).log.raised := by
  by_cases hnew : causes s &&& m = m
  · rwa [show causeAdd m s = s from if_pos hnew]
  · have hlog := registersOnly_log (causeShown_words hm s).1
    rw [causeAdd_new hm hnew]
    split
    · exact mem_raise ((safeEnter_notes _).2.2 e (hlog ▸ he) hc)
    · split
      · exact mem_raise (hlog ▸ he)
      · exact hlog ▸ he

/-- A lockstep fault is raised and stays so, whatever resume its cause meets. -/
theorem raised_lockstepFault (pc : Nat) (s : State) :
    raisedEvent 0x000B 0 (w32 pc) (s.clk.tb0.extractLsb' 0 32) (causeSet 0x40 (lockstepRaised pc s)) := by
  obtain ⟨e, he, hc, hfields⟩ := raisedEvent_raise 0x000B 0 (w32 pc) (s.clk.tb0.extractLsb' 0 32) s
  refine ⟨e, ?_, hc, hfields⟩
  have hraised : e ∈ (lockstepRaised pc s).log.raised := he
  cases hexit : exitNow (lockstepRaised pc s) with
  | none =>
    have heq : causeSet 0x40 (lockstepRaised pc s) = causeAdd 0x40 (lockstepRaised pc s) := by unfold causeSet; rw [hexit]
    rw [heq]
    exact raised_causeAdd (by decide) hraised (by omega)
  | some x => exact (causeSet_takesBack (by decide) (by decide) hexit).2.2.2.2 e hraised hc

theorem exec_lockstepFault_takesBack {s : State} {x : ExitMark} (pc : Nat) (hup : diesUp s = true)
    (htrial : rdB s Reg.SV_BOOT_STAT 10 = false) (hconfirm : confirmedNow s = false) (hexit : exitNow s = some x) (hx : x.causes < 512) :
    ∃ t, exec (.lockstepFault pc) s = .next t ∧ devState t = 4 ∧ causes t = causes s ||| x.causes ||| 0x40 ∧ t.seq = x.seq
      ∧ ∀ e ∈ t.log.raised, ¬(e.tick = s.clk.tb0 ∧ e.code = 0x0004) := by
  have hexit' : exitNow (lockstepRaised pc s) = some x := hexit
  obtain ⟨hstate, hcauses, hseq, hgone, -⟩ := causeSet_takesBack (m := 0x40) (by decide) (by decide) hexit'
  exact ⟨_, exec_lockstepFault pc hup htrial hconfirm, hstate, hcauses hx, hseq, by rwa [exitNow_at0 hexit] at hgone⟩

theorem exec_lockstepFault_enters {s : State} (pc : Nat) (hup : diesUp s = true) (htrial : rdB s Reg.SV_BOOT_STAT 10 = false)
    (hconfirm : confirmedNow s = false) (hnew : causes s &&& 0x40 = 0) :
    (devState s = 2 ∨ devState s = 3 → exitNow s = none → ∃ t, exec (.lockstepFault pc) s = .next t ∧ safeEntered 0x40 s t)
    ∧ (devState s = 4 → ∃ t, exec (.lockstepFault pc) s = .next t ∧ safeStays 0x40 s t) := by
  have heff : effLockstepFault pc s = causeSet 0x40 { s with log := (lockstepRaised pc s).log, port := s.port } :=
    effLockstepFault_eq pc hup htrial hconfirm
  exact cause_enters (by decide) (by decide) hnew rfl heff

/-! ### Resumes (R93, R96) -/

theorem rd_causeClear_stat (m : Nat) (s : State) : rd (causeClear m s) Reg.SV_BOOT_STAT = rd s Reg.SV_BOOT_STAT := by
  unfold causeClear
  dsimp only
  split
  · rfl
  · exact rd_wr_ne s _ (by decide)
theorem safeAt_causeClear (m : Nat) (s : State) : (causeClear m s).boot.safeAt = s.boot.safeAt := by
  unfold causeClear
  dsimp only
  split <;> rfl
theorem seq_causeClear (m : Nat) (s : State) : (causeClear m s).seq = s.seq ∧ ∀ n < 8, seqR (causeClear m s) n = seqR s n := by
  unfold causeClear
  dsimp only
  split
  · exact ⟨rfl, fun _ _ => rfl⟩
  · exact ⟨wrF_seq .., fun n hn => seqR_congr (rd_wr_ne s _ ((seqStat_apart hn).2 _ (by decide)))⟩

theorem seqResume_only (n : Nat) (s : State) : seqResume n s = { s with seq := (seqResume n s).seq } := by
  unfold seqResume
  dsimp only
  split <;> rfl
theorem seqR_seqResume (m n : Nat) (s : State) : seqR (seqResume m s) n = seqR s n := by
  rw [seqResume_only]; rfl
theorem resumed_seqResume_same {n : Nat} {s : State} (h : seqR s n = 2) : (seqOf (seqResume n s) n).resumed = true := by
  unfold seqResume
  dsimp only
  rw [if_pos h, seqOf_seqSet_same]
theorem seqOf_seqResume_ne {m n : Nat} (h : m ≠ n) (s : State) : seqOf (seqResume m s) n = seqOf s n := by
  unfold seqResume
  dsimp only
  split <;> exact seqOf_seqSet_ne _ _ h

/-- The sequences as a resume reaches them: each keeps its RSTATE, and a halted one is resumed (R275). -/
theorem seqResumes_shows (s : State) : forEach (List.range 8) seqResume s = { s with seq := (forEach (List.range 8) seqResume s).seq }
    ∧ ∀ n < 8, seqR s n = 2 → (seqOf (forEach (List.range 8) seqResume s) n).resumed = true := by
  refine ⟨forEach_keeps (P := fun u => u = { s with seq := u.seq }) _ (fun n _ u hu => by rw [seqResume_only, hu]) s rfl, fun n hn h2 => ?_⟩
  exact forEach_establishes (Pre := fun u => seqR u n = 2) (Post := fun u => (seqOf u n).resumed = true) (List.range 8)
    (List.mem_range.mpr hn) List.nodup_range (fun m _ _ u hu => (seqR_seqResume m n u).trans hu) (fun u hu => resumed_seqResume_same hu)
    (fun m _ hm u hu => by rw [seqOf_seqResume_ne hm]; exact hu) s h2

/-- SAFE left by a resume of `who` (0: by the device itself). -/
def safeLeft (who : Nat) (s t : State) : Prop := devState t = (if rdB s Reg.SV_BOOT_STAT 10 then 2 else 3) ∧ causes t = 0
  ∧ raisedEvent 0x0004 0 (w32 who) (w32 (min 0xFFFFFFFF ((s.clk.tb0 - s.boot.safeAt).toNat / 100000000))) t
  ∧ (∀ n, n < 8 → seqR t n = seqR s n ∧ (seqR s n = 2 → (seqOf t n).resumed = true))
  ∧ t.clk = s.clk ∧ t.loops = s.loops ∧ t.nor = s.nor

/-- SAFE_EXIT raised, with the seconds since SAFE was entered. -/
def exitRaised (who : Nat) (s : State) : State :=
  raiseN 0x0004 0 who (min 0xFFFFFFFF ((s.clk.tb0 - s.boot.safeAt).toNat / secTicks)) s

theorem raisedEvent_exitRaised (who : Nat) {s u : State} (hclk : u.clk = s.clk) (hat : u.boot.safeAt = s.boot.safeAt) :
    raisedEvent 0x0004 0 (w32 who) (w32 (min 0xFFFFFFFF ((s.clk.tb0 - s.boot.safeAt).toNat / 100000000))) (exitRaised who u) := by
  rw [← hclk, ← hat]
  exact raisedEvent_raise 0x0004 0 (w32 who) _ u

/-- The causes that a resume clears are gone, its mark set and SAFE_EXIT raised (R96). -/
def resumeLogged (who : Nat) (x : ExitMark) (s : State) : State :=
  exitRaised who (causeClear resumable { s with boot := { s.boot with exit := some x } })

/-- The state that a resume leads to. -/
def resumeState (s : State) : Nat := if rdB s Reg.SV_BOOT_STAT 10 then 2 else 3

theorem safeExit_eq (who : Nat) (port : Option PortId) (s : State) : ∃ x, safeExit who port s
    = driveJudge (forEach (List.range 8) seqResume (wrF (resumeLogged who x s) Reg.SV_BOOT_STAT 2 0 (resumeState (resumeLogged who x s)))) :=
  ⟨_, rfl⟩

theorem resumeLogged_shows (who : Nat) (x : ExitMark) {s : State} (hclear : causes s &&& (0x1FF - resumable) = 0) :
    CauseFrame s (resumeLogged who x s) ∧ causes (resumeLogged who x s) = 0 ∧ resumeState (resumeLogged who x s) = resumeState s
      ∧ raisedEvent 0x0004 0 (w32 who) (w32 (min 0xFFFFFFFF ((s.clk.tb0 - s.boot.safeAt).toNat / 100000000))) (resumeLogged who x s)
      ∧ ∀ n < 8, seqR (resumeLogged who x s) n = seqR s n := by
  obtain ⟨b, hb, hat⟩ : ∃ b : State, b = { s with boot := { s.boot with exit := some x } } ∧ b.boot.safeAt = s.boot.safeAt :=
    ⟨_, rfl, rfl⟩
  have hmark : CauseFrame s b := hb ▸ causeFrame_boot rfl
  have hrd : ∀ a, rd b a = rd s a := fun a => by rw [hb]; rfl
  obtain ⟨hframe, hcauses, -⟩ := causeClear_shows (m := resumable) (by decide) b
  have hstat := rd_causeClear_stat resumable b
  have hat' := safeAt_causeClear resumable b
  obtain ⟨-, hseq⟩ := seq_causeClear resumable b
  unfold resumeLogged
  rw [← hb]
  generalize causeClear resumable b = u at *
  refine ⟨(hmark.trans hframe).trans (causeFrame_raise _ _ _ _ u), ?_, ?_,
    raisedEvent_exitRaised who (hframe.clk.trans hmark.clk) (hat'.trans hat), fun n hn => (hseq n hn).trans (seqR_congr (hrd _))⟩
  · have hb' : causes b = causes s := by unfold causes rdF; rw [hrd]
    exact hcauses.trans (by rw [hb', hclear])
  · show resumeState u = resumeState s
    unfold resumeState rdB
    rw [hstat, hrd]

/-- What a resume brings about whose causes are all among those it clears. -/
theorem safeExit_shows (who : Nat) (port : Option PortId) {s : State} (hclear : causes s &&& (0x1FF - resumable) = 0) :
    CauseFrame s (safeExit who port s) ∧ safeLeft who s (safeExit who port s) := by
  obtain ⟨x, heq⟩ := safeExit_eq who port s
  obtain ⟨hframe, hcauses, hto, hevent, hseq⟩ := resumeLogged_shows who x hclear
  rw [heq]
  generalize resumeLogged who x s = u at *
  have hset := causeFrame_devState (resumeState u) u
  have hstate : devState (wrF u Reg.SV_BOOT_STAT 2 0 (resumeState u)) = resumeState u := by
    refine (rdF_wrF_same u _ 2 0 _ (by decide) (by decide)).trans (Nat.mod_eq_of_lt ?_)
    unfold resumeState
    split <;> decide
  have hcauses' : causes (wrF u Reg.SV_BOOT_STAT 2 0 (resumeState u)) = causes u := by unfold causes rdF; rw [rd_wrF_ne _ _ _ _ (by decide)]
  have hlog : (wrF u Reg.SV_BOOT_STAT 2 0 (resumeState u)).log = u.log := wrF_log ..
  have hseq' : ∀ n < 8, seqR (wrF u Reg.SV_BOOT_STAT 2 0 (resumeState u)) n = seqR u n := fun n hn =>
    seqR_congr (rd_wr_ne u _ ((seqStat_apart hn).2 _ (by decide)))
  generalize wrF u Reg.SV_BOOT_STAT 2 0 (resumeState u) = v at *
  obtain ⟨honly, hresumed⟩ := seqResumes_shows v
  generalize forEach (List.range 8) seqResume v = w at *
  have hwseq : CauseFrame v w := honly ▸ causeFrame_seq w.seq v
  obtain ⟨hstate', hcauses''⟩ := driveJudge_states w
  have hw : devState w = devState v ∧ causes w = causes v ∧ w.log = v.log ∧ ∀ n, seqR w n = seqR v n := by
    rw [honly]; exact ⟨rfl, rfl, rfl, fun _ => rfl⟩
  obtain ⟨hwstate, hwcauses, hwlog, hwr⟩ := hw
  have hall := ((hframe.trans hset).trans hwseq).trans (causeFrame_driveJudge w)
  refine ⟨hall, (hstate'.trans (hwstate.trans hstate)).trans hto, hcauses''.trans (hwcauses.trans (hcauses'.trans hcauses)),
    raisedEvent_driveJudge (by decide) (raisedEvent_of_log hevent (by rw [hwlog, hlog])), fun n hn => ⟨?_, fun h2 => ?_⟩,
    hall.clk, hall.loops, hall.nor⟩
  · exact (seqR_driveJudge hn w).trans ((hwr n).trans ((hseq' n hn).trans (hseq n hn)))
  · have hjudge : seqOf (driveJudge w) n = seqOf w n := by unfold seqOf; rw [(driveJudge_only w).2.2.2.1]
    rw [hjudge]
    exact hresumed n hn ((hseq' n hn).trans ((hseq n hn).trans h2))

theorem exec_resume_leaves {p : PortId} {s : State} (hw : mayWrite p Reg.SV_BOOT_CTRL s) (hsafe : devState s = 4)
    (hclear : causes s &&& 0x14F = 0) : ∃ t, exec (.resume p) s = .next t ∧ safeLeft (portCode p) s t := by
  have hmay : mayResume s = true := decide_eq_true ⟨hsafe, hclear⟩
  have heff : ownerWrite p Reg.SV_BOOT_CTRL (opResume p) s = safeExit (portCode p) (some p) (renewLease p s) :=
    ownerWrite_accepted (f := safeExit (portCode p) (some p)) hw (if_pos hmay)
  have hport := renewLease_only p s
  obtain ⟨v, hv⟩ : ∃ v, v = renewLease p s := ⟨_, rfl⟩
  rw [← hv] at heff hport
  have hcauses : causes v = causes s := by rw [hport]; rfl
  obtain ⟨hframe, hleft⟩ := safeExit_shows (portCode p) (some p) (s := v) (by rw [hcauses]; exact hclear)
  generalize safeExit (portCode p) (some p) v = t at *
  refine ⟨t, run_eq_next heff (hframe.clk.trans (by rw [hport])) (hframe.pending.trans (by rw [hport])), ?_⟩
  rw [hport] at hleft
  exact hleft

theorem exec_resume_refused {p : PortId} {s : State} (hw : mayWrite p Reg.SV_BOOT_CTRL s)
    (hno : devState s ≠ 4 ∨ causes s &&& 0x14F ≠ 0) : ∃ t, exec (.resume p) s = .next t ∧ devState t = devState s ∧ causes t = causes s
      ∧ raisedEvent 0x000A 0 (w32 (if devState s = 4 then causes s else 0)) (w32 (portCode p)) t
      ∧ rdF t Reg.SV_VIOL_INFO 19 16 = 7 ∧ t = { s with regs := t.regs, hwset := t.hwset, log := t.log } := by
  have hmay : ¬(mayResume s = true) := by
    unfold mayResume
    rw [decide_eq_true_iff]
    exact fun h => hno.elim (fun hs => hs h.1) (fun hc => hc h.2)
  have heff : ownerWrite p Reg.SV_BOOT_CTRL (opResume p) s = logViol p 2 .refused Reg.SV_BOOT_CTRL (resumeRefused (portCode p) s) :=
    ownerWrite_refused (f := resumeRefused (portCode p)) hw (if_neg hmay)
  have hevent : raisedEvent 0x000A 0 (w32 (if devState s = 4 then causes s else 0)) (w32 (portCode p)) (resumeRefused (portCode p) s) :=
    raisedEvent_raise _ _ _ _ s
  have honly : resumeRefused (portCode p) s = { s with log := (resumeRefused (portCode p) s).log } := rfl
  have hstate : devState (resumeRefused (portCode p) s) = devState s ∧ causes (resumeRefused (portCode p) s) = causes s := ⟨rfl, rfl⟩
  generalize resumeRefused (portCode p) s = u at *
  obtain ⟨hinfo, -, hwithin⟩ := logViol_refused p Reg.SV_BOOT_CTRL u
  obtain ⟨-, hcauses', hstate'⟩ := causeFrame_logViol p Reg.SV_BOOT_CTRL u
  generalize logViol p 2 .refused Reg.SV_BOOT_CTRL u = t at *
  have hframe : t = { s with regs := t.regs, hwset := t.hwset, log := t.log } := by rw [hwithin.only, honly]
  obtain ⟨e, he, hfields⟩ := hevent
  exact ⟨t, run_eq_next heff (by rw [hframe]) (by rw [hframe]), hstate'.trans hstate.1, hcauses'.trans hstate.2,
    ⟨e, hwithin.raised e he, hfields⟩, hinfo, hframe⟩

/-- The device resumes by itself, its causes ended for the delay and all among those allowed (R96). -/
theorem exec_autoResume_due {s : State} (hsafe : devState s = 4) (hdelay : resumeDelay s ≠ 0) (hnone : causes s = 0)
    (hseen : s.boot.seen &&& (0x1FF - (rdF s Reg.SV_BOOT_RESUME_CFG 24 16 &&& 0x103)) = 0)
    (hlong : resumeDelay s * 100000000 ≤ (s.clk.tb0 - s.boot.clearAt).toNat) :
    ∃ t, exec .autoResume s = .next t ∧ safeLeft 0 s t := by
  have heff : effAutoResume s = safeExit 0 none s := if_pos ⟨hsafe, hdelay, hnone, hseen, hlong⟩
  obtain ⟨hframe, hleft⟩ := safeExit_shows 0 none (s := s) (by rw [hnone]; rfl)
  exact ⟨_, run_eq_next heff hframe.clk hframe.pending, hleft⟩

theorem exec_autoResume_notDue {s : State} (hno : devState s ≠ 4 ∨ resumeDelay s = 0 ∨ causes s ≠ 0
      ∨ s.boot.seen &&& (0x1FF - (rdF s Reg.SV_BOOT_RESUME_CFG 24 16 &&& 0x103)) ≠ 0
      ∨ (s.clk.tb0 - s.boot.clearAt).toNat < resumeDelay s * 100000000) : exec .autoResume s = .next s := by
  have hnot : ¬(devState s = 4 ∧ resumeDelay s ≠ 0 ∧ causes s = 0
      ∧ s.boot.seen &&& (0x1FF - (rdF s Reg.SV_BOOT_RESUME_CFG 24 16 &&& 0x103)) = 0
      ∧ resumeDelay s * secTicks ≤ (s.clk.tb0 - s.boot.clearAt).toNat) := by
    rintro ⟨hsafe, hdelay, hnone, hseen, hlong⟩
    rcases hno with h | h | h | h | h
    · exact h hsafe
    · exact hdelay h
    · exact h hnone
    · exact h hseen
    · exact absurd hlong (Nat.not_le.mpr h)
  exact run_eq_self (if_neg hnot)

/-- Settles O9: a cause by what it halts and what it takes back, a resume by the causes it meets. -/
theorem safeIsEnteredAndLeft : Obligations.SafeIsEnteredAndLeft := by
  unfold Obligations.SafeIsEnteredAndLeft
  intro s st enters leaves
  refine ⟨fun p hw hnew => exec_safeReq hw hnew, fun pc hup htrial hconfirm hnew => ⟨exec_lockstepFault_enters pc hup htrial hconfirm hnew,
      _, exec_lockstepFault pc hup htrial hconfirm, raised_lockstepFault pc s⟩,
    fun pc x hup htrial hconfirm hexit hx => exec_lockstepFault_takesBack pc hup htrial hconfirm hexit hx,
    fun p hw => ⟨exec_resume_leaves hw, exec_resume_refused hw⟩, ?_⟩
  intro delay allowed waited
  exact ⟨exec_autoResume_due, exec_autoResume_notDue⟩

end Sys2Proof.Machine.StartStates
end

section
/-!
PROOFS. The initialisation list: the words that its entries write, and its waits (R81 to R84).
-/
namespace Sys2Proof.Machine.StartStates
open Sys2Proof.Machine.GrainPlant Sys2Proof.Machine.PackageRails

/-! ### Words that the list writes (R81 to R83) -/

/-- Words that the list has written, and its note of them: nothing else differs. -/
structure ListWrote (s t : State) : Prop where
  only : t = { s with regs := t.regs, mem := t.mem, boot := t.boot }
  boot : t.boot = { s.boot with wrote := t.boot.wrote }

theorem ListWrote.refl (s : State) : ListWrote s s := ⟨rfl, rfl⟩
theorem ListWrote.trans {s t u : State} (h : ListWrote s t) (k : ListWrote t u) : ListWrote s u :=
  ⟨by rw [k.only, h.only], by rw [k.boot, h.boot]⟩
theorem listWrote_wr (a : Nat) (w : Word) (s : State) : ListWrote s (wr s a w) := by
  refine ⟨?_, by rw [wr_boot]⟩
  unfold wr
  dsimp only
  split <;> rfl

/-- The list's note of a word of the SV die that it writes (R77). -/
def wroteNoted (a : Nat) (s : State) : State :=
  if a < winSize then { s with boot := { s.boot with wrote := s.boot.wrote ++ [wordBase a] } } else s

theorem wroteNoted_shows (a : Nat) (s : State) : ListWrote s (wroteNoted a s) ∧ (∀ b, rd (wroteNoted a s) b = rd s b)
    ∧ hwBits (wroteNoted a s) a = hwBits s a := by
  unfold wroteNoted
  split
  · exact ⟨⟨rfl, rfl⟩, fun _ => rfl, rfl⟩
  · exact ⟨.refl s, fun _ => rfl, rfl⟩

/-- A memory word as a masked write leaves it. -/
def memPut (a : Nat) (v m w : Word) : Word := (w &&& ~~~(m &&& memMask a)) ||| (v &&& m &&& memMask a)
/-- A register word as a masked write leaves it, `hw` being the bits that hardware set in this tick. -/
def regPut (r : RegRow) (v m hw w : Word) : Word :=
  ((w &&& ~~~(m &&& (w32 r.cfg ||| w32 r.rw ||| w32 r.rws))) ||| (v &&& (m &&& (w32 r.cfg ||| w32 r.rw ||| w32 r.rws))))
    &&& ~~~(v &&& m &&& ~~~hw &&& w32 r.w1c)

theorem initPut_memory {a : Nat} (h : inMem a = true) (v m : Word) (s : State) :
    initPut a v m s = wr (wroteNoted a s) a (memPut a v m (rd s a)) := if_pos h

theorem initPut_register {a : Nat} {r : RegRow} (hmem : inMem a = false) (hz : isLoopZ a = false) (hrow : findRow a = some r) (v m : Word)
    (s : State) : initPut a v m s = wr (wroteNoted a s) a (regPut r v m (hwBits s a) (rd s a)) := by
  have heq : initPut a v m s = match findRow a with
      | none => wroteNoted a s
      | some r => wr (wroteNoted a s) a (regPut r v m (hwBits (wroteNoted a s) a) (rd s a)) :=
    (if_neg (by rw [hmem]; decide)).trans (if_neg (by rw [hz]; decide))
  rw [heq, hrow, (wroteNoted_shows a s).2.2]

/-- A word written by the list: its note of it, and the word. -/
theorem noted_wr_shows (a : Nat) (w : Word) (s : State) : ListWrote s (wr (wroteNoted a s) a w) ∧ rd (wr (wroteNoted a s) a w) a = w
    ∧ ∀ b, wordBase a ≠ wordBase b → rd (wr (wroteNoted a s) a w) b = rd s b := by
  obtain ⟨hnote, hrd, -⟩ := wroteNoted_shows a s
  exact ⟨hnote.trans (listWrote_wr a w _), rd_wr_same _ _ _, fun b hb => (rd_wr_ne _ w hb).trans (hrd b)⟩

theorem wordBase_ne_of_outside {a b : Nat} (ha : a % 4 = 0) (hb : b < a ∨ a + 4 ≤ b) : wordBase a ≠ wordBase b := by
  unfold wordBase; omega

/-! ### The list goes on -/

/-- The list is at its next entry, reached now, with nothing else of the start changed but its note of words. -/
def listGoes (s t : State) : Prop :=
  t.boot = { s.boot with pc := s.boot.pc + 1, since := some s.clk.tb0, wrote := t.boot.wrote } ∧ t.clk = s.clk

theorem listGoes_initNext {s u : State} (h : ListWrote s u) : listGoes s (initNext u)
    ∧ initNext u = { s with regs := (initNext u).regs, mem := (initNext u).mem, boot := (initNext u).boot } := by
  obtain ⟨honly, hboot⟩ := h
  have hpc : u.boot.pc = s.boot.pc := by rw [hboot]
  have hclk : u.clk = s.clk := by rw [honly]
  refine ⟨⟨?_, hclk⟩, ?_⟩
  · show ({ u.boot with pc := u.boot.pc + 1, since := some u.clk.tb0 } : BootSt) = _
    rw [hpc, hclk, hboot]
    rfl
  · unfold initNext
    rw [honly]

theorem exec_listGoes {i : Instr} {f : State → State} {s u : State} (hexec : exec i s = run f s) (heff : f s = initNext u)
    (h : ListWrote s u) : exec i s = .next (initNext u) := by
  have honly := h.only
  exact hexec.trans (run_eq_next heff (by rw [honly]; rfl) (by rw [honly]; rfl))

/-- An entry that changes nothing goes on alone. -/
theorem exec_listGoes_alone {i : Instr} {f : State → State} {s : State} (hexec : exec i s = run f s) (heff : f s = initNext s) :
    ∃ t, exec i s = .next t ∧ listGoes s t ∧ t = { s with boot := t.boot } :=
  ⟨_, exec_listGoes hexec heff (.refl s), (listGoes_initNext (.refl s)).1, rfl⟩

/-- A write of one word, the list then going on. -/
theorem exec_initWrite_word {s : State} {a : Nat} {w : Word} (ha : a % 4 = 0)
    (heff : effInitWrite s = initNext (wr (wroteNoted a s) a w)) :
    ∃ t, exec .initWrite s = .next t ∧ listGoes s t ∧ rd t a = w ∧ t = { s with regs := t.regs, mem := t.mem, boot := t.boot }
      ∧ wordsKept [(a, a + 4)] s t := by
  obtain ⟨hwrote, hsame, hother⟩ := noted_wr_shows a w s
  generalize wr (wroteNoted a s) a w = u at *
  obtain ⟨hgoes, honly⟩ := listGoes_initNext hwrote
  exact ⟨_, exec_listGoes rfl heff hwrote, hgoes, hsame, honly, wordsKept_window fun b hb => hother b (wordBase_ne_of_outside ha hb)⟩

theorem effInitWrite_eq {s : State} (h : initAt 1 s = true)
    (hseq : ¬(dieOf (initAddr s) = 0 ∧ 0x800000 ≤ initAddr s ∧ initAddr s < 0x818000)) :
    effInitWrite s
      = initNext (initPut (initAddr s) (w32 (initW s.boot.img s.boot.pc 2)) (w32 (initW s.boot.img s.boot.pc 3)) s) :=
  (if_pos h).trans (if_neg hseq)

/-- A write of a sequence table has no effect (R263). -/
theorem exec_initWrite_sequence {s : State} (h : initAt 1 s = true)
    (hseq : dieOf (initAddr s) = 0 ∧ 0x800000 ≤ initAddr s ∧ initAddr s < 0x818000) :
    ∃ t, exec .initWrite s = .next t ∧ listGoes s t ∧ t = { s with boot := t.boot } :=
  exec_listGoes_alone rfl ((if_pos h).trans (if_pos hseq))

/-- No register stands in a sequence table: the block table of the SV die has none there (Table 19-3). -/
theorem findRow_not_sequence {a : Nat} {r : RegRow} (hrow : findRow a = some r) :
    ¬(dieOf a = 0 ∧ 0x800000 ≤ a ∧ a < 0x818000) := by
  rintro ⟨-, hlo, hhi⟩
  have hdie : dieOf a = 0 := by unfold dieOf winSize; omega
  have hblock : blockRows .sv (a % winSize / 0x10000) = [] := by
    have : a % winSize / 0x10000 = 0x80 ∨ a % winSize / 0x10000 = 0x81 := by unfold winSize; omega
    rcases this with h | h <;> rw [h] <;> rfl
  have hnone : findRow a = none := by
    unfold findRow
    rw [if_neg (by unfold winSize; omega), hdie]
    dsimp only [dieClass]
    rw [if_pos rfl, hblock]
    rfl
  rw [hnone] at hrow
  exact absurd hrow nofun

/-! #### Words written upward from an address (R81, R84) -/

/-- `n` words upward from `a`, each all of its bits. -/
def wordsPut (a n : Nat) (g : Nat → Word) (s : State) : State := forEach (List.range n) (fun i => initPut (a + 4 * i) (g i) 0xFFFFFFFF) s

theorem memPut_all (a : Nat) (v w : Word) : memPut a v 0xFFFFFFFF w = (w &&& ~~~memMask a) ||| (v &&& memMask a) := by
  have hall : (0xFFFFFFFF : Word) = BitVec.allOnes 32 := by decide
  unfold memPut
  rw [hall, BitVec.allOnes_and, BitVec.and_allOnes]

theorem wordsPut_shows {a n : Nat} (ha : a % 4 = 0) (hmem : ∀ j, j < n → inMem (a + 4 * j) = true) (g : Nat → Word) (s : State) :
    ListWrote s (wordsPut a n g s)
    ∧ (∀ j, j < n → rd (wordsPut a n g s) (a + 4 * j) = ((rd s (a + 4 * j) &&& ~~~memMask (a + 4 * j)) ||| (g j &&& memMask (a + 4 * j))))
    ∧ wordsKept [(a, a + 4 * n)] s (wordsPut a n g s) := by
  have hput : ∀ j ∈ List.range n, ∀ u, ListWrote u (initPut (a + 4 * j) (g j) 0xFFFFFFFF u)
      ∧ rd (initPut (a + 4 * j) (g j) 0xFFFFFFFF u) (a + 4 * j)
          = ((rd u (a + 4 * j) &&& ~~~memMask (a + 4 * j)) ||| (g j &&& memMask (a + 4 * j)))
      ∧ ∀ b, (b < a + 4 * j ∨ a + 4 * j + 4 ≤ b) → rd (initPut (a + 4 * j) (g j) 0xFFFFFFFF u) b = rd u b := fun j hj u => by
    obtain ⟨hwrote, hsame, hother⟩ := noted_wr_shows (a + 4 * j) (memPut (a + 4 * j) (g j) 0xFFFFFFFF (rd u (a + 4 * j))) u
    rw [initPut_memory (hmem j (List.mem_range.mp hj))]
    exact ⟨hwrote, hsame.trans (memPut_all _ _ _), fun b hb => hother b (wordBase_ne_of_outside (by omega) hb)⟩
  refine ⟨?_, fun j hj => ?_, wordsKept_window fun b hb => ?_⟩
  · exact forEach_keeps (P := ListWrote s) _ (fun j hj u hu => hu.trans (hput j hj u).1) s (.refl s)
  · refine forEach_establishes (Pre := fun u => rd u (a + 4 * j) = rd s (a + 4 * j))
      (Post := fun u => rd u (a + 4 * j) = ((rd s (a + 4 * j) &&& ~~~memMask (a + 4 * j)) ||| (g j &&& memMask (a + 4 * j))))
      (List.range n) (List.mem_range.mpr hj) List.nodup_range (fun k hk hne u hu => ?_) (fun u hu => ?_) (fun k hk hne u hu => ?_) s rfl
    · exact ((hput k hk u).2.2 _ (by omega)).trans hu
    · rw [(hput j (List.mem_range.mpr hj) u).2.1, hu]
    · exact ((hput k hk u).2.2 _ (by omega)).trans hu
  · refine forEach_keeps (P := fun u => rd u b = rd s b) _ (fun j hj u hu => ((hput j hj u).2.2 b ?_).trans hu) s rfl
    have := List.mem_range.mp hj
    omega

/-- A FILL or a LOAD, the list then going on. -/
theorem exec_wordsPut {i : Instr} {f : State → State} {s : State} {a n : Nat} {g : Nat → Word} (hexec : exec i s = run f s)
    (heff : f s = initNext (wordsPut a n g s)) (ha : a % 4 = 0) (hmem : ∀ j, j < n → inMem (a + 4 * j) = true) :
    ∃ t, exec i s = .next t ∧ listGoes s t
      ∧ (∀ j, j < n → rd t (a + 4 * j) = ((rd s (a + 4 * j) &&& ~~~(memMask (a + 4 * j))) ||| (g j &&& memMask (a + 4 * j))))
      ∧ t = { s with regs := t.regs, mem := t.mem, boot := t.boot } ∧ wordsKept [(a, a + 4 * n)] s t := by
  obtain ⟨hwrote, hwords, hkept⟩ := wordsPut_shows ha hmem g s
  generalize wordsPut a n g s = u at *
  obtain ⟨hgoes, honly⟩ := listGoes_initNext hwrote
  exact ⟨_, exec_listGoes hexec heff hwrote, hgoes, hwords, honly, hkept⟩

/-! ### The list's entries (R81, Table 03-10) -/

/-- A command of the list whose entry is not there changes nothing. -/
theorem exec_other_entry {s : State} {c : Instr} {op : Nat} (h : (c, op) ∈ [(Instr.initEnd, 0), (.initWrite, 1), (.initFill, 2),
    (.initLoad, 3), (.initPoll, 4), (.initBarrier, 5), (.initDelay, 6)]) (hat : initAt op s = false) : exec c s = .next s := by
  have hno : ¬initAt op s = true := by rw [hat]; decide
  have hand : ∀ b : Bool, ¬(initAt op s && b) = true := fun b => by rw [hat]; simp
  simp only [List.mem_cons, Prod.mk.injEq, List.not_mem_nil, or_false] at h
  rcases h with ⟨rfl, rfl⟩ | ⟨rfl, rfl⟩ | ⟨rfl, rfl⟩ | ⟨rfl, rfl⟩ | ⟨rfl, rfl⟩ | ⟨rfl, rfl⟩ | ⟨rfl, rfl⟩
  · exact run_eq_self (f := effInitEnd) (if_neg hno)
  · exact run_eq_self (f := effInitWrite) (if_neg hno)
  · exact run_eq_self (f := effInitFill) (if_neg hno)
  · exact run_eq_self (f := effInitLoad) (if_neg hno)
  · exact run_eq_self (f := effInitPoll) (if_neg (hand _))
  · exact run_eq_self (f := fun s => if initAt 5 s then initNext s else s) (if_neg hno)
  · exact run_eq_self (f := effInitDelay) (if_neg (hand _))

section
variable {s : State}

theorem exec_initWrite_memory (hat : initAt 1 s = true) (hmem : inMem (initAddr s) = true) (ha : initAddr s % 4 = 0)
    (hseq : ¬(dieOf (initAddr s) = 0 ∧ 0x800000 ≤ initAddr s ∧ initAddr s < 0x818000)) :
    ∃ t, exec .initWrite s = .next t ∧ listGoes s t
      ∧ rd t (initAddr s) = memPut (initAddr s) (w32 (initW s.boot.img s.boot.pc 2)) (w32 (initW s.boot.img s.boot.pc 3)) (rd s (initAddr s))
      ∧ t = { s with regs := t.regs, mem := t.mem, boot := t.boot } ∧ wordsKept [(initAddr s, initAddr s + 4)] s t :=
  exec_initWrite_word ha ((effInitWrite_eq hat hseq).trans (congrArg initNext (initPut_memory hmem _ _ s)))

theorem exec_initWrite_register (hat : initAt 1 s = true) (hmem : inMem (initAddr s) = false) (hz : isLoopZ (initAddr s) = false)
    (ha : initAddr s % 4 = 0) {r : RegRow} (hrow : findRow (initAddr s) = some r) :
    ∃ t, exec .initWrite s = .next t ∧ listGoes s t
      ∧ rd t (initAddr s) = regPut r (w32 (initW s.boot.img s.boot.pc 2)) (w32 (initW s.boot.img s.boot.pc 3)) (hwBits s (initAddr s))
          (rd s (initAddr s))
      ∧ t = { s with regs := t.regs, mem := t.mem, boot := t.boot } ∧ wordsKept [(initAddr s, initAddr s + 4)] s t :=
  exec_initWrite_word ha ((effInitWrite_eq hat (findRow_not_sequence hrow)).trans (congrArg initNext (initPut_register hmem hz hrow _ _ s)))

/-- A LOAD copies the words of its MEMORY section (R84). -/
theorem effInitLoad_eq {x : ImgSec} (hat : initAt 3 s = true) (hsec : memSec s.boot.img (initW s.boot.img s.boot.pc 2) = some x) :
    effInitLoad s = initNext (wordsPut (initAddr s) ((secBytes s.boot.img x).length / 4)
      (fun i => w32 (leAt (secBytes s.boot.img x) (4 * i) 4)) s) := by
  unfold effInitLoad
  rw [if_pos hat, hsec]
  rfl

theorem exec_initPoll_holds (hat : initAt 4 s = true) (hpoll : pollHolds s = true) :
    ∃ t, exec .initPoll s = .next t ∧ listGoes s t ∧ t = { s with boot := t.boot } :=
  exec_listGoes_alone (f := effInitPoll) rfl (if_pos (by rw [hat, hpoll]; rfl))
theorem exec_initPoll_waits (hpoll : pollHolds s = false) : exec .initPoll s = .next s :=
  run_eq_self (f := effInitPoll) (if_neg (by rw [hpoll]; simp))
theorem exec_initPollTimeout_early (h : pollHolds s = true ∨ initWaited s < initArg s.boot.img s.boot.pc) :
    exec .initPollTimeout s = .next s := by
  refine run_eq_self (f := effInitPollTimeout) (if_neg ?_)
  rcases h with h | h
  · rw [h]; simp
  · rw [decide_eq_false (Nat.not_le.mpr h)]; simp

theorem exec_initDelay_passed (hat : initAt 6 s = true) (hpassed : initArg s.boot.img s.boot.pc ≤ initWaited s) :
    ∃ t, exec .initDelay s = .next t ∧ listGoes s t ∧ t = { s with boot := t.boot } :=
  exec_listGoes_alone (f := effInitDelay) rfl (if_pos (by rw [hat, decide_eq_true hpassed]; rfl))
theorem exec_initDelay_waits (h : initWaited s < initArg s.boot.img s.boot.pc) : exec .initDelay s = .next s :=
  run_eq_self (f := effInitDelay) (if_neg (by rw [decide_eq_false (Nat.not_le.mpr h)]; simp))

end

end Sys2Proof.Machine.StartStates
end

section
/-!
PROOFS. The end of the initialisation list: a load that fails, and BOOT_DONE, the settings, the start mark and the budget that follow the
list (R69, R76 to R78, R81, R87, R89, R452, R457).
-/
namespace Sys2Proof.Machine.StartStates
open Sys2Proof.Machine.GrainPlant Sys2Proof.Machine.PackageRails

/-! ### What a header write leaves (R74, R75) -/

/-- The rails, the wait, the slot loaded and the words of `startShown` stand. -/
structure ShownKept (s t : State) : Prop where
  pwr : t.pwr = s.pwr
  wait : t.boot.wait = s.boot.wait
  loaded : t.boot.loaded = s.boot.loaded
  shown : ∀ a ∈ startShown, rd t a = rd s a

theorem ShownKept.refl (s : State) : ShownKept s s := ⟨rfl, rfl, rfl, fun _ _ => rfl⟩
theorem ShownKept.trans {s t u : State} (h : ShownKept s t) (k : ShownKept t u) : ShownKept s u :=
  ⟨k.pwr.trans h.pwr, k.wait.trans h.wait, k.loaded.trans h.loaded, fun a ha => (k.shown a ha).trans (h.shown a ha)⟩
theorem ShownKept.start {s t : State} (h : ShownKept s t) : StartKept s t :=
  startKept_of_shown (by rw [h.pwr]) (by rw [h.pwr]) h.wait h.loaded h.shown
theorem shownKept_of_recorded {s t : State} (h : Recorded s t) : ShownKept s t :=
  ⟨by rw [h.only], by rw [h.only], by rw [h.only], h.shown⟩

theorem shownKept_hdrWrite (f : List Byte → List Byte) (s : State) : ShownKept s (hdrWrite f s) := by
  unfold hdrWrite
  extract_lets r g h1 h2 s1 s2
  have hrecord : Recorded s s2 :=
    ((recorded_nor _ s).trans (recorded_noteErase (otherRegion_lt (hdrUse s)) 0 _)).trans (recorded_norPutBytes _ _ _)
  have hdone : ShownKept s2 { s2 with boot := { s2.boot with hdrDone := true } } := ⟨rfl, rfl, rfl, fun _ _ => rfl⟩
  exact ((shownKept_of_recorded hrecord).trans hdone).trans (shownKept_of_recorded (recorded_wrN (a := Reg.SV_BOOT_HDR_GEN) (by decide) _ _))

theorem shownKept_hdrWriteStart (f : List Byte → List Byte) (s : State) : ShownKept s (hdrWriteStart f s) := by
  unfold hdrWriteStart
  split
  · exact shownKept_of_recorded
      (((recorded_nor _ s).trans (recorded_noteErase (otherRegion_lt (hdrUse s)) 0 _)).trans (recorded_countNvmErr _))
  · exact shownKept_hdrWrite f s

/-! ### A load that fails (R77, R78) -/

theorem bit_eq_bits (w : Word) (i : Nat) : bit w i = decide (bits w i i = 1) := by
  have hwidth : 2 ^ (i - i + 1) = 2 := by rw [Nat.sub_self]; rfl
  unfold bit bits
  rw [hwidth, ← Nat.testBit_eq_decide_div_mod_eq]
  rfl

/-- A filter of a table that keeps an entry's key, and every entry of key `a` as it is, leaves what is found at `a`. -/
theorem tget_filterMap {α : Type} (d : Nat → α) {g : Nat × α → Option (Nat × α)} {a : Nat} (hkey : ∀ x y, g x = some y → y.1 = x.1)
    (hkept : ∀ v, g (a, v) = some (a, v)) (l : List (Nat × α)) : tget d (l.filterMap g) a = tget d l a := by
  induction l with
  | nil => rfl
  | cons x l ih =>
    obtain ⟨k, v⟩ := x
    rw [List.filterMap_cons, tget_cons]
    by_cases hk : k = a
    · subst hk
      rw [hkept, if_pos rfl, tget_cons, if_pos rfl]
    · rw [if_neg hk, ← ih]
      cases hg : g (k, v) with
      | none => rfl
      | some y =>
        obtain ⟨k', v'⟩ := y
        have hkk : k' = k := hkey _ _ hg
        dsimp only
        rw [tget_cons, if_neg (by rw [hkk]; exact hk)]

/-- What the undoing of a load keeps of a register word, `wrote` being the words of the SV die that the list has written (R77). -/
def undoneWord (wrote : List Nat) (x : Nat × Word) : Option (Nat × Word) :=
  if winSize ≤ x.1 then
    if (x.2 &&& keepMask 0 x.1) ||| (resetWord x.1 &&& ~~~keepMask 0 x.1) = resetWord x.1 then none
    else some (x.1, (x.2 &&& keepMask 0 x.1) ||| (resetWord x.1 &&& ~~~keepMask 0 x.1))
  else if wrote.contains x.1 && initTarget x.1 then none
  else some x

theorem undoneWord_key {wrote : List Nat} {x y : Nat × Word} (h : undoneWord wrote x = some y) : y.1 = x.1 := by
  unfold undoneWord at h
  split at h
  · split at h
    · exact absurd h nofun
    · rw [← Option.some.inj h]
  · split at h
    · exact absurd h nofun
    · rw [← Option.some.inj h]

/-- The list can write no word of the start: it stands (R85). -/
theorem undoneWord_stat (wrote : List Nat) (w : Word) : undoneWord wrote (Reg.SV_BOOT_STAT, w) = some (Reg.SV_BOOT_STAT, w) := by
  have htarget : initTarget Reg.SV_BOOT_STAT = false := by decide
  have hdie : ¬winSize ≤ Reg.SV_BOOT_STAT := by decide
  unfold undoneWord
  rw [if_neg hdie, if_neg (by rw [htarget, Bool.and_false]; decide)]

/-- The undoing of a load leaves the state and the bit that tells of a first failure. -/
theorem loadUndo_shows (s : State) : (loadUndo s).boot.loaded = false ∧ devState (loadUndo s) = devState s
    ∧ rdB (loadUndo s) Reg.SV_BOOT_STAT 9 = rdB s Reg.SV_BOOT_STAT 9 := by
  unfold loadUndo
  extract_lets regs b u u1
  have hstat : rd u Reg.SV_BOOT_STAT = rd s Reg.SV_BOOT_STAT := by
    have hregs : regs = s.regs.filterMap (undoneWord s.boot.wrote) := rfl
    have hword : rd u Reg.SV_BOOT_STAT = tget resetWord regs (wordBase Reg.SV_BOOT_STAT) := rfl
    rw [hword, hregs]
    exact tget_filterMap resetWord (fun _ _ => undoneWord_key) (undoneWord_stat s.boot.wrote) s.regs
  have hloaded : u1.boot.loaded = false := by
    dsimp only [u1]; unfold wrB wrF; rw [wr_boot, wr_boot, wr_boot]
  have hrest : ∀ w1 w2 w3, (wr (wr (wr u1 Reg.SV_BOOT_IMG_ID_LO w1) Reg.SV_BOOT_IMG_ID_HI w2) Reg.SV_BOOT_IMG_INFO w3).boot = u1.boot
      ∧ rd (wr (wr (wr u1 Reg.SV_BOOT_IMG_ID_LO w1) Reg.SV_BOOT_IMG_ID_HI w2) Reg.SV_BOOT_IMG_INFO w3) Reg.SV_BOOT_STAT
          = rd u1 Reg.SV_BOOT_STAT := fun _ _ _ =>
    ⟨by rw [wr_boot, wr_boot, wr_boot], by rw [rd_wr_ne _ _ (by decide), rd_wr_ne _ _ (by decide), rd_wr_ne _ _ (by decide)]⟩
  obtain ⟨hboot, hword⟩ := hrest 0 0 0
  refine ⟨by rw [hboot]; exact hloaded, ?_, ?_⟩
  · unfold devState rdF
    rw [hword]
    refine (rdF_wrB_field _ _ 10 false 2 0 (by decide) (by decide)).trans <| (rdF_wrB_field _ _ 8 false 2 0 (by decide) (by decide)).trans <|
      (rdF_wrF_field u _ 7 4 1 2 0 (by decide) (by decide) (by decide)).trans ?_
    unfold rdF
    rw [hstat]
  · unfold rdB
    rw [hword]
    refine (rdB_wrB_bit _ _ 10 9 false (by decide)).trans <| (rdB_wrB_bit _ _ 8 9 false (by decide)).trans <|
      (rdB_wrF_bit u _ 7 4 1 9 (by decide) (by decide)).trans ?_
    unfold rdB
    rw [hstat]

/-- A load that fails is undone, its reason and address are shown, and the state stands. -/
theorem loadReject_shows (k : Nat) {r : Nat} (hr : r < 256) (a : Nat) (s : State) :
    (loadReject k r a s).boot.loaded = false ∧ rdF (loadReject k r a s) Reg.SV_BOOT_STAT 23 16 = r
      ∧ rd (loadReject k r a s) Reg.SV_BOOT_ERR_ADDR = w32 a ∧ devState (loadReject k r a s) = devState s
      ∧ rdB (loadReject k r a s) Reg.SV_BOOT_STAT 9 = rdB s Reg.SV_BOOT_STAT 9 := by
  obtain ⟨hloaded, hstate, hfirst⟩ := loadUndo_shows s
  unfold loadReject
  obtain ⟨u, hu⟩ : ∃ u, u = loadUndo s := ⟨_, rfl⟩
  rw [← hu] at hloaded hstate hfirst ⊢
  obtain ⟨hreason, haddr, hfield, -, -, hboot, -⟩ := rejectShow_shows (some k) hr a u
  extract_lets v
  have hv : v = rejectShow (some k) r a u := rfl
  clear_value v
  rw [← hv] at hreason haddr hfield hboot
  have hkept : ∀ t, ShownKept v t → t.boot.loaded = false ∧ rdF t Reg.SV_BOOT_STAT 23 16 = r ∧ rd t Reg.SV_BOOT_ERR_ADDR = w32 a
      ∧ devState t = devState s ∧ rdB t Reg.SV_BOOT_STAT 9 = rdB s Reg.SV_BOOT_STAT 9 := fun t h => by
    have hstat := h.shown Reg.SV_BOOT_STAT (by decide)
    refine ⟨?_, ?_, (h.shown _ (by decide)).trans haddr, ?_, ?_⟩
    · rw [h.loaded, hboot]; exact hloaded
    · exact h.start.reason.trans hreason
    · exact h.start.state.trans ((hfield 2 0 (by decide) (by decide)).trans hstate)
    · refine .trans ?_ hfirst
      have h9 := hfield 9 9 (by decide) (by decide)
      unfold rdB rdF at *
      rw [bit_eq_bits, bit_eq_bits, hstat, h9]
  split
  · exact hkept v (.refl v)
  · exact hkept _ (shownKept_hdrWriteStart _ v)

/-- A POLL not satisfied in its time, on the second failure of a start: SAFE with nothing loaded, the reason and the entry shown (R77, R78). -/
theorem exec_initPollTimeout_second {s : State} (hat : initAt 4 s = true) (hpoll : pollHolds s = false)
    (hpassed : initArg s.boot.img s.boot.pc ≤ initWaited s) (hsecond : rdB s Reg.SV_BOOT_STAT 9 = true) :
    ∃ t, exec .initPollTimeout s = .next t ∧ devState t = 4 ∧ t.boot.loaded = false ∧ rdF t Reg.SV_BOOT_STAT 23 16 = 0x0A
      ∧ rd t Reg.SV_BOOT_ERR_ADDR = w32 s.boot.pc ∧ causes t &&& 4 ≠ 0 := by
  obtain ⟨hloaded, hreason, haddr, -, hfirst⟩ := loadReject_shows (slotNow s) (r := 0x0A) (by decide) s.boot.pc s
  have heff : effInitPollTimeout s = noSlot 4 (loadReject (slotNow s) 0x0A s.boot.pc s) := by
    have hdue : effInitPollTimeout s = loadFail (slotNow s) 0x0A s.boot.pc s := if_pos (by rw [hat, hpoll, decide_eq_true hpassed]; rfl)
    rw [hdue]
    exact if_neg (by rw [hfirst, hsecond]; simp)
  obtain ⟨u, hu⟩ : ∃ u, u = loadReject (slotNow s) 0x0A s.boot.pc s := ⟨_, rfl⟩
  rw [← hu] at hloaded hreason haddr heff
  obtain ⟨hreport, hstate, hcauses⟩ := noSlot_safe (m := 4) (by decide) (by decide) (by decide) hloaded
  have hexec : exec .initPollTimeout s = .next { noSlot 4 u with pending := s.pending, clk := s.clk } :=
    (run_next effInitPollTimeout s).trans (by unfold keepClk; rw [heff])
  obtain ⟨v, hv⟩ : ∃ v, v = noSlot 4 u := ⟨_, rfl⟩
  rw [← hv] at hreport hstate hcauses hexec
  exact ⟨_, hexec, hstate, hreport.loaded.trans hloaded, hreport.reason.trans hreason, hreport.addr.trans haddr,
    fun h => absurd (hcauses.symm.trans h) (by decide)⟩

/-! ### BOOT_DONE (R89, R95) -/

/-- The start is done: a state of operation is entered. -/
def startDone (t : State) : Prop := 2 ≤ devState t ∧ devState t ≤ 4 ∧ rdF t Reg.SV_BOOT_STAT 7 4 = 5

theorem startDone_of_stat {s t : State} (h : rd t Reg.SV_BOOT_STAT = rd s Reg.SV_BOOT_STAT) (hs : startDone s) : startDone t := by
  unfold startDone devState rdF at *
  rw [h]
  exact hs

theorem rd_norClock_stat (s : State) : rd (norClock s) Reg.SV_BOOT_STAT = rd s Reg.SV_BOOT_STAT :=
  (rd_wr_ne _ _ (by decide)).trans (rd_wr_ne _ _ (by decide))

/-- BOOT_DONE enters SAFE with a cause present, TRIAL or RUN without. -/
theorem startDone_bootDone (s : State) : startDone (bootDone s) := by
  unfold bootDone
  extract_lets s1 s2 c trial st us s3 s4 s5 s6 s7 v s8
  have hstate : 2 ≤ devState s3 ∧ devState s3 ≤ 4 := by
    dsimp only [s3]
    split
    · rw [(safeEnter_shows _).1]; decide
    · next hc =>
      have hentered : devState (wrF s2 Reg.SV_BOOT_STAT 2 0 st) = st % 8 := rdF_wrF_same _ _ 2 0 st (by decide) (by decide)
      have hst : st = if trial then 2 else 3 := if_neg hc
      rw [hentered, hst]
      split <;> decide
  have hprogress : startDone (wrF s3 Reg.SV_BOOT_STAT 7 4 5) := by
    have hkept : devState (wrF s3 Reg.SV_BOOT_STAT 7 4 5) = devState s3 := (startKept_progress 5 s3).state
    exact ⟨by rw [hkept]; exact hstate.1, by rw [hkept]; exact hstate.2, rdF_wrF_same s3 _ 7 4 5 (by decide) (by decide)⟩
  have hshown : Recorded (wrF s3 Reg.SV_BOOT_STAT 7 4 5) s6 :=
    ((recorded_wrN (a := Reg.SV_BOOT_TIME) (by decide) us _).trans (recorded_raise _ _ _ _ _)).trans
      (recorded_hwSet (a := Reg.SV_OWN_ATTN) (by decide) 0 _)
  have htrial : Recorded s6 s8 := by
    have hupd : Recorded s6 s7 :=
      (recorded_wrF (a := Reg.SV_UPD_STAT) (by decide) 3 0 5 s6).trans (recorded_hwSet (a := Reg.SV_OWN_ATTN) (by decide) 6 _)
    exact recorded_ite _ (hupd.trans (recorded_upd _ s7)) (.refl s6)
  exact startDone_of_stat ((rd_norClock_stat s8).trans ((hshown.trans htrial).shown _ (by decide))) hprogress

theorem startDone_noSlot (m : Nat) (s : State) : startDone (noSlot m s) := by
  rw [noSlot_eq]
  exact startDone_of_stat (rd_withPwr _ _ _) (startDone_bootDone _)

/-- A join is a matter of the network die (R368). -/
theorem rd_startJoin_stat (s : State) : rd (startJoin s) Reg.SV_BOOT_STAT = rd s Reg.SV_BOOT_STAT := by
  have hsend : ∀ u, rd (joinSend 0 0 u) Reg.SV_BOOT_STAT = rd u Reg.SV_BOOT_STAT := fun u => by
    unfold joinSend
    split
    · next v hv =>
      split at hv
      · have hframe : Recorded u v := recorded_nwFrame (nwFrame_txQueue (upCh_lt u)
          (by unfold devBufHi; split <;> decide) (by simp [joinReq, length_beBytes]) hv)
        exact ((recorded_count31 (a := Reg.NW_HIER_JOIN_CNT) (by decide) v).shown Reg.SV_BOOT_STAT (by decide)).trans
          (hframe.shown _ (by decide))
      · exact absurd hv nofun
    · exact rfl
  have hstat : ∀ v, rd (wrF s Reg.NW_HIER_STAT 2 0 v) Reg.SV_BOOT_STAT = rd s Reg.SV_BOOT_STAT := fun v => rd_wr_ne s _ (by decide)
  unfold startJoin
  split
  · exact rfl
  · split
    · exact (hsend _).trans (hstat 3)
    · exact (hsend _).trans (hstat 1)

theorem startDone_startRun (s : State) : startDone (startRun s) := by
  unfold startRun
  extract_lets u
  exact startDone_of_stat ((rd_startJoin_stat _).trans (haltStep_driveJudge _).state) (startDone_bootDone u)

/-! ### A slot tried after the other (R76, R78) -/

theorem rd_withBoot (b : BootSt) (s : State) (a : Nat) : rd { s with boot := b } a = rd s a := rfl

/-- The other slot passes: its list is at its first entry. -/
theorem loadBegin_shows (k : Nat) (img : List Byte) (s : State) : devState (loadBegin k img s) = devState s
    ∧ rdF (loadBegin k img s) Reg.SV_BOOT_STAT 7 4 = 3 ∧ (loadBegin k img s).boot.pc = 0 := by
  have hinfo : ∀ (u : State) (x y z : Nat), rd (wrN (wrN (wrN u Reg.SV_BOOT_IMG_ID_LO x) Reg.SV_BOOT_IMG_ID_HI y) Reg.SV_BOOT_IMG_INFO z)
      Reg.SV_BOOT_STAT = rd u Reg.SV_BOOT_STAT := fun u x y z => by
    unfold wrN
    rw [rd_wr_ne _ _ (by decide), rd_wr_ne _ _ (by decide), rd_wr_ne _ _ (by decide)]
  have hfields : ∀ b : Bool, rdF (wrB (wrF (wrF s Reg.SV_BOOT_STAT 7 4 3) Reg.SV_BOOT_STAT 8 8 k) Reg.SV_BOOT_STAT 10 b)
        Reg.SV_BOOT_STAT 2 0 = devState s
      ∧ rdF (wrB (wrF (wrF s Reg.SV_BOOT_STAT 7 4 3) Reg.SV_BOOT_STAT 8 8 k) Reg.SV_BOOT_STAT 10 b) Reg.SV_BOOT_STAT 7 4 = 3 := fun b => by
    rw [rdF_wrB_field _ _ _ _ _ _ (by decide) (by decide), rdF_wrB_field _ _ _ _ _ _ (by decide) (by decide),
      rdF_wrF_field _ _ _ _ _ _ _ (by decide) (by decide) (by decide), rdF_wrF_field _ _ _ _ _ _ _ (by decide) (by decide) (by decide),
      rdF_wrF_field _ _ _ _ _ _ _ (by decide) (by decide) (by decide), rdF_wrF_same _ _ _ _ _ (by decide) (by decide)]
    exact ⟨rfl, rfl⟩
  unfold loadBegin
  extract_lets s1 s2 s3 s4 b
  have hstat : rd s4 Reg.SV_BOOT_STAT = rd s2 Reg.SV_BOOT_STAT := hinfo s2 _ _ _
  obtain ⟨hstate, hprogress⟩ : rdF s2 Reg.SV_BOOT_STAT 2 0 = devState s ∧ rdF s2 Reg.SV_BOOT_STAT 7 4 = 3 := hfields _
  refine ⟨?_, ?_, rfl⟩
  · refine .trans ?_ hstate
    unfold devState rdF
    rw [rd_withBoot, hstat]
  · refine .trans ?_ hprogress
    unfold rdF
    rw [rd_withBoot, hstat]

/-- Where a start stands after its list: restarted for a failed trial, done, or at the list of the other slot. -/
def startGoes (t : State) : Prop := t.pwr.rst = true ∨ startDone t
  ∨ (devState t = 1 ∧ rdF t Reg.SV_BOOT_STAT 7 4 = 3 ∧ t.boot.pc = 0)

theorem startGoes_loadOther {k : Nat} {s : State} (hstate : devState s = 1) : startGoes (loadOther k s) := by
  unfold loadOther
  split
  · next img _ =>
    obtain ⟨hkept, hprogress, hpc⟩ := loadBegin_shows k img s
    exact .inr (.inr ⟨hkept.trans hstate, hprogress, hpc⟩)
  · exact .inr (.inl (startDone_noSlot 4 _))

theorem devState_fallback (k r : Nat) (s : State) : devState (fallback k r s) = devState s := by
  have hraise : ∀ (u : State) p0 p1, devState (raiseN 0x0006 0 p0 p1 u) = devState u := fun _ _ _ => rfl
  unfold fallback
  rw [hraise]
  exact rdF_wrB_field s _ 9 true 2 0 (by decide) (by decide)

theorem startGoes_loadFail {k r : Nat} (hr : r < 256) (a : Nat) {s : State} (hstate : devState s = 1) : startGoes (loadFail k r a s) := by
  unfold loadFail
  extract_lets u
  have hkept : devState u = devState s := (loadReject_shows k hr a s).2.2.2.1
  split
  · exact startGoes_loadOther ((devState_fallback k r u).trans (hkept.trans hstate))
  · exact .inr (.inl (startDone_noSlot 4 u))

/-! ### The settings and the start mark (R452, R457, R458) -/

theorem startKept_jBindLoad (j : Nat) (s : State) : StartKept s (jBindLoad j s) := startKept_of_shown rfl rfl rfl rfl fun _ _ => rfl
theorem recorded_applyDefaults (s : State) : Recorded s (applyDefaults s) :=
  (recorded_forEach _ recorded_restoreWord s).trans (recorded_rebase _)
theorem recorded_settingsRo (c a : Nat) (s : State) : Recorded s (settingsRo c a s) := by
  unfold settingsRo
  extract_lets u
  have hu : Recorded s u := (recorded_jShow c s).trans (recorded_applyDefaults _)
  exact (hu.trans (recorded_wrB (a := Reg.SV_UPD_STAT) (by decide) 11 true u)).trans (recorded_raise _ _ _ _ _)
theorem recorded_shadowNew {j : Nat} (hj : j < 2) (gen : Nat) (vals : List (Nat × Word)) (s : State) : Recorded s (shadowNew j gen vals s) :=
  ((recorded_jNew hj _ _ _ _ s).trans (recorded_wrB (a := Reg.SV_UPD_STAT) (by decide) 9 true _)).trans (recorded_restoreAll _ _)

/-- The journal not in use is one of the two. -/
theorem otherJournal_lt (c : Nat) : 1 - c < 2 := Nat.lt_of_le_of_lt (Nat.sub_le 1 c) (by decide)

/-- What `f` does to every state. Said of the function: the settings of a start match on what the NOR holds, and unfolded as a function
they are compared as they are written, with no value of that match computed. -/
def Takes (R : State → State → Prop) (f : State → State) : Prop := ∀ s, R s (f s)

theorem startKept_settingsRegular : Takes StartKept settingsRegular := by
  delta settingsRegular
  unfold Takes
  beta_reduce
  intro s
  split
  · exact (recorded_applyDefaults s).start
  · next c _ =>
    split
    · exact (recorded_settingsRo c 0 s).start
    · split
      · exact ((recorded_jShow c s).start.trans (startKept_jBindLoad c _)).trans (recorded_restoreAll _ _).start
      · split
        · exact (recorded_settingsRo c _ s).start
        · exact ((startKept_jBindLoad c s).trans (recorded_jNew (otherJournal_lt c) _ _ _ _ _).start).trans (recorded_restoreAll _ _).start

/-- The trial failed: a restart (R451). -/
theorem trialFail_restarts (cause : Nat) (unread : Option (Nat × Nat)) (s : State) : (trialFail cause unread s).pwr.rst = true := rfl

/-- The trial failed, or the start stands as it was. -/
def trialOr (s t : State) : Prop := t.pwr.rst = true ∨ StartKept s t

theorem trialOr_settingsTrial : Takes trialOr settingsTrial := by
  delta settingsTrial
  unfold Takes
  beta_reduce
  intro s
  split
  · exact .inr ((recorded_applyDefaults s).trans (recorded_shadowNew (by decide) _ _ _)).start
  · next c _ =>
    split
    · exact .inl (trialFail_restarts ..)
    · split
      · exact .inl (trialFail_restarts ..)
      · exact .inr ((startKept_jBindLoad c s).trans (recorded_shadowNew (otherJournal_lt c) _ _ _).start)

theorem trialOr_settingsStart : Takes trialOr settingsStart := by
  delta settingsStart
  unfold Takes
  beta_reduce
  intro s
  extract_lets u
  have hu : StartKept s u :=
    ((recorded_wrB (a := Reg.SV_UPD_STAT) (by decide) 9 false s).trans (recorded_wrB (a := Reg.SV_UPD_STAT) (by decide) 11 false _)).start
  have htrial : trialOr s (settingsTrial u) := (trialOr_settingsTrial u).imp_right hu.trans
  clear_value u
  split
  · next j _ =>
    split
    · exact .inr ((hu.trans (recorded_norPutBytes _ _ u).start).trans (startKept_settingsRegular _))
    · split
      · have hshow : StartKept u (jShow j (wrB u Reg.SV_UPD_STAT 9 true)) :=
          ((recorded_wrB (a := Reg.SV_UPD_STAT) (by decide) 9 true u).trans (recorded_jShow j _)).start
        exact .inr (((hu.trans hshow).trans (startKept_jBindLoad j _)).trans (recorded_restoreAll _ _).start)
      · exact .inr (hu.trans (startKept_settingsRegular u))
  · split
    · exact htrial
    · exact .inr (hu.trans (startKept_settingsRegular u))

theorem trialOr_startMark (s : State) : trialOr s (startMark s) := by
  unfold startMark
  split
  · extract_lets j m u
    have hu : Recorded s u := recorded_wrF (a := Reg.SV_UPD_TRIAL) (by decide) 11 8 m s
    clear_value u
    split
    · exact .inr hu.start
    · split
      · exact .inl (trialFail_restarts ..)
      · exact .inr ((hu.trans (recorded_norPutBytes _ _ u)).trans (recorded_wrF (a := Reg.SV_UPD_TRIAL) (by decide) 11 8 (m + 1) _)).start
  · exact .inr (.refl s)

/-! ### The checks of the loop dies and of the budget (R87, R215, R227, R228) -/

/-- No word of a die past SV is one by which a start shows where it stands. -/
theorem hidden_of_die {a : Nat} (h : winSize ≤ a) : hidden a := by
  have hall : ∀ b ∈ startShown, b + 4 < winSize := by decide
  intro b hb hab
  have := hall b hb
  unfold wordBase at hab
  omega

theorem winSize_le_dieAt {d : Nat} (hd : 1 ≤ d) (off : Nat) : winSize ≤ dieAt d off := by
  unfold dieAt winSize; omega

theorem recorded_loopStartCheck (g : Nat) (s : State) : Recorded s (loopStartCheck g s) := by
  have hstat : winSize ≤ Reg.LP_LOOP_STAT g := by unfold Reg.LP_LOOP_STAT lpAt winSize; omega
  unfold loopStartCheck
  split
  · extract_lets r
    exact recorded_ite _ (.refl s) ((recorded_wrF (hidden_of_die hstat) 3 0 5 s).trans (recorded_raise _ _ _ _ _))
  · exact .refl s

theorem recorded_expStartCheck {d : Nat} (hd : 1 ≤ d) (i : Nat) (s : State) : Recorded s (expStartCheck d i s) := by
  have haddr : winSize ≤ expAddr d i := Nat.le_trans (winSize_le_dieAt hd _) (Nat.le_add_right _ _)
  exact recorded_ite _ ((recorded_wrB (hidden_of_die haddr) 31 false s).trans (recorded_raise _ _ _ _ _)) (.refl s)

theorem recorded_loopDieCheck {d : Nat} (hd : 1 ≤ d) (s : State) : Recorded s (loopDieCheck d s) := by
  unfold loopDieCheck
  extract_lets u v
  have hu : Recorded s u := recorded_forEach (List.range 64) (fun l => recorded_loopStartCheck ((d - 1) * 64 + l)) s
  have hv : Recorded u v := recorded_forEach (List.range 512) (recorded_expStartCheck hd) u
  exact (hu.trans hv).trans (recorded_wrN (hidden_of_die (winSize_le_dieAt hd _)) _ v)

theorem recorded_loopDieChecks (s : State) : Recorded s (forEach [1, 2, 3, 4] loopDieCheck s) :=
  forEach_keeps (P := Recorded s) _ (fun d hd u hu => hu.trans (recorded_loopDieCheck (by revert hd; revert d; decide) u)) s (.refl s)

theorem budgetReason_lt (s : State) : budgetReason s < 256 := by
  unfold budgetReason
  split
  · decide
  · split <;> decide

/-! ### The end of the list (R81, R89) -/

theorem devState_budgetLoads (s : State) : devState (budgetLoads s) = devState s := rfl

/-- The list at its end: the settings and the start mark may fail a trial, and the budget may reject the image. -/
theorem startGoes_bootFinish {s : State} (hstate : devState s = 1) : startGoes (bootFinish s) := by
  unfold bootFinish
  extract_lets u v p w x k
  have hopen : devState (logOpen (wrF s Reg.SV_BOOT_STAT 7 4 4)) = 1 :=
    ((recorded_logOpen _).start.state.trans (startKept_progress 4 s).state).trans hstate
  have hsettings : trialOr (logOpen (wrF s Reg.SV_BOOT_STAT 7 4 4)) u := trialOr_settingsStart _
  have hmark : trialOr u v := trialOr_startMark u
  have hchecks : devState x = devState v :=
    (devState_budgetLoads _).trans <| (recorded_loopDieChecks w).start.state.trans <|
      (startKept_alarmStays (withPwr { p with ownerRestart := false } v)).state.trans (devState_withPwr _ v)
  clear_value u x
  split
  · next hrst => exact .inl hrst
  · next hrst =>
    have hu : devState u = 1 := (hsettings.resolve_left hrst).state.trans hopen
    split
    · next hrst => exact .inl hrst
    · next hrst =>
      have hx : devState x = 1 := (hchecks.trans (hmark.resolve_left hrst).state).trans hu
      split
      · exact .inr (.inl (startDone_startRun _))
      · exact startGoes_loadFail (budgetReason_lt x) _ hx

theorem startGoes.withPending {t : State} (h : startGoes t) (l : List Instr) (c : Clock) : startGoes { t with pending := l, clk := c } := h

theorem devState_of_initAt {op : Nat} {s : State} (hat : initAt op s = true) : devState s = 1 := by
  unfold initAt at hat
  simp only [Bool.and_eq_true, decide_eq_true_eq] at hat
  obtain ⟨⟨-, hstate⟩, -⟩ := hat
  exact hstate

theorem exec_initEnd_goes {s : State} (hat : initAt 0 s = true) : ∃ t, exec .initEnd s = .next t ∧ startGoes t := by
  have heff : effInitEnd s = bootFinish s := if_pos hat
  have hexec : exec .initEnd s = .next { bootFinish s with pending := s.pending, clk := s.clk } :=
    (run_next effInitEnd s).trans (by unfold keepClk; rw [heff])
  exact ⟨_, hexec, (startGoes_bootFinish (devState_of_initAt hat)).withPending _ _⟩

/-- Settles O12: each entry of the list by what it writes, and the end of the list by where the start then stands. -/
theorem initialisationListIsExecuted : Obligations.InitialisationListIsExecuted := by
  unfold Obligations.InitialisationListIsExecuted
  intro s img i a v m goes
  refine ⟨fun c op h hat => exec_other_entry h hat, fun hat => ⟨fun hdie hlo hhi => exec_initWrite_sequence hat ⟨hdie, hlo, hhi⟩,
    fun hmem ha hseq => exec_initWrite_memory hat hmem ha hseq, fun row hmem hz ha hrow => exec_initWrite_register hat hmem hz ha hrow⟩,
    fun hat ha hmem => ?_, fun x hat hsec ha => ?_, fun hat => ⟨exec_initPoll_holds hat, exec_initPoll_waits,
    exec_initPollTimeout_early, exec_initPollTimeout_second hat⟩, fun hat => ?_, fun hat => ⟨exec_initDelay_passed hat, exec_initDelay_waits⟩,
    fun hat => exec_initEnd_goes hat⟩
  · exact exec_wordsPut (f := effInitFill) (n := initArg img i) (g := fun _ => v) rfl (if_pos hat) ha hmem
  · intro b hmem
    exact exec_wordsPut (f := effInitLoad) rfl (effInitLoad_eq hat hsec) ha hmem
  · exact exec_listGoes_alone (f := fun s => if initAt 5 s then initNext s else s) rfl (if_pos hat)

end Sys2Proof.Machine.StartStates
end
